-- ==== Sys2Proof/Word.lean ====
section
/-!
DEFINITION. Word types of the ZWD-3100 vehicle processor module and the finite tables its state is made of.
Registers are 32 bits wide (R36), memory is addressed in bytes (R13, R34).
-/

namespace Sys2Proof

/-- One byte of memory (R13). -/
abbrev Byte := BitVec 8

/-- One register word (R36). -/
abbrev Word := BitVec 32

/-- A 64-bit value: a compact timestamp (R45), a sequence number (R461), a digest (R91). -/
abbrev DWord := BitVec 64

/-- A sparse table: pairs of a key and a value, keys strictly rising. -/
abbrev Table (α : Type) := List (Nat × α)

/-- A sparse byte memory: pairs of an address and a byte (`Host.Cell`), addresses strictly rising,
no entry equal to what an unlisted address reads as. -/
abbrev Mem := List (Nat × BitVec 8)

/-- A set of numbers kept as a strictly rising list. -/
abbrev NatSet := List Nat

/-- A lane number, 0 to 2 (R22). -/
abbrev LaneId := Fin 3

/-- A core of a lane: 0 the A-core, 1 the B-core (R22). -/
abbrev CoreId := Fin 2

/-- A Strath channel: 0 channel A, 1 channel B. -/
abbrev ChanId := Fin 2

/-- A port of a Strath channel: 0 west, 1 east. -/
abbrev PortId := Fin 2

/-- An Ethernet port, 0 or 1 (R273). -/
abbrev EthId := Fin 2

/-- A task number, 0 to 15 (R40). -/
abbrev TaskId := Fin 16

/-- A voted output, VO[0..7]. -/
abbrev VoId := Fin 8

/-- A field channel, 0 to 47 (R402). -/
abbrev FldId := Fin 48

/-- A pulse input, 0 to 7 (R67). -/
abbrev PulseId := Fin 8

end Sys2Proof
end

