-- ==== Sys2Proof/Config.lean ====
section
/-!
DEFINITION. What the active configuration and the application image fix (R40, R170, R180, R568 and the chapter of each
block), and the free values: constants with no body for what the specification leaves open (assumption logs 4 to 6
and those the constants name). The byte encoding of a configuration or an image is Apmer's and no rule gives it, so
`Config.decodeCfg` and `Config.decodeImage` are free functions of the bytes (log 6).
-/

namespace Sys2Proof

/-! ## Free values -/

/-- Which way an exact result that is not a whole number of units is rounded where no rule says (log 9). The
first argument names the place, the second is the exact numerator. -/
opaque Config.roundUp : Nat → Int → Bool

/-- The SHAKE256 digest of bytes, of the given length in bytes (log 5): the algorithm is FIPS 202's. -/
opaque Config.shake256 : Nat → List Byte → List Byte

/-- ML-DSA-65 verification of a message and a signature under a public key (log 5): the algorithm is FIPS 204's. -/
opaque Config.mldsaVerify : List Byte → List Byte → List Byte → Bool

/-- The hedged ML-DSA-65 signature of a message with the identity key of a seed and 32 random bytes (log 5): seed, random bytes,
message. -/
opaque Config.mldsaSign : List Byte → List Byte → List Byte → List Byte

/-- Bytes of the module's random source, by draw number (log 4). -/
opaque Config.random : Nat → Nat → List Byte

/-- Handles of message-data sessions, by session number: R284 and R291 give a handle no value (log 10). -/
opaque Config.sessionHandle : Nat → BitVec 32

/-- STATUS of an operation whose transaction a bus reset ends: R313 gives kind 4 no status of its own (log 11). -/
opaque Config.busResetStatus : Nat → BitVec 8

/-- What a result field holds when the exact value lies outside its format (log 12): place and exact value. -/
opaque Config.outOfFormat : Nat → Int → Nat

/-- The resampler output with factory gain and offset applied and rounded: channel, range, auxiliary input, and the output in units of
2^-16 of a code (R384). No rule gives the numbers of a factory calibration a format (log 6). -/
opaque Config.factoryCorrect : Nat → Nat → Nat → Int → Int

/-! ## Exchange-memory areas -/

/-- Classes of exchange-memory areas (R107, R108, R141). -/
inductive AreaClass | voted | lanePrivate (lane : LaneId) | engine
deriving DecidableEq, Repr

/-- An area the configuration assigns in exchange memory. -/
structure Area where
  base : Nat
  size : Nat
  cls : AreaClass
deriving DecidableEq, Repr

/-- A ring of the configuration (R166): its number and set-up. -/
structure RingCfg where
  ring : Nat
  sqOff : Nat
  cqOff : Nat
  sizeLog2 : Nat
  engine : Nat
  owner : Nat
  credit : Nat
  tagBase : Nat
  tagCount : Nat
deriving DecidableEq, Repr

/-! ## Tasks and items -/

/-- A task of the configuration (R170, R179). -/
structure TaskCfg where
  task : TaskId
  periodLog2 : Nat
  substitute : Bool := false
  /-- Instance-data range in 64 KiB granules and retained range in 1 KiB granules (R105). -/
  idataBase : Nat := 0
  idataSize : Nat := 0
  retBase : Nat := 0
  retSize : Nat := 0
  /-- Input items in snapshot order and output items in copy order. -/
  inputs : List Nat := []
  outputs : List Nat := []
  /-- Lane addresses of the two snapshot banks and the output proposal area (R179). -/
  bank0 : Nat := 0
  bank1 : Nat := 0
  outArea : Nat := 0
  /-- Exchange-memory offsets of the task's voted output banks and of the end record in a bank (R186). -/
  voted0 : Nat := 0
  voted1 : Nat := 0
  endOff : Nat := 0
  /-- Lane address of the task's monitor command block, where it has one (R365). -/
  monBlock : Option Nat := none
deriving DecidableEq, Repr

/-- What the configuration itself feeds an input item with (R177, R180); the other sources are bound by operations. -/
inductive ItemSource
  | bound | internal | recorder | attest | fault | field | analog | motion | coarse | diag | safe | claim | mdata | mode | health
deriving DecidableEq, Repr

/-- An input item of the configuration (R180). -/
structure InItemCfg where
  item : Nat
  /-- Payload length of the item, 8 to 4 096. -/
  length : Nat
  maxAge : Nat
  src : ItemSource := .bound
  safe : Option (List Byte) := none
  /-- Output item whose releases feed an internal item (R177). -/
  fromOut : Option Nat := none
deriving DecidableEq, Repr

/-- Destination of an output item (R186, R188), with the destination's own number. -/
inductive OutDest
  | field (ch : Nat)
  /-- The voted outputs the item is bound to, one bit each (R418). -/
  | vo (mask : Nat)
  | txBuf (n : Nat)
  | pd (pub : Nat)
  | mvb (port : Nat)
  | route (route : Nat)
  | internal
deriving DecidableEq, Repr

/-- How the unit pairing gates an output item (R447, R452). -/
inductive Gate | free | enable | stamp
deriving DecidableEq, Repr

/-- An output item of the configuration (R186). -/
structure OutItemCfg where
  item : Nat
  task : TaskId
  /-- Engine number of the destination engine (R140). -/
  engine : Nat
  length : Nat
  dest : OutDest
  gate : Gate := .free
  safe : Option (List Byte) := none
  /-- Offset of the item's value in the task's output proposal area and of its header in a voted bank. -/
  srcOff : Nat := 0
  bankOff : Nat := 0
deriving DecidableEq, Repr

/-- Cyclic part of the configuration (R170 to R204). -/
structure CfgCyc where
  tasks : List TaskCfg := []
  inItems : List InItemCfg := []
  outItems : List OutItemCfg := []
  areas : List Area := []
  rings : List RingCfg := []
  /-- Trial time of a code swap in ticks (R203). -/
  trialTicks : Nat := 0
  /-- LANE_PAIR_TMO the lane runtimes write while LOADING (R89). -/
  pairTmoUs : Nat := 50
deriving DecidableEq, Repr, Inhabited

/-! ## Reports and recorder -/

/-- Reporting part of the configuration (R466, R567, R568). -/
structure CfgFlt where
  /-- Reaction bits by fault code (R568). -/
  reactions : Table Nat := []
  /-- Codes marked for flushing (R466). -/
  flushCodes : List Nat := []
  /-- Fault item: item and FI_LOG2 (R567). -/
  faultItem : Option (Nat × Nat) := none
deriving DecidableEq, Repr, Inhabited

/-! ## Application image -/

/-- A parameter the application image declares online-changeable (R199), its limits as signed numbers. -/
structure ParamDecl where
  task : TaskId
  addr : Nat
  size : Nat
  lo : Int
  hi : Int
deriving DecidableEq, Repr

/-- A part of the new instance data and where a code swap takes it from (R202). -/
inductive CarrySource
  | copy (old : Nat)
  | widen (old : Nat) (oldSize : Nat) (isSigned : Bool)
  | realWiden (old : Nat)
  | initial
deriving DecidableEq, Repr

/-- One line of a carry-over or retained migration map (R202, R501). -/
structure CarryLine where
  addr : Nat
  size : Nat
  src : CarrySource
  init : List Byte
deriving DecidableEq, Repr

/-- An application image (R175, R196, R199, R202, R501). -/
structure AppImage where
  /-- Program bytes at lane addresses of the program image, up to the declared length. -/
  program : List (Nat × BitVec 8) := []
  length : Nat := 0
  /-- Declared initial values of instance data and of the retained area. -/
  idata : List (Nat × BitVec 8) := []
  retained : List (Nat × BitVec 8) := []
  /-- Retained layout digest, 16 bytes. -/
  layout : List (BitVec 8) := []
  params : List ParamDecl := []
  carry : List CarryLine := []
  /-- Layouts the image's migration maps read, with their lines (R501). -/
  migrations : List (List (BitVec 8) × List CarryLine) := []
deriving DecidableEq, Repr, Inhabited

/-! ## Strath -/

/-- An entry of the schedule set (R240). -/
structure SlotEntry where
  start : Nat
  sender : Nat
  len : Nat
  ch : Nat
  repLog2 : Nat
  phase : Nat
  txBuf : Nat
  kind : Nat
  sender2 : Nat
deriving DecidableEq, Repr, Inhabited

/-- Schedule set and transmit buffers of the node (R240, R243). -/
structure CfgStra where
  schedId : Nat := 0
  /-- Slot entries by mode, then by slot. -/
  modes : Table (Table SlotEntry) := []
  /-- Payload length of each transmit buffer. -/
  txLen : Table Nat := []
deriving DecidableEq, Repr, Inhabited

/-! ## Consist Ethernet and MVB -/

/-- A TRDP publication of the configuration (R280). -/
structure PubCfg where
  comId : Nat
  dest : Nat
  /-- Port mask: bit 0 port 0, bit 1 port 1. -/
  mask : Nat
  length : Nat
  periodLog2 : Nat
  phase : Nat
  offsetUs : Nat
deriving DecidableEq, Repr, Inhabited

/-- Consist Ethernet part of the configuration (R280, R282, R292). -/
structure CfgEth where
  pubs : Table PubCfg := []
  subComIds : List Nat := []
  etbTopo : Nat := 0
  opTopo : Nat := 0
deriving DecidableEq, Repr, Inhabited

/-- MVB part of the configuration (R287): port sizes by logical address, and the inbox item. -/
structure CfgMvb where
  src : Table Nat := []
  sink : Table Nat := []
  inbox : Option Nat := none
deriving DecidableEq, Repr, Inhabited

/-! ## Col bridge -/

/-- A route entry (R303). -/
structure RouteEntry where
  waddr : Nat
  rlen : Nat
  kind : Nat
  rd : Bool := false
  wr : Bool := false
  wrNp : Bool := false
  inswap : Nat := 0
  xferPlog2 : Nat := 0
  outItem : Nat := 0
  ofs : Nat := 0
deriving DecidableEq, Repr, Inhabited

/-- Routing table of the configuration, by route number (R302). -/
structure CfgCol where
  routes : Table RouteEntry := []
deriving DecidableEq, Repr, Inhabited

/-! ## Safe transfer -/

/-- A safe sender (R334). -/
structure SafeSendCfg where
  safeId : Nat
  outItem : Nat
  ulen : Nat
  alg : Nat
deriving DecidableEq, Repr, Inhabited

/-- A safe receiver (R337); ITEM_B is 16#1FFF for none. -/
structure SafeRecvCfg where
  safeId : Nat
  itemA : Nat
  itemB : Nat
  safeItem : Nat
  ulen : Nat
  maxDelay : Nat
  strict : Bool
  alg : Nat
deriving DecidableEq, Repr, Inhabited

/-- Safe senders and receivers of the configuration, by number (R334, R337). -/
structure CfgChk where
  senders : Table SafeSendCfg := []
  receivers : Table SafeRecvCfg := []
deriving DecidableEq, Repr, Inhabited

/-- A pulse input's settings (R346, R375). -/
structure PinCfg where
  current : Bool := false
  mode : Nat := 0
  markFall : Bool := false
  markSrc : Nat := 0
deriving DecidableEq, Repr, Inhabited

/-- A source's settings (R347, R375). -/
structure SrcCfg where
  mode : Nat := 0
  invert : Bool := false
  tss : Nat := 0
deriving DecidableEq, Repr, Inhabited

/-- A limit set of a monitor (R361). -/
structure LimSet where
  lo : Int := 0
  hi : Int := 0
  limInt : Nat := 0
  k : Nat := 0
deriving DecidableEq, Repr, Inhabited

/-- A monitor's settings (R361, R375). -/
structure MonCfg where
  type : Nat := 0
  src : Nat := 0
  markIn : Nat := 0
  voMask : BitVec 8 := 0
  sets : List LimSet := []
deriving DecidableEq, Repr, Inhabited

/-- Motion part of the configuration (R346, R353): inputs, sources, monitors, and the source of each motion item. -/
structure CfgMot where
  pins : Table PinCfg := []
  srcs : Table SrcCfg := []
  mons : Table MonCfg := []
  items : Table Nat := []
deriving DecidableEq, Repr, Inhabited

/-- An analog channel's settings (R378, R401). -/
structure AnaCfg where
  range : Nat := 0
  orCode : Nat := 0
  blkLog2 : Nat := 0
  auxEn : Bool := false
  item : Nat := 0
  userCal : Bool := false
  gain : Nat := 4194304
  ofs : Int := 0
deriving DecidableEq, Repr, Inhabited

/-- Analog part of the configuration, by channel (R378). -/
structure CfgAna where
  chans : Table AnaCfg := []
deriving DecidableEq, Repr, Inhabited

/-- A field channel's settings (R403, R434). -/
structure FldCfg where
  mode : Nat := 0
  latchOff : Bool := false
  owOffEn : Bool := false
  trackEn : Bool := false
  filt : Nat := 0
  owPct : Nat := 50
deriving DecidableEq, Repr, Inhabited

/-- A contactor feedback monitor's settings (R426, R427). -/
structure CfmCfg where
  input : Nat
  pol : Bool
  link : Nat
  linkIdx : Nat
  pickup : Nat
  dropout : Nat
deriving DecidableEq, Repr, Inhabited

/-- Field part of the configuration (R403, R406, R422). -/
structure CfgFld where
  chans : Table FldCfg := []
  cfm : Table CfmCfg := []
  testEn : BitVec 8 := 0xFF
  item : Option Nat := none
deriving DecidableEq, Repr, Inhabited

/-- A claim selector (R451). -/
structure SelectorCfg where
  itemA : Nat
  itemB : Nat
  item : Nat
deriving DecidableEq, Repr, Inhabited

/-- Clasp part of the configuration (R451, R458). -/
structure CfgCls where
  base : Nat := 0
  sticky : Bool := false
  posId : Nat := 0
  waitTicks : Nat := 0
  selectors : List SelectorCfg := []
deriving DecidableEq, Repr, Inhabited

/-- A maintainer key of the configuration: digest and permission mask (R511). -/
structure MaintKey where
  digest : List Byte
  perms : Nat
deriving DecidableEq, Repr, Inhabited

/-- Trust part of the configuration (R2, R482, R506): role, maintainer keys, permitted swap images, calibration items, and whether the lane
runtime writes the baselines before each program start. -/
structure CfgTrust where
  station : Bool := false
  keys : List MaintKey := []
  swapImages : List (List Byte) := []
  calItems : Option (Nat × Nat) := none
  baselines : Bool := false
deriving DecidableEq, Repr, Inhabited

/-- Power part of the configuration (R527, R541): RESET_ENGINE per core, and F_NOM, F_MIN and TARGET per lane. -/
structure CfgPwr where
  resetEn : BitVec 4 := 0
  avs : Table (Nat × Nat × Nat) := []
deriving DecidableEq, Repr, Inhabited

/-- The settings of the active configuration. -/
structure Cfg where
  cyc : CfgCyc := {}
  flt : CfgFlt := {}
  stra : CfgStra := {}
  eth : CfgEth := {}
  mvb : CfgMvb := {}
  col : CfgCol := {}
  chk : CfgChk := {}
  mot : CfgMot := {}
  ana : CfgAna := {}
  fld : CfgFld := {}
  cls : CfgCls := {}
  trust : CfgTrust := {}
  pwr : CfgPwr := {}
deriving DecidableEq, Repr, Inhabited

/-! ## Encodings that belong to Apmer and to Voltoard (log 6) -/

/-- The settings a configuration payload of a format holds, if it can be loaded (R482). -/
opaque Config.decodeCfg : Nat → List Byte → Option Cfg

/-- The application image an image payload of a format holds. -/
opaque Config.decodeImage : Nat → List Byte → Option AppImage

/-- RUN_FMT and MIN_FMT of a firmware payload (R500). -/
opaque Config.fwFormats : List Byte → Nat × Nat

/-- A configuration payload migrated from one format to another, if no withdrawn field stands in the way (R500). -/
opaque Config.migrateCfg : Nat → Nat → List Byte → Option (List Byte)

/-- A user calibration value migrated to a format: from, to, KIND, INDEX, VALUE (R502). -/
opaque Config.migrateUcal : Nat → Nat → Nat → Nat → Nat → Option Nat

/-- Does a factory calibration payload hold a valid entry for an analog channel (R385, R503)? -/
opaque Config.factoryHas : List Byte → Nat → Bool

/-- The identity certificate of a factory calibration payload (R488). -/
opaque Config.factoryCert : List Byte → List Byte

/-- The public key that FIPS 204 derives from an identity seed (R487, R488; log 5). -/
opaque Config.identityKey : List Byte → List Byte

/-- The numbers a Utmus command's body carries, in the order of R512, and its data part: no rule lays a body out. -/
opaque Config.utmusParams : Nat → List Byte → List Nat
/-- The data part of a Utmus command's body. -/
opaque Config.utmusData : Nat → List Byte → List Byte

/-- Session numbers that HELLO gives, by the count of sessions opened (log 10). -/
opaque Config.utmusSession : Nat → BitVec 32

end Sys2Proof
end

