-- ==== Sys2Proof/Machine/Tables.lean ====
section
/-!
DEFINITION. The operations on sparse tables, sets, vectors and sparse byte memories that every part of the machine
is built from. A memory is kept in one canonical form: addresses strictly rising, no entry equal to what an
unlisted address reads as, so equal memories are equal data.
-/

namespace Sys2Proof.Machine

/-- The entry of a vector. -/
def vget {α : Type} {n : Nat} (v : Vector α n) (i : Fin n) : α := v.get i

/-- A vector with one entry replaced. -/
def vset {α : Type} {n : Nat} (v : Vector α n) (i : Fin n) (x : α) : Vector α n := v.set i x

/-- A vector with one entry changed by a function. -/
def vmod {α : Type} {n : Nat} (v : Vector α n) (i : Fin n) (f : α → α) : Vector α n := vset v i (f (vget v i))

/-- The entry a sparse table lists at a key. -/
def tget? {α : Type} : Table α → Nat → Option α
  | [], _ => none
  | (j, x) :: r, k => if j = k then some x else tget? r k

/-- The entry at a key, or what an unlisted key stands for. -/
def tgetD {α : Type} (m : Table α) (k : Nat) (d : α) : α := (tget? m k).getD d

/-- The table with one entry listed. -/
def tset {α : Type} : Table α → Nat → α → Table α
  | [], k, x => [(k, x)]
  | (j, y) :: r, k, x =>
    if k < j then (k, x) :: (j, y) :: r
    else if k = j then (k, x) :: r
    else (j, y) :: tset r k x

/-- The table with one entry no longer listed. -/
def terase {α : Type} : Table α → Nat → Table α
  | [], _ => []
  | (j, y) :: r, k => if j = k then terase r k else (j, y) :: terase r k

/-- The table with one entry set, where `d` is what an unlisted key stands for: writing `d` unlists the key. -/
def tsetD {α : Type} [DecidableEq α] (m : Table α) (k : Nat) (x d : α) : Table α :=
  if x = d then terase m k else tset m k x

/-- The table with one entry changed, where `d` is what an unlisted key stands for. -/
def tmodD {α : Type} [DecidableEq α] (m : Table α) (k : Nat) (d : α) (f : α → α) : Table α :=
  tsetD m k (f (tgetD m k d)) d

/-- Keys strictly rising. -/
def tSorted {α : Type} : Table α → Bool
  | [] => true
  | [_] => true
  | (j, _) :: (k, y) :: r => decide (j < k) && tSorted ((k, y) :: r)

/-- Is a number in a set? -/
def nsMem (s : NatSet) (k : Nat) : Bool := s.contains k

/-- The set with one number added. -/
def nsAdd : NatSet → Nat → NatSet
  | [], k => [k]
  | j :: r, k => if k < j then k :: j :: r else if k = j then j :: r else j :: nsAdd r k

/-- The set with one number taken out. -/
def nsDel (s : NatSet) (k : Nat) : NatSet := s.filter (fun j => j != k)

/-- What an unlisted byte of exchange memory or of a lane image reads as (R529: exchange memory is all zeros after a
module reset; lane images are loaded before they are read). -/
def memDefault : Byte := 0#8

/-- The byte at an address. -/
def memGet (m : Mem) (a : Nat) : Byte := tgetD m a memDefault

/-- The memory with one byte written. -/
def memSet (m : Mem) (a : Nat) (b : Byte) : Mem := tsetD m a b memDefault

/-- The memory with consecutive bytes written from an address upwards. -/
def memWrite (m : Mem) (a : Nat) : List Byte → Mem
  | [] => m
  | b :: bs => memWrite (memSet m a b) (a + 1) bs

/-- `n` consecutive bytes from an address upwards. -/
def memRead (m : Mem) (a : Nat) : Nat → List Byte
  | 0 => []
  | n + 1 => memGet m a :: memRead m (a + 1) n

/-- The canonical form of a byte memory: addresses strictly rising, no entry equal to the default. -/
def Memory.wf (m : Mem) : Bool := tSorted m && m.all (fun c => c.2 != memDefault)

/-- The memory with every listed byte of a range returned to the default. -/
def memClear (m : Mem) (lo hi : Nat) : Mem := m.filter (fun c => decide (c.1 < lo) || decide (hi ≤ c.1))

/-- The memory with a list of single-byte writes applied in order. -/
def memWrites (m : Mem) : List (Nat × Byte) → Mem
  | [] => m
  | (a, b) :: r => memWrites (memSet m a b) r

end Sys2Proof.Machine
end

