-- ==== Sys2Proof/Machine/Bits.lean ====
section
/-!
DEFINITION. Bit fields, byte order, signed differences, rounding the specification leaves open, and the check values
the module computes: CRC-32C (R146), CRC-64/ECMA-182 (R93) and the plain bitwise CRC they share.
-/

namespace Sys2Proof.Machine

/-- The field of `w` bits whose lowest bit is `lo` (R12). -/
def field (v lo w : Nat) : Nat := v / 2 ^ lo % 2 ^ w

/-- A field placed at its bits. -/
def place (v lo w : Nat) : Nat := v % 2 ^ w * 2 ^ lo

/-- A flag as a bit value. -/
def bit (b : Bool) : Nat := if b then 1 else 0

/-- The bit of a number. -/
def testBit (v i : Nat) : Bool := v / 2 ^ i % 2 == 1

/-- A number as `n` bytes, lowest first (R13). -/
def leBytes : Nat → Nat → List Byte
  | 0, _ => []
  | n + 1, v => BitVec.ofNat 8 v :: leBytes n (v / 256)

/-- Bytes, lowest first, as a number (R13). -/
def ofLe : List Byte → Nat
  | [] => 0
  | b :: r => b.toNat + 256 * ofLe r

/-- A number as `n` bytes, highest first. -/
def beBytes (n v : Nat) : List Byte := (leBytes n v).reverse

/-- Bytes, highest first, as a number. -/
def ofBe (bs : List Byte) : Nat := ofLe bs.reverse

/-- `n` zero bytes. -/
def zeros (n : Nat) : List Byte := List.replicate n 0#8

/-- Bytes brought to exactly `n`, zero-padded or cut. -/
def padTo (n : Nat) (bs : List Byte) : List Byte := bs.take n ++ zeros (n - bs.length)

/-- Bytes `i` to `i + n - 1`. -/
def slice (bs : List Byte) (i n : Nat) : List Byte := padTo n (bs.drop i)

/-- Byte `i`, zero beyond the end. -/
def byteAt (bs : List Byte) (i : Nat) : Nat := (bs.getD i 0#8).toNat

/-- A little-endian number of `n` bytes at byte `i`. -/
def leAt (bs : List Byte) (i n : Nat) : Nat := ofLe (slice bs i n)

/-- A list of fields, lowest first, each a width and a value, as one number. -/
def pack : List (Nat × Nat) → Nat
  | [] => 0
  | (w, v) :: r => v % 2 ^ w + 2 ^ w * pack r

/-- A register word from its fields, lowest first, each a width and a value (R12). -/
def packW (fs : List (Nat × Nat)) : Word := BitVec.ofNat 32 (pack fs)

/-- The signed reading of the low `w` bits (R12). -/
def signed (w v : Nat) : Int :=
  let x := v % 2 ^ w
  if 2 * x < 2 ^ w then (x : Int) else (x : Int) - (2 ^ w : Nat)

/-- The low `w` bits of a signed number (R12). -/
def unsigned (w : Nat) (v : Int) : Nat := (v % ((2 ^ w : Nat) : Int)).toNat

/-- The signed difference of two values of width `w` (R47). -/
def sdiff (w a b : Nat) : Int := signed w (unsigned w ((a : Int) - (b : Int)))

/-- A signed number brought into the range of `w` bits, saturating. -/
def saturate (w : Nat) (v : Int) : Int :=
  let hi : Int := (2 ^ (w - 1) : Nat) - 1
  let lo : Int := -(2 ^ (w - 1) : Nat)
  max lo (min hi v)

/-- A counter that stops at its highest value. -/
def satInc (w v : Nat) : Nat := if v + 1 < 2 ^ w then v + 1 else 2 ^ w - 1

/-- One step of a most-significant-first CRC of `w` bits over one bit. -/
def crcBit (w poly reg : Nat) (b : Bool) : Nat :=
  let top := testBit reg (w - 1)
  let sh := reg * 2 % 2 ^ w
  if top != b then Nat.xor sh poly else sh

/-- A most-significant-first CRC over the bits of a byte. -/
def crcByte (w poly reg : Nat) (b : Byte) : Nat :=
  [7, 6, 5, 4, 3, 2, 1, 0].foldl (fun r i => crcBit w poly r (b.getLsbD i)) reg

/-- A most-significant-first CRC over bytes, without reflection. -/
def crcMsb (w poly init : Nat) (bs : List Byte) : Nat := bs.foldl (crcByte w poly) init

/-- One step of a least-significant-first (reflected) CRC over one bit. -/
def crcBitR (poly reg : Nat) (b : Bool) : Nat :=
  let low := testBit reg 0
  if low != b then Nat.xor (reg / 2) poly else reg / 2

/-- A least-significant-first CRC over the bits of a byte; `poly` is the reversed polynomial. -/
def crcByteR (poly reg : Nat) (b : Byte) : Nat :=
  [0, 1, 2, 3, 4, 5, 6, 7].foldl (fun r i => crcBitR poly r (b.getLsbD i)) reg

/-- A reflected CRC over bytes. -/
def crcLsb (poly init : Nat) (bs : List Byte) : Nat := bs.foldl (crcByteR poly) init

/-- CRC-32C: polynomial 16#1EDC_6F41 reflected, initial value and final XOR 16#FFFF_FFFF (R146). -/
def crc32c (bs : List Byte) : Nat := Nat.xor (crcLsb 0x82F63B78 0xFFFFFFFF bs) 0xFFFFFFFF

/-- CRC-64/ECMA-182: polynomial 16#42F0_E1EB_A9EA_3693, initial value 0, no reflection, no final XOR (R93). -/
def crc64 (bs : List Byte) : Nat := crcMsb 64 0x42F0E1EBA9EA3693 0 bs

/-- CRC-16: polynomial 16#1021, initial value 16#FFFF, no reflection, no final XOR (R219). -/
def crc16 (bs : List Byte) : Nat := crcMsb 16 0x1021 0xFFFF bs

/-- CRC-32/K2: polynomial 16#3258_3499, initial value 16#FFFF_FFFF, no reflection, no final XOR (R324). -/
def crc32k2 (bs : List Byte) : Nat := crcMsb 32 0x32583499 0xFFFFFFFF bs

end Sys2Proof.Machine
end

