-- ==== Sys2Proof/Machine/MotParts.lean ====
section
/-!
DEFINITION. State of the motion supervision (R344 to R375): what each lane keeps for its sources, marks and monitors, and what the
edge merger of the field-I/O engine keeps.
-/

namespace Sys2Proof.Machine

/-- One edge a lane's timestamp unit captures: input, direction and the phase of the sampler that saw it (R65, R67). -/
structure EdgeIn where
  input : PulseId
  rise : Bool
  phase : Fin 8
deriving DecidableEq, Repr

/-- One source in one lane (R348, R349). -/
structure SrcSt where
  count : BitVec 32 := 0
  standstill : Bool := false
  reverse : Bool := false
  qerr : BitVec 16 := 0
deriving DecidableEq, Repr, Inhabited

/-- States of a monitor (R364). -/
inductive MonState | disarmed | armed | tripped
deriving DecidableEq, Repr

/-- One monitor of one lane (R361 to R364). -/
structure MonSt where
  state : MonState := .disarmed
  set : BitVec 2 := 0
  ref : BitVec 32 := 0
  tripCnt : BitVec 16 := 0
  tripNs : BitVec 32 := 0
  /-- Raw captures of the counted edges since arming, newest first, at most 65 (R362). -/
  caps : List DWord := []
deriving DecidableEq, Repr

/-- One mark latch of one lane (R359). -/
structure MarkSt where
  count : BitVec 32 := 0
  latched : Bool := false
  seen : Bool := false
deriving DecidableEq, Repr, Inhabited

/-- A pending monitor command (R366). -/
structure MonCmd where
  apply : BitVec 32
  mon : Fin 16
  arm : Bool
  set : BitVec 2
deriving DecidableEq, Repr

/-- What a lane's MOT block holds (R375). -/
structure LaneMot where
  src : Vector SrcSt 8 := Vector.replicate 8 {}
  mon : Vector MonSt 16 := Vector.replicate 16 {}
  mark : Vector MarkSt 8 := Vector.replicate 8 {}
  pend : List MonCmd := []
  lateCnt : BitVec 16 := 0
  faultCnt : Vector (BitVec 16) 8 := Vector.replicate 8 0
  edgeDis : BitVec 16 := 0
  wordDis : BitVec 16 := 0
  /-- MOT_AGREE. -/
  agArmed : BitVec 16 := 0
  agTripped : BitVec 16 := 0
  /-- The masks latched at the last tick event (R368). -/
  armed : BitVec 16 := 0
  tripped : BitVec 16 := 0
  /-- Sources whose raw count differed from the derived one at the last tick event (R352). -/
  diverged : NatSet := []
  /-- The own masks differed from the agreed ones at the last tick event (R368). -/
  wordDiff : Bool := false
  /-- A re-integrating lane still waits for the copy of R369. -/
  waitCopy : Bool := false
deriving DecidableEq, Repr

/-- A capture the merger has gathered: the lane, its timestamp and the fabric cycle that holds it (R350, R360). -/
structure MergeCap where
  lane : Nat
  ts : DWord
  cyc : Nat
deriving DecidableEq, Repr

/-- The captures of one edge (R350). -/
structure Gathering where
  input : PulseId
  rise : Bool
  caps : List MergeCap
deriving DecidableEq, Repr

/-- An agreed record (R67, R350). -/
structure AgRec where
  ts : DWord
  input : Nat
  rise : Bool
  cnt : BitVec 16
  gap : Bool
deriving DecidableEq, Repr

/-- A counted edge of a source as the merger derived it (R352). -/
structure AgEdge where
  input : Nat
  ts : DWord
  cyc : Nat
  delta : Int
deriving DecidableEq, Repr

/-- What the merger derives for one source (R352, R354, R360). -/
structure SrcAgree where
  count : BitVec 32 := 0
  /-- The counted edges of last, newest first, at most 8. -/
  recent : List AgEdge := []
  tLast : Option DWord := none
  tPrev : Option DWord := none
  reverse : Bool := false
  /-- Module time of the last counted edge, or of the loading of the settings. -/
  quietSince : Nat := 0
  markIn : Nat := 0
  markValid : Bool := false
  markCnt : BitVec 32 := 0
  markTs : DWord := 0
  markCyc : Nat := 0
deriving DecidableEq, Repr, Inhabited

/-- The running values of a window of a motion item (R354, R355). -/
structure MotWin where
  nEdges : Nat := 0
  tFirst : Option DWord := none
  quadErr : Bool := false
  gap : Bool := false
  disagree : Bool := false
  trunc : Bool := false
  recs : List AgRec := []
deriving DecidableEq, Repr, Inhabited

/-- A mark placed between the neighbouring counted edges (R372): the count as a fraction, and the mark's timestamp. -/
structure CalMark where
  num : Int
  den : Nat
  ts : DWord
deriving DecidableEq, Repr

/-- How far a calibration run is (R372). -/
inductive CalPhase
  | waiting
  /-- The first mark has passed; its place waits for the next counted edge or is known. -/
  | placing (ts : DWord) (before : Option (DWord × Int)) (at_ : Int)
  | running (first : CalMark)
  | ending (first : CalMark) (ts : DWord) (before : Option (DWord × Int)) (at_ : Int)
deriving DecidableEq, Repr

/-- A wheel calibration in progress (R372). -/
structure CalRun where
  ring : Fin 64
  tag : Nat
  src : Nat
  in1 : Nat
  in2 : Nat
  dist : Nat
  /-- Tick of the timeout. -/
  until_ : Nat
  phase : CalPhase := .waiting
  /-- Net count since the operation started, from agreed records. -/
  count : Int := 0
  /-- Sign of the run's first count. -/
  sign : Option Bool := none
deriving DecidableEq, Repr

/-- The pulse inputs and the edge merger (R344 to R355, R372). -/
structure MotUnit where
  /-- The level each lane's synchroniser shows for the inputs (R344, R375). -/
  level : Vector (BitVec 8) 3 := Vector.replicate 3 0
  /-- MOT_PIN_STAT[i].FAULT (R344). -/
  fault : BitVec 8 := 0
  gather : List Gathering := []
  /-- Edges merged per input (R350), and the level the agreed records show. -/
  edges : Vector (BitVec 16) 8 := Vector.replicate 8 0
  agLevel : BitVec 8 := 0
  /-- A record of the input was discarded since the last stored one (R67). -/
  gapNext : BitVec 8 := 0
  src : Vector SrcAgree 8 := Vector.replicate 8 {}
  /-- Windows by task and source: key 8 × task + source. -/
  win : Table MotWin := []
  agArmed : BitVec 16 := 0
  agTripped : BitVec 16 := 0
  cal : Option CalRun := none
deriving DecidableEq, Repr

end Sys2Proof.Machine
end

