-- ==== Sys2Proof/Machine/LaneParts.lean ====
section
/-!
DEFINITION. State of the time base (R42 to R75), the event recorder (R459 to R477), the fault reporter (R562 to R575),
the lanes (R76 to R106) and the voter (R107 to R138). A field's default is its value after a power-on reset (R19);
where the specification states none the default is the model's, assumption log 3.
-/

namespace Sys2Proof.Machine

/-! ## Time base -/

/-- States of the time base, TIM_STATUS.STATE (R57). -/
inductive TimState | unset | acquiring | locked | holdover | master
deriving DecidableEq, Repr

/-- One entry of a transmit-timestamp queue (R69). -/
structure TxTs where
  ident : BitVec 16
  ts : DWord
deriving DecidableEq, Repr

/-- One transmit-timestamp queue with its TIM_TXTS registers (R69, R71). -/
structure TxQueue where
  entries : List TxTs := []
  lostCnt : BitVec 16 := 0
  lostId : BitVec 16 := 0
deriving DecidableEq, Repr, Inhabited

/-- The time base and the TIM block's read-only registers (R42 to R75). -/
structure Tim where
  /-- The module time counts (R51). -/
  counting : Bool := false
  /-- The module time counter, in units of 2^-40 ns (R54). -/
  now : Nat := 0
  /-- Fabric cycles counted since the counter started (R54); the model's own field, it orders events of one cycle. -/
  cycles : Nat := 0
  state : TimState := .unset
  refusing : Bool := false
  stepHeld : Bool := false
  srcCh : BitVec 1 := 0
  /-- TIM_RATE, in units of 2^-40 (R54). -/
  rate : Int := 0
  /-- The servo's integral term, in units of 2^-31 ppm (R56). -/
  integ : Int := 0
  /-- Consecutive accepted measurements within LOCK_THR (R57). -/
  lockRun : Nat := 0
  /-- Consecutive cycles without an accepted measurement (R57). -/
  holdRun : Nat := 0
  /-- TIM_OFFSET, in 1/16 ns. -/
  offset : Int := 0
  /-- TIM_REFUSED_OFS, in 1/16 ns. -/
  refusedOfs : Int := 0
  refuseCnt : BitVec 16 := 0
  missCnt : BitVec 16 := 0
  skip : BitVec 32 := 0
  utcOfs : BitVec 16 := 0
  leapPos : Bool := false
  leapNeg : Bool := false
  utcValid : Bool := false
  txq : Vector TxQueue 2 := Vector.replicate 2 {}
  /-- The fabric cycle whose captures a parity error of the distribution bus invalidates (R66). -/
  badCycle : Option Nat := none
deriving DecidableEq, Repr

/-! ## Event recorder -/

/-- KIND of a record (R460). -/
inductive RecKind | unreadable | fault | app | anchor | start | loss | format
deriving DecidableEq, Repr

/-- A record as it is requested, before it is numbered (R459). -/
structure RecReq where
  kind : RecKind
  rt : Bool := false
  origin : Nat := 0
  task : Nat := 0
  code : Nat := 0
  /-- DATA, bytes 12 onwards; zero beyond its end. -/
  data : List Byte := []
  /-- Ring and tag of the operation whose result is the record's number (R475). -/
  wait : Option (Nat × Nat) := none
deriving DecidableEq, Repr

/-- A numbered record (R459, R461). -/
structure Record where
  seq : Nat
  body : RecReq
deriving DecidableEq, Repr

/-- The REC registers whose low word latches the high one (R477). -/
inductive RecSeqReg | next | flushed | oldest | fmt
deriving DecidableEq, Repr

/-- The event recorder: staging, flushing, both NAND areas, index and REC registers (R459 to R477). -/
structure Recorder where
  /-- The recorder engine has started (R566). -/
  running : Bool := false
  /-- Records requested in the current fabric cycle (R461). -/
  cycle : List RecReq := []
  staged : List Record := []
  /-- The recorder sequence counter in MRAM (R461). -/
  next : Nat := 0
  flushing : Bool := false
  /-- Records the running flush writes: those staged before it began (R466). -/
  flushCount : Nat := 0
  /-- A trigger of R466 waits for a flush to begin. -/
  flushPend : Bool := false
  losing : Bool := false
  /-- Records lost in the present loss (R464). -/
  losingCount : Nat := 0
  /-- Permanent area, oldest first (R469). -/
  perm : List Record := []
  /-- Circulating area, oldest first (R469). -/
  circ : List Record := []
  /-- The circulating area has erased its first block. -/
  circWrap : Bool := false
  /-- REC_FLUSHED. -/
  flushed : Nat := 0
  /-- One more than the number of the last record written to NAND, 0 when none ever was (R468). -/
  nandNext : Nat := 0
  fmt : Nat := 0
  flushCnt : BitVec 16 := 0
  appRefused : BitVec 16 := 0
  lostCnt : BitVec 16 := 0
  nandErr : BitVec 16 := 0
  /-- The application-record-refused class has been reported in this tick (R476). -/
  refusedTick : Bool := false
deriving DecidableEq, Repr

/-! ## Fault reporter -/

/-- An entry of the fault item (R567). -/
structure FaultEntry where
  code : Nat
  origin : Nat
  count : Nat
  seq : Nat
deriving DecidableEq, Repr

/-- The fault reporter and the SYS_FLT registers (R562 to R575). -/
structure FaultRep where
  pinLatch : Bool := false
  yieldPend : Bool := false
  /-- A MODULE_SAFE reaction has been declared for a report of this fabric cycle (R568). -/
  safePend : Bool := false
  lastCode : BitVec 16 := 0
  reports : BitVec 16 := 0
  suppressed : BitVec 16 := 0
  /-- Report counts by class, modulo 2^16. -/
  cls : Table (BitVec 16) := []
  /-- FAULT records staged in this tick, by class (R565). -/
  tickRecs : Table Nat := []
  /-- Reports without a record in this tick, by class (R565). -/
  tickSupp : Table Nat := []
  /-- Reports held by the supervisor before the recorder starts, in order (R566). -/
  held : List RecReq := []
  /-- Reports lost beyond the 64 held (R566). -/
  heldLost : Nat := 0
  /-- Reports in the running period of the fault item (R567). -/
  itemReports : Nat := 0
  itemEntries : List FaultEntry := []
  itemOverflow : Bool := false
  itemFirstSeq : Nat := 0
deriving DecidableEq, Repr

/-! ## Lanes -/

/-- LANE_STATUS.STATE (R99). -/
inductive LaneState | off | loading | sweep | ready | running | safe
deriving DecidableEq, Repr

/-- Kinds of access that leave a lane (R87). -/
inductive AccessKind | read | write | descriptor | doorbell
deriving DecidableEq, Repr

/-- An access that leaves a lane (R87): up to 32 bytes of data with byte enables. -/
structure Access where
  addr : Nat
  kind : AccessKind
  data : List Byte
  be : BitVec 32
deriving DecidableEq, Repr

/-- An access in a core's queue with the context that issued it: the task instance running on the core, by task and
the low 16 bits of its start tick, or none for the lane runtime (R87, R89). -/
structure QEntry where
  acc : Access
  ctx : Option (Nat × Nat)
deriving DecidableEq, Repr

/-- The key of a proposal (R109): task, low bits of the start tick and index, or the runtime sequence number. -/
inductive PropKey
  | task (t : Nat) (tick : Nat) (index : Nat)
  | runtime (seq : Nat)
deriving DecidableEq, Repr

/-- A proposal handed to the voter (R107, R109). -/
structure Proposal where
  key : PropKey
  acc : Access
deriving DecidableEq, Repr

/-- A capture record of a lane timestamp unit (R67). -/
structure CapRec where
  ts : DWord
  input : Nat
  rise : Bool
  gap : Bool
  cnt : BitVec 16
deriving DecidableEq, Repr

/-- One input of a lane timestamp unit (R67, R68). -/
structure TsuInput where
  queue : List CapRec := []
  edgeCnt : BitVec 16 := 0
  gap : Bool := false
deriving DecidableEq, Repr, Inhabited

/-- One core of a lane with its image and the part of the digest unit that covers it (R87, R91). -/
structure Core where
  /-- Instruction fetch is not stopped (R100). -/
  fetching : Bool := false
  queue : List QEntry := []
  /-- Contexts from the core's task marks, innermost first (R89). -/
  ctx : List (Nat × Nat) := []
  /-- Snapshots between the core's read position and the newest, 0 to 4 (R83, R86). -/
  lag : Nat := 0
  /-- The core-private image at lane addresses, in plain form (R25, R35). -/
  img : Mem := []
  /-- Dirty covered lines (R91), by line number of the image. -/
  dirty : NatSet := []
  /-- Line signatures; an unlisted line has the signature of its zero line (R91, R93). -/
  sig : Table DWord := []
  /-- Task digests D[t] (R91). -/
  dig : Vector DWord 16 := Vector.replicate 16 0
  /-- Digests that are ready and not yet compared: instance by task and low start-tick bits, and its D[t] (R92). -/
  digReady : List ((Nat × Nat) × DWord) := []
  /-- Lines that hold an uncorrectable error (R103). -/
  bad : NatSet := []
  /-- Tasks whose scratch carries zero tags, one bit a task, and the scratch lines of these tasks written since (R97). -/
  zeroTag : BitVec 16 := 0
  scratchWritten : NatSet := []
  /-- The value the last matched read returned to the core (R88). -/
  readValue : Word := 0
deriving DecidableEq, Repr, Inhabited

/-- The latches a lane's reads of low or fraction registers load (R39, R75, R477). -/
structure Latches where
  timNs : BitVec 30 := 0
  timSecLo : Word := 0
  timSecHi : BitVec 16 := 0
  timTickHi : Word := 0
  sysProgHi : Word := 0
  recNextHi : Word := 0
  recFlushedHi : Word := 0
  recOldestHi : Word := 0
  recFmtHi : Word := 0
deriving DecidableEq, Repr, Inhabited

/-- One lane: pair comparator, digest unit, interrupt controller, timestamp unit and images (R76 to R106). -/
structure Lane where
  state : LaneState := .off
  forceSafe : Bool := false
  /-- LANE_MISMATCH and LANE_MIS_ADDR. -/
  misKind : BitVec 3 := 0
  misTask : BitVec 4 := 0
  misEntry : BitVec 12 := 0
  misAddr : BitVec 40 := 0
  digA : DWord := 0
  digB : DWord := 0
  digTask : BitVec 4 := 0
  digInst : BitVec 28 := 0
  /-- Instances compared since lane start, by task. -/
  compared : Table Nat := []
  /-- LANE_SCRUB.POS. -/
  scrubPos : Nat := 0
  keyValid : Bool := false
  keyGen : BitVec 8 := 0
  /-- The scrambling key in the B-core memory path; no core or engine reads it (R82). -/
  key : BitVec 128 := 0
  /-- Pending interrupt sources, by the bits of R85. -/
  irqPend : BitVec 9 := 0
  /-- The last 4 snapshots, oldest first: compact tick and sources (R83). -/
  snaps : List (BitVec 32 × BitVec 9) := []
  eccCorr : BitVec 16 := 0
  eccUncorr : BitVec 16 := 0
  tsu : Vector TsuInput 8 := Vector.replicate 8 {}
  cores : Vector Core 2 := Vector.replicate 2 {}
  /-- Index k of the next entry pair the comparator takes (R87). -/
  pairIndex : Nat := 0
  /-- The release buffer: matched entries of running instances (R88). -/
  release : List QEntry := []
  /-- Instances whose entries exceeded the release buffer (R90). -/
  overflowed : List (Nat × Nat) := []
  /-- Accesses handed to the voter so far, by task and start-tick bits of the instance (R109). -/
  handCount : List ((Nat × Nat) × Nat) := []
  /-- Proposals on their way to the voter, oldest first (R107). -/
  handed : List Proposal := []
  latch : Latches := {}
  /-- RW fields in the lane's view and lane-private registers: words by lane address, where they differ from reset. -/
  regs : Table Word := []
  /-- The lane's copy of the retained area in MRAM, plain bytes by offset (R26). -/
  mram : Mem := []
  /-- Mirror operations that wait: retained lines and the start tick of their instance (R197). -/
  mirror : List (NatSet × Nat) := []
  /-- The lane takes the initial values because its retained data was discarded (R198). -/
  retDiscarded : Bool := false
  /-- Low start-tick bits and D[t] of each task's last released instance (R453, R456). -/
  lastDig : Table (Nat × DWord) := []
  /-- The lane's MOT block (R375). -/
  mot : LaneMot := {}
deriving DecidableEq, Repr, Inhabited

/-! ## Voter -/

/-- VOT_STATUS.MODE (R122). -/
inductive VotMode | init | triple | dual | safe
deriving DecidableEq, Repr

/-- A vote: every proposal of one key (R110). -/
structure Vote where
  key : PropKey
  props : List (Nat × Access)
  /-- Content two counted lanes agreed on (R112). -/
  agreed : Option Access := none
  /-- The content has taken effect (R112, R113). -/
  committed : Bool := false
  /-- The window has closed (R111). -/
  closed : Bool := false
deriving DecidableEq, Repr

/-- VOT_LANE_STAT[l].VSTATE. -/
inductive VState | absent | counted | joining | heldOut
deriving DecidableEq, Repr

/-- The voter's view of one lane (R138). -/
structure VotLane where
  vstate : VState := .absent
  pairOk : Bool := false
  lateCnt : BitVec 16 := 0
  dissentCnt : BitVec 16 := 0
  /-- Module times of failed re-integration attempts, in MRAM (R136). -/
  fails : List Nat := []
  heldOut : Bool := false
  /-- The lane's runtime sequence number (R109). -/
  seq : BitVec 16 := 0
  /-- Module time at which the lane last joined fully (R135). -/
  joinedAt : Option Nat := none
  /-- Module time of the finding or failure that starts the running attempt (R135). -/
  since : Nat := 0
deriving DecidableEq, Repr, Inhabited

/-- VOT_REINT.PHASE (R128). -/
inductive ReintPhase | idle | reset | load | sweep | test | join
deriving DecidableEq, Repr

/-- Re-integration progress (R127 to R136). -/
structure Reint where
  target : LaneId := 0
  phase : ReintPhase := .idle
  srcCode : LaneId := 0
  srcState : LaneId := 0
  round : Nat := 0
  joined : BitVec 16 := 0
  lines : Nat := 0
  /-- The code copy has ended (R130). -/
  codeDone : Bool := false
  /-- Copy-dirty lines of the state source (R129). -/
  copyDirty : NatSet := []
  /-- Every covered line is still to be copied: round 1 has not ended (R129). -/
  allDirty : Bool := false
  /-- The lines the running round copies: those marked when it began (R129). -/
  roundSet : NatSet := []
  /-- Marked lines with which the last ended round began (R130). -/
  lastRound : Nat := 0
  /-- Task whose final round is running (R131). -/
  finalTask : Option TaskId := none
  /-- Tasks whose final round has finished, one bit a task (R132). -/
  finalDone : BitVec 16 := 0
  lastMs : Nat := 0
  worstMs : Nat := 0
deriving DecidableEq, Repr

/-- The voter (R107 to R138). -/
structure Voter where
  mode : VotMode := .init
  modFault : Bool := false
  /-- Lanes counted for every task, one bit a lane (R138). -/
  counted : BitVec 3 := 0
  votes : List Vote := []
  /-- Indexes committed or discarded, by task and start-tick bits (R113). -/
  done : List ((Nat × Nat) × NatSet) := []
  lanes : Vector VotLane 3 := Vector.replicate 3 {}
  evKind : BitVec 3 := 0
  evRt : Bool := false
  evLane : BitVec 2 := 0
  evTask : BitVec 4 := 0
  evIndex : BitVec 11 := 0
  evKey : BitVec 16 := 0
  evAddr : BitVec 40 := 0
  peak : Nat := 0
  /-- The vote-table-full class has been reported in this tick (R110). -/
  fullTick : Bool := false
  reint : Reint := {}
  stepOk : BitVec 4 := 0
  testDone : Bool := false
  testFail : Bool := false
  /-- A lane has reached READY and the start-up wait runs (R123). -/
  waiting : Bool := false
  /-- The start-up wait has ended (R123). -/
  waitEnded : Bool := false
deriving DecidableEq, Repr

end Sys2Proof.Machine
end

