-- ==== Sys2Proof/Machine/RingParts.lean ====
section
/-!
DEFINITION. State of the descriptor rings (R139 to R169) and of cyclic program execution (R170 to R204).
-/

namespace Sys2Proof.Machine

/-! ## Rings -/

/-- STATE of a ring (R168). -/
inductive RingState | disabled | active | draining | stalled | cfgErr
deriving DecidableEq, Repr

/-- A submission descriptor's fields (R144). -/
structure Desc where
  opcode : Nat := 0
  flags : Nat := 0
  tag : Nat := 0
  paramA : Nat := 0
  addr : Nat := 0
  length : Nat := 0
  paramB : Nat := 0
  paramC : Nat := 0
  /-- What the engine read from ADDR when it fetched the descriptor, for an opcode whose rule says so (R268). -/
  data : List Byte := []
  /-- Route sequence number taken at the fetch (R312). -/
  seq : Nat := 0
  /-- Place in the order of all fetches (R409); the model's own field. -/
  order : Nat := 0
deriving DecidableEq, Repr, Inhabited

/-- How far a started operation is: at work, or done with the status and results its completion will carry (R153). -/
inductive OpStage
  | running
  | done (status : Nat) (resultA : Nat) (resultB : Nat)
deriving DecidableEq, Repr

/-- An operation a ring's engine has started and whose completion is not written (R152, R153). -/
structure RunOp where
  desc : Desc
  stage : OpStage := .running
deriving DecidableEq, Repr

/-- A TIMED operation held until its release tick (R161). -/
structure HeldOp where
  desc : Desc
  /-- Full number of the release tick. -/
  tick : Nat
deriving DecidableEq, Repr

/-- One ring with its registers, of R168 for voted rings and R169 for the others. -/
structure Ring where
  sqBase : Nat := 0
  cqBase : Nat := 0
  en : Bool := false
  sizeLog2 : Nat := 0
  engine : Nat := 0
  owner : Nat := 0
  creditCfg : Nat := 0
  tagBase : Nat := 0
  tagCount : Nat := 0
  prod : BitVec 16 := 0
  head : BitVec 16 := 0
  cons : BitVec 16 := 0
  state : RingState := .disabled
  cp : BitVec 16 := 0
  cpLatch : BitVec 16 := 0
  /-- CP_LATCH at the owner's last start tick (R158). -/
  ownerLatch : BitVec 16 := 0
  /-- Submission slots whose pending bit is set (R148). -/
  pending : NatSet := []
  /-- Remaining credit of this tick (R162). -/
  credit : Nat := 0
  /-- Busy tags with the index of their completion entry, once written (R158). -/
  busy : Table (Option (BitVec 16)) := []
  ops : List RunOp := []
  held : List HeldOp := []
  /-- Enablings so far; a posted-error entry belongs to one of them (R164). -/
  gen : Nat := 0
deriving DecidableEq, Repr, Inhabited

/-- Per-engine service state and RNG_ENG_STAT (R162, R163). -/
structure EngServe where
  /-- Place in the visiting order at which the engine's round stands. -/
  pos : Nat := 0
  busyUs : Nat := 0
  overrunCnt : BitVec 16 := 0
deriving DecidableEq, Repr, Inhabited

/-- The rings and the RNG block (R139 to R169). -/
structure Rings where
  ring : Vector Ring 64 := Vector.replicate 64 {}
  errRing : BitVec 6 := 0
  errStatus : BitVec 8 := 0
  errIndex : BitVec 16 := 0
  errCnt : BitVec 16 := 0
  peak : Nat := 0
  eng : Vector EngServe 9 := Vector.replicate 9 {}
  /-- Operations started so far; the model's own counter. -/
  fetches : Nat := 0
deriving DecidableEq, Repr

/-! ## Cyclic execution -/

/-- An arrival written by an engine into an item's back buffer (R180). -/
structure Arrival where
  valid : Bool
  engBits : BitVec 8
  rxTs : DWord
  payload : List Byte
deriving DecidableEq, Repr

/-- Quality of an item, STATE of R182. -/
inductive Quality | good | stale | invalid
deriving DecidableEq, Repr

/-- An input item's buffers and age (R32, R181). -/
structure InItem where
  back : Option Arrival := none
  /-- The arrival burst is still in progress at the tick event (R32). -/
  inBurst : Bool := false
  held : Option Arrival := none
  age : Nat := 65535
  invalid : Bool := false
  engBits : BitVec 8 := 0
  degraded : Bool := false
  /-- The item has been GOOD since the program start (R184). -/
  wasGood : Bool := false
deriving DecidableEq, Repr, Inhabited

/-- An output item's released value (R186 to R188). -/
structure OutItem where
  value : Option (List Byte) := none
  /-- A program has released it since the module reset (R188). -/
  released : Bool := false
deriving DecidableEq, Repr, Inhabited

/-- Per-task counts and flags of the task header (R171, R185). -/
structure TaskSt where
  runCount : Nat := 0
  missCnt : BitVec 16 := 0
  fltCnt : BitVec 16 := 0
  skipCnt : BitVec 16 := 0
  chgGen : BitVec 16 := 0
  first : Bool := true
  afterSwap : Bool := false
  prevMissed : Bool := false
  prevFault : Bool := false
  skipped : Bool := false
  changed : Bool := false
  /-- Start ticks of instances whose release is still to come (R187). -/
  open_ : List Nat := []
  /-- Start tick of the last instance counted as faulted (R193). -/
  faultStart : Option Nat := none
deriving DecidableEq, Repr, Inhabited

/-- An instance a lane has started, by task and start tick, with the cores that have written its end mark
(R92, R194) and whether its core context has begun. -/
structure LaneInst where
  task : Nat
  start : Nat
  /-- The task's run count with this instance (R171). -/
  run : Nat := 0
  begun : BitVec 2 := 0
  ended : BitVec 2 := 0
  /-- Retained lines the instance wrote, from the A image (R197). -/
  retLines : NatSet := []
  /-- Cores in which the instance ended by a task fault (R193). -/
  faulted : BitVec 2 := 0
deriving DecidableEq, Repr

/-- States of a side-by-side code swap (R203). -/
inductive SwapState | idle | loading | ready | convert | trial
deriving DecidableEq, Repr

/-- States of the cyclic program (R175, R176). -/
inductive ProgState | stopped | starting (tick : Nat) | running
deriving DecidableEq, Repr

/-- An accepted online change waiting for a task's next start tick (R199, R200): address, size and value bytes. -/
structure ParamWrite where
  task : Nat
  addr : Nat
  bytes : List Byte
  /-- The task's start tick has come and the copier is to write it (R200). -/
  due : Bool := false
deriving DecidableEq, Repr

/-- Cyclic program execution (R170 to R204). -/
structure Cyc where
  prog : ProgState := .stopped
  /-- SYS_PROG: start tick of the last program start since module reset (R39). -/
  progTick : Nat := 0
  tasks : Vector TaskSt 16 := Vector.replicate 16 {}
  /-- Retained data was accepted at the program start (R185). -/
  warm : Bool := false
  items : Table InItem := []
  outs : Table OutItem := []
  changes : List ParamWrite := []
  /-- Online-changed parameter values in force, by task and address (R201). -/
  params : List ParamWrite := []
  /-- Instances of the three lanes. -/
  insts : Vector (List LaneInst) 3 := Vector.replicate 3 []
  swap : SwapState := .idle
  /-- The image slot and image the swap loads or has loaded (R203). -/
  swapImage : Option (Nat × AppImage) := none
  /-- The image that ran before the trial, in the shadow (R203). -/
  oldImage : AppImage := {}
  /-- The aligned tick at which a swap, or a revert (true), stops the program (R203). -/
  swapAt : Option (Nat × Bool) := none
  /-- The next program start sets AFTER_SWAP (R203). -/
  afterSwap : Bool := false
  /-- The maintainer has stopped the program; PROGRAM_START lets it start again. -/
  stopByMaint : Bool := false
deriving DecidableEq, Repr

end Sys2Proof.Machine
end

