-- ==== Sys2Proof/Machine/ColParts.lean ====
section
/-!
DEFINITION. State of the Col bridge (R295 to R322).
-/

namespace Sys2Proof.Machine

/-- A data phase on the backplane: address, direction, AD and byte enables (R295, R296). -/
structure BusPhase where
  addr : Nat
  write : Bool
  ad : BitVec 32
  be : BitVec 4
deriving DecidableEq, Repr

/-- A write that waits in the posted buffer (R312, R313). -/
structure Posted where
  /-- Ring, enabling of the ring and tag that carried it (R164, R316). -/
  ring : Nat
  gen : Nat
  tag : Nat
  route : Nat
  seq : Nat
  timed : Bool
  /-- Offset of its first byte in the window region, and its data. -/
  off : Nat
  data : List Byte
deriving DecidableEq, Repr

/-- One backplane window: the setting in force and its counts (R298, R299, R322). -/
structure Window where
  setting : BitVec 32 := 0x00400004
  errCnt : BitVec 16 := 0
  txnCnt : BitVec 16 := 0
deriving DecidableEq, Repr, Inhabited

/-- The Col bridge (R295 to R322). -/
structure Col where
  posted : List Posted := []
  wrEn : Bool := false
  bpRst : Bool := false
  nextSeq : BitVec 32 := 0
  win : Vector Window 16 := Vector.replicate 16 {}
  perrA : BitVec 32 := 0
  perrB : DWord := 0
  perrCnt : BitVec 16 := 0
  lostCnt : BitVec 16 := 0
  xingCnt : BitVec 16 := 0
  holdTmoCnt : BitVec 16 := 0
  lvFailCnt : BitVec 16 := 0
  lvOvrCnt : BitVec 16 := 0
  /-- Items bound to routes 0 to 255 (R311). -/
  binds : Table Nat := []
  /-- Latest-value routes served in this tick (R307, R308). -/
  served : NatSet := []
  /-- Staged bytes of inbound ranges, by route (R309). -/
  staged : Table Mem := []
  /-- The data phases of the last operation or transfer; the model's own record of the output. -/
  phases : List BusPhase := []
deriving DecidableEq, Repr

/-- How a target answers a data phase (R295, R314); `ack` carries AD, which a read takes. -/
inductive BusAnswer
  | ack (ad : BitVec 32)
  | noTarget
  | error
  | timeout
deriving DecidableEq, Repr

end Sys2Proof.Machine
end

