-- ==== Sys2Proof/Machine/FieldParts.lean ====
section
/-!
DEFINITION. State of the analog chain (R376 to R401) and of the field channels and voted outputs (R402 to R434).
-/

namespace Sys2Proof.Machine

/-! ## Analog -/

/-- One analog channel (R376 to R397). Times are module times. -/
structure AnaCh where
  /-- Settling windows: an instant t with lo < t ≤ hi carries SETTLING (R391, R394). -/
  settle : List (Int × Int) := []
  /-- Intervals without transitions of the modulator, the last one open while the fault lasts (R383). -/
  modBad : List (Nat × Option Nat) := []
  modFault : Bool := false
  /-- Intervals in which the coarse value was outside its limits (R389). -/
  coarseOut : List (Nat × Option Nat) := []
  coarse : BitVec 12 := 0
  coarseLow : Bool := false
  coarseHigh : Bool := false
  /-- Module time from which the coarse value is valid (R395). -/
  coarseFrom : Nat := 0
  calMissing : Bool := false
  overrange : Bool := false
  ovrCnt : BitVec 16 := 0
  /-- Ticks in which the modulator-fault and the coarse-limit class were last reported (R383, R396). -/
  modTick : Option Nat := none
  coarseTick : Option Nat := none
deriving DecidableEq, Repr, Inhabited

/-- The analog chain (R376 to R401). -/
structure Ana where
  ch : Vector AnaCh 16 := Vector.replicate 16 {}
  syncCnt : BitVec 16 := 0
  lastSrc : BitVec 4 := 0
  syncTs : DWord := 0
  pinTs : DWord := 0
  /-- Fabric cycle of the last reset (R392). -/
  resetCyc : Option Nat := none
  auxSel : BitVec 3 := 0
  swCnt : BitVec 16 := 0
  /-- Switches made: module time and the input selected, newest first (R386, R389). -/
  switches : List (Nat × BitVec 3) := []
  coarseCnt : BitVec 16 := 0
  modFltCnt : BitVec 16 := 0
  /-- Steps of module time, from and to: instants passed over (R393). -/
  steps : List (Nat × Nat) := []
deriving DecidableEq, Repr

/-! ## Field channels -/

/-- One field channel (R402 to R414). -/
structure FldCh where
  ovl : Bool := false
  owOn : Bool := false
  owOff : Bool := false
  ot : Bool := false
  ext : Bool := false
  latched : Bool := false
  baseLim : Bool := false
  current : Nat := 0
  /-- BASE in units of 1/4096 mA (R414). -/
  base : Nat := 0
  learned : Nat := 0
deriving DecidableEq, Repr, Inhabited

/-- States of a contactor feedback monitor (R428). -/
inductive CfmState | agree | transit | mismatch
deriving DecidableEq, Repr

/-- One contactor feedback monitor (R426 to R428). -/
structure CfmSt where
  state : CfmState := .agree
  expect : Bool := false
  actual : Bool := false
  timer : Nat := 0
  misCnt : BitVec 16 := 0
  /-- What CFM_SET has set (R427). -/
  command : Bool := false
deriving DecidableEq, Repr

/-- A baseline learning in progress (R431). -/
structure LearnRun where
  ring : Fin 64
  tag : Nat
  group : Nat
  mask : Nat
  /-- Masked channels still learned. -/
  ok : Nat
  ticks : Nat
  left : Nat
  sums : List Nat
deriving DecidableEq, Repr

/-- Field channels and voted outputs (R402 to R434). -/
structure Fld where
  level : BitVec 48 := 0
  changed : BitVec 48 := 0
  cmd : BitVec 48 := 0
  ch : Vector FldCh 48 := Vector.replicate 48 {}
  supLow : BitVec 6 := 0x3F
  grpOvl : BitVec 6 := 0
  supV : Vector Nat 6 := Vector.replicate 6 0
  voCmd : BitVec 8 := 0
  voSense : BitVec 8 := 0
  voFault : BitVec 8 := 0
  stuck : BitVec 8 := 0
  /-- Outputs whose readback disagrees (R423). -/
  readback : BitVec 8 := 0
  /-- Load current of each voted output in the last tick, in mA (R416). -/
  voCurrent : Vector Nat 8 := Vector.replicate 8 0
  ovlCnt : BitVec 16 := 0
  misCnt : BitVec 16 := 0
  cfm : Vector CfmSt 32 := Vector.replicate 32 {}
  /-- Tick of the last field sample instant (R428). -/
  lastEval : Nat := 0
  learn : List LearnRun := []
deriving DecidableEq, Repr

/-- What FLD_DIAG_READ measures of one channel: current in mA, junction temperature in °C, pin voltage in units of 10 mV. -/
structure ChanDiag where
  current : Nat
  temp : Int
  volts : Int
deriving DecidableEq, Repr, Inhabited

/-! ## The tick -/

/-- What the module measures and finds at a tick event: the busy time of each engine in the tick just ended in µs (R163), channel currents
and voted-output currents in mA, group supplies in units of 10 mV (R407, R415, R416), matrix elements whose sense reads low or high
(R421), the process-monitor margins of each lane (R541), and DRAM bytes that have changed without having been written (R96). -/
structure TickInputs where
  busyUs : List Nat := []
  currents : List Nat := []
  voCurrents : List Nat := []
  supplies : List Nat := []
  low : List (VoId × LaneId) := []
  high : List (VoId × LaneId) := []
  margins : List (List Nat) := []
  upsets : List (LaneId × CoreId × Nat × Byte) := []
deriving DecidableEq, Repr

end Sys2Proof.Machine
end

