-- ==== Sys2Proof/Machine/LinkParts.lean ====
section
/-!
DEFINITION. State of the consist links (R273 to R294): both Ethernet ports with TRDP and PTP, and the MVB port.
-/

namespace Sys2Proof.Machine

/-- What a port last sent; the model's own record of its output. -/
inductive EthTx
  | frame (bytes : List Byte)
  | pd (comId dest seq etbTopo opTopo : Nat) (payload : List Byte)
  | md (kind comId dest handle : Nat) (payload : List Byte)
  | arpReply
  | echoReply
  | ptpAnnounce (utcOfs : BitVec 16) (utcValid : Bool)
  | ptpSync (seq : Nat)
  | ptpFollowUp (seq : Nat) (origin : DWord)
  | ptpDelayReq (seq : Nat)
  | ptpDelayResp (seq : Nat) (received : Nat)
deriving DecidableEq, Repr

/-- One Ethernet port with its registers (R273 to R278, R285, R294). -/
structure EthPort where
  link : Bool := false
  speed : BitVec 2 := 0
  linkCnt : BitVec 16 := 0
  rxFrames : BitVec 16 := 0
  rxDrop : BitVec 16 := 0
  fcsErr : BitVec 16 := 0
  seqGap : BitVec 16 := 0
  /-- The receive-overflow class has been reported in this tick (R275). -/
  ovfTick : Bool := false
  ptpState : BitVec 4 := 0
  steps : BitVec 8 := 0
  /-- Module time minus PTP time at the last Sync, 2^-16 ns (R285, R292). -/
  offset : Option Int := none
  /-- A two-step Sync that awaits its Follow_Up: sequenceId and receive time; the last Sync's origin and receive times. -/
  syncWait : Option (Nat × Int) := none
  lastSync : Option (Int × Int) := none
  /-- Outstanding Delay_Req: sequenceId and transmit time. -/
  delayReq : Option (Nat × Int) := none
  meanDelay : Int := 0
  /-- sequenceId of the next Sync and of the next Delay_Req. -/
  syncSeq : BitVec 16 := 0
  delaySeq : BitVec 16 := 0
  sent : Option EthTx := none
deriving DecidableEq, Repr, Inhabited

/-- A publication: its content, and its content at the last tick event (R281). -/
structure PubSt where
  content : Option (List Byte) := none
  atTick : Option (List Byte) := none
  /-- Basic cycle in which it was last sent (R280). -/
  sentIn : Option Nat := none
deriving DecidableEq, Repr, Inhabited

/-- A subscription (R282, R291). -/
structure Subscription where
  item : Nat
  port : Nat
  comId : Nat
  src1 : Nat
  src2 : Nat
  length : Nat
  lastSeq : Option Nat := none
deriving DecidableEq, Repr

/-- A posted receive buffer: the waiting TRDP_MD_POST operation (R284, R291). -/
structure PostBuf where
  ring : Nat
  tag : Nat
  comId : Nat
  addr : Nat
  len : Nat
deriving DecidableEq, Repr

/-- An open message-data session (R284): one this module opened with an Mr waits with its operation. -/
structure Session where
  handle : Nat
  port : Nat
  comId : Nat
  peer : Nat
  /-- Ring and tag of our TRDP_MD_SEND, or none for a received Mr. -/
  op : Option (Nat × Nat)
deriving DecidableEq, Repr

/-- Consist Ethernet (R273 to R286). -/
structure Eth where
  port : Vector EthPort 2 := Vector.replicate 2 {}
  pubs : Table PubSt := []
  /-- sequenceCounter by ComId (R280). -/
  seqs : Table Nat := []
  subs : List Subscription := []
  posts : List PostBuf := []
  sessions : List Session := []
  /-- Sessions opened so far; the model's own counter, it numbers session handles. -/
  opened : Nat := 0
deriving DecidableEq, Repr

/-- An MVB message that waits for its slot (R292). -/
structure MvbMsg where
  ring : Nat
  tag : Nat
  dest : Nat
  data : List Byte
  waited : Nat := 0
deriving DecidableEq, Repr

/-- The MVB port (R287 to R290, R294). -/
structure Mvb where
  lineA : Bool := false
  lineB : Bool := false
  master : Bool := false
  masterAddr : BitVec 12 := 0
  frameErr : BitVec 16 := 0
  noReply : BitVec 16 := 0
  gained : BitVec 16 := 0
  lostCnt : BitVec 16 := 0
  /-- Contents of source ports by logical address (R289). -/
  src : Table (List Byte) := []
  /-- Sink bindings: logical address, item and size (R290). -/
  binds : List (Nat × Nat × Nat) := []
  msgs : List MvbMsg := []
  /-- Basic periods started as master (R288). -/
  periods : Nat := 0
  /-- The last slave frame and message frame sent; the model's own record of the output. -/
  sentPort : Option (Nat × List Byte) := none
  sentMsg : Option (Nat × List Byte) := none
deriving DecidableEq, Repr

/-- A received frame as the hardware filter and the protocol firmware read it (R275, R279). -/
inductive EthFrame
  /-- The FCS is wrong. -/
  | badFcs
  /-- Nothing the port accepts. -/
  | other
  | arp
  | icmpEcho
  /-- TRDP Pd: ComId, source, sequenceCounter, topology counters and payload. -/
  | pd (comId src seq etbTopo opTopo : Nat) (payload : List Byte)
  /-- TRDP Mn (0), Mr (1) or Mp (2): ComId, source and payload; for an Mp the handle of the session it answers. -/
  | md (kind comId src handle : Nat) (payload : List Byte)
deriving DecidableEq, Repr

/-- A received PTP message: origin times and corrections in 2^-16 ns (IEEE 1588-2019). -/
inductive PtpMsg
  /-- With the port state the standard's best master clock algorithm decides, and stepsRemoved. -/
  | announce (state : BitVec 4) (steps : BitVec 8)
  | sync (seq : Nat) (twoStep : Bool) (origin correction : Int)
  | followUp (seq : Nat) (origin correction : Int)
  | delayReq (seq : Nat)
  | delayResp (seq : Nat) (received correction : Int)
deriving DecidableEq, Repr

/-- What a port sends in PTP (R285). -/
inductive PtpSend | announce | sync | followUp | delayReq | becomeMaster
deriving DecidableEq, Repr

/-- What the MVB port receives after a master frame (R290). -/
inductive MvbRx
  | process (addr : BitVec 12) (data : List Byte)
  | message (data : List Byte)
  /-- A frame with errors. -/
  | error
  /-- No slave frame came to an own master frame. -/
  | silence
  /-- Another device answered at DEV_ADDR (R293). -/
  | duplicate
deriving DecidableEq, Repr

end Sys2Proof.Machine
end

