-- ==== Sys2Proof/Machine/SafeParts.lean ====
section
/-!
DEFINITION. State of the check-value units and of safe transfer (R323 to R343).
-/

namespace Sys2Proof.Machine

/-- A copy of a component item that passed R338. -/
structure SafeCopy where
  /-- It is a copy of ITEM_B. -/
  isB : Bool
  seq : Nat
  data : List Byte
  rxTs : DWord
deriving DecidableEq, Repr

/-- A safe receiver's state (R338 to R341, R343). -/
structure RecvSt where
  last : Option Nat := none
  /-- Passed copies that arrived since the previous tick event. -/
  fresh : List SafeCopy := []
  held : Option SafeCopy := none
  /-- Copies of ITEM_A and of ITEM_B that failed since the previous tick event. -/
  failedA : Bool := false
  failedB : Bool := false
  /-- Classes reported in this tick (R338). -/
  repCheck : Bool := false
  repFormat : Bool := false
  accCnt : BitVec 16 := 0
  diffCnt : BitVec 16 := 0
  failA : BitVec 16 := 0
  failB : BitVec 16 := 0
deriving DecidableEq, Repr, Inhabited

/-- A safe sender's state (R335, R336). -/
structure SendSt where
  lastSeq : Nat := 0
  late : Bool := false
deriving DecidableEq, Repr, Inhabited

/-- One check-value unit (R323, R327, R343). -/
structure ChkUnit where
  /-- The role in force, that of the last program start (R323). -/
  role : BitVec 3 := 0
  ops : BitVec 16 := 0
  stOk : Bool := false
  failed : Bool := false
deriving DecidableEq, Repr, Inhabited

/-- The default roles of R323. -/
def chkRoles : Vector ChkUnit 16 :=
  #v[{ role := 2 }, { role := 3 }, { role := 4 }, { role := 5 }, { role := 6 }, { role := 1 }, { role := 1 }, {}, {}, {}, {}, {}, {}, {}, {}, {}]

/-- The CHK block (R323 to R343). -/
structure Chk where
  unit : Vector ChkUnit 16 := chkRoles
  recv : Table RecvSt := []
  send : Table SendSt := []
  checkFail : BitVec 16 := 0
  diffCnt : BitVec 16 := 0
  seqRej : BitVec 16 := 0
  wrapLate : BitVec 16 := 0
deriving DecidableEq, Repr

end Sys2Proof.Machine
end

