-- ==== Sys2Proof/Machine/StrathParts.lean ====
section
/-!
DEFINITION. State of the Strath network: ports, wraps and link delays of both channels (R205 to R238), the node, its schedule,
start-up and guardians (R239 to R272).
-/

namespace Sys2Proof.Machine

/-- LSTATE of a port (R214). -/
inductive LState | disabled | down | train | sync | up | failed
deriving DecidableEq, Repr

/-- ASTATE of an equaliser (R212). -/
inductive AState | preset | acquire | track | frozen
deriving DecidableEq, Repr

/-- One port of a channel with its registers (R205, R212 to R215, R227, R230 to R233, R238). -/
structure Port where
  lstate : LState := .down
  los : Bool := true
  sync : Bool := false
  rfiRx : Bool := false
  /-- Consecutive RFI received (R215). -/
  rfiRun : Nat := 0
  cause : BitVec 3 := 0
  wrapped : Bool := true
  upCnt : BitVec 16 := 0
  cgErr : BitVec 16 := 0
  syncLoss : BitVec 16 := 0
  hcrcErr : BitVec 16 := 0
  fcsErr : BitVec 16 := 0
  boost : BitVec 4 := 8
  astate : AState := .preset
  taps : Vector Int 5 := Vector.replicate 5 0
  eyeH : BitVec 8 := 0
  eyeW : BitVec 8 := 0
  low : Bool := false
  /-- Transmit timestamp of the outstanding DLY_REQ, and the basic cycle of the last request (R227). -/
  reqAt : Option Nat := none
  reqCycle : Option Nat := none
  /-- The last measurements, twice the delay in 2^-40 ns, oldest first, at most 16 (R228). -/
  meas : List Int := []
  /-- Which of the last 16 basic cycles gave a measurement, oldest first, and whether the running one has (R228). -/
  gave : List Bool := []
  gaveNow : Bool := false
  dly : BitVec 16 := 0
  dlyValid : Bool := false
  rangeErr : Bool := false
  /-- Turnaround of the last DLY_RSP sent, units of 0.625 ns (R227). -/
  rspSent : Option (BitVec 24) := none
  /-- Own timed unwrap proposal, and the cycle in which a CLOSE carrying it was first received (R232). -/
  closeProp : Option (BitVec 16) := none
  closeHeard : Option Nat := none
  /-- CLOSE_NOW sent, and received consecutively (R233). -/
  closeNowSent : Nat := 0
  closeNowRecv : Nat := 0
  /-- The last frame on the transmit pair, and whether it ended with ABT (R216); the model's own record of the output. -/
  lastTx : List Byte := []
  lastAbt : Bool := false
deriving DecidableEq, Repr, Inhabited

/-- A frame delivered to the Strath engine (R224, R226). -/
structure Delivered where
  kind : Nat
  src : Nat
  mode : Nat
  cycle : Nat
  wraps : Nat
  /-- SOF timestamp at the receiving port, in 2^-16 ns, and whether the capture is valid (R66). -/
  rxTime : Nat
  rxValid : Bool
  /-- Path delay, in 1/16 ns (R226). -/
  path : Nat
  payload : List Byte
deriving DecidableEq, Repr

/-- A channel's Bezel (R261 to R264). -/
structure Bezel where
  aligned : Bool := false
  latched : Bool := false
  oscOk : Bool := false
  /-- Its clock has been lost, and it has not aligned again since (R559). -/
  blocked : Bool := false
  /-- BZ_OFS, units of 2.5 ns. -/
  ofs : Int := 0
  hold : Nat := 0
  truncCnt : BitVec 16 := 0
  blockCnt : BitVec 16 := 0
  /-- Cycles in which it blocked or truncated, most recent first (R264). -/
  hits : List Nat := []
deriving DecidableEq, Repr, Inhabited

/-- One channel of the node (R205 to R238, R262 to R267). -/
structure Chan where
  port : Vector Port 2 := Vector.replicate 2 {}
  wrapSeen : Bool := false
  wrapNow : Bool := false
  closeCyc : BitVec 16 := 0
  wrapCnt : BitVec 16 := 0
  unwrapCnt : BitVec 16 := 0
  /-- Cycle of the channel's last unwrap (R234). -/
  lastUnwrap : Option Nat := none
  healLast : BitVec 16 := 0
  healWorst : BitVec 16 := 0
  collCnt : BitVec 16 := 0
  hopsCnt : BitVec 16 := 0
  dupCnt : BitVec 16 := 0
  chmisCnt : BitVec 16 := 0
  /-- Classes reported in this basic cycle (R220). -/
  repFrame : Bool := false
  repChmis : Bool := false
  /-- SRC, CYCLE and SLOT of delivered frames (R224). -/
  seen : List (Nat × Nat × Nat) := []
  /-- Module time to which a forwarded frame, and slot and module time to which an own frame, is in transmission (R223). -/
  fwdUntil : Nat := 0
  ownUntil : Option (Nat × Nat) := none
  /-- Delivered REF, COLD and MODE frames the engine has not handled yet, oldest first. -/
  inbox : List Delivered := []
  /-- θ of this cycle's REF, in 2^-16 ns, and SRC of the REF of this cycle (R55, R247). -/
  curRef : Option Int := none
  hadRef : Option Nat := none
  refOk : Bool := false
  refSrc : Nat := 0
  refMiss : BitVec 16 := 0
  ownMiss : BitVec 16 := 0
  modeMis : BitVec 16 := 0
  bezel : Bezel := {}
deriving DecidableEq, Repr, Inhabited

/-- NSTATE of the node (R250). -/
inductive NState | init | listen | coldstart | integrating | synced | silent | incompatible
deriving DecidableEq, Repr

/-- A transmit buffer: its content, and the content at the start of the running cycle (R265). -/
structure TxBuf where
  content : Option (List Byte) := none
  atStart : Option (List Byte) := none
deriving DecidableEq, Repr, Inhabited

/-- A binding of a received slot to an item (R267, R268). -/
structure SlotBind where
  mode : Nat
  slot : Nat
  chan : Nat
  item : Nat
  src : Nat
  src2 : Nat
  length : Nat
deriving DecidableEq, Repr

/-- An STR_MODE_REQ operation that waits for its answer (R253, R270). -/
structure ModeReq where
  ring : Nat
  tag : Nat
  mode : Nat
  seq : Nat
  /-- Cycle in which it was first sent, and cycles it has waited. -/
  sentIn : Option Nat := none
  waited : Nat := 0
deriving DecidableEq, Repr

/-- The node (R239 to R272). -/
structure Node where
  nstate : NState := .init
  master : Bool := false
  actMode : Nat := 0
  pend : Bool := false
  nextMode : Nat := 0
  switchCycle : Nat := 0
  masterId : Nat := 0
  masterRnk : Nat := 0
  silCause : BitVec 3 := 0
  silCnt : BitVec 16 := 0
  missRun : Nat := 0
  coldStarts : BitVec 8 := 0
  yields : BitVec 8 := 0
  takeovers : BitVec 8 := 0
  /-- The value the listen timer was last set to, in ms (R250). -/
  listenMs : Nat := 0
  /-- CYCLE of the COLD frames this node has sent (R252). -/
  coldSent : NatSet := []
  /-- Cycles in INTEGRATING, and the class reported (R250). -/
  integCycles : Nat := 0
  integSlow : Bool := false
  /-- First basic cycle in which own frames are allowed (R250, R251). -/
  ownFrom : Nat := 0
  /-- Basic cycle whose end has not been handled yet. -/
  cycle : Nat := 0
  /-- θ that the sync monitor compares in this cycle (R257), and whether this cycle's measurement has been taken (R55). -/
  theta : Option Int := none
  measured : Bool := false
  /-- ACT_MODE, PEND, NEXT_MODE and SWITCH_CYCLE of the last REF, with the cycle it came in. -/
  lastRef : Option (Nat × Bool × Nat × Nat × Nat) := none
  /-- The master has handled a request in this cycle (R254). -/
  handled : Bool := false
  reqSeq : BitVec 8 := 0
  reqs : List ModeReq := []
deriving DecidableEq, Repr, Inhabited

/-- The Strath network of the module. -/
structure Stra where
  chan : Vector Chan 2 := Vector.replicate 2 {}
  node : Node := {}
  tx : Table TxBuf := []
  binds : List SlotBind := []
deriving DecidableEq, Repr

end Sys2Proof.Machine
end

