-- ==== Sys2Proof/Machine/UnitParts.lean ====
section
/-!
DEFINITION. State of the unit pairing (R435 to R458), of versions and trust (R478 to R518), of power, resets and health (R519 to R545),
of the clock-domain crossings (R546 to R561) and of the identity (R6).
-/

namespace Sys2Proof.Machine

/-! ## Unit pairing -/

/-- CLS_STATUS.ROLE (R443). -/
inductive ClsRole | none | listen | contend | join | standby | active | withdrawn
deriving DecidableEq, Repr

/-- A status message of the pair link (R455). -/
structure PairMsg where
  posId : BitVec 4 := 0
  role : ClsRole := .none
  won : Bool := false
  claim : BitVec 16 := 0
  epoch : BitVec 32 := 0
  tick : BitVec 32 := 0
  digest : List Byte := []
  /-- XCHK: task, low bits of the start tick and D[t] of the last instance released, if any. -/
  xchk : Option (Nat × Nat × DWord) := none
deriving DecidableEq, Repr, Inhabited

/-- What a module reads on one Clasp line in a frame (R438, R439): start bit dominant, claim bits read, confirm and a stop bit dominant. -/
structure LineRead where
  start : Bool
  claim : BitVec 16
  confirm : Bool
  stop : Bool
deriving DecidableEq, Repr, Inhabited

/-- The partner's motion monitors as they are transferred at the last join (R453): state code, set and REF of each monitor, latched
marks, and raw counts. -/
structure PairMotion where
  mons : List (Nat × BitVec 2 × BitVec 32) := []
  marks : List (Bool × BitVec 32) := []
  counts : List (BitVec 32) := []
deriving DecidableEq, Repr, Inhabited

/-- Clasp, the pair link and the unit epoch (R435 to R458). -/
structure Clasp where
  role : ClsRole := .none
  outEn : Bool := false
  epoch : BitVec 32 := 0
  /-- LAST_ROLE in MRAM: true ACTIVE, false STANDBY (R448). -/
  lastRole : Option Bool := none
  score : BitVec 8 := 0
  deduct : BitVec 7 := 0
  /-- CLS_CLAIM. -/
  own : BitVec 16 := 0
  winner : BitVec 16 := 0
  lineOk : BitVec 2 := 0
  won : Bool := false
  /-- Compact tick of the last frame. -/
  frameTick : BitVec 32 := 0
  plUp : Bool := false
  partner : PairMsg := {}
  /-- Consecutive ticks in LISTEN with the partner absent (R443). -/
  waitCnt : Nat := 0
  /-- Classes reported once in this LISTEN: configuration mismatch, position conflict, stale epoch. -/
  once : BitVec 3 := 0
  /-- A committed YIELD: no claim in the next frame, the enable kept until its decision (R445). -/
  yielding : Bool := false
  /-- An epoch advance waits for the next tick event (R448). -/
  advance : Bool := false
  phase : Nat := 0
  round : Nat := 0
  joined : BitVec 16 := 0
  fails : BitVec 6 := 0
  /-- Tasks whose final round has finished, with the partner's run counts, and tasks started with their first start tick (R453). -/
  final : Table Nat := []
  started : Table Nat := []
  /-- Lanes that ran when the attempt began, one bit a lane (R454). -/
  joinLive : BitVec 3 := 0
  /-- Waits 10 s in LISTEN after a failed attempt (R454). -/
  retryWait : Bool := false
  /-- Module time of the last decision the partner won (R458). -/
  partnerWon : Option Nat := none
  lastUs : Nat := 0
  worstUs : Nat := 0
  roleCnt : BitVec 16 := 0
  lineErr : BitVec 16 := 0
  cmpCnt : BitVec 16 := 0
  divCnt : BitVec 16 := 0
  /-- Ticks of the last Clasp-line reports, lines A and B (R439). -/
  lineTick : Vector (Option Nat) 2 := Vector.replicate 2 none
  /-- Last released instance per task with its digest, own and the partner's, and the start compared last (R456). -/
  ownDig : Table (Nat × DWord) := []
  pairDig : Table (Nat × DWord) := []
  compared : Table Nat := []
deriving DecidableEq, Repr

/-! ## Power and health -/

/-- PWR_STATUS.PSTATE (R531, R533). -/
inductive PState | operational | entering | parked | keepAlive
deriving DecidableEq, Repr

/-- One temperature sensor (R540), in units of 0.125 °C. -/
structure TempSt where
  value : Int := 0
  warn : Bool := false
  hot : Bool := false
  /-- Highest value since the module reset. -/
  peak : Option Int := none
deriving DecidableEq, Repr, Inhabited

/-- One monitored rail (R539). -/
structure RailSt where
  value : Nat := 0
  low : Bool := false
  high : Bool := false
  cnt : BitVec 8 := 0
deriving DecidableEq, Repr, Inhabited

/-- PWR_AVS[l].STATE. -/
inductive AvsState | off | track | freqReduced | atLimit
deriving DecidableEq, Repr

/-- The voltage loop and the ageing of one lane (R541, R542). -/
structure AvsSt where
  vcore : Nat := 900
  freq : Nat := 48
  state : AvsState := .off
  /-- PWR_AVS[l].MARGIN and the smallest margin so far in the running 8 000 ticks. -/
  margin : Nat := 0
  least : Option Nat := none
  pm : List Nat := []
  /-- Tick of the last rise by R541's fast rule, and the rise waiting for the next tick. -/
  fastTick : Option Nat := none
  fastPend : Bool := false
  /-- V_INIT, AGE_MV and DAYS, in MRAM. -/
  vInit : Option Nat := none
  ageMv : Int := 0
  days : Nat := 0
  /-- AGE_MV at the last reported step. -/
  ageStep : Int := 0
deriving DecidableEq, Repr, Inhabited

/-- An accepted low-power request (R532, R533): keep-alive or Parked, and its tick. -/
structure PwrReq where
  keepAlive : Bool
  tick : Nat
deriving DecidableEq, Repr

/-- Power, resets and health monitors (R519 to R545). -/
structure Power where
  pstate : PState := .operational
  /-- A module reset is held: power-on before its release, or a held reset of R555. -/
  held : Bool := true
  warn : Bool := false
  shutdown : Bool := false
  storeOk : Bool := false
  ovp : Bool := false
  vin : Nat := 0
  vstore : Nat := 0
  minVin : Nat := 0xFFF
  /-- Minima of the running warning and the module time of the fall (R521). -/
  warnVin : Nat := 0
  warnStore : Nat := 0
  /-- MRAM supervisor state: LAST_MIN and the lifetime counts. -/
  lastMin : Nat := 0
  warnCnt : BitVec 16 := 0
  failCnt : BitVec 16 := 0
  rstCnt : BitVec 16 := 0
  wakeSrc : BitVec 3 := 0
  wakeCnt : BitVec 16 := 0
  /-- PWR_RST_CAUSE (R526). -/
  cause : BitVec 16 := 1
  req : Option PwrReq := none
  /-- Heartbeats missing and cores being restarted: bits 0 Strath, 1 Col bridge, 2 field-I/O, 3 Signet (R527). -/
  hbLost : BitVec 4 := 0
  restarting : BitVec 4 := 0
  engRstCnt : BitVec 16 := 0
  temp : Vector TempSt 12 := Vector.replicate 12 {}
  rail : Vector RailSt 14 := Vector.replicate 14 {}
  avs : Vector AvsSt 3 := Vector.replicate 3 {}
  /-- Locket domain (R537): seconds, alarm, UTC fields (bit 0 LEAP_POS, 1 LEAP_NEG, 2 UTC_VALID), keep-alive wake enables, validity. -/
  locketSec : BitVec 48 := 0
  locketAlarm : BitVec 32 := 0
  locketUtcOfs : BitVec 16 := 0
  locketLeap : BitVec 3 := 0
  locketWake : BitVec 5 := 0
  locketValid : Bool := false
  /-- The fabric-clock-lost class is to be reported at the next start (R555). -/
  fabReport : Bool := false
deriving DecidableEq, Repr

/-- Triggers of a power-on reset (R525): supply applied, the end of a power-fail shutdown, a rail below 90 %, or any of these with the
Locket content found invalid. -/
inductive PowerOn | supply | shutdownEnd | rail | kaLoss
deriving DecidableEq, Repr

/-- Wake sources (R535): an edge of pin WAKE, a REF of a mode, a link on the service port, the Locket alarm, the supply re-applied. -/
inductive WakeSrc | pin (falling : Bool) | refMode (mode : Fin 8) | servicePort | alarm | supply
deriving DecidableEq, Repr

/-! ## Crossings -/

/-- The crossings of one clock domain (R546 to R561). -/
structure XDom where
  clkOk : Bool := false
  clkLost : Bool := false
  merged : Bool := false
  stall : Bool := false
  lost : Bool := false
  accPeak : Nat := 0
  mergeCnt : Nat := 0
  stallCnt : BitVec 8 := 0
  lostCnt : BitVec 16 := 0
  /-- Happenings counted while the crossing is stalled (R551). -/
  acc : Nat := 0
  /-- Tick in which the counted-events-lost class was last reported (R560). -/
  lostTick : Option Nat := none
deriving DecidableEq, Repr, Inhabited

/-- The clock-domain crossings (R546 to R561). -/
structure Cross where
  dom : Vector XDom 16 := Vector.replicate 16 {}
  fabLost : Bool := false
deriving DecidableEq, Repr

/-! ## Versions and trust -/

/-- States of a configuration slot (R489). -/
inductive SlotState | empty | loaded | active | previous | invalid
deriving DecidableEq, Repr

/-- A slot of the configuration store: its state, its container, and the migrated form with the PAYLOAD_DIGEST and the firmware VERSION it
was derived from (R489, R500). -/
structure CfgSlot where
  state : SlotState := .empty
  cont : List Byte := []
  migrated : Option (List Byte × Nat × List Byte) := none
deriving DecidableEq, Repr, Inhabited

/-- A vendor key slot in the fuses (R485). -/
structure VendorSlot where
  digest : Option (List Byte) := none
  revoked : Bool := false
deriving DecidableEq, Repr, Inhabited

/-- An open transfer into update staging (R510, R512). -/
structure Transfer where
  type : Nat
  slot : Nat
  length : Nat
  data : List Byte := []
deriving DecidableEq, Repr

/-- An open Utmus session (R510, R512). -/
structure UtmusSession where
  number : BitVec 32
  nonce : List Byte
  /-- REQ_SEQ of the last request. -/
  seq : BitVec 32 := 0
  /-- A read-only connection's transfer, if one is open. -/
  transfer : Option Transfer := none
deriving DecidableEq, Repr

/-- A Utmus request as it arrives (R509); its CMD is the command's own. The key and the signature are empty where the request carries
none. -/
structure UtmusReq where
  magic : BitVec 16
  ver : Byte
  session : BitVec 32
  seq : BitVec 32
  bodyLen : BitVec 32
  keyClass : Byte
  keyIndex : Byte
  zero : BitVec 16
  body : List Byte
  pk : List Byte
  sig : List Byte
deriving DecidableEq, Repr

/-- A user-calibration write waiting for Signet (R505): KIND, INDEX, VALUE or none to erase, and whether the lanes committed it. -/
structure UcalWrite where
  kind : Nat
  index : Nat
  value : Option Nat
  fromLanes : Bool
deriving DecidableEq, Repr

/-- Versions and trust (R478 to R518). -/
structure Trust where
  /-- Configuration activation counter, in the slot-state record. -/
  actCnt : BitVec 32 := 0
  slots : Vector CfgSlot 8 := Vector.replicate 8 {}
  /-- Image slots (R495), and the running image's slot of the slot-state record. -/
  images : Vector (Option (List Byte)) 8 := Vector.replicate 8 none
  running : Option Nat := none
  /-- Firmware banks A and B, and the boot record (R496). -/
  banks : Vector (Option (List Byte)) 2 := Vector.replicate 2 none
  pref : Bool := false
  trial : Option Bool := none
  trialLeft : BitVec 2 := 0
  /-- COMMIT_PENDING with its target SVN. -/
  commit : Option Nat := none
  /-- Running firmware bank: false A, true B. -/
  bankB : Bool := false
  recovery : Bool := false
  /-- The program has started since this start of the module (R498, R499). -/
  started : Bool := false
  /-- Firmware container in update staging (R512). -/
  staged : Option (List Byte) := none
  /-- Factory calibration container (R503). -/
  factory : Option (List Byte) := none
  vendor : Vector VendorSlot 4 := Vector.replicate 4 {}
  owner : Vector (Option (List Byte)) 7 := Vector.replicate 7 none
  /-- The identity key-generation seed, sealed (R485, R487). -/
  seed : Option (List Byte) := none
  /-- SIG_STATUS.RNG_OK (R481). -/
  rngOk : Bool := true
  /-- The pool kept from the random source's last good output (R481). -/
  pool : List Byte := []
  /-- Security-version counter, in fuses (R28). -/
  secVer : Nat := 0
  session : Option UtmusSession := none
  /-- Sessions opened so far; the model's own counter. -/
  sessions : Nat := 0
  /-- The last Utmus response sent (R509). -/
  response : List Byte := []
  verifyFail : BitVec 16 := 0
  utmusRej : BitVec 16 := 0
  /-- User calibration by KIND × 65 536 + INDEX, VALUE as a number (R504), and its format. -/
  ucal : Table Nat := []
  ucalFmt : Nat := 0
  ucalQueue : List UcalWrite := []
  ucalLast : BitVec 2 := 0
  /-- The active configuration is loaded and free of a configuration fault (R3, R491). -/
  cfgOk : Bool := false
  cfgFault : Bool := false
  faultCause : BitVec 8 := 0
  faultSlot : BitVec 3 := 0
  /-- The active configuration runs in migrated form (R518). -/
  migratedRun : Bool := false
deriving DecidableEq, Repr

/-- Identity data in OTP fuses (R6); the values a module carries are written at manufacture, log 3. -/
structure Otp where
  issue : BitVec 8 := 1
  week : BitVec 16 := 0
  serial : BitVec 40 := 0
  /-- MAC addresses of both Ethernet ports (R274). -/
  mac : Vector (BitVec 48) 2 := Vector.replicate 2 0
  idKey : List Byte := List.replicate 32 0#8
  /-- Lifecycle fuse count n (R39). -/
  lifeN : BitVec 5 := 0
deriving DecidableEq, Repr

/-- Why a checkpoint attempt ends: 30 s have passed, a lane of the partner entered SAFE or a lane re-integration is due there, or the
partner's digest of a task's first instance (R454). -/
inductive JoinEnd | timeout | partnerLane | digest (task : TaskId) (d : DWord) | ownState
deriving DecidableEq, Repr

end Sys2Proof.Machine
end

