-- ==== Sys2Proof/Syntax.lean ====
section
/-!
DEFINITION. The commands: one constructor for every row of the opcode table, in the table's order. The table gives a row no operands; a
constructor carries what the happening brings from outside the module or leaves to it (log 2).
-/

namespace Sys2Proof

open Sys2Proof.Machine

/-- A command that reaches the module: an access, a message or a frame, an operation of a ring, a reading, or an event. -/
inductive Instr
  /-- TICK_EVENT (R50): Module time reaches a tick boundary and every receiver acts in the same fabric cycle. -/
  | tickEvent (inp : TickInputs)
  /-- REFERENCE_MEASUREMENT (R55): The Strath engine takes the servo measurement of the basic cycle and updates the rate. -/
  | referenceMeasurement (inp : TickInputs)
  /-- TIME_LOCKED (R57): LOCK_CYC consecutive measurements within LOCK_THR take the time base to LOCKED. -/
  | timeLocked
  /-- HOLDOVER_ENTERED (R57): HOLD_CYC cycles without an accepted measurement take the time base to HOLDOVER. -/
  | holdoverEntered
  /-- ACCEPT_STEP_WRITE (R61): A commit to TIM_CTRL.ACCEPT_STEP arms a step, or with 0 disarms it and ends a hold. -/
  | acceptStepWrite (value : Bool)
  /-- TIM_NOW_LATCH (R75): Reading TIM_NOW_FRAC latches the rest of module time for the reading lane. -/
  | timNowLatch (lane : LaneId)
  /-- TIM_TICK_LATCH (R75): Reading TIM_TICK_LO latches TIM_TICK_HI for the reading lane. -/
  | timTickLatch (lane : LaneId)
  /-- SYS_PROG_LATCH (R39): Reading SYS_PROG_LO latches SYS_PROG_HI for the reading lane. -/
  | sysProgLatch (lane : LaneId)
  /-- REC_SEQ_LATCH (R477): Reading a REC _LO register latches its _HI register for the reading lane. -/
  | recSeqLatch (lane : LaneId) (reg : RecSeqReg)
  /-- TIME_DISTRIBUTION_ERROR (R66): A parity error on the time distribution bus invalidates the captures of that cycle. -/
  | timeDistributionError
  /-- TASK_START_MARK (R89): A core writes its task-start mark and enters the instance's context. -/
  | taskStartMark (lane : LaneId) (core : CoreId) (task : TaskId)
  /-- TASK_END_MARK (R92): A core writes its task-end mark and its digest unit writes back and folds dirty lines. -/
  | taskEndMark (lane : LaneId) (core : CoreId) (writes : List (Nat × Byte))
  /-- DIGEST_COMPARE (R92): Both cores' digests are ready and are compared to release or find latent divergence. -/
  | digestCompare (lane : LaneId) (task : TaskId)
  /-- PAIR_ENTRY_COMPARE (R87): The pair comparator compares entry k of both cores and moves a match into the release buffer. -/
  | pairEntryCompare (lane : LaneId) (newA newB : List Access)
  /-- PROPOSAL_TIMEOUT (R89): The lagging core has not produced entry k within TMO_US in its context. -/
  | proposalTimeout (lane : LaneId)
  /-- FORCE_SAFE (R101): A write of 1 to LANE_CTRL.FORCE_SAFE forces the lane into SAFE. -/
  | forceSafe (lane : LaneId) (lag : Bool)
  /-- LANE_IRQ_ACK (R83): A core advances its read position to the next interrupt snapshot. -/
  | laneIrqAck (lane : LaneId) (core : CoreId)
  /-- TSU_RECORD_REMOVE (R105): Reading the last word of LANE_TSU_REC removes the head record of the queue. -/
  | tsuRecordRemove (lane : LaneId) (input : PulseId)
  /-- ECC_UNCORRECTABLE (R103): An uncorrectable lane DRAM error raises an access fault in the reading core. -/
  | eccUncorrectable (lane : LaneId) (core : CoreId) (line : Nat) (scrub : Bool)
  /-- ECC_CORRECTED (R104): A corrected error in lane DRAM is counted and reported. -/
  | eccCorrected (lane : LaneId)
  /-- TASK_FAULT (R193): A U-mode exception ends the instance without outputs or end record. -/
  | taskFault (lane : LaneId) (core : CoreId) (writes : List (Nat × Byte))
  /-- LANE_RESET_RELEASE (R99): The supervisor releases a lane from reset and a new scrambling key is drawn. -/
  | laneResetRelease (lane : LaneId)
  /-- IMAGES_LOADED (R99): Both images are loaded and the digest sweep starts. -/
  | imagesLoaded (lane : LaneId) (damageA damageB : List (Nat × Byte))
  /-- SWEEP_COMPLETE (R95): The start-up digest computation ends and the lane becomes READY or SAFE. -/
  | sweepComplete (lane : LaneId)
  /-- PROPOSAL_ARRIVAL (R112): A proposal reaches the voter, opens or joins a vote and may commit it. -/
  | proposalArrival (lane : LaneId)
  /-- VOTE_WINDOW_CLOSE (R116): A vote's window closes and its outcome is decided. -/
  | voteWindowClose (key : PropKey)
  /-- ABSENT_LANE (R118): A pending proposal has not arrived LATE_US after window close and its lane is absent. -/
  | absentLane (key : PropKey) (lane : LaneId)
  /-- PAIR_SELF_TEST (R125): A lane's pair comparator tests itself before admission. -/
  | pairSelfTest (lane : LaneId) (found : List (List Nat)) (timeout : Bool)
  /-- VOTER_SELF_TEST (R126): The voter checks its outcomes with altered test proposals. -/
  | voterSelfTest (ok : BitVec 4)
  /-- STARTUP_WAIT_EXPIRY (R123): The 2 s start-up wait for the other lanes ends. -/
  | startupWaitExpiry
  /-- LANE_ADMISSION (R122): The voter leaves INIT and admits the ready, self-tested lanes. -/
  | laneAdmission
  /-- REINT_START (R127): The supervisor starts re-integration of a lane in SAFE. -/
  | reintStart (lane : LaneId)
  /-- REINT_RESET_DONE (R128): The target lane reset ends and the LOAD copies begin. -/
  | reintResetDone
  /-- COPY_ROUND_END (R129): A state copy round ends and the next round starts from the set copy-dirty bits. -/
  | copyRoundEnd
  /-- CODE_COPY_END (R128): The code source finishes copying runtime and program image. -/
  | codeCopyEnd
  /-- LOAD_END (R130): The code copy has ended and the last round was small, so SWEEP begins. -/
  | loadEnd
  /-- FINAL_ROUND_END (R131): The final round of an idle task finishes copying its marked lines. -/
  | finalRoundEnd (task : TaskId)
  /-- FINAL_ROUND_ABANDONED (R131): A final round not finished by its task's start boundary is abandoned. -/
  | finalRoundAbandoned (task : TaskId)
  /-- REINT_FAILED (R135): A re-integration attempt fails by timeout or SAFE and a new attempt follows. -/
  | reintFailed (lane : LaneId) (timeout : Bool)
  /-- RING_ENABLE (R143): A commit of EN = 1 checks a ring's set-up and makes it ACTIVE or CFG_ERR. -/
  | ringEnable (ring : Fin 64)
  /-- RING_DRAIN (R164): A commit of EN = 0 or the owner lane's SAFE drains the ring. -/
  | ringDrain (ring : Fin 64)
  /-- RING_DRAIN_COMPLETE (R164): Nothing of a draining ring runs any more, its tags are freed and it is DISABLED. -/
  | ringDrainComplete (ring : Fin 64)
  /-- DESCRIPTOR_WRITE (R148): A 32-byte descriptor is written into a submission slot and its pending bit set. -/
  | descriptorWrite (off : Nat) (bytes : List Byte)
  /-- DOORBELL (R150): A new producer index is written and taken when valid. -/
  | doorbell (ring : Fin 64) (prod : BitVec 16)
  /-- DESCRIPTOR_FETCH (R152): An engine fetches a descriptor, checks it and starts the operation or completes it with an error. -/
  | descriptorFetch (engine : Fin 9)
  /-- RING_STALLED (R151): A covered slot's pending bit stays clear too long and the ring stalls. -/
  | ringStalled (ring : Fin 64)
  /-- COMPLETION_HEAD_WRITE (R158): The owner advances HEAD and frees consumed tags. -/
  | completionHeadWrite (ring : Fin 64) (head : BitVec 16)
  /-- OPERATION_COMPLETE (R153): An engine finishes an operation and writes its tagged completion entry. -/
  | operationComplete (ring : Fin 64) (tag : Fin 1024)
  /-- NOP (R165): An operation that does nothing and completes with zero results. -/
  | nop (ring : Fin 64) (tag : Fin 1024)
  /-- ECHO (R165): An operation that returns PARAM_A and ADDR in its completion. -/
  | echo (ring : Fin 64) (tag : Fin 1024)
  /-- CYCLIC_PROGRAM_START (R175): Once conditions hold, the start record commits and the program starts at an aligned tick. -/
  | cyclicProgramStart
  /-- RETAINED_MIRROR (R197): After release the lane runtime mirrors the instance's retained lines to MRAM. -/
  | retainedMirror (lane : LaneId)
  /-- ONLINE_CHANGE_APPLY (R200): Accepted values are written into the parameter area at the next start tick of their task. -/
  | onlineChangeApply (task : TaskId)
  /-- SWAP_LOAD_COMPLETE (R203): The new program image is copied into every counted lane and the swap is READY. -/
  | swapLoadComplete
  /-- SWAP_CONVERSION_COMPLETE (R203): Conversion ends, regions are exchanged and the program starts on trial. -/
  | swapConversionComplete
  /-- SWAP_CONVERSION_TIMEOUT (R203): Conversion has not completed within 2 s and the old program starts again. -/
  | swapConversionTimeout
  /-- SWAP_TRIAL_TIMEOUT (R203): The declared trial time elapses and the new code is committed. -/
  | swapTrialTimeout
  /-- SIGNAL_DETECTED (R214): A port in DOWN detects signal for 1 µs and starts training. -/
  | signalDetected (chan : ChanId) (port : PortId)
  /-- CODE_GROUP_SYNC (R211): A port acquires code-group sync and the link-delay exchange starts. -/
  | codeGroupSync (chan : ChanId) (port : PortId)
  /-- TRAIN_TIMEOUT (R214): No sync within 2 ms returns the port to DOWN. -/
  | trainTimeout (chan : ChanId) (port : PortId)
  /-- PORT_UP (R214): Sync held 10 ms with a valid link delay takes the port to UP. -/
  | portUp (chan : ChanId) (port : PortId)
  /-- PORT_FAILED (R215): A failure criterion takes the port to FAILED and wraps it. -/
  | portFailed (chan : ChanId) (port : PortId) (cause : BitVec 3) (heal : BitVec 16)
  /-- PORT_RECOVERED (R214): A failed port regains sync without RFI for 1 ms and returns to SYNC. -/
  | portRecovered (chan : ChanId) (port : PortId)
  /-- EQUALISER_FREEZE_EXPIRY (R212): A frozen equaliser returns to its preset after 100 ms. -/
  | equaliserFreezeExpiry (chan : ChanId) (port : PortId)
  /-- EYE_MONITOR (R213): The eye monitor reports each basic cycle and flags a low margin. -/
  | eyeMonitor (chan : ChanId) (port : PortId) (height width : BitVec 8) (boost : BitVec 4) (taps : Vector Int 5)
  /-- RFI_RECEIVED (R214): An RFI ordered set is received and counted towards a remote fault. -/
  | rfiReceived (chan : ChanId) (port : PortId) (consecutive : Bool)
  /-- FRAME_RECEIVED (R220): A Strath frame is checked, forwarded, delivered or stripped. -/
  | frameReceived (chan : ChanId) (port : PortId) (phase : Fin 8) (header payload fcs : List Byte) (badGroups : Nat) (eof : Bool)
  /-- DLY_REQ_SEND (R227): A port sends its link-delay request once per basic cycle. -/
  | dlyReqSend (chan : ChanId) (port : PortId) (phase : Fin 8)
  /-- DLY_REQ_RECEIVED (R227): A neighbour answers a delay request with a DLY_RSP. -/
  | dlyReqReceived (chan : ChanId) (port : PortId) (turnaround : BitVec 24)
  /-- DLY_RSP_RECEIVED (R228): A response yields a link-delay measurement and updates the mean. -/
  | dlyRspReceived (chan : ChanId) (port : PortId) (phase : Fin 8) (turnaround : BitVec 24)
  /-- DLY_RSP_TIMEOUT (R227): A request without response within 200 µs yields no measurement. -/
  | dlyRspTimeout (chan : ChanId) (port : PortId)
  /-- CLOSE_RECEIVED (R232): A CLOSE proposal is received and the agreed unwrap cycle is updated. -/
  | closeReceived (chan : ChanId) (port : PortId) (proposal : BitVec 16)
  /-- TIMED_UNWRAP (R232): Both nodes unwrap at the start of the agreed cycle. -/
  | timedUnwrap (chan : ChanId) (port : PortId)
  /-- CLOSE_NOW_RECEIVED (R233): A CLOSE_NOW is answered and after 8 exchanged the port unwraps. -/
  | closeNowReceived (chan : ChanId) (port : PortId) (consecutive : Bool)
  /-- PORT_EN_WRITE (R214): A commit to STRA_PORT_CTRL.EN disables or enables a port. -/
  | portEnWrite (chan : ChanId) (port : PortId) (value : Bool)
  /-- FORCE_WRAP_WRITE (R230): A commit to FORCE_WRAP holds or releases the port's wrap. -/
  | forceWrapWrite (chan : ChanId) (port : PortId) (value : Bool)
  /-- STR_LINK_READ (R236): The engine copies port and equaliser status into the completion. -/
  | strLinkRead (ring : Fin 64) (tag : Fin 1024)
  /-- OWN_SLOT_SEND (R265): An own slot is due and the node sends its transmit buffer through Bezel. -/
  | ownSlotSend (chan : ChanId) (slot : Fin 512) (phase : Fin 8) (bz : Int) (since : Nat)
  /-- BEZEL_TRUNCATION (R263): Bezel's window closes on an own frame still being sent and cuts it with ABT. -/
  | bezelTruncation (chan : ChanId)
  /-- BEZEL_UNALIGNED (R262): A Bezel without alignment for 8 cycles becomes unaligned. -/
  | bezelUnaligned (chan : ChanId)
  /-- UNLATCH (R264): A commit of STRA_BZ_CTRL.UNLATCH releases a latched Bezel. -/
  | unlatch (chan : ChanId)
  /-- REF_RECEIVED (R247): A REF frame is delivered and governs integration, master role, mode and Bezel alignment. -/
  | refReceived (chan : ChanId)
  /-- COLD_RECEIVED (R252): A COLD frame restarts a listen timer, forces a yield or signals a duplicate node. -/
  | coldReceived (chan : ChanId)
  /-- MODE_FRAME_RECEIVED (R254): The active master takes a mode request and accepts, confirms or refuses it. -/
  | modeFrameReceived
  /-- LISTEN_TIMER_EXPIRY (R250): The listen timer expires and a master-capable node begins a cold start. -/
  | listenTimerExpiry
  /-- COLDSTART_COMPLETE (R250): Sixteen COLD frames sent unanswered make the node active time master. -/
  | coldstartComplete (inp : TickInputs)
  /-- INTEGRATION_SLOW (R250): A node stays 256 cycles in INTEGRATING and the class is reported. -/
  | integrationSlow
  /-- MASTER_TAKEOVER (R247): A backup misses 2 + RANK REFs and becomes active time master. -/
  | masterTakeover
  /-- MODE_SWITCH (R255): At SWITCH_CYCLE every SYNCED node changes slot table and Bezel windows. -/
  | modeSwitch
  /-- SYNC_MONITOR_TRIP (R258): The sync monitor silences the node for a timing, REF, mode, Bezel or TX_EN cause. -/
  | syncMonitorTrip
  /-- TX_EN_WRITE (R258): A commit to STRA_NODE_CFG.TX_EN silences or permits the node. -/
  | txEnWrite (value : Bool)
  /-- NODE_RESUME (R260): A silent node whose conditions hold resumes its own frames. -/
  | nodeResume
  /-- STR_SLOT_WRITE (R268): The engine loads a payload into a transmit buffer, now or at its release tick. -/
  | strSlotWrite (ring : Fin 64) (tag : Fin 1024)
  /-- STR_SLOT_BIND (R269): The engine binds a received slot to an input item. -/
  | strSlotBind (ring : Fin 64) (tag : Fin 1024)
  /-- STR_MODE_REQ (R270): The engine sends a mode request until its answer appears in a REF. -/
  | strModeReq (ring : Fin 64) (tag : Fin 1024)
  /-- MODE_REQ_ANSWER (R270): A REF answers a pending mode request or 64 cycles pass without an answer. -/
  | modeReqAnswer
  /-- ETH_FRAME_RECEIVED (R275): An Ethernet port filters, timestamps and buffers a received frame. -/
  | ethFrameReceived (port : EthId) (phase : Fin 8) (full : Bool) (frame : EthFrame)
  /-- PD_PUBLICATION_SEND (R281): A publication is sent at its send instant with the content of that tick. -/
  | pdPublicationSend (pub : Fin 512)
  /-- MD_REPLY_TIMEOUT (R284): A message-data session closes after REPLY_MS without an answer. -/
  | mdReplyTimeout (handle : BitVec 32)
  /-- PTP_MESSAGE_RECEIVED (R285): A PTP message is processed according to the port's role. -/
  | ptpMessageReceived (port : EthId) (phase : Fin 8) (domain : BitVec 7) (msg : PtpMsg)
  /-- PTP_MESSAGE_SEND (R285): A MASTER port sends Announce or Sync while the time base allows. -/
  | ptpMessageSend (port : EthId) (phase : Fin 8) (what : PtpSend)
  /-- ETH_LINK_UP (R293): An Ethernet port gains its link. -/
  | ethLinkUp (port : EthId) (speed : BitVec 2)
  /-- ETH_LINK_DOWN (R293): An Ethernet port loses its link. -/
  | ethLinkDown (port : EthId)
  /-- ETH_SEND (R291): The engine sends a frame with optional transmit timestamp. -/
  | ethSend (ring : Fin 64) (tag : Fin 1024) (phase : Fin 8)
  /-- TRDP_PD_PUB (R291): The engine loads new content into a publication. -/
  | trdpPdPub (ring : Fin 64) (tag : Fin 1024)
  /-- TRDP_PD_SUB (R291): The engine binds a PD subscription to an input item. -/
  | trdpPdSub (ring : Fin 64) (tag : Fin 1024)
  /-- TRDP_MD_SEND (R291): The engine sends an Mn, Mr or Mp message. -/
  | trdpMdSend (ring : Fin 64) (tag : Fin 1024)
  /-- TRDP_MD_POST (R291): The engine posts a receive buffer for message data. -/
  | trdpMdPost (ring : Fin 64) (tag : Fin 1024)
  /-- PTP_READ (R292): The engine returns PTP port state and offset. -/
  | ptpRead (ring : Fin 64) (tag : Fin 1024)
  /-- MVB_MASTER_FRAME (R289): A master frame for a source port is answered with its current content. -/
  | mvbMasterFrame (addr : BitVec 12)
  /-- MVB_SLAVE_FRAME (R290): A slave frame for a bound sink port becomes an item arrival. -/
  | mvbSlaveFrame (lineB : Bool) (phase : Fin 8) (frame : MvbRx)
  /-- MVB_BASIC_PERIOD (R288): As master the module starts a basic period at its offset. -/
  | mvbBasicPeriod (msgSlot : Bool)
  /-- MVB_LINE_FAILED (R293): MVB line A or B fails. -/
  | mvbLineFailed (lineB : Bool)
  /-- MVB_LINE_RESTORED (R293): A failed MVB line works again. -/
  | mvbLineRestored (lineB : Bool)
  /-- MASTERSHIP_GAINED (R293): The module becomes MVB bus master. -/
  | mastershipGained
  /-- MASTERSHIP_LOST (R293): The module ceases to be MVB bus master. -/
  | mastershipLost (addr : BitVec 12)
  /-- MVB_PORT_WRITE (R291): The engine writes content into a source port. -/
  | mvbPortWrite (ring : Fin 64) (tag : Fin 1024)
  /-- MVB_PORT_BIND (R291): The engine binds a sink port to an input item. -/
  | mvbPortBind (ring : Fin 64) (tag : Fin 1024)
  /-- MVB_MSG_SEND (R291): The engine sends a single MVB message frame. -/
  | mvbMsgSend (ring : Fin 64) (tag : Fin 1024)
  /-- DIRECT_ACCESS (R297): A core access to the backplane window region raises an access fault. -/
  | directAccess (lane : LaneId) (core : CoreId) (addr : Nat)
  /-- WINDOW_SETTING_APPLY (R299): A committed window setting takes effect once the window is idle. -/
  | windowSettingApply (window : Fin 16)
  /-- COL_READ (R311): The Col bridge reads a backplane range into a buffer. -/
  | colRead (ring : Fin 64) (tag : Fin 1024) (answers : List BusAnswer)
  /-- COL_WRITE (R313): The Col bridge accepts a posted backplane write into its buffer. -/
  | colWrite (ring : Fin 64) (tag : Fin 1024)
  /-- COL_WRITE_NP (R313): The Col bridge writes a range on the backplane and completes after it. -/
  | colWriteNp (ring : Fin 64) (tag : Fin 1024) (answers : List BusAnswer)
  /-- COL_LV_BIND (R311): The Col bridge binds an input item to a privileged route. -/
  | colLvBind (ring : Fin 64) (tag : Fin 1024)
  /-- POSTED_WRITE_ISSUE (R312): A buffered posted write is issued on the backplane. -/
  | postedWriteIssue (answers : List BusAnswer)
  /-- LATEST_VALUE_READ (R307): A kind 2 route reads its range and writes an item arrival. -/
  | latestValueRead (route : Fin 256) (answers : List BusAnswer)
  /-- LATEST_VALUE_WRITE (R308): A kind 3 route writes the last released output value to its range. -/
  | latestValueWrite (route : Fin 256) (answers : List BusAnswer)
  /-- INBOUND_WRITE (R309): A card's write into the inbound range is staged and may complete an arrival. -/
  | inboundWrite (addr : Nat) (data : Option (List Byte)) (crossing : Bool)
  /-- HOLD_TIMEOUT (R319): An outbound transaction held too long is abandoned. -/
  | holdTimeout (op : Option (Fin 64 × Fin 1024))
  /-- PRIVILEGED_OVERRUN (R310): A kind 2 transfer still runs 1 µs before the tick event and writes no arrival. -/
  | privilegedOverrun (route : Fin 256) (answers : List BusAnswer)
  /-- BP_RST (R320): Backplane bus reset ends the open transaction and fails buffered writes. -/
  | bpRst (onBus : Option (Fin 64 × Fin 1024 × Nat))
  /-- CHK_APPEND (R328): A unit computes a check value and writes data and check to DEST. -/
  | chkAppend (ring : Fin 64) (tag : Fin 1024) (unit : Fin 16)
  /-- CHK_CHECK_STRIP (R330): A unit checks a check value and writes the data when it matches. -/
  | chkCheckStrip (ring : Fin 64) (tag : Fin 1024) (unit : Fin 16)
  /-- CHK_COMPUTE (R328): A unit computes a check value over a buffer. -/
  | chkCompute (ring : Fin 64) (tag : Fin 1024) (unit : Fin 16)
  /-- UNIT_SELF_TEST (R327): A check-value unit computes its reference vectors and leaves service on a wrong value. -/
  | unitSelfTest (unit : Fin 16) (ok : Bool)
  /-- ITEM_ARRIVAL (R32): An engine writes an arrival burst into an item's back buffer. -/
  | itemArrival (role : Fin 8) (item : Fin 8192) (valid : Bool) (engBits : BitVec 8) (rxTs : DWord) (payload : List Byte) (crossing : Bool)
  /-- PULSE_EDGE (R347): A counted pulse edge is captured, counted and tested by every armed monitor. -/
  | pulseEdge (lane : LaneId) (edges : List EdgeIn)
  /-- MARK_EDGE (R359): A mark input latches the raw count of its source. -/
  | markEdge (lane : LaneId) (input : PulseId) (phase : Fin 8) (others : List EdgeIn)
  /-- STANDSTILL_TIMEOUT (R349): T_SS passes without a counted edge and STANDSTILL becomes 1. -/
  | standstillTimeout (lane : LaneId) (source : PulseId)
  /-- EDGE_MERGE (R350): The merger's gathering closes and the agreed record is written to every lane. -/
  | edgeMerge (input : PulseId)
  /-- PULSE_INPUT_FAULT (R344): A current-front-end input leaves its range for 100 µs. -/
  | pulseInputFault (input : PulseId) (begins : Bool)
  /-- MOT_CMD (R366): A write to MOT_CMD pushes an ARM or DISARM command with its apply tick. -/
  | motCmd (lane : LaneId) (mon : Fin 16) (op : Fin 4) (set : BitVec 2)
  /-- MOT_CAL_RUN (R372): The engine measures the count between two marks to calibrate a wheel. -/
  | motCalRun (ring : Fin 64) (tag : Fin 1024)
  /-- ANALOG_BLOCK_WRITE (R388): The field-I/O engine writes a completed block of samples as one burst. -/
  | analogBlockWrite (chan : Fin 16) (first : Nat) (raws : List Int)
  /-- SYNC_PIN_EDGE (R391): An edge of the SYNC pin is timestamped and may reset the decimators. -/
  | syncPinEdge (rise : Bool) (phase : Fin 8)
  /-- MODULATOR_FAULT (R383): A modulator bitstream stays unchanged for 256 clocks. -/
  | modulatorFault (chan : Fin 16) (begins : Bool)
  /-- COARSE_LIMIT (R396): A coarse value passes a coarse limit. -/
  | coarseLimit (chan : Fin 16) (value : BitVec 12)
  /-- ANA_SYNC (R398): The engine resets all decimators now or at its release tick. -/
  | anaSync (ring : Fin 64) (tag : Fin 1024)
  /-- ANA_AUX_SEL (R394): The engine switches channel 15's auxiliary multiplexer. -/
  | anaAuxSel (ring : Fin 64) (tag : Fin 1024)
  /-- ANA_COARSE_READ (R397): The engine latches all coarse values into a buffer. -/
  | anaCoarseRead (ring : Fin 64) (tag : Fin 1024) (values : Vector (BitVec 12) 16)
  /-- FIELD_SAMPLE_INSTANT (R406): At 122 µs the engine latches field levels and writes the field item arrival. -/
  | fieldSampleInstant (sense : BitVec 8)
  /-- OVERLOAD (R411): A field output exceeds its limit for 2 ms and may be latched off. -/
  | overload (chan : FldId) (begins : Bool)
  /-- OVER_TEMPERATURE_SWITCH (R412): A switch's thermal shutdown holds it open. -/
  | overTemperatureSwitch (chan : FldId) (hot : Bool)
  /-- OPEN_WIRE (R413): An open-wire condition holds for 160 ticks. -/
  | openWire (chan : FldId) (onState : Bool) (reading : Nat)
  /-- EXTERNALLY_DRIVEN (R413): An off channel's pin stays above 11 V for 160 ticks. -/
  | externallyDriven (chan : FldId) (reading : Nat)
  /-- BASELINE_TRACK (R414): Every 8 000 ticks the engine moves BASE towards the mean current. -/
  | baselineTrack (chan : FldId) (mean : Nat)
  /-- GROUP_OVERLOAD (R415): A group's output currents exceed 3 A for 10 ms. -/
  | groupOverload (group : Fin 6) (begins : Bool)
  /-- GROUP_SUPPLY_LOW (R415): A group supply stays below 16.8 V for 1 ms. -/
  | groupSupplyLow (group : Fin 6)
  /-- VO_COLUMN_TEST (R422): The engine opens one column of an on output for 10 µs to test its elements. -/
  | voColumnTest (vo : VoId) (lane : LaneId) (closedShown openShown : Bool) (current : Nat)
  /-- VO_READBACK_FAULT (R423): Matrix state and VO_SENSE disagree for 1 ms. -/
  | voReadbackFault (vo : VoId) (sense : Bool)
  /-- FLD_VO_CLR (R423): A committed 1 clears VO_FAULT and STUCK of a voted output. -/
  | fldVoClr (mask : BitVec 8)
  /-- FLD_BASE_WRITE (R414): A committed write sets BASE and LEARNED of a channel. -/
  | fldBaseWrite (chan : FldId) (base : BitVec 12)
  /-- FLD_OUT_SET (R429): The engine sets field output channels now or at the release tick. -/
  | fldOutSet (ring : Fin 64) (tag : Fin 1024)
  /-- VO_SET (R429): The engine sets the committed commands of voted outputs. -/
  | voSet (ring : Fin 64) (tag : Fin 1024)
  /-- FLD_DIAG_READ (R430): The engine measures a channel group and writes its diagnostics. -/
  | fldDiagRead (ring : Fin 64) (tag : Fin 1024) (readings : List ChanDiag) (start : DWord)
  /-- FLD_BASELINE_LEARN (R431): The engine averages channel currents to learn open-wire baselines. -/
  | fldBaselineLearn (ring : Fin 64) (tag : Fin 1024)
  /-- CFM_SET (R429): The engine sets expected states of feedback monitors. -/
  | cfmSet (ring : Fin 64) (tag : Fin 1024)
  /-- CLASP_FRAME (R439): The Clasp frame is arbitrated and each module decides whether it wins. -/
  | claspFrame (lineA lineB : LineRead)
  /-- PAIR_LINK_MESSAGE (R455): A status message from the partner arrives over the pair link. -/
  | pairLinkMessage (msg : PairMsg)
  /-- PAIR_LINK_DOWN (R455): No valid pair-link message for 8 ticks. -/
  | pairLinkDown
  /-- CLASP_LISTEN (R443): A module with active configuration, voter and locked time enters LISTEN. -/
  | claspListen
  /-- PARTNER_ABSENT (R443): The partner is absent for WAIT_TICKS and the module contends alone. -/
  | partnerAbsent
  /-- CHECKPOINT_ROUND_END (R453): A checkpoint copy round over the pair link ends. -/
  | checkpointRoundEnd (writes : List (Nat × Byte)) (began : Nat) (final : Option (TaskId × Nat))
  /-- CHECKPOINT_TASK_JOIN (R453): A task of the joining module joins and its digest is confirmed. -/
  | checkpointTaskJoin (task : TaskId) (digest : DWord) (motion : PairMotion)
  /-- CHECKPOINT_FAILED (R454): A checkpoint attempt fails and the module returns to LISTEN. -/
  | checkpointFailed (why : JoinEnd)
  /-- CHECKPOINT_RETRY (R454): After 10 s in LISTEN the module tries again. -/
  | checkpointRetry
  /-- YIELD (R445): A committed CLS_CTRL.YIELD hands the outputs to the standby partner. -/
  | yield
  /-- RESYNC (R443): A committed CLS_CTRL.RESYNC rebuilds the standby by a checkpoint. -/
  | resync
  /-- FLUSH (R466): A trigger starts a flush of every staged record to NAND. -/
  | flush
  /-- FLUSH_END (R466): A flush ends and a pending trigger starts the next. -/
  | flushEnd (ok : Bool)
  /-- REC_FLUSH_WRITE (R466): A commit of REC_CTRL.FLUSH triggers a flush. -/
  | recFlushWrite
  /-- RECORDER_START (R468): The recorder engine checks for lost records and stages the START record. -/
  | recorderStart
  /-- REC_WRITE (R473): The recorder stages an application record. -/
  | recWrite (ring : Fin 64) (tag : Fin 1024)
  /-- REC_READ (R474): The recorder returns records by sequence number. -/
  | recRead (ring : Fin 64) (tag : Fin 1024) (bad : List Nat)
  /-- HELLO (R512): Opens a Utmus session and returns its nonce. -/
  | hello (req : UtmusReq)
  /-- IDENTIFY (R512): Returns identity data, MAC addresses and certificate. -/
  | identify (req : UtmusReq)
  /-- STATUS (R512): Returns CFG, SIG, VOT, CLS and PWR status words. -/
  | status (req : UtmusReq)
  /-- UTMUS_REC_READ (R512): Reads recorder records for the maintainer. -/
  | utmusRecRead (req : UtmusReq) (bad : List Nat)
  /-- ATTEST (R515): Returns a signed attestation for the given nonce. -/
  | attest (req : UtmusReq)
  /-- LOAD_BEGIN (R512): Opens a transfer into update staging. -/
  | loadBegin (req : UtmusReq)
  /-- CHUNK (R510): Delivers the next part of an open transfer. -/
  | chunk (req : UtmusReq)
  /-- ACTIVATE (R491): Activates a configuration slot and requests a software reset. -/
  | activate (req : UtmusReq)
  /-- REVERT (R493): Makes the PREVIOUS configuration ACTIVE. -/
  | revert (req : UtmusReq)
  /-- SLOT_ERASE (R512): Empties a configuration slot. -/
  | slotErase (req : UtmusReq)
  /-- SWAP_LOAD (R203): Loads a swap image into the program shadow. -/
  | swapLoad (req : UtmusReq)
  /-- SWAP (R203): Stops the program and converts instance data to the new image. -/
  | swap (req : UtmusReq)
  /-- SWAP_COMMIT (R203): Commits the trial code and discards the old. -/
  | swapCommit (req : UtmusReq)
  /-- SWAP_REVERT (R203): Returns to the old code and data. -/
  | swapRevert (req : UtmusReq)
  /-- FW_INSTALL (R498): Installs verified firmware into a bank. -/
  | fwInstall (req : UtmusReq)
  /-- FW_TRIAL (R498): Puts the installed bank on trial and resets. -/
  | fwTrial (req : UtmusReq)
  /-- FW_COMMIT (R499): Commits the trial bank and advances the security counter. -/
  | fwCommit (req : UtmusReq)
  /-- FW_ROLLBACK (R498): Ends a firmware trial. -/
  | fwRollback (req : UtmusReq)
  /-- PROGRAM_STOP (R176): The maintainer stops the cyclic program. -/
  | programStop (req : UtmusReq)
  /-- PROGRAM_START (R175): The maintainer starts the cyclic program. -/
  | programStart (req : UtmusReq)
  /-- LANE_RELEASE (R136): Ends a lane's hold-out so re-integration can follow. -/
  | laneRelease (req : UtmusReq)
  /-- ONLINE_CHANGE (R199): Submits an online change of parameter values. -/
  | onlineChange (req : UtmusReq)
  /-- UCAL_WRITE (R505): The maintainer stores or erases user calibration entries. -/
  | ucalWrite (req : UtmusReq)
  /-- RESTORE_FACTORY (R507): Erases the user calibration. -/
  | restoreFactory (req : UtmusReq)
  /-- REC_FORMAT (R471): Formats the recorder and stages the FORMAT record. -/
  | recFormat (req : UtmusReq)
  /-- RELINQUISH (R487): Takes the module from OWNED to RETURNED. -/
  | relinquish (req : UtmusReq)
  /-- RETIRE (R487): Retires the module permanently. -/
  | retire (req : UtmusReq)
  /-- PROVISION (R487): Provisions a blank module and generates its identity. -/
  | provision (req : UtmusReq)
  /-- ENROL (R487): Enrols a new owner key. -/
  | enrol (req : UtmusReq)
  /-- VENDOR_REVOKE (R485): Revokes a vendor key slot. -/
  | vendorRevoke (req : UtmusReq)
  /-- SESSION_TIMEOUT (R510): A Utmus session ends after 300 s without a request. -/
  | sessionTimeout
  /-- UCAL_STORE (R505): A committed CFG_UCAL_CMD.OP of 1 stores a user calibration entry. -/
  | ucalStore
  /-- UCAL_ERASE (R505): A committed CFG_UCAL_CMD.OP of 2 erases a user calibration entry. -/
  | ucalErase
  /-- UCAL_WRITE_DONE (R505): Signet finishes a user calibration write. -/
  | ucalWriteDone
  /-- SIG_HASH (R514): Signet computes a SHAKE256 digest of a buffer. -/
  | sigHash (ring : Fin 64) (tag : Fin 1024)
  /-- SIG_RANDOM (R514): Signet delivers random bytes as an item arrival. -/
  | sigRandom (ring : Fin 64) (tag : Fin 1024)
  /-- SIG_ATTEST (R515): Signet signs an attestation and delivers it as an item arrival. -/
  | sigAttest (ring : Fin 64) (tag : Fin 1024)
  /-- SIG_VERIFY (R483): Signet verifies a container. -/
  | sigVerify (ring : Fin 64) (tag : Fin 1024)
  /-- RANDOM_SOURCE_FAILED (R481): A health test of the entropy source fails. -/
  | randomSourceFailed
  /-- POWER_WARNING (R521): V_IN falls below the warning level for 50 µs. -/
  | powerWarning (vin : BitVec 12) (vstore : BitVec 13)
  /-- POWER_RECOVERED (R522): V_IN stays above the recovery level for 1 ms and WARN clears. -/
  | powerRecovered (vin : BitVec 12) (vstore : BitVec 13) (us : Nat)
  /-- POWER_FAIL_SHUTDOWN (R523): V_STORE falls below the shutdown level and the shutdown runs. -/
  | powerFailShutdown (vin : BitVec 12) (vstore : BitVec 13)
  /-- CONVERTERS_OFF (R523): Flushes and writes have ended or V_STORE reaches the off level. -/
  | convertersOff (vstore : BitVec 13)
  /-- OVER_VOLTAGE (R519): V_IN above 38 V for 10 µs disconnects the input. -/
  | overVoltage
  /-- POWER_ON_RESET (R525): Supply applied, shutdown ended or a rail fails. -/
  | powerOnReset (why : PowerOn)
  /-- POWER_ON_RESET_RELEASE (R530): Phase 1 ends, time starts counting and the start-up phases run. -/
  | powerOnResetRelease (vin : BitVec 12) (vstore : BitVec 13) (waited : Bool) (elapsed : Nat) (vNow : Vector Nat 3)
  /-- EXTERNAL_MODULE_RESET (R525): XRST_N held low for 10 µs resets the module. -/
  | externalModuleReset
  /-- SUPERVISOR_WATCHDOG (R528): The supervisor has not served its watchdog for 8 ms. -/
  | supervisorWatchdog
  /-- ENGINE_HEARTBEAT_LOST (R527): An engine core's heartbeat is missing for 16 ticks. -/
  | engineHeartbeatLost (core : Fin 4)
  /-- ENGINE_RESTART_END (R527): A reset engine core has restarted and its operations complete with 16#08. -/
  | engineRestartEnd (core : Fin 4)
  /-- SUP_HEALTH_READ (R543): The supervisor writes monitor and AVS state as an item arrival. -/
  | supHealthRead (ring : Fin 64) (tag : Fin 1024)
  /-- SUP_STATE_REQ (R532): The application requests a low-power state. -/
  | supStateReq (ring : Fin 64) (tag : Fin 1024)
  /-- LOW_POWER_ENTRY (R533): Sixteen ticks after acceptance the module enters the requested state. -/
  | lowPowerEntry
  /-- WAKE (R535): An enabled wake source ends a low-power state. -/
  | wake (source : WakeSrc) (elapsed : Nat)
  /-- RAIL_OUT_OF_WINDOW (R539): A rail stays outside its window for 10 µs. -/
  | railOutOfWindow (rail : Fin 14) (value : BitVec 16)
  /-- TEMPERATURE_WARNING (R540): A sensor reading passes its warning limit. -/
  | temperatureWarning (sensor : Fin 12) (value : Int)
  /-- OVER_TEMPERATURE (R540): A sensor reading passes its rated limit. -/
  | overTemperature (sensor : Fin 12) (value : Int)
  /-- AVS_STEP (R541): Once per 8 000 ticks the AVS loop adjusts voltage or frequency. -/
  | avsStep (lane : LaneId)
  /-- AGEING_STEP (R542): Once per day AGE_MV is recorded and each 5 mV rise reported. -/
  | ageingStep (lane : LaneId) (vNow : Nat)
  /-- DOMAIN_CLOCK_LOST (R554): A monitored clock falls outside its window. -/
  | domainClockLost (domain : Fin 16) (onBus : Option (Fin 64 × Fin 1024 × Nat)) (posted : Bool)
  /-- DOMAIN_CLOCK_RESTORED (R558): A lost clock is good for 10 windows and its crossings are reset. -/
  | domainClockRestored (domain : Fin 16)
  /-- FABRIC_CLOCK_LOST (R555): The watchdog domain sees no fabric edge and holds the module safe in reset. -/
  | fabricClockLost
  /-- CROSSING_STALLED (R557): A crossing's acknowledge is not taken within 4 µs. -/
  | crossingStalled (domain : Fin 16) (events counts : Nat)
  /-- REFERENCE_DRIFT (R556): TCXO and Bezel clock differ by more than 50 ppm over 8 000 ticks. -/
  | referenceDrift
  /-- SYS_XCLR (R558): A committed 1 clears the sticky crossing flags of a domain. -/
  | sysXclr (mask : BitVec 16)
  /-- PIN_CLR (R572): A committed 1 clears PIN_LATCH of the SYS_FAULT pin. -/
  | pinClr
  /-- REGISTER_WRITE (R16): A write to a register field without behaviour of its own sets or proposes its value. -/
  | registerWrite (lane : LaneId) (addr : Nat) (data : List Byte)
  /-- LOAD_END_COMMAND (R512): The Utmus LOAD_END command verifies the transferred container under R483 and stores it by TYPE. -/
  | loadEndCommand (req : UtmusReq)
  /-- ZERO_TAG_ERROR (R98): A parity error in the zero-tag memory is a zero-tag finding that forces the lane to SAFE. -/
  | zeroTagError (lane : LaneId) (task : TaskId)
  /-- CODE_GROUP_SYNC_LOST (R211): A port loses code-group sync after 4 invalid code groups within 32, counts SYNC_LOSS and starts the 8 µs regain timer of R215. -/
  | codeGroupSyncLost (chan : ChanId) (port : PortId)
  /-- BP_RST_END (R320): Backplane bus reset ends and the Col bridge serves the operations held while it lasted. -/
  | bpRstEnd
  /-- FIELD_INPUT_LEVEL_CHANGE (R405): A field channel's raw level holds a new value for 10 × FILT samples and its filtered level changes and is marked CHANGED. -/
  | fieldInputLevelChange (chan : FldId) (level : Bool)
  /-- CONNECTION_CLOSED (R510): The Utmus TCP connection closes and its session ends. -/
  | connectionClosed
  /-- GROUP_SUPPLY_RESTORED (R415): FLD_SUP[g] rises above 17.5 V, the supply-low flag clears and the suspended tests of the group resume. -/
  | groupSupplyRestored (group : Fin 6)
deriving DecidableEq, Repr

end Sys2Proof
end

