-- ==== Sys2Proof/Decode.lean ====
section
/-!
DEFINITION. The opcode table gives no row any bits: a command is a happening, not a word. So no word spells a command.
-/

namespace Sys2Proof

/-- The command that a word of a number of bits spells by the opcode table: none, since no row has bits. -/
def decodeTableWord (_nbits _w : Nat) : Option Instr := none

end Sys2Proof
end

