-- ==== Sys2Proof/Machine/State.lean ====
section
/-!
DEFINITION. The state of the module, its stops, and the state after reset. Every field's default is its value after a
power-on reset (R19, R529); `State.reset` is the module held in its power-on reset, before POWER_ON_RESET_RELEASE (R530).
-/

namespace Sys2Proof.Machine

/-- Why the model stops with a fault. -/
inductive Fault
  /-- A lane's register access that is misaligned, of another width, or outside the register blocks: the issuing core takes an
  access-fault exception (R34, R36), and what its lane runtime does then is its own program. Raised by REGISTER_WRITE. Safe: nothing
  follows. -/
  | accessFault (addr : Nat)
deriving DecidableEq, Repr

/-- Why the model refuses a command. -/
inductive Refusal
  /-- The command has no meaning yet. Raised by a dispatch arm only. Safe: nothing follows. -/
  | notModelled (mnemonic : String)
deriving DecidableEq, Repr

/-- The state of the module. -/
structure State where
  otp : Otp := {}
  /-- Exchange memory by offset, 16 MiB (R24, R34). -/
  mem : Mem := []
  tim : Tim := {}
  rcd : Recorder := {}
  flt : FaultRep := {}
  lanes : Vector Lane 3 := Vector.replicate 3 {}
  vot : Voter := {}
  rng : Rings := {}
  cyc : Cyc := {}
  stra : Stra := {}
  eth : Eth := {}
  mvb : Mvb := {}
  col : Col := {}
  chk : Chk := {}
  mot : MotUnit := {}
  ana : Ana := {}
  fld : Fld := {}
  cls : Clasp := {}
  pwr : Power := {}
  trust : Trust := {}
  cross : Cross := {}
  /-- The active configuration's settings (R491). -/
  cfg : Cfg := {}
  /-- The running application image. -/
  image : AppImage := {}
  /-- VRW fields of shared blocks: committed words by lane address, where they differ from reset (R18). -/
  regs : Table Word := []
  /-- Draws made from the module's random source; the model's own counter (log 4). -/
  draws : Nat := 0
  /-- Commands that wait, first in first out. -/
  pending : List Instr := []
deriving DecidableEq, Repr

/-- The module right after reset: every field at its reset value, no command waiting. -/
def State.reset : State := {}

end Sys2Proof.Machine
end

