-- ==== Sys2Proof/Machine/Regs.lean ====
section
/-!
DEFINITION. The lane address map (R34, R37), the writable registers with their reset words and writable bits (R16, R19
and the register table of each block), and reading and writing their words. Rings 0 to 61 keep their registers in
`Ring` (R168, R169); the read-only fields are typed fields of the state.
-/

namespace Sys2Proof.Machine

/-- Base of register block `b` of R37. -/
def blockBase (b : Nat) : Nat := 0x0200000000 + b * 0x10000

/-- Base of a block's registers by name (R37). -/
def SYS : Nat := blockBase 0
/-- TIM block (R37). -/
def TIM : Nat := blockBase 1
/-- VOT block (R37). -/
def VOT : Nat := blockBase 2
/-- RNG block (R37). -/
def RNG : Nat := blockBase 3
/-- LANE block, lane-private (R37). -/
def LANE : Nat := blockBase 4
/-- STRA or STRB block of a channel (R37). -/
def STR (ch : ChanId) : Nat := blockBase (5 + ch.val)
/-- ETH block (R37). -/
def ETH : Nat := blockBase 7
/-- MVB block (R37). -/
def MVB : Nat := blockBase 8
/-- COL block (R37). -/
def COL : Nat := blockBase 9
/-- CHK block (R37). -/
def CHK : Nat := blockBase 10
/-- MOT block, lane-private (R37). -/
def MOT : Nat := blockBase 11
/-- ANA block (R37). -/
def ANA : Nat := blockBase 12
/-- FLD block (R37). -/
def FLD : Nat := blockBase 13
/-- CLS block (R37). -/
def CLS : Nat := blockBase 14
/-- REC block (R37). -/
def REC : Nat := blockBase 15
/-- CFG block (R37). -/
def CFG : Nat := blockBase 16
/-- SIG block (R37). -/
def SIG : Nat := blockBase 17
/-- PWR block (R37). -/
def PWR : Nat := blockBase 18

/-- Base of exchange memory (R34). -/
def exchangeBase : Nat := 0x0100000000
/-- Size of exchange memory, 16 MiB (R24). -/
def exchangeSize : Nat := 0x1000000

/-- Is the address in exchange memory (R34)? -/
def inExchange (a : Nat) : Bool := exchangeBase ≤ a && a < exchangeBase + exchangeSize

/-- Is the address in a register block (R34)? -/
def inRegisters (a : Nat) : Bool := 0x0200000000 ≤ a && a < 0x0200130000

/-- Is the address in a backplane window (R34, R38)? -/
def inWindows (a : Nat) : Bool := 0x0300000000 ≤ a && a < 0x0400000000

/-- Is the address in the core-private image (R34)? -/
def inImage (a : Nat) : Bool := a < 0x80000000

/-- Who writes a register and through what (R16). -/
inductive RegAccess | vrw | rw
deriving DecidableEq, Repr

/-- A row of the writable registers: first address, instances, distance, access, writable bits and reset word. -/
structure RegRow where
  base : Nat
  count : Nat
  stride : Nat
  access : RegAccess
  mask : Nat
  reset : Nat
deriving DecidableEq, Repr

/-- Writable registers of TIM, VOT and RNG (R75, R138, R168). -/
def regRows1 : List RegRow :=
  [ ⟨TIM + 0x4, 1, 4, .vrw, 0x1, 0⟩,
    ⟨TIM + 0x8, 1, 4, .vrw, 0xFFFFF, 1000⟩,
    ⟨TIM + 0xC, 1, 4, .vrw, 0xFFFFFFFF, 0x84140A62⟩,
    ⟨VOT + 0x4, 1, 4, .vrw, 0x7F, 8⟩,
    ⟨VOT + 0x8, 1, 4, .vrw, 0x3FF, 125⟩,
    ⟨VOT + 0x64, 1, 4, .vrw, 0xFFFFFFFF, 0⟩,
    ⟨RNG + 0x100, 9, 8, .vrw, 0x7F, 100⟩ ]

/-- Writable registers of LANE (R105). -/
def regRows2 : List RegRow :=
  [ ⟨LANE + 0x8, 1, 4, .rw, 0x2, 0x2⟩,
    ⟨LANE + 0xC, 1, 4, .rw, 0x1FF, 50⟩,
    ⟨LANE + 0x38, 1, 4, .rw, 0xFF, 64⟩,
    ⟨LANE + 0x40, 1, 4, .rw, 0x1FF, 0x1FF⟩,
    ⟨LANE + 0x100, 16, 8, .rw, 0x1FFF0FFF, 0⟩,
    ⟨LANE + 0x104, 16, 8, .rw, 0x07FF03FF, 0⟩ ]

/-- Writable registers of STRA and STRB (R238, R272). -/
def regRows3 : List RegRow :=
  [ ⟨STR 0, 2, 0x10000, .vrw, 0x00FF017F, 0x00140100⟩,
    ⟨STR 0 + 0x100, 2, 0x10000, .vrw, 0x3, 0x1⟩,
    ⟨STR 0 + 0x140, 2, 0x10000, .vrw, 0x3, 0x1⟩,
    ⟨STR 0 + 0x1000, 1, 0x10000, .vrw, 0x00FF0F1F, 0x00100810⟩,
    ⟨STR 0 + 0x1028, 2, 0x10000, .vrw, 0x1, 0⟩,
    ⟨STR 0 + 0x1030, 2, 0x10000, .rw, 0xFFF, 0⟩ ]

/-- Writable registers of ETH, MVB, COL and CHK (R294, R322, R343). -/
def regRows4 : List RegRow :=
  [ ⟨ETH, 1, 4, .vrw, 0xFFFF, 1000⟩,
    ⟨ETH + 0x100, 2, 0x40, .vrw, 0x000FF7FD, 0x00080001⟩,
    ⟨ETH + 0x108, 2, 0x40, .vrw, 0xFFFFFFFF, 0⟩,
    ⟨MVB, 1, 4, .vrw, 0x03FFFFF3, 0⟩,
    ⟨COL, 1, 4, .vrw, 0x3FF, 20⟩,
    ⟨COL + 0x8, 1, 4, .vrw, 0xFFF00001, 0⟩,
    ⟨COL + 0x30, 1, 4, .rw, 0x3FFF, 0⟩,
    ⟨COL + 0x100, 16, 8, .vrw, 0xF0FF00FF, 0x00400004⟩,
    ⟨CHK + 0x10, 1, 4, .rw, 0x7FF, 0⟩ ]

/-- Writable registers of MOT and ANA (R375, R401). -/
def regRows5 : List RegRow :=
  [ ⟨MOT + 0x4, 1, 4, .rw, 0xFFFFFFFF, 0⟩,
    ⟨MOT + 0x18, 1, 4, .rw, 0x3F, 0⟩,
    ⟨ANA + 0x4, 1, 4, .vrw, 0x3, 0⟩,
    ⟨ANA + 0x110, 16, 0x20, .vrw, 0x8FFF0FFF, 0x07FF0800⟩ ]

/-- Writable registers of FLD, CLS, REC, CFG and SYS (R434, R458, R477, R518, R561, R575). FLD_BASE[n].BASE is held
with its channel. -/
def regRows6 : List RegRow :=
  [ ⟨FLD + 0x1C, 1, 4, .vrw, 0xFF, 0⟩,
    ⟨CLS + 0xC, 1, 4, .vrw, 0xFF00, 0⟩,
    ⟨CLS + 0x10, 1, 4, .vrw, 0x3, 0⟩,
    ⟨REC + 0x4, 1, 4, .vrw, 0x1, 0⟩,
    ⟨CFG + 0x40, 1, 4, .vrw, 0xFFFFF, 0⟩,
    ⟨CFG + 0x44, 1, 4, .vrw, 0xFFFFFFFF, 0⟩,
    ⟨CFG + 0x48, 1, 4, .vrw, 0xFFFFFFFF, 0⟩,
    ⟨CFG + 0x4C, 1, 4, .vrw, 0x3, 0⟩,
    ⟨SYS + 0x104, 1, 4, .vrw, 0xFFFE, 0⟩,
    ⟨SYS + 0x208, 1, 4, .vrw, 0x1, 0⟩,
    ⟨SYS + 0x210, 1, 4, .rw, 0xFFFF, 0⟩ ]

/-- Writable registers of CHK units (R323) and PWR (R540, R545). -/
def regRows7 : List RegRow :=
  [ ⟨CHK + 0x100, 1, 8, .vrw, 0x7, 2⟩, ⟨CHK + 0x108, 1, 8, .vrw, 0x7, 3⟩, ⟨CHK + 0x110, 1, 8, .vrw, 0x7, 4⟩,
    ⟨CHK + 0x118, 1, 8, .vrw, 0x7, 5⟩, ⟨CHK + 0x120, 1, 8, .vrw, 0x7, 6⟩, ⟨CHK + 0x128, 2, 8, .vrw, 0x7, 1⟩,
    ⟨CHK + 0x138, 9, 8, .vrw, 0x7, 0⟩,
    ⟨PWR + 0x14, 1, 4, .vrw, 0xFF1F, 0x1⟩,
    ⟨PWR + 0x100, 5, 4, .vrw, 0xFF0000, 100 * 65536⟩, ⟨PWR + 0x114, 2, 4, .vrw, 0xFF0000, 85 * 65536⟩,
    ⟨PWR + 0x11C, 1, 4, .vrw, 0xFF0000, 100 * 65536⟩, ⟨PWR + 0x120, 1, 4, .vrw, 0xFF0000, 80 * 65536⟩,
    ⟨PWR + 0x124, 2, 4, .vrw, 0xFF0000, 110 * 65536⟩, ⟨PWR + 0x12C, 1, 4, .vrw, 0xFF0000, 75 * 65536⟩ ]

/-- The writable registers whose words are kept by address. -/
def regRows : List RegRow :=
  regRows1 ++ regRows2 ++ regRows3 ++ regRows4 ++ regRows5 ++ regRows6 ++ regRows7

/-- Does a row hold the register at an address? -/
def RegRow.holds (r : RegRow) (a : Nat) : Bool :=
  r.base ≤ a && (a - r.base) % r.stride == 0 && (a - r.base) / r.stride < r.count

/-- The row of the register at an address. -/
def regRow? (a : Nat) : Option RegRow := regRows.find? (fun r => r.holds a)

/-- The reset word of the register at an address (R19); zero where no register stands (R36). -/
def regReset (a : Nat) : Word :=
  match regRow? a with
  | some r => BitVec.ofNat 32 r.reset
  | none => 0

/-- The committed word of a shared register (R16, R18). -/
def regGet (s : State) (a : Nat) : Word := tgetD s.regs a (regReset a)

/-- A shared register's word set; the reset word leaves the register unlisted. -/
def regSet (s : State) (a : Nat) (w : Word) : State := { s with regs := tsetD s.regs a w (regReset a) }

/-- A field of a shared register. -/
def regField (s : State) (a lo w : Nat) : Nat := field (regGet s a).toNat lo w

/-- A shared register with one field replaced. -/
def regPut (s : State) (a lo w v : Nat) : State :=
  let old := (regGet s a).toNat
  regSet s a (BitVec.ofNat 32 (old - place (field old lo w) lo w + place v lo w))

/-- A lane's word of a lane-private register or of an RW field of a shared block (R16, R37). -/
def Lane.reg (L : Lane) (a : Nat) : Word := tgetD L.regs a (regReset a)

/-- A lane's register word set. -/
def Lane.regSet (L : Lane) (a : Nat) (w : Word) : Lane := { L with regs := tsetD L.regs a w (regReset a) }

/-- A field of a lane's register. -/
def Lane.regField (L : Lane) (a lo w : Nat) : Nat := field (L.reg a).toNat lo w

/-- A lane of the module. -/
def State.lane (s : State) (l : LaneId) : Lane := vget s.lanes l

/-- The module with one lane changed. -/
def State.modLane (s : State) (l : LaneId) (f : Lane → Lane) : State := { s with lanes := vmod s.lanes l f }

/-- The module with every lane changed. -/
def State.modLanes (s : State) (f : Lane → Lane) : State := { s with lanes := s.lanes.map f }

/-- The module with one core of a lane changed. -/
def State.modCore (s : State) (l : LaneId) (c : CoreId) (f : Core → Core) : State :=
  s.modLane l (fun L => { L with cores := vmod L.cores c f })

/-- The module with one ring changed. -/
def State.modRing (s : State) (r : Fin 64) (f : Ring → Ring) : State :=
  { s with rng := { s.rng with ring := vmod s.rng.ring r f } }

/-- A ring of the module. -/
def State.ringAt (s : State) (r : Fin 64) : Ring := vget s.rng.ring r

/-- The module with one task's counts changed. -/
def State.modTask (s : State) (t : TaskId) (f : TaskSt → TaskSt) : State :=
  { s with cyc := { s.cyc with tasks := vmod s.cyc.tasks t f } }

/-- All lanes, in order. -/
def allLanes : List LaneId := [0, 1, 2]

/-- All tasks, in order. -/
def allTasks : List TaskId := [0, 1, 2, 3, 4, 5, 6, 7, 8, 9, 10, 11, 12, 13, 14, 15]

end Sys2Proof.Machine
end

