-- ==== Sys2Proof/Machine/Ops.lean ====
section
/-!
DEFINITION. The operations every chapter shares: readings of module time (R42 to R49), requests for records and the end of
a fabric cycle (R461 to R466), reports and their configured reactions (R562 to R570), interrupt sources (R85), completion
entries (R153, R154), stopping the program (R176), a lane's safe state (R100), the counted set (R120, R122) and the module
fault (R121).
-/

namespace Sys2Proof.Machine

/-! ## Time -/

/-- One nanosecond in units of the module time counter (R54). -/
def nsUnits : Nat := 2 ^ 40

/-- One tick of 125 µs (R49). -/
def tickUnits : Nat := 125000 * nsUnits

/-- One second. -/
def secUnits : Nat := 1000000000 * nsUnits

/-- One millisecond. -/
def msUnits : Nat := 1000000 * nsUnits

/-- The number of the tick module time stands in (R49). -/
def State.tick (s : State) : Nat := s.tim.now / tickUnits

/-- The compact tick of a tick number (R46). -/
def compactTick (n : Nat) : Nat := n % 2 ^ 32

/-- The compact timestamp of a module time (R45). -/
def compactTs (t : Nat) : DWord := BitVec.ofNat 64 (t / 2 ^ 24)

/-- A time value's 16 bytes (R42). -/
def timeBytes (t : Nat) : List Byte :=
  leBytes 2 (t % nsUnits / 2 ^ 24) ++ leBytes 4 (t / nsUnits % 1000000000) ++ leBytes 6 (t / secUnits) ++ zeros 4

/-- TIM_STATUS.STATE as bits (R75). -/
def TimState.code : TimState → Nat
  | .unset => 0 | .acquiring => 1 | .locked => 2 | .holdover => 3 | .master => 4

/-- VOT_STATUS.MODE as bits (R138). -/
def VotMode.code : VotMode → Nat
  | .init => 0 | .triple => 1 | .dual => 2 | .safe => 3

/-- CLS_STATUS.ROLE as bits (R458). -/
def ClsRole.code : ClsRole → Nat
  | .none => 0 | .listen => 1 | .contend => 2 | .join => 3 | .standby => 4 | .active => 5 | .withdrawn => 6

/-- LANE_STATUS.STATE as bits (R105). -/
def LaneState.code : LaneState → Nat
  | .off => 0 | .loading => 1 | .sweep => 2 | .ready => 3 | .running => 4 | .safe => 5

/-! ## Interrupt sources -/

/-- Makes a source of R85 pending in a lane. -/
def Lane.raise (L : Lane) (b : Nat) : Lane := { L with irqPend := L.irqPend ||| BitVec.ofNat 9 (2 ^ b) }

/-- Makes a source of R85 pending in every lane. -/
def raiseAll (b : Nat) (s : State) : State := s.modLanes (fun L => L.raise b)

/-! ## Records -/

/-- Requests a record in this fabric cycle (R461). -/
def requestRecord (r : RecReq) (s : State) : State := { s with rcd := { s.rcd with cycle := s.rcd.cycle ++ [r] } }

/-- The place of a record among those of one fabric cycle (R462): its class, then CODE or ORIGIN. -/
def RecReq.rank (r : RecReq) : Nat :=
  match r.kind with
  | .fault => r.code
  | .loss => 65536
  | .format => 65537
  | .start => 65538
  | .anchor => 65539
  | .app => 65540 + r.origin
  | .unreadable => 65560

/-- Inserts a request behind every one of no higher rank. -/
def insertRank (r : RecReq) : List RecReq → List RecReq
  | [] => [r]
  | x :: xs => if r.rank < x.rank then r :: x :: xs else x :: insertRank r xs

/-- The requests of a fabric cycle in the order of R462. -/
def sortRequests (rs : List RecReq) : List RecReq := rs.foldl (fun acc r => insertRank r acc) []

/-- The ANCHOR record of this moment (R460). -/
def anchorRecord (s : State) : RecReq :=
  { kind := .anchor, origin := 14,
    data := timeBytes s.tim.now ++ leBytes 8 s.tick ++ leBytes 1 s.tim.state.code ++ leBytes 1 s.vot.mode.code
      ++ leBytes 1 s.cls.role.code ++ zeros 1 ++ leBytes 4 s.cls.epoch.toNat ++ leBytes 4 s.trust.actCnt.toNat }

/-- Sets what a started operation of a ring has come to (R153). -/
def opDone (r : Fin 64) (tag status ra rb : Nat) (s : State) : State :=
  s.modRing r (fun R =>
    { R with ops := R.ops.map (fun o =>
        if o.desc.tag = tag ∧ o.stage = .running then { o with stage := .done status ra rb } else o) })

/-- The fault classes whose report comes with a fixed effect (R573). -/
def fixedEffectCodes : List Nat :=
  [0x1401, 0x1402, 0x1403, 0x1404, 0x1405, 0x1406, 0x1407, 0x1408, 0x0C02, 0x0C03, 0x0C04, 0x0C05, 0x0C06, 0x0C08,
   0x0C09, 0x0C0A, 0x0C0B, 0x0C0C, 0x0503, 0x0504, 0x0505, 0x0506, 0x0508, 0x050C, 0x0605, 0x1006, 0x1007, 0x1008,
   0x1009, 0x100C, 0x1802, 0x1C02, 0x1814, 0x1815, 0x181C, 0x1C1C, 0x181D, 0x1C1D, 0x2809, 0x2C06, 0x3001, 0x3002,
   0x3801, 0x3C04, 0x3C05, 0x3C06, 0x3C07, 0x3C0A, 0x4401, 0x4404, 0x4802, 0x4809, 0x480A, 0x4C03, 0x4C04, 0x4C0C]

/-- Does a FAULT record of the class trigger a flush when it enters staging (R466)? -/
def flushesOn (s : State) (code : Nat) : Bool :=
  fixedEffectCodes.contains code || (tget? s.cfg.flt.reactions code).isSome || s.cfg.flt.flushCodes.contains code

/-- Enters the number of a FAULT record into the fault item's running period (R567). -/
def FaultRep.noteSeq (f : FaultRep) (code seq : Nat) : FaultRep :=
  { f with
    itemFirstSeq := if f.itemFirstSeq = 0 then seq else f.itemFirstSeq,
    itemEntries := f.itemEntries.map (fun e => if e.code = code ∧ e.seq = 0 then { e with seq := seq } else e) }

/-- Staging capacity (R463). -/
def stagingCap : Nat := 4096

/-- Stages one record: it takes the next number, or it is lost when staging is full (R461, R464). -/
def stageRecord (s : State) (r : RecReq) : State :=
  if s.rcd.staged.length < stagingCap then
    let seq := s.rcd.next
    let entry : Record := ⟨seq, { r with wait := none }⟩
    let rcd : Recorder := { s.rcd with next := seq + 1, staged := s.rcd.staged ++ [entry] }
    let trig := stagingCap / 2 ≤ rcd.staged.length || (r.kind == .fault && flushesOn s r.code)
    let s1 := { s with rcd := { rcd with flushPend := rcd.flushPend || trig } }
    let s2 := if r.kind = .fault then { s1 with flt := s1.flt.noteSeq r.code seq } else s1
    match r.wait with
    | some (ring, tag) => opDone (Fin.ofNat 64 ring) tag 0 0 seq s2
    | none => s2
  else
    { s with rcd := { s.rcd with losing := true, losingCount := s.rcd.losingCount + 1, lostCnt := s.rcd.lostCnt + 1 } }

/-! ## Reports -/

/-- A fault code (R562). -/
def faultCode (block offset : Nat) : Nat := 0x400 * (block + 1) + offset

/-- ORIGIN of a class that belongs to no one lane and no one ring (R564). -/
def originOf (code : Nat) : Nat :=
  match code / 0x400 - 1 with
  | 0 => 8 | 1 => 0 | 2 => 8 | 5 => 0 | 6 => 0 | 7 => 1 | 8 => 2 | 9 => 3 | 10 => 5
  | 11 => 4 | 12 => 4 | 13 => 4 | 14 => 8 | 15 => 14 | 16 => 7 | 17 => 7 | _ => 8

/-- Enters a report into the running period of the fault item (R567). -/
def FaultRep.noteReport (f : FaultRep) (code origin : Nat) : FaultRep :=
  let f := { f with itemReports := satInc 16 f.itemReports }
  if f.itemEntries.any (fun e => e.code == code) then
    { f with itemEntries := f.itemEntries.map (fun e => if e.code = code then { e with count := satInc 16 e.count } else e) }
  else if f.itemEntries.length < 15 then
    { f with itemEntries := f.itemEntries ++ [⟨code, origin, 1, 0⟩] }
  else { f with itemOverflow := true }

/-- Stages the FAULT record of a report, holds it before the recorder starts, or suppresses it beyond 8 of its class in
one tick (R563, R565, R566). -/
def faultRecord (code origin : Nat) (data : List Byte) (s : State) : State :=
  let n := tgetD s.flt.tickRecs code 0
  if n < 8 ∨ code = 0x0401 then
    let s1 := { s with flt := { s.flt with tickRecs := tset s.flt.tickRecs code (n + 1) } }
    let r : RecReq := { kind := .fault, origin := origin, code := code, data := data }
    if s.rcd.running then requestRecord r s1
    else if s.flt.held.length < 64 then { s1 with flt := { s1.flt with held := s1.flt.held ++ [r] } }
    else { s1 with flt := { s1.flt with heldLost := s1.flt.heldLost + 1 } }
  else
    { s with flt := { s.flt with
        suppressed := s.flt.suppressed + 1,
        tickSupp := tset s.flt.tickSupp code (tgetD s.flt.tickSupp code 0 + 1) } }

/-- What every report does (R563), without its configured reaction. -/
def reportOnly (code origin : Nat) (data : List Byte) (s : State) : State :=
  let s1 := faultRecord code origin data s
  let f := s1.flt
  let f1 := { f with
    cls := tset f.cls code (tgetD f.cls code 0 + 1), reports := f.reports + 1, lastCode := BitVec.ofNat 16 code }
  raiseAll 8 { s1 with flt := f1.noteReport code origin }

/-- A report with its configured reactions (R563, R568): FLUSH and PIN at once, YIELD at the next tick event,
MODULE_SAFE at the end of the fabric cycle. -/
def report (code origin : Nat) (data : List Byte) (s : State) : State :=
  let s1 := reportOnly code origin data s
  let bits := tgetD s1.cfg.flt.reactions code 0
  if bits = 0 ∨ code = 0x0402 then s1
  else
    let s2 := { s1 with
      rcd := { s1.rcd with flushPend := s1.rcd.flushPend || testBit bits 0 },
      flt := { s1.flt with
        pinLatch := s1.flt.pinLatch || testBit bits 1,
        yieldPend := s1.flt.yieldPend || testBit bits 2,
        safePend := s1.flt.safePend || testBit bits 3 } }
    reportOnly 0x0402 8 (leBytes 2 code ++ leBytes 1 bits) s2

/-- A report of a class of the module. -/
def rep (code : Nat) (s : State) : State := report code (originOf code) [] s

/-- A report raised by one lane, with ORIGIN 10 + l (R564). -/
def repLane (code : Nat) (l : LaneId) (s : State) : State := report code (10 + l.val) [] s

/-- A report of a ring's class: its ENGINE, or 8 where ENGINE names none (R564). -/
def repRing (code : Nat) (engine : Nat) (s : State) : State := report code (if engine < 9 then engine else 8) [] s

/-! ## Completions and the end of operations -/

/-- The lane whose lane-private ring a ring number names (R139). -/
def ringLane (r : Nat) : Option LaneId := if 32 ≤ r ∧ r < 62 then some (Fin.ofNat 3 ((r - 32) / 10)) else none

/-- RING_DONE in the lanes that receive a ring's completions (R85, R145). -/
def ringDone (r : Fin 64) (s : State) : State :=
  match ringLane r.val with
  | some l => s.modLane l (fun L => L.raise 0)
  | none => if r.val < 32 then raiseAll 0 s else s

/-- The 16 bytes of a completion entry (R153), its PHASE from the completion index (R154). -/
def completionBytes (R : Ring) (tag status ra rb : Nat) : List Byte :=
  let phase := if testBit R.cp.toNat R.sizeLog2 then 0 else 1
  leBytes 2 (tag % 1024 + phase * 2 ^ 15) ++ leBytes 1 status ++ leBytes 1 R.engine ++ leBytes 4 ra ++ leBytes 8 rb

/-- Writes a completion entry to a ring and advances the completion index (R153, R154). A tag that is busy without an
entry takes this one as its completion (R158). -/
def ringComplete (r : Fin 64) (tag status ra rb : Nat) (notify : Bool) (s : State) : State :=
  let R := s.ringAt r
  let slot := R.cp.toNat % 2 ^ R.sizeLog2
  let mem := memWrite s.mem (R.cqBase + 16 * slot) (completionBytes R tag status ra rb)
  let busy := if tget? R.busy tag = some none ∧ status ≠ 3 ∧ status ≠ 5 ∧ status ≠ 0x89 then tset R.busy tag (some R.cp) else R.busy
  let s1 := { s with mem := mem }.modRing r (fun R => { R with cp := R.cp + 1, busy := busy })
  if notify then ringDone r s1 else s1

/-- Ends every held TIMED operation of a ring with status 16#07 (R164, R176). -/
def abortHeld (r : Fin 64) (s : State) : State :=
  let held := (s.ringAt r).held
  let s1 := held.foldl (fun s h => ringComplete r h.desc.tag 7 0 0 (testBit h.desc.flags 1) s) s
  s1.modRing r (fun R => { R with held := [] })

/-- All rings, in order. -/
def allRings : List (Fin 64) := (List.range 64).map (Fin.ofNat 64)

/-- Takes a ring to DRAINING (R164): pending descriptors are discarded and held TIMED operations end. -/
def drainRing (r : Fin 64) (s : State) : State :=
  let R := s.ringAt r
  if R.state = .disabled ∨ R.state = .draining then s
  else abortHeld r (s.modRing r (fun R => { R with state := .draining, pending := [], en := false }))

/-! ## Stopping the program, the counted set and the module fault -/

/-- A core that ends every instance it runs, without release. -/
def Core.endInstances (c : Core) : Core :=
  { c with queue := c.queue.filter (fun e => e.ctx.isNone), ctx := [], digReady := [] }

/-- Ends the program (R176): no instance starts, running instances end without release, held TIMED operations abort. -/
def stopProgram (s : State) : State :=
  match s.cyc.prog with
  | .stopped => s
  | _ =>
    let cyc := { s.cyc with
      prog := .stopped, insts := Vector.replicate 3 [], changes := [], swapAt := none,
      tasks := s.cyc.tasks.map (fun t => { t with open_ := [] }) }
    let s1 := { s with cyc := cyc }
    let s2 := s1.modLanes (fun L =>
      { L with release := L.release.filter (fun e => e.ctx.isNone), cores := L.cores.map Core.endInstances, overflowed := [] })
    allRings.foldl (fun s r => abortHeld r s) s2

/-- The deductions of the health score that apply, one bit each (R437). -/
def healthDeduct (s : State) : BitVec 7 :=
  let refOk (c : ChanId) : Bool := (vget s.stra.chan c).refOk
  BitVec.ofNat 7 (bit (s.vot.mode == .dual) + 2 * bit (s.tim.state == .holdover) + 4 * bit (!refOk 0) + 8 * bit (!refOk 1)
    + 16 * bit (s.fld.voFault != 0) + 32 * bit (s.fld.supLow != 0) + 64 * bit (s.pwr.temp.toList.any TempSt.warn))

/-- The health score (R437). -/
def healthScore (s : State) : Nat :=
  let d := (healthDeduct s).toNat
  let w (i v : Nat) : Nat := if testBit d i then v else 0
  let total := w 0 64 + w 1 32 + w 2 16 + w 3 16 + w 4 16 + w 5 8 + w 6 8 + regField s (CLS + 0xC) 8 8
  match s.cls.role with
  | .contend | .standby | .active => max 1 (255 - total)
  | .none | .listen | .join | .withdrawn => 0

/-- The score and its deductions are computed (R437). -/
def computeHealth (s : State) : State :=
  { s with cls := { s.cls with score := BitVec.ofNat 8 (healthScore s), deduct := healthDeduct s } }

/-- LAST_ROLE is written at entry into ACTIVE or STANDBY (R448). -/
def lastRoleAt (r : ClsRole) (old : Option Bool) : Option Bool :=
  match r with
  | .active => some true
  | .standby => some false
  | .none | .listen | .contend | .join | .withdrawn => old

/-- Takes Clasp to a role: a change raises CLASP_ROLE in every lane, reports the role-change class and computes the score (R437,
R444). -/
def setRole (r : ClsRole) (s : State) : State :=
  if s.cls.role = r then s
  else computeHealth (rep 0x3C01 (raiseAll 3 { s with cls := { s.cls with
    role := r, lastRole := lastRoleAt r s.cls.lastRole, roleCnt := s.cls.roleCnt + 1 } }))

/-- A configuration fault with its cause (R491, R518). -/
def configFault (cause : Nat) (s : State) : State :=
  let slot := ((List.range 8).find? (fun i => (s.trust.slots.toList.getD i {}).state == .active)).getD 0
  rep 0x4401 { s with trust := { s.trust with
    cfgOk := false, cfgFault := true, faultCause := BitVec.ofNat 8 cause, faultSlot := BitVec.ofNat 3 slot } }

/-- Withdraws the claim and removes the output enable (R440, R443). -/
def withdrawClaim (s : State) : State :=
  if s.cls.role = .none then s
  else setRole .withdrawn { s with cls := { s.cls with outEn := false } }

/-- What a lane itself does on entering SAFE (R100): first finding kept, buffers discarded, cores stopped. -/
def Lane.takeSafe (L : Lane) (kind task entry addr : Nat) : Lane :=
  let L1 := if L.misKind = 0 then
      { L with misKind := BitVec.ofNat 3 kind, misTask := BitVec.ofNat 4 task, misEntry := BitVec.ofNat 12 entry,
               misAddr := BitVec.ofNat 40 addr }
    else L
  { L1 with
    state := .safe, release := [], handed := [],
    cores := L1.cores.map (fun c => { c with fetching := false, queue := [], ctx := [], digReady := [] }) }

/-- The states from which a finding takes a lane to SAFE (R99). -/
def LaneState.live : LaneState → Bool
  | .loading | .sweep | .ready | .running => true
  | .off | .safe => false

/-- Is a lane counted for every task (R122)? -/
def counted (s : State) (l : LaneId) : Bool := s.vot.counted.getLsbD l.val

/-- Is a lane counted for the votes of a task, or of the lane runtime (R122, R132)? -/
def countedFor (s : State) (l : LaneId) (k : PropKey) : Bool :=
  counted s l || ((vget s.vot.lanes l).vstate == .joining && s.vot.reint.target == l &&
    match k with
    | .task t _ _ => s.vot.reint.joined.getLsbD t
    | .runtime _ => s.vot.reint.joined.getLsbD 0)

/-- The voter with one lane's view changed. -/
def State.modVot (s : State) (l : LaneId) (f : VotLane → VotLane) : State :=
  { s with vot := { s.vot with lanes := vmod s.vot.lanes l f } }

/-- Withdraws a lane's proposals from votes whose content has not been agreed, and drops votes that await only that lane
or hold nothing (R120). -/
def withdrawVotes (l : LaneId) (vs : List Vote) : List Vote :=
  (vs.map (fun v => if v.agreed.isSome then v else { v with props := v.props.filter (fun p => p.1 != l.val) })).filter
    (fun v => v.agreed.isSome || !v.props.isEmpty)

/-- A lane's program and instance-data shadows are discarded (R203). -/
def discardShadow (L : Lane) : Lane :=
  { L with cores := L.cores.map (fun c => { c with img := memClear c.img 0x40000000 0x70000000 }) }

/-- A swap whose counted lane is lost (R203): its shadow is discarded; on trial the new code is kept as committed. -/
def swapLaneLost (s : State) : State :=
  match s.cyc.swap with
  | .idle => s
  | .loading | .ready | .convert =>
    rep 0x050B ({ s with cyc := { s.cyc with swap := .idle, swapImage := none, swapAt := none } }.modLanes discardShadow)
  | .trial => rep 0x050C ({ s with
      trust := { s.trust with running := s.cyc.swapImage.map Prod.fst },
      cyc := { s.cyc with swap := .idle, swapImage := none, swapAt := none } }.modLanes discardShadow)

/-- Sets FORCE_SAFE of a lane and takes it to SAFE, recording KIND 7 where no finding stands (R101). -/
def forceLane (l : LaneId) (s : State) : State :=
  let s1 := if (s.lane l).state.live then
      s.modLane l (fun L => { L.takeSafe 7 0 0 0 with forceSafe := true })
    else s
  let s2 := (List.range 10).foldl (fun s j => drainRing (Fin.ofNat 64 (32 + 10 * l.val + j)) s) s1
  s2.modVot l (fun v => { v with vstate := if v.heldOut then .heldOut else .absent, since := s.tim.now })

/-- Ends a running re-integration whose source lane leaves the counted set (R135). -/
def abortReint (s : State) : State :=
  if s.vot.reint.phase = .idle then s
  else rep 0x0C0B { s with vot := { s.vot with reint := { s.vot.reint with phase := .idle, joined := 0, finalTask := none, finalDone := 0 } } }

/-- The module fault of R121: nothing further commits, open votes are discarded, every counted lane is forced to SAFE
(every lane for a MODULE_SAFE reaction, R568, and in INIT), the program stops (R176) and the claim is withdrawn (R443). No
effect in SAFE. -/
def moduleFault (every : Bool) (s : State) : State :=
  if s.vot.mode = .safe then s
  else
    let s1 := allLanes.foldl
      (fun t l => if every || s.vot.mode == .init || counted s l then forceLane l t else t)
      { s with vot := { s.vot with mode := .safe, modFault := true, counted := 0, votes := [], done := [] } }
    let s2 := withdrawClaim (stopProgram (swapLaneLost (abortReint s1)))
    let s3 := rep 0x0C04 s2
    { s3 with flt := { s3.flt with yieldPend := false } }

/-- A lane leaves the counted set (R120, R122): TRIPLE goes to DUAL; DUAL goes to SAFE with the last lane lost (R124). -/
def leaveCounted (l : LaneId) (s : State) : State :=
  let was := counted s l
  let vot := { s.vot with
    counted := s.vot.counted &&& ~~~(BitVec.ofNat 3 (2 ^ l.val)), votes := withdrawVotes l s.vot.votes }
  let s1 := { s with vot := vot }
  if !was then s1
  else match s1.vot.mode with
    | .triple => swapLaneLost { s1 with vot := { s1.vot with mode := .dual } }
    | .dual =>
      let s2 := allLanes.foldl (fun s m => if counted s m then forceLane m s else s) s1
      let s3 := { s2 with vot := { s2.vot with mode := .safe, counted := 0, votes := [], done := [] } }
      rep 0x0C05 (withdrawClaim (stopProgram (swapLaneLost (abortReint s3))))
    | .init | .safe => s1

/-- A lane that is re-integrating stops counting for the tasks it has joined when it enters SAFE (R135). -/
def leaveJoining (l : LaneId) (s : State) : State :=
  if s.vot.reint.phase ≠ .idle ∧ s.vot.reint.target = l then
    { s with vot := { s.vot with reint := { s.vot.reint with joined := 0, finalTask := none, finalDone := 0 } } }
  else s

/-- A lane enters SAFE (R100, R101, R120, R122, R135). `kind` 7 is a forced safe. -/
def laneSafe (l : LaneId) (kind task entry addr : Nat) (forced : Bool) (s : State) : State :=
  if (s.lane l).state.live then
    let s1 := s.modLane l (fun L => { L.takeSafe kind task entry addr with forceSafe := L.forceSafe || forced })
    let s2 := (List.range 10).foldl (fun s j => drainRing (Fin.ofNat 64 (32 + 10 * l.val + j)) s) s1
    let s3 := s2.modVot l (fun v => { v with vstate := .absent, since := s.tim.now })
    let s4 := { s3 with cyc := { s3.cyc with insts := vset s3.cyc.insts l [] } }
    leaveCounted l (leaveJoining l s4)
  else s

/-- A pair or digest finding of R9: lane safe state, then the report of its class (R104). -/
def laneFinding (l : LaneId) (kind task entry addr : Nat) (s : State) : State :=
  if (s.lane l).state.live then repLane (faultCode 4 kind) l (laneSafe l kind task entry addr false s) else s

/-! ## Clocks -/

/-- Is a domain's clock good, SYS_XCLK.CLK_OK (R554)? -/
def clockGood (s : State) (d : Fin 16) : Bool := (vget s.cross.dom d).clkOk

/-! ## Posted errors of the Col bridge (R315 to R317) -/

/-- RESULT_A and RESULT_B of a backplane failure (R316): offset in the window region of the failing phase, its byte enables and
the error kind. -/
def busFailure (off seq : Nat) (be : BitVec 4) (kind : Nat) (timed : Bool) (route : Nat) : Nat × Nat :=
  (off % 2 ^ 32, pack [(32, seq), (4, be.toNat), (3, kind), (1, bit timed), (14, route), (10, 0)])

/-- May a posted-error entry be written: the ring is ACTIVE in the enabling that carried the write, and its completion queue has
more free slots than the ring has busy tags (R164, R317)? -/
def entryFits (R : Ring) (gen : Nat) : Bool :=
  R.state == .active && R.gen == gen && R.busy.length < 2 ^ R.sizeLog2 - (R.cp - R.head).toNat

/-- A posted error (R315): entry, latched fields, count, report and record. A kind 3 transfer has no entry. -/
def postedError (p : Posted) (entry : Bool) (off : Nat) (be : BitVec 4) (kind : Nat) (s : State) : State :=
  let (ra, rb) := busFailure off p.seq be kind p.timed p.route
  let r := Fin.ofNat 64 p.ring
  let s1 := if !entry then s
    else if entryFits (s.ringAt r) p.gen then ringComplete r p.tag 0x89 ra rb false s
    else { s with col := { s.col with lostCnt := s.col.lostCnt + 1 } }
  let s2 := { s1 with col := { s1.col with
    perrA := BitVec.ofNat 32 ra, perrB := BitVec.ofNat 64 rb, perrCnt := s1.col.perrCnt + 1 } }
  let tag := if entry then p.tag else 0
  report 0x2804 3 (leBytes 2 tag ++ leBytes 1 0x89 ++ leBytes 1 3 ++ leBytes 4 ra ++ leBytes 8 rb) s2

/-- Every posted write not yet on the bus becomes a posted error of a kind (R320). -/
def failPosted (kind : Nat) (s : State) : State :=
  let ps := s.col.posted
  ps.foldl (fun s p => postedError p true p.off 0 kind s) { s with col := { s.col with posted := [] } }

/-- WR_EN follows the output enable of Clasp; when it falls, buffered writes are withheld and the class is reported (R320). -/
def followEnable (s : State) : State :=
  if s.col.wrEn = s.cls.outEn then s
  else if s.cls.outEn then { s with col := { s.col with wrEn := true } }
  else rep 0x2809 (failPosted 5 { s with col := { s.col with wrEn := false } })

/-! ## The end of a fabric cycle -/

/-- Takes a MODULE_SAFE reaction of this fabric cycle (R568, R570). -/
def takeModuleSafe (s : State) : State :=
  if s.flt.safePend then
    let s1 := moduleFault true { s with flt := { s.flt with safePend := false } }
    { s1 with flt := { s1.flt with safePend := false, yieldPend := false } }
  else s

/-- Numbers and stages the records of this fabric cycle in the order of R462, and reports a loss once (R461, R464). -/
def stageCycle (s : State) : State :=
  let s1 := (sortRequests s.rcd.cycle).foldl stageRecord { s with rcd := { s.rcd with cycle := [] } }
  if s1.rcd.losing && !s.rcd.losing then rep 0x4001 s1 else s1

/-- The end of a fabric cycle. -/
def endCycle (s : State) : State := stageCycle (followEnable (takeModuleSafe s))

/-! ## The three kinds of command -/

/-- A command that acts while the module is operational: neither held in reset nor in a low-power state (R525, R531). -/
def act (f : State → State) (s : State) : Host.Outcome State Fault Refusal :=
  .next (if !s.pwr.held && (s.pwr.pstate == .operational || s.pwr.pstate == .entering) then endCycle (f s) else s)

/-- A command that acts while operational or Parked: the Strath line, the node and the time base (R534). -/
def actLine (f : State → State) (s : State) : Host.Outcome State Fault Refusal :=
  .next (if !s.pwr.held && s.pwr.pstate != .keepAlive then endCycle (f s) else s)

/-- A command that acts in every power state: the supply, the resets and the Locket domain. -/
def actAny (f : State → State) (s : State) : Host.Outcome State Fault Refusal := .next (endCycle (f s))

/-- The function applied when a condition holds: an event whose condition fails changes nothing. -/
def onlyIf (p : Bool) (f : State → State) (s : State) : State := if p then f s else s

end Sys2Proof.Machine
end

