-- ==== Sys2Proof/Machine/Operands.lean ====
section
/-!
DEFINITION. Operand forms of the operations: descriptors and their buffers (R144, R152), the started operation a command
names, input items and their arrivals (R32, R180), and reading a value's bytes.
-/

namespace Sys2Proof.Machine

/-- The exchange-memory offset of a lane address (R34). -/
def offsetOf (a : Nat) : Nat := a - exchangeBase

/-- A buffer of exchange memory at a lane address. -/
def readBuffer (s : State) (addr len : Nat) : List Byte := memRead s.mem (offsetOf addr) len

/-- A buffer of exchange memory written at a lane address. -/
def writeBuffer (addr : Nat) (bs : List Byte) (s : State) : State := { s with mem := memWrite s.mem (offsetOf addr) bs }

/-- Does the FENCE bit let the operation start: is it the ring's oldest unfinished one (R145)? -/
def fenceOpen (R : Ring) (d : Desc) : Bool :=
  !testBit d.flags 0 || match R.ops with
    | o :: _ => o.desc.tag == d.tag
    | [] => true

/-- The started operation of a ring with a tag and an opcode that is still at work and that FENCE lets start (R145, R152). -/
def startedOp (s : State) (r : Fin 64) (tag : Nat) (opcode : Nat) : Option Desc :=
  let R := s.ringAt r
  match R.ops.find? (fun o => o.desc.tag == tag && decide (o.stage = .running)) with
  | some o => if o.desc.opcode = opcode ∧ fenceOpen R o.desc then some o.desc else none
  | none => none

/-- Carries out a started operation; a command that names none changes nothing. -/
def runOp (r : Fin 64) (tag : Fin 1024) (opcode : Nat) (f : Desc → State → State) (s : State) : State :=
  match startedOp s r tag.val opcode with
  | some d => f d s
  | none => s

/-- The descriptor with the payload its buffer holds now; an engine that has accepted a TIMED operation no longer needs it. -/
def Desc.withData (d : Desc) (s : State) : Desc := { d with data := readBuffer s d.addr d.length }

/-- The full tick a compact tick names, seen from the present tick, and whether it lies ahead (R47, R161). -/
def releaseTick (s : State) (paramC : Nat) : Option Nat :=
  let d := sdiff 32 paramC (compactTick s.tick)
  if 0 < d then some (s.tick + d.toNat) else none

/-- Carries out an operation that may be TIMED: a TIMED one is accepted and held with what its descriptor carries, or refused as
too late (R161); any other takes effect at once through `f`. Acceptance completes with the given results. -/
def runTimed (r : Fin 64) (d : Desc) (ra rb : Nat) (f : State → State) (s : State) : State :=
  if testBit d.flags 2 then
    match releaseTick s d.paramC with
    | some t => opDone r d.tag 0 ra rb (s.modRing r (fun R => { R with held := R.held ++ [⟨d, t⟩] }))
    | none => repRing 0x100B (s.ringAt r).engine (opDone r d.tag 6 0 0 s)
  else f s

/-- The configured input item (R180). -/
def inItem? (s : State) (i : Nat) : Option InItemCfg := s.cfg.cyc.inItems.find? (fun c => c.item == i)

/-- The length of an item that carries a payload of `n` bytes (R180). -/
def itemLength (n : Nat) : Nat := 8 * max 1 ((n + 7) / 8)

/-- Writes an arrival into an item's back buffer, its payload followed by zeros up to the item's length (R32, R180). -/
def arrive (item : Nat) (a : Arrival) (s : State) : State :=
  match inItem? s item with
  | none => s
  | some c =>
    let cell := tgetD s.cyc.items item {}
    let cell' := { cell with back := some { a with payload := padTo c.length a.payload }, inBurst := false }
    { s with cyc := { s.cyc with items := tset s.cyc.items item cell' } }

/-- The compact timestamp of this fabric cycle. -/
def State.ts (s : State) : DWord := compactTs s.tim.now

/-- Is a number of bytes a valid NS field: below 1 000 000 000 (R43)? -/
def nsValid (ns : Nat) : Bool := ns < 1000000000

/-- The area that holds a range of exchange memory, if one area holds all of it. -/
def areaOf (s : State) (off len : Nat) : Option Area :=
  s.cfg.cyc.areas.find? (fun a => a.base ≤ off && off + len ≤ a.base + a.size)

/-- May a ring's class use a buffer (R152 order 5)? -/
def bufferOk (s : State) (r : Nat) (addr len : Nat) : Bool :=
  inExchange addr && addr + len ≤ exchangeBase + exchangeSize &&
  match areaOf s (offsetOf addr) len with
  | none => false
  | some a =>
    match a.cls with
    | .engine => true
    | .voted => r < 32
    | .lanePrivate l => ringLane r == some l

end Sys2Proof.Machine
end

