-- ==== Sys2Proof/Machine/Recording.lean ====
section
/-!
DEFINITION. The event recorder (R459 to R477): records as bytes, flushes, the two NAND areas, start, formatting, and the
operations REC_WRITE and REC_READ.
-/

namespace Sys2Proof.Machine

/-- KIND as a number (R460). -/
def RecKind.code : RecKind → Nat
  | .unreadable => 0 | .fault => 1 | .app => 2 | .anchor => 3 | .start => 4 | .loss => 5 | .format => 6

/-- The 64 bytes of a record (R459). -/
def Record.bytes (r : Record) : List Byte :=
  let b := leBytes 8 r.seq ++ leBytes 1 (r.body.kind.code + 128 * bit r.body.rt)
    ++ leBytes 1 (r.body.origin + 16 * r.body.task) ++ leBytes 2 r.body.code ++ padTo 48 r.body.data
  b ++ leBytes 4 (crc32c b)

/-- Records the permanent area holds (R469). -/
def permCap : Nat := 65536

/-- Records the circulating area holds (R469). -/
def circCap : Nat := 33554432

/-- Writes one record to NAND: into the permanent area until it is full, then into the circulating area, whose oldest
block of 2 048 records is erased first when it is full (R469). -/
def Recorder.store (d : Recorder) (r : Record) : Recorder :=
  let d := { d with flushed := r.seq, nandNext := r.seq + 1 }
  if d.perm.length < permCap then { d with perm := d.perm ++ [r] }
  else if d.circ.length < circCap then { d with circ := d.circ ++ [r] }
  else { d with circ := d.circ.drop 2048 ++ [r], circWrap := true }

/-- Begins a flush of every staged record, or finds none and drops the trigger (R466). -/
def beginFlush (s : State) : State :=
  let s1 := regPut s (REC + 0x4) 0 1 0
  if s.rcd.staged.isEmpty then { s1 with rcd := { s1.rcd with flushPend := false } }
  else { s1 with rcd := { s1.rcd with
    flushing := true, flushPend := false, flushCount := s1.rcd.staged.length, flushCnt := s1.rcd.flushCnt + 1 } }

/-- A flush begins: a trigger of R466 waits and no flush runs. -/
def execFlush (s : State) : Host.Outcome State Fault Refusal :=
  actLine (fun s => onlyIf (s.rcd.running && s.rcd.flushPend && !s.rcd.flushing) beginFlush s) s

/-- The LOSS record of R460. -/
def lossRecord (lost before cause : Nat) : RecReq :=
  { kind := .loss, origin := 14, data := leBytes 8 lost ++ leBytes 8 before ++ leBytes 1 cause }

/-- The end of a flush: its records are written, or stay staged after a NAND write error (R470); staging that has room again
ends a loss (R464); a trigger that came meanwhile starts the next flush at once (R466). -/
def endFlush (ok : Bool) (s : State) : State :=
  let d := s.rcd
  let s1 : State :=
    if ok then
      { s with rcd := { (d.staged.take d.flushCount).foldl Recorder.store d with
          staged := d.staged.drop d.flushCount, flushing := false, flushCount := 0 } }
    else rep 0x4003 { s with rcd := { d with flushing := false, flushCount := 0, nandErr := d.nandErr + 1 } }
  let s2 : State :=
    if s1.rcd.losing && s1.rcd.staged.length < stagingCap then
      requestRecord (lossRecord s1.rcd.losingCount (s1.rcd.next - 1) 1)
        { s1 with rcd := { s1.rcd with losing := false, losingCount := 0 } }
    else s1
  if s2.rcd.flushPend then beginFlush s2 else s2

/-- FLUSH_END (R467, R470). -/
def execFlushEnd (ok : Bool) (s : State) : Host.Outcome State Fault Refusal :=
  actLine (fun s => onlyIf s.rcd.flushing (endFlush ok) s) s

/-- A commit of 1 to REC_CTRL.FLUSH triggers a flush (R466). -/
def flushRequest (s : State) : State :=
  let s1 := regPut s (REC + 0x4) 0 1 1
  { s1 with rcd := { s1.rcd with flushPend := true } }

/-- REC_FLUSH_WRITE (R466). -/
def execRecFlushWrite (s : State) : Host.Outcome State Fault Refusal := act flushRequest s

/-- The START record of R460. -/
def startRecord (cause : Nat) (s : State) : RecReq :=
  { kind := .start, origin := 14,
    data := leBytes 2 cause ++ leBytes 1 (bit s.trust.bankB) ++ leBytes 1 s.otp.issue.toNat ++ leBytes 1 s.trust.secVer
      ++ zeros 3 ++ leBytes 4 s.trust.actCnt.toNat }

/-- Writes all staging kept through a reset to NAND, before the check of R468 (R529). -/
def flushKept (s : State) : State :=
  let d := s.rcd
  { s with rcd := { d.staged.foldl Recorder.store d with staged := [], flushing := false, flushPend := false, flushCount := 0 } }

/-- The recorder engine's start: kept staging is flushed, numbers never flushed are counted lost (R468), the START record is
staged, then the reports held since the reset in the order in which they occurred (R566). -/
def startRecorder (cause : Nat) (s : State) : State :=
  let s1 := flushKept s
  let lostN := s1.rcd.next - s1.rcd.nandNext
  let held := s1.flt.held
  let heldLost := s1.flt.heldLost
  let s2 := { s1 with rcd := { s1.rcd with running := true }, flt := { s1.flt with held := [], heldLost := 0 } }
  let s3 := if 0 < lostN then rep 0x4002 (requestRecord (lossRecord lostN (s1.rcd.nandNext - 1) 2) s2) else s2
  let s4 := stageCycle (requestRecord (startRecord cause s3) s3)
  let s5 := held.foldl (fun s r => stageCycle (requestRecord r s)) s4
  if 0 < heldLost then report 0x0401 8 (leBytes 2 0 ++ leBytes 4 heldLost) s5 else s5

/-- Erases both areas and clears the index, after staging has been flushed; the FORMAT record takes the next number and is
the first of the new permanent area (R471). -/
def formatRecorder (s : State) : State :=
  let s1 := flushKept s
  let fmt := s1.rcd.next
  let s2 := { s1 with rcd := { s1.rcd with perm := [], circ := [], circWrap := false, fmt := fmt } }
  let data := leBytes 5 s.otp.serial.toNat ++ zeros 3 ++ leBytes 4 s.trust.actCnt.toNat
  requestRecord { kind := .format, origin := 14, data := data } s2

/-- Every record that can be read, oldest first (R474). -/
def Recorder.all (d : Recorder) : List Record := d.perm ++ d.circ ++ d.staged

/-- SEQ of the oldest record of the circulating area, REC_OLDEST (R477). -/
def Recorder.oldest (d : Recorder) : Nat := match d.circ with
  | r :: _ => r.seq
  | [] => 0

/-- The existing records with the lowest numbers at or above the one wanted, up to a count; one NAND cannot read back is
returned UNREADABLE (R469, R474). -/
def recordsFrom (s : State) (want count : Nat) (bad : List Nat) : List Record :=
  ((s.rcd.all.filter (fun r => want ≤ r.seq)).take count).map (fun r =>
    if bad.contains r.seq ∧ ¬ s.rcd.staged.contains r then { r with body := { kind := .unreadable } } else r)

/-- Reports the read-error class for each record returned UNREADABLE (R469). -/
def reportUnreadable (rs : List Record) (s : State) : State :=
  (rs.filter (fun r => r.body.kind == .unreadable)).foldl (fun s _ => rep 0x4004 s) s

/-- ORIGIN of a ring's application record (R473). -/
def appOrigin (r : Nat) : Nat :=
  match ringLane r with
  | some l => 10 + l.val
  | none => if r < 32 then 9 else 8

/-- REC_WRITE (R465, R473, R475): one record, or status 16#80 while staging holds 3 840 records or more. -/
def recWriteOp (r : Fin 64) (d : Desc) (s : State) : State :=
  if s.rcd.staged.length + s.rcd.cycle.length < 3840 then
    let R := s.ringAt r
    let origin := appOrigin r.val
    let rt := origin != 8 && R.owner == 16
    requestRecord { kind := .app, rt := rt, origin := origin, task := if rt || origin == 8 then 0 else R.owner,
                    code := d.paramA % 65536, data := readBuffer s d.addr d.length, wait := some (r.val, d.tag) } s
  else
    let s1 := opDone r d.tag 0x80 0 0 { s with rcd := { s.rcd with appRefused := s.rcd.appRefused + 1 } }
    if s1.rcd.refusedTick then s1 else rep 0x4005 { s1 with rcd := { s1.rcd with refusedTick := true } }

/-- REC_WRITE: carries out the started operation of a ring. -/
def execRecWrite (ring : Fin 64) (tag : Fin 1024) (s : State) : Host.Outcome State Fault Refusal :=
  act (runOp ring tag 0x90 (recWriteOp ring)) s

/-- REC_READ (R474, R475): the records found as one arrival of the bound item, or in the buffer of a supervisor ring. -/
def recReadOp (r : Fin 64) (bad : List Nat) (d : Desc) (s : State) : State :=
  let count := field d.paramA 0 7
  let item := field d.paramA 16 13
  let rs := recordsFrom s (d.paramB + 2 ^ 32 * d.paramC) count bad
  let bytes := padTo (64 * count) (rs.flatMap Record.bytes)
  let itemOk := match inItem? s item with
    | some c => c.src == .recorder && c.length == 64 * count
    | none => false
  if r.val < 32 && !itemOk then opDone r d.tag 0x82 0 0 s
  else match rs with
    | [] => opDone r d.tag 0x81 0 s.rcd.next s
    | first :: _ =>
      let s1 := reportUnreadable rs s
      let s2 := if r.val < 32 then arrive item ⟨true, 0, s1.ts, bytes⟩ s1 else writeBuffer d.addr bytes s1
      opDone r d.tag 0 rs.length first.seq s2

/-- REC_READ; `bad` are the numbers the NAND controller cannot read back. -/
def execRecRead (ring : Fin 64) (tag : Fin 1024) (bad : List Nat) (s : State) : Host.Outcome State Fault Refusal :=
  act (runOp ring tag 0x91 (recReadOp ring bad)) s

/-- RECORDER_START (R468, R566); `cause` is the reset cause of R526. -/
def execRecorderStart (s : State) : Host.Outcome State Fault Refusal :=
  actLine (fun s => onlyIf (!s.rcd.running) (startRecorder s.pwr.cause.toNat) s) s

/-- REC_SEQ_LATCH (R477): a read of a low word latches the high word for the reading lane. -/
def execRecSeqLatch (lane : LaneId) (reg : RecSeqReg) (s : State) : Host.Outcome State Fault Refusal :=
  let hi (n : Nat) : Word := BitVec.ofNat 32 (n / 2 ^ 32)
  act (fun s => s.modLane lane (fun L => { L with latch := match reg with
    | .next => { L.latch with recNextHi := hi s.rcd.next }
    | .flushed => { L.latch with recFlushedHi := hi s.rcd.flushed }
    | .oldest => { L.latch with recOldestHi := hi s.rcd.oldest }
    | .fmt => { L.latch with recFmtHi := hi s.rcd.fmt } })) s

end Sys2Proof.Machine
end

