-- ==== Sys2Proof/Machine/Timebase.lean ====
section
/-!
DEFINITION. The time base (R42 to R75, R596): counting, the servo, its states, refused jumps and accepted steps, and the
latches of the running clock.
-/

namespace Sys2Proof.Machine

/-- A quotient whose rounding no rule states: the lower whole number, or the next one where the quotient is not whole and
the free value `Config.roundUp` says so (log 9). -/
def divFree (place : Nat) (num : Int) (den : Nat) : Int :=
  num / (den : Int) + (if num % (den : Int) ≠ 0 ∧ Config.roundUp place num then 1 else 0)

/-- Limits a value to ± a bound (R56). -/
def clampTo (bound v : Int) : Int := max (-bound) (min bound v)

/-- One fabric cycle of counting: 5 ns × (1 + TIM_RATE × 2^-40) (R54). -/
def countCycle (s : State) : State :=
  { s with tim := { s.tim with
      now := s.tim.now + (5 * (nsUnits : Int) + 5 * s.tim.rate).toNat, cycles := s.tim.cycles + 1 } }

/-- RATE_LIM in ppm: 0 acts as 1, values above 100 act as 100 (R75). -/
def rateLim (s : State) : Nat :=
  let v := regField s (TIM + 0xC) 8 8
  if v = 0 then 1 else min v 100

/-- LOCK_THR in ns (R75). -/
def lockThr (s : State) : Nat := regField s (TIM + 0xC) 16 8

/-- HOLD_CYC: 0 acts as 1 (R75). -/
def holdCyc (s : State) : Nat := max 1 (regField s (TIM + 0xC) 24 4)

/-- LOCK_CYC: 0 acts as 1 (R75). -/
def lockCyc (s : State) : Nat := max 1 (regField s (TIM + 0xC) 28 4)

/-- TIM_JUMP_THR.THR_NS: values below 100 act as 100 (R75). -/
def jumpThr (s : State) : Nat := max 100 (regField s (TIM + 0x8) 0 20)

/-- TIM_RATE, in 2^-40, of a rate held in 2^-31 ppm (R56). -/
def rateOf (ppm31 : Int) : Int := divFree 1 (ppm31 * 512) 1000000

/-- The servo update of R56; θ in 2^-16 ns, the integral in 2^-31 ppm. -/
def servo (theta : Int) (s : State) : State :=
  let kp := regField s (TIM + 0xC) 0 4
  let ki := regField s (TIM + 0xC) 4 4
  let lim : Int := (rateLim s * 2 ^ 31 : Nat)
  let integ := clampTo lim (s.tim.integ + theta * (2 ^ (15 - ki) : Nat))
  let rate := clampTo lim (integ + theta * (2 ^ (15 - kp) : Nat))
  { s with tim := { s.tim with integ := integ, rate := rateOf rate } }

/-- A change of TIM_STATUS.STATE, which makes TIME_STATE pending in every lane (R85). -/
def setTimState (t : TimState) (s : State) : State :=
  if s.tim.state = t then s else raiseAll 4 { s with tim := { s.tim with state := t } }

/-- θ in 1/16 ns, saturating at 32 bits (R75). -/
def sixteenths (theta : Int) : Int := saturate 32 (divFree 2 theta 4096)

/-- An accepted measurement: the servo, TIM_OFFSET, and HOLDOVER to ACQUIRING (R56, R57, R59). -/
def acceptMeasurement (ch : ChanId) (theta : Int) (s : State) : State :=
  let inLock := theta.natAbs ≤ lockThr s * 65536
  let s1 := servo theta s
  let s2 := { s1 with tim := { s1.tim with
    refusing := false, srcCh := BitVec.ofNat 1 ch.val, offset := sixteenths theta, holdRun := 0,
    lockRun := if inLock then s1.tim.lockRun + 1 else 0 } }
  if s2.tim.state = .holdover then setTimState .acquiring s2 else s2

/-- A refused measurement: counted, shown and reported; it enters no servo and steps no clock (R59). -/
def refuseMeasurement (theta : Int) (s : State) : State :=
  let was := s.tim.refusing
  let s1 := { s with tim := { s.tim with
    refusing := true, refuseCnt := s.tim.refuseCnt + 1, refusedOfs := sixteenths theta,
    holdRun := s.tim.holdRun + 1, lockRun := 0 } }
  rep 0x0801 (if was then s1 else raiseAll 4 s1)

/-- A basic cycle without a reference message on either channel (R57, R75). -/
def missMeasurement (s : State) : State :=
  { s with tim := { s.tim with missCnt := s.tim.missCnt + 1, holdRun := s.tim.holdRun + 1, lockRun := 0 } }

/-- Module time moved by a step, the step recorded and reported (R57, R61, R460). -/
def applyStep (theta : Int) (s : State) : State :=
  let now := ((s.tim.now : Int) + theta * (2 ^ 24 : Nat)).toNat
  let s1 := setTimState .acquiring { s with tim := { s.tim with now := now, lockRun := 0, holdRun := 0, stepHeld := false } }
  rep 0x0803 (requestRecord (anchorRecord s1) s1)

/-- Does the cyclic program run (R58, R62)? -/
def programRuns (s : State) : Bool := s.cyc.prog == .running

/-- What a refused measurement does while ACCEPT_STEP is armed (R61, R62): a backward step is held while the program runs,
any other is applied. The flag says whether module time was stepped. -/
def steppedMeasurement (theta : Int) (s : State) : State × Bool :=
  let s1 := refuseMeasurement theta s
  if regField s1 (TIM + 0x4) 0 1 = 0 then (s1, false)
  else if theta < 0 ∧ programRuns s1 then
    (if s1.tim.stepHeld then s1 else rep 0x0804 { s1 with tim := { s1.tim with stepHeld := true } }, false)
  else (applyStep theta (regPut s1 (TIM + 0x4) 0 1 0), true)

/-- One measurement of a basic cycle, by the state of the time base (R55 to R64). The flag says whether time was stepped. -/
def measure (ch : ChanId) (theta : Int) (s : State) : State × Bool :=
  match s.tim.state with
  | .master => (s, false)
  | .unset => (applyStep theta { s with tim := { s.tim with integ := 0, srcCh := BitVec.ofNat 1 ch.val } }, true)
  | .acquiring | .locked | .holdover =>
    if jumpThr s * 65536 < theta.natAbs then steppedMeasurement theta s else (acceptMeasurement ch theta s, false)

/-- TIME_LOCKED (R57): LOCK_CYC consecutive accepted measurements within LOCK_THR. -/
def execTimeLocked (s : State) : Host.Outcome State Fault Refusal :=
  actLine (fun s => onlyIf (s.tim.state == .acquiring && lockCyc s ≤ s.tim.lockRun) (setTimState .locked) s) s

/-- HOLDOVER is entered: TIM_RATE takes the integral and is held (R57). -/
def enterHoldover (s : State) : State :=
  let s1 := setTimState .holdover s
  rep 0x0802 { s1 with tim := { s1.tim with rate := rateOf s1.tim.integ } }

/-- HOLDOVER_ENTERED (R57): HOLD_CYC consecutive cycles without an accepted measurement. -/
def execHoldoverEntered (s : State) : Host.Outcome State Fault Refusal :=
  actLine (fun s => onlyIf ((s.tim.state == .acquiring || s.tim.state == .locked) && holdCyc s ≤ s.tim.holdRun)
    enterHoldover s) s

/-- The node becomes the active time master (R57): from UNSET the seconds come from the Locket domain; otherwise the servo
stops and TIM_RATE keeps the integral. -/
def becomeMaster (s : State) : State :=
  match s.tim.state with
  | .master => s
  | .unset =>
    let s1 := setTimState .master { s with tim := { s.tim with now := if clockGood s 14 then s.pwr.locketSec.toNat * secUnits else 0 } }
    rep 0x0803 (requestRecord (anchorRecord s1) s1)
  | .acquiring | .locked | .holdover =>
    setTimState .master { s with tim := { s.tim with rate := rateOf s.tim.integ } }

/-- Another node becomes the active time master (R57): the servo resumes from the current integral. -/
def loseMaster (s : State) : State :=
  if s.tim.state = .master then
    setTimState .acquiring { s with tim := { s.tim with lockRun := 0, holdRun := 0 } }
  else s

/-- A commit to TIM_CTRL.ACCEPT_STEP: 1 arms a step, 0 disarms it and ends a hold (R61, R62). -/
def acceptStepWrite (v : Bool) (s : State) : State :=
  let s1 := regPut s (TIM + 0x4) 0 1 (bit v)
  if v then s1 else { s1 with tim := { s1.tim with stepHeld := false } }

/-- ACCEPT_STEP_WRITE (R61, R62). -/
def execAcceptStepWrite (value : Bool) (s : State) : Host.Outcome State Fault Refusal := act (acceptStepWrite value) s

/-- TIM_NOW_LATCH (R75): a read of TIM_NOW_FRAC latches the rest of module time for the reading lane. -/
def execTimNowLatch (lane : LaneId) (s : State) : Host.Outcome State Fault Refusal :=
  act (fun s => s.modLane lane (fun L => { L with latch := { L.latch with
    timNs := BitVec.ofNat 30 (s.tim.now / nsUnits % 1000000000),
    timSecLo := BitVec.ofNat 32 (s.tim.now / secUnits),
    timSecHi := BitVec.ofNat 16 (s.tim.now / secUnits / 2 ^ 32) } })) s

/-- TIM_TICK_LATCH (R75): a read of TIM_TICK_LO latches TIM_TICK_HI for the reading lane. -/
def execTimTickLatch (lane : LaneId) (s : State) : Host.Outcome State Fault Refusal :=
  act (fun s => s.modLane lane (fun L => { L with latch := { L.latch with
    timTickHi := BitVec.ofNat 32 (s.tick / 2 ^ 32) } })) s

/-- SYS_PROG_LATCH (R39): a read of SYS_PROG_LO latches SYS_PROG_HI for the reading lane. -/
def execSysProgLatch (lane : LaneId) (s : State) : Host.Outcome State Fault Refusal :=
  act (fun s => s.modLane lane (fun L => { L with latch := { L.latch with
    sysProgHi := BitVec.ofNat 32 (s.cyc.progTick / 2 ^ 32) } })) s

/-- TIME_DISTRIBUTION_ERROR (R66): the captures of this fabric cycle are invalid and the class is reported. -/
def execTimeDistributionError (s : State) : Host.Outcome State Fault Refusal :=
  act (fun s => rep 0x0807 { s with tim := { s.tim with badCycle := some s.tim.cycles } }) s

/-- A capture taken in this fabric cycle is valid (R66). -/
def captureValid (s : State) : Bool := s.tim.badCycle != some s.tim.cycles

/-- Enters a frame's egress timestamp into a transmit-timestamp queue; a full queue discards it and keeps the identifier
(R69 to R71). The flag says whether it entered. -/
def pushTxTs (q : EthId) (ident : Nat) (ts : DWord) (s : State) : State × Bool :=
  let Q := vget s.tim.txq q
  let put (Q : TxQueue) : State := { s with tim := { s.tim with txq := vset s.tim.txq q Q } }
  if Q.entries.length < 16 then
    (put { Q with entries := Q.entries ++ [⟨BitVec.ofNat 16 ident, ts⟩] }, true)
  else (rep 0x0806 (put { Q with lostCnt := Q.lostCnt + 1, lostId := BitVec.ofNat 16 ident }), false)

/-- Takes the first entry with an identifier out of a transmit-timestamp queue (R70). -/
def popTxTs (q : EthId) (ident : Nat) (s : State) : State :=
  let Q := vget s.tim.txq q
  match Q.entries.find? (fun e => e.ident == BitVec.ofNat 16 ident) with
  | some e => { s with tim := { s.tim with txq := vset s.tim.txq q { Q with entries := Q.entries.erase e } } }
  | none => s

end Sys2Proof.Machine
end

