-- ==== Sys2Proof/Machine/Motion.lean ====
section
/-!
DEFINITION. Speed, position and direction supervision (R344 to R375): pulse inputs, sources and counting, marks, monitors and their
commands, the edge merger, motion items and the wheel calibration.
-/

namespace Sys2Proof.Machine

/-! ## Settings -/

/-- All pulse inputs and sources, in order. -/
def allPulse : List PulseId := [0, 1, 2, 3, 4, 5, 6, 7]

/-- All monitors, in order. -/
def allMons : List (Fin 16) := [0, 1, 2, 3, 4, 5, 6, 7, 8, 9, 10, 11, 12, 13, 14, 15]

/-- The settings of an input (R346). -/
def pinCfg (s : State) (i : Nat) : PinCfg := tgetD s.cfg.mot.pins i {}

/-- Is a mode a quadrature mode (R347)? -/
def isQuad (m : Nat) : Bool := 4 ≤ m && m ≤ 6

/-- The mode of source j as its configuration word has it. -/
def rawSrcMode (s : State) (j : Nat) : Nat := (tgetD s.cfg.mot.srcs j {}).mode

/-- The mode of source j, 0 where it does not exist (R347). -/
def srcMode (s : State) (j : Nat) : Nat :=
  let inputB := j % 2 = 1 ∧ isQuad (rawSrcMode s (j - 1)) ∧ (pinCfg s (j - 1)).mode = 1
  if (pinCfg s j).mode = 1 ∧ ¬ inputB ∧ rawSrcMode s j < 7 then rawSrcMode s j else 0

/-- The settings of a monitor (R361). -/
def monCfg (s : State) (m : Fin 16) : MonCfg := tgetD s.cfg.mot.mons m.val {}

/-- The inputs of a source (R347). -/
def srcInputs (s : State) (j : Nat) : List Nat := if isQuad (srcMode s j) then [j, j + 1] else if srcMode s j = 0 then [] else [j]

/-- The source an input counts for (R347). -/
def srcOf (s : State) (i : Nat) : Option Nat := (allPulse.map Fin.val).find? (fun j => (srcInputs s j).contains i)

/-- The sign of an edge under a source's mode, none where the edge is not counted (R347). `other` is the level of the source's
other input. -/
def edgeSign (mode : Nat) (isB rise other : Bool) : Option Int :=
  match mode, isB with
  | 1, false => if rise then some 1 else none
  | 2, false => if rise then none else some 1
  | 3, false => some 1
  | 4, false => if rise then some (if rise != other then 1 else -1) else none
  | 5, false => some (if rise != other then 1 else -1)
  | 6, false => some (if rise != other then 1 else -1)
  | 6, true => some (if rise == other then 1 else -1)
  | _, _ => none

/-- What an edge of input i adds to source j, with INVERT (R347). -/
def edgeDelta (s : State) (j i : Nat) (rise : Bool) (level : BitVec 8) : Option Int :=
  let other := if i = j then level.getLsbD (j + 1) else level.getLsbD j
  (edgeSign (srcMode s j) (i != j) rise other).map (fun d => if (tgetD s.cfg.mot.srcs j {}).invert then -d else d)

/-! ## Monitors -/

/-- The lane's source word. -/
def Lane.source (L : Lane) (j : Nat) : SrcSt := L.mot.src.toList.getD j {}

/-- The limit set a monitor uses. -/
def limSet (c : MonCfg) (set : BitVec 2) : LimSet := c.sets.getD set.toNat {}

/-- Does C − REF lie in the limits (R362)? -/
def inWindow (l : LimSet) (count ref : BitVec 32) : Bool :=
  let d := sdiff 32 count.toNat ref.toNat
  decide (l.lo ≤ d) && decide (d ≤ l.hi)

/-- Is the newest interval over K counts long enough (R362)? Limits are in units of 0.625 ns, captures in 2^-16 ns. -/
def speedOk (l : LimSet) (caps : List DWord) : Bool :=
  match caps.head?, caps[l.k]? with
  | some n, some p => decide ((l.limInt * 40960 : Int) ≤ sdiff 64 n.toNat p.toNat)
  | _, _ => true

/-- Is an armed monitor OK (R362)? -/
def monOk (s : State) (L : Lane) (c : MonCfg) (m : MonSt) : Bool :=
  let S := L.source c.src
  let l := limSet c m.set
  match c.type with
  | 1 => speedOk l m.caps
  | 2 => inWindow l S.count m.ref
  | 3 => (L.mot.mark.toList.getD c.markIn {}).latched && inWindow l S.count m.ref
  | 4 => S.standstill && srcMode s c.src != 0
  | _ => true

/-- Tests a monitor at a moment of R362; one that is not OK trips (R364). -/
def testMon (l : LaneId) (ts : DWord) (m : Fin 16) (s : State) : State :=
  let L := s.lane l
  let M := vget L.mot.mon m
  if M.state = .armed ∧ ¬ monOk s L (monCfg s m) M then
    let M' : MonSt := { M with state := .tripped, tripCnt := M.tripCnt + 1, tripNs := BitVec.ofNat 32 (field ts.toNat 16 32) }
    repLane 0x3001 l (s.modLane l (fun L => ({ L with mot := { L.mot with mon := vset L.mot.mon m M' } }).raise 6))
  else s

/-- Is the mark latch of an input held (R359)? -/
def markHeld (s : State) (L : Lane) (i : Nat) : Bool :=
  allMons.any (fun m => (monCfg s m).type == 3 && (monCfg s m).markIn == i && (vget L.mot.mon m).state != .disarmed)

/-- Arms a monitor (R364): REF taken, condition tested in the same fabric cycle. -/
def armMon (l : LaneId) (m : Fin 16) (set : BitVec 2) (s : State) : State :=
  let c := monCfg s m
  if c.type = 0 ∨ 4 < c.type then s
  else
    let L := s.lane l
    let mark := L.mot.mark.toList.getD c.markIn {}
    let ref := if c.type = 3 then mark.count else (L.source c.src).count
    let fresh := c.type = 3 ∧ ¬ markHeld s L c.markIn
    let upd (L : Lane) : Lane :=
      { L with mot := { L.mot with
          mon := vmod L.mot.mon m (fun M => { M with state := .armed, set := set, ref := ref, caps := [] }),
          mark := if fresh then vmod L.mot.mark (Fin.ofNat 8 c.markIn) (fun k => { k with seen := false }) else L.mot.mark } }
    testMon l s.ts m (s.modLane l upd)

/-- Disarms a monitor (R364). -/
def disarmMon (l : LaneId) (m : Fin 16) (s : State) : State :=
  s.modLane l (fun L => { L with mot := { L.mot with mon := vmod L.mot.mon m (fun M => { M with state := .disarmed }) } })

/-- A discarded monitor command (R366). -/
def lateCommand (l : LaneId) (s : State) : State :=
  repLane 0x3002 l (s.modLane l (fun L => { L with mot := { L.mot with lateCnt := L.mot.lateCnt + 1 } }))

/-- A write to MOT_CMD pushes a command with the APPLY of MOT_CMD_TICK (R366, R375); a lane that waits for the copy of R369 ignores
it. -/
def motCmd (l : LaneId) (m : Fin 16) (op : Nat) (set : BitVec 2) (s : State) : State :=
  let L := s.lane l
  let apply := L.reg (MOT + 4)
  if L.mot.waitCopy ∨ (op ≠ 1 ∧ op ≠ 2) then s
  else if sdiff 32 apply.toNat (compactTick s.tick) ≤ 0 ∨ 16 ≤ L.mot.pend.length then lateCommand l s
  else s.modLane l (fun L => { L with mot := { L.mot with pend := L.mot.pend ++ [⟨apply, m, op == 1, set⟩] } })

/-- MOT_CMD (R366). -/
def execMotCmd (lane : LaneId) (mon : Fin 16) (op : Fin 4) (set : BitVec 2) (s : State) : Host.Outcome State Fault Refusal :=
  act (motCmd lane mon op.val set) s

/-- The commands of a tick event (R366): those whose tick it is apply, in the order written; those a step has passed are discarded. -/
def applyCommands (l : LaneId) (s : State) : State :=
  let now := compactTick s.tick
  let pend := (s.lane l).mot.pend
  let rest := pend.filter (fun c => decide (0 < sdiff 32 c.apply.toNat now))
  let s1 := s.modLane l (fun L => { L with mot := { L.mot with pend := rest } })
  (pend.filter (fun c => decide (sdiff 32 c.apply.toNat now ≤ 0))).foldl (fun s c =>
    if sdiff 32 c.apply.toNat now < 0 then lateCommand l s
    else if c.arm then armMon l c.mon c.set s else disarmMon l c.mon s) s1

/-! ## Captures and counting in a lane -/

/-- The timestamp of a capture in this fabric cycle (R65). -/
def capTs (s : State) (phase : Fin 8) : DWord := s.ts + BitVec.ofNat 64 (40960 * phase.val)

/-- Does a lane's timestamp unit run: is the lane out of reset (R350)? -/
def unitRuns (L : Lane) : Bool := L.state != .off

/-- The levels after an edge. -/
def setLevel (lv : BitVec 8) (i : Nat) (v : Bool) : BitVec 8 :=
  if v then lv ||| BitVec.ofNat 8 (2 ^ i) else lv &&& ~~~(BitVec.ofNat 8 (2 ^ i))

/-- A mark edge latches the raw count of its MARK_SRC, or sets MARK_SEEN while the latch is held (R359). -/
def latchMark (l : LaneId) (s : State) (e : EdgeIn) : State :=
  let p := pinCfg s e.input.val
  if p.mode = 2 ∧ e.rise ≠ p.markFall then
    s.modLane l (fun L =>
      let k := vget L.mot.mark e.input
      let k' : MarkSt := if markHeld s L e.input.val then { k with seen := true }
        else { k with count := (L.source p.markSrc).count, latched := true }
      { L with mot := { L.mot with mark := vset L.mot.mark e.input k' } })
  else s

/-- Counts one edge of a source in a lane (R348, R349). -/
def countEdge (l : LaneId) (j : PulseId) (d : Int) (ts : DWord) (s : State) : State :=
  let upd (S : SrcSt) : SrcSt := { S with count := S.count + BitVec.ofInt 32 d, standstill := false, reverse := decide (d < 0) }
  s.modLane l (fun L => { L with mot := { L.mot with
      src := vmod L.mot.src j upd,
      mon := Vector.ofFn (fun m : Fin 16 =>
        let M := vget L.mot.mon m
        if M.state = .armed ∧ (monCfg s m).src = j.val then { M with caps := (ts :: M.caps).take 65 } else M) } })

/-- The edges of this fabric cycle as one source counts them: the quadrature error, or its one counted edge (R348). -/
def countSource (l : LaneId) (edges : List EdgeIn) (level : BitVec 8) (s : State) (j : PulseId) : State × List (PulseId × DWord) :=
  let own := edges.filter (fun e => (srcInputs s j.val).contains e.input.val)
  match own with
  | [] => (s, [])
  | [e] =>
    match edgeDelta s j.val e.input.val e.rise level with
    | some d => (countEdge l j d (capTs s e.phase) s, [(j, capTs s e.phase)])
    | none => (s, [])
  | _ :: _ :: _ =>
    (repLane 0x3006 l (s.modLane l (fun L => { L with
      mot := { L.mot with src := vmod L.mot.src j (fun S => { S with qerr := S.qerr + 1 }) } })), [])

/-- Adds a lane's capture to the gathering of its edge, or opens one (R350). -/
def addCapture (input : PulseId) (rise : Bool) (c : MergeCap) : List Gathering → List Gathering
  | [] => [⟨input, rise, [c]⟩]
  | g :: r =>
    if g.input = input ∧ g.rise = rise ∧ ¬ g.caps.any (fun x => x.lane == c.lane) then { g with caps := g.caps ++ [c] } :: r
    else g :: addCapture input rise c r

/-- The edges of one fabric cycle that a lane sees: those that change the conditioned level (R344). -/
def seenEdges (s : State) (l : LaneId) (edges : List EdgeIn) : List EdgeIn :=
  edges.filter (fun e => (vget s.mot.level l).getLsbD e.input.val != e.rise && !(e.rise && s.mot.fault.getLsbD e.input.val))

/-- Every source counts the lane's edges: the state and the sources that counted, with their timestamps (R348). -/
def countSources (l : LaneId) (seen : List EdgeIn) (level : BitVec 8) (s : State) : State × List (PulseId × DWord) :=
  allPulse.foldl (fun a j =>
    let (t, c) := countSource l seen level a.1 j
    (t, a.2 ++ c)) (s, [])

/-- The monitors of a source that counted test their speed (R367). -/
def testMons (l : LaneId) (s : State) (c : PulseId × DWord) : State :=
  allMons.foldl (fun s m => if (monCfg s m).src = c.1.val then testMon l c.2 m s else s) s

/-- What a lane does with the edges its timestamp unit captures in one fabric cycle (R67, R348, R367): marks latch, edges count,
monitors test, and the captures go to the merger. A parity error of the time distribution invalidates the captures (R66). -/
def laneEdges (l : LaneId) (edges : List EdgeIn) (s : State) : State :=
  let seen := seenEdges s l edges
  let level := seen.foldl (fun lv e => setLevel lv e.input.val e.rise) (vget s.mot.level l)
  let s0 := { s with mot := { s.mot with level := vset s.mot.level l level } }
  if !unitRuns (s0.lane l) || !captureValid s0 then s0
  else
    let s1 := seen.foldl (latchMark l) s0
    let (s2, counted) := countSources l seen level s1
    let s3 := counted.foldl (testMons l) s2
    let g := seen.foldl (fun g e => addCapture e.input e.rise ⟨l.val, capTs s0 e.phase, s.tim.cycles⟩ g) s3.mot.gather
    { s3 with mot := { s3.mot with gather := g } }

/-- PULSE_EDGE (R347): the edges a lane captures in this fabric cycle, in input order. -/
def execPulseEdge (lane : LaneId) (edges : List EdgeIn) (s : State) : Host.Outcome State Fault Refusal := act (laneEdges lane edges) s

/-- MARK_EDGE (R359): a mark edge of an input, with the other edges the lane captures in this fabric cycle. -/
def execMarkEdge (lane : LaneId) (input : PulseId) (phase : Fin 8) (others : List EdgeIn) (s : State) :
    Host.Outcome State Fault Refusal :=
  act (fun s => onlyIf ((pinCfg s input.val).mode == 2)
    (laneEdges lane (⟨input, !(pinCfg s input.val).markFall, phase⟩ :: others)) s) s

/-- STANDSTILL_TIMEOUT (R349): T_SS has passed in a lane without a counted edge. -/
def execStandstillTimeout (lane : LaneId) (source : PulseId) (s : State) : Host.Outcome State Fault Refusal :=
  act (fun s => onlyIf (unitRuns (s.lane lane) && srcMode s source.val != 0) (fun s => s.modLane lane (fun L => { L with
    mot := { L.mot with src := vmod L.mot.src source (fun S => { S with standstill := true }) } })) s) s

/-! ## Calibration -/

/-- A quotient rounded to the nearest whole number; which way a tie goes is free (log 9). -/
def divRound (place : Nat) (num : Int) (den : Nat) : Int :=
  let q := (2 * num + den) / (2 * den : Nat)
  if (2 * num + (den : Int)) % ((2 * den : Nat) : Int) = 0 ∧ !Config.roundUp place num then q - 1 else q

/-- A value in a field of `w` bits; what an unsigned field holds when the value does not fit is free (log 12). -/
def fitU (place w : Nat) (v : Int) : Nat := if 0 ≤ v ∧ v < (2 ^ w : Nat) then v.toNat else Config.outOfFormat place v % 2 ^ w

/-- A value in a signed field of `w` bits, free when it does not fit (log 12). -/
def fitS (place w : Nat) (v : Int) : Nat :=
  if -(2 ^ (w - 1) : Nat) ≤ v ∧ v < (2 ^ (w - 1) : Nat) then unsigned w v else Config.outOfFormat place v % 2 ^ w

/-- Places a mark between the neighbouring counted edges, linearly in time (R372). With no counted edge before it the fraction is
free (log 12). -/
def placeMark (tm : DWord) (before : Option DWord) (count : Int) (t1 : DWord) (d : Int) : CalMark :=
  match before with
  | some t0 =>
    let den := max 1 (sdiff 64 t1.toNat t0.toNat).toNat
    ⟨count * den + d * sdiff 64 tm.toNat t0.toNat, den, tm⟩
  | none => ⟨count * 65536 + (Config.outOfFormat 1 count % 65536 : Nat), 65536, tm⟩

/-- Ends the calibration with a status other than done (R373). -/
def failCal (status : Nat) (s : State) : State :=
  match s.mot.cal with
  | none => s
  | some c => rep 0x3008 (opDone c.ring c.tag status 0 0 { s with mot := { s.mot with cal := none } })

/-- Ends the calibration with its result, or with too few counts (R373). -/
def endCal (c : CalRun) (a b : CalMark) (s : State) : State :=
  let n := b.num * a.den - a.num * b.den
  let den := a.den * b.den
  if n.natAbs < 64 * den then failCal 0x83 s
  else
    let ms := divFree 7 (sdiff 64 b.ts.toNat a.ts.toNat) (65536 * 1000000)
    let ra := fitS 2 32 (divRound 8 (256 * n) den)
    let rb := fitU 3 32 (divRound 9 (c.dist * 1000 * den : Nat) n.natAbs) + 2 ^ 32 * fitU 4 32 ms
    opDone c.ring c.tag 0 ra rb { s with mot := { s.mot with cal := none } }

/-- The calibration with a new phase. -/
def setCal (c : CalRun) (s : State) : State := { s with mot := { s.mot with cal := some c } }

/-- A mark edge on the agreed records (R372): the first one starts the run, the next one of the second input ends it. `before` is the
timestamp of the last counted edge. -/
def calMark (input : Nat) (ts : DWord) (before : Option DWord) (s : State) : State :=
  match s.mot.cal with
  | none => s
  | some c =>
    let bf := before.map (fun t => (t, c.count))
    match c.phase with
    | .waiting => if input = c.in1 then setCal { c with phase := .placing ts bf c.count } s else s
    | .placing _ _ _ => if input = c.in2 then failCal 0x83 s else s
    | .running a => if input = c.in2 then setCal { c with phase := .ending a ts bf c.count } s else s
    | .ending _ _ _ _ => s

/-- A counted edge of the calibrated source on the agreed records (R372, R373). -/
def calEdge (ts : DWord) (d : Int) (s : State) : State :=
  match s.mot.cal with
  | none => s
  | some c =>
    let c1 := { c with count := c.count + d }
    match c.phase with
    | .waiting => setCal c1 s
    | .placing tm bf at_ =>
      if sdiff 64 ts.toNat tm.toNat ≤ 0 then setCal { c1 with phase := .placing tm (some (ts, c1.count)) c1.count } s
      else setCal { c1 with phase := .running (placeMark tm (bf.map Prod.fst) at_ ts d), sign := some (decide (0 < d)) } s
    | .running _ => if c.sign = some (decide (0 < d)) then setCal c1 s else failCal 0x81 s
    | .ending a tm bf at_ =>
      if sdiff 64 ts.toNat tm.toNat ≤ 0 then setCal { c1 with phase := .ending a tm (some (ts, c1.count)) c1.count } s
      else endCal c a (placeMark tm (bf.map Prod.fst) at_ ts d) s

/-- Has the calibration's run begun and not met its second mark? -/
def calRuns (c : CalRun) : Bool :=
  match c.phase with
  | .placing _ _ _ | .running _ => true
  | .waiting | .ending _ _ _ _ => false

/-- A quadrature error or an input fault of the calibrated run (R373). -/
def calDisturbed (status : Nat) (hit : CalRun → Bool) (s : State) : State :=
  match s.mot.cal with
  | some c => if calRuns c && hit c then failCal status s else s
  | none => s

/-- The timeout of a calibration (R373). -/
def calTimeout (s : State) : State :=
  match s.mot.cal with
  | some c =>
    match c.phase with
    | .ending _ _ _ _ => s
    | _ => if c.until_ ≤ s.tick then failCal 0x80 s else s
  | none => s

/-- MOT_CAL_RUN (R372). -/
def motCalRun (r : Fin 64) (d : Desc) (s : State) : State :=
  match s.mot.cal with
  | some _ => rep 0x3008 (opDone r d.tag 0x84 0 0 s)
  | none => setCal { ring := r, tag := d.tag, src := field d.paramA 0 3, in1 := field d.paramA 3 3, in2 := field d.paramA 6 3,
                     dist := d.paramB, until_ := s.tick + d.paramC } s

/-- MOT_CAL_RUN. -/
def execMotCalRun (ring : Fin 64) (tag : Fin 1024) (s : State) : Host.Outcome State Fault Refusal :=
  act (runOp ring tag 0x70 (motCalRun ring)) s

/-! ## The edge merger -/

/-- The windows of motion items of a source: the tasks that have one (R353, R354). -/
def winKeys (s : State) (j : Nat) : List Nat :=
  (s.cfg.cyc.tasks.filter (fun t => t.inputs.any (fun i => tget? s.cfg.mot.items i == some j))).map (fun t => 8 * t.task.val + j)

/-- The windows of a source changed. -/
def modWins (j : Nat) (f : MotWin → MotWin) (s : State) : State :=
  { s with mot := { s.mot with
      win := (winKeys s j).foldl (fun w k => tset w k (f (tgetD w k {}))) s.mot.win } }

/-- The merger's view of a source. -/
def MotUnit.agree (m : MotUnit) (j : Nat) : SrcAgree := m.src.toList.getD j {}

/-- The merger's view of a source changed. -/
def modAgree (j : Nat) (f : SrcAgree → SrcAgree) (s : State) : State :=
  { s with mot := { s.mot with src := vmod s.mot.src (Fin.ofNat 8 j) f } }

/-- The captures in order of time. -/
def insertCap (c : MergeCap) : List MergeCap → List MergeCap
  | [] => [c]
  | x :: r => if sdiff 64 c.ts.toNat x.ts.toNat < 0 then c :: x :: r else x :: insertCap c r

/-- The agreed capture: the median of three, the earlier of two, the only one (R350). -/
def agreedCap (caps : List MergeCap) : Option MergeCap :=
  match caps.foldr insertCap [] with
  | [a] => some a
  | [a, _] => some a
  | [_, b, _] => some b
  | _ => none

/-- A record in timestamp order among those of a window. -/
def insertRec (r : AgRec) : List AgRec → List AgRec
  | [] => [r]
  | x :: xs => if sdiff 64 r.ts.toNat x.ts.toNat < 0 then r :: x :: xs else x :: insertRec r xs

/-- A counted edge enters the merger's view of its source (R352, R354): a mark placed after it already includes it (R360). -/
def SrcAgree.add (S : SrcAgree) (e : AgEdge) (now : Nat) : SrcAgree :=
  { S with
    count := S.count + BitVec.ofInt 32 e.delta, recent := (e :: S.recent).take 8,
    tPrev := S.tLast, tLast := some e.ts, reverse := decide (e.delta < 0), quietSince := now,
    markCnt := if S.markValid ∧ e.cyc < S.markCyc then S.markCnt + BitVec.ofInt 32 e.delta else S.markCnt }

/-- A counted edge taken back: the other input's edge has the same fabric cycle, so neither counts (R348, R352). -/
def SrcAgree.takeBack (S : SrcAgree) (e : AgEdge) : SrcAgree :=
  { S with
    count := S.count - BitVec.ofInt 32 e.delta, recent := S.recent.filter (fun x => x != e), tLast := S.tPrev,
    reverse := match S.recent.filter (fun x => x != e) with
      | x :: _ => decide (x.delta < 0)
      | [] => S.reverse
    markCnt := if S.markValid ∧ e.cyc < S.markCyc then S.markCnt - BitVec.ofInt 32 e.delta else S.markCnt }

/-- An agreed edge counts for its source (R352), or makes a quadrature error with the other input's edge of its fabric cycle. -/
def deriveCount (j : Nat) (e : AgEdge) (d : Option Int) (s : State) : State :=
  let S := s.mot.agree j
  match S.recent.find? (fun x => x.cyc == e.cyc && x.input != e.input) with
  | some x =>
    calDisturbed 0x81 (fun c => c.src == j)
      (modWins j (fun w => { w with quadErr := true, nEdges := w.nEdges - (if x.delta = 0 then 0 else 1) })
        (modAgree j (fun S => S.takeBack x) s))
  | none =>
    match d with
    | none => if isQuad (srcMode s j) then modAgree j (fun S => { S with recent := ({ e with delta := 0 } :: S.recent).take 8 }) s else s
    | some d =>
      let e1 := { e with delta := d }
      let s1 := modAgree j (fun S => S.add e1 s.tim.now) s
      let s2 := modWins j (fun w => { w with
        nEdges := satInc 16 w.nEdges, tFirst := match w.tFirst with
          | some t => some t
          | none => some e.ts }) s1
      if (s2.mot.cal.map CalRun.src) = some j then calEdge e.ts d s2 else s2

/-- A mark edge on the agreed records (R360): the count of the records whose fabric cycles lie before the mark's. -/
def deriveMark (i : Nat) (c : MergeCap) (s : State) : State :=
  let p := pinCfg s i
  let S := s.mot.agree p.markSrc
  let later := (S.recent.filter (fun e => decide (c.cyc ≤ e.cyc))).foldl (fun n e => n + e.delta) (0 : Int)
  let s1 := modAgree p.markSrc (fun S => { S with
    markIn := i, markValid := true, markCnt := S.count - BitVec.ofInt 32 later, markTs := c.ts, markCyc := c.cyc }) s
  let calSrc := (s.mot.cal.map CalRun.src).getD 0
  calMark i c.ts (s.mot.agree calSrc).tLast s1

/-- A record enters a lane's queue with the merger's count, or is discarded when the queue is full (R67, R68, R350). -/
def TsuInput.store (q : TsuInput) (r : AgRec) : TsuInput :=
  if q.queue.length < 64 then
    { queue := q.queue ++ [⟨r.ts, r.input, r.rise, q.gap, r.cnt⟩], edgeCnt := r.cnt, gap := false }
  else { q with edgeCnt := r.cnt, gap := true }

/-- The agreed record goes into the queue of every lane whose timestamp unit runs; a discarded one sets GAP in the windows of its
source (R350, R354). -/
def deliverRecord (i : PulseId) (r : AgRec) (s : State) : State :=
  let full := allLanes.any (fun l => (s.lane l).state == .running && 64 ≤ (vget (s.lane l).tsu i).queue.length)
  let r1 := { r with gap := s.mot.gapNext.getLsbD i.val }
  let s1 := s.modLanes (fun L => if unitRuns L then { L with tsu := vmod L.tsu i (fun q => q.store r) } else L)
  let s2 := { s1 with mot := { s1.mot with gapNext := setLevel s1.mot.gapNext i.val full } }
  match srcOf s i.val with
  | some j =>
    if full then modWins j (fun w => { w with gap := true }) s2
    else modWins j (fun w => { w with
      trunc := w.trunc || 240 ≤ w.recs.length, recs := ((insertRec r1 w.recs).drop ((w.recs.length + 1) - 240)) }) s2
  | none => s2

/-- Lanes that miss an edge or differ from the agreed timestamp by more than 4 ns (R351). -/
def disagreeing (s : State) (g : Gathering) (a : MergeCap) : List LaneId :=
  allLanes.filter (fun l => unitRuns (s.lane l) &&
    match g.caps.find? (fun c => c.lane == l.val) with
    | some c => decide (4 * 65536 < (sdiff 64 c.ts.toNat a.ts.toNat).natAbs)
    | none => true)

/-- An edge disagreement (R351): counted in the lanes, flagged in the motion items of the source concerned, reported once. -/
def edgeDisagree (i : Nat) (ls : List LaneId) (s : State) : State :=
  if ls.isEmpty then s
  else
    let s1 := ls.foldl (fun s l => s.modLane l (fun L => { L with mot := { L.mot with edgeDis := L.mot.edgeDis + 1 } })) s
    let src := match srcOf s i with
      | some j => j
      | none => (pinCfg s i).markSrc
    rep 0x3003 (modWins src (fun w => { w with disagree := true }) s1)

/-- A gathering closes (R350 to R352, R360). -/
def closeGathering (g : Gathering) (s : State) : State :=
  match agreedCap g.caps with
  | none => s
  | some a =>
    let i := g.input
    let cnt := vget s.mot.edges i + 1
    let agl := setLevel s.mot.agLevel i.val g.rise
    let s1 := { s with mot := { s.mot with edges := vset s.mot.edges i cnt, agLevel := agl } }
    let s2 := edgeDisagree i.val (disagreeing s g a) (deliverRecord i ⟨a.ts, i.val, g.rise, cnt, false⟩ s1)
    let p := pinCfg s i.val
    if p.mode = 2 then (if g.rise ≠ p.markFall then deriveMark i.val a s2 else s2)
    else match srcOf s i.val with
      | some j => deriveCount j ⟨i.val, a.ts, a.cyc, 0⟩ (edgeDelta s j i.val g.rise agl) s2
      | none => s2

/-- Closes the first gathering of an input. -/
def mergeInput (i : PulseId) (s : State) : State :=
  match s.mot.gather.find? (fun g => g.input == i) with
  | some g => closeGathering g { s with mot := { s.mot with gather := s.mot.gather.erase g } }
  | none => s

/-- EDGE_MERGE (R350): the gathering of an edge of an input closes. -/
def execEdgeMerge (input : PulseId) (s : State) : Host.Outcome State Fault Refusal := act (mergeInput input) s

/-- An input fault begins or ends (R344). While it persists the input is read as low, so a high level falls in every lane. -/
def inputFault (i : PulseId) (begins : Bool) (s : State) : State :=
  if !(pinCfg s i.val).current || s.mot.fault.getLsbD i.val == begins then s
  else if begins then
    let s1 := allLanes.foldl (fun s l => laneEdges l [⟨i, false, 0⟩] s) s
    let s2 := { s1 with mot := { s1.mot with fault := setLevel s1.mot.fault i.val true } }
    let s3 := s2.modLanes (fun L => { L with mot := { L.mot with faultCnt := vmod L.mot.faultCnt i (fun n => n + 1) } })
    rep 0x3007 (calDisturbed 0x82 (fun c => c.in1 == i.val || c.in2 == i.val || (srcInputs s c.src).contains i.val) s3)
  else { s with mot := { s.mot with fault := setLevel s.mot.fault i.val false } }

/-- PULSE_INPUT_FAULT (R344): the input has left its range for 100 µs, or (`begins` false) has returned to it. -/
def execPulseInputFault (input : PulseId) (begins : Bool) (s : State) : Host.Outcome State Fault Refusal :=
  act (inputFault input begins) s

/-! ## Tick events -/

/-- One bit per monitor of a lane in a state. -/
def monMask (L : Lane) (st : MonState) : BitVec 16 :=
  BitVec.ofNat 16 ((allMons.filter (fun m => (vget L.mot.mon m).state == st)).foldl (fun n m => n + 2 ^ m.val) 0)

/-- Does the lane take part in the masks and comparisons of R352 and R368? -/
def monActive (L : Lane) : Bool := L.state == .running && !L.mot.waitCopy

/-- What a lane contributes to the agreed masks (R368): ARMED and TRIPPED. -/
def monContribution (L : Lane) : BitVec 16 × BitVec 16 :=
  if monActive L then (monMask L .armed, monMask L .tripped) else (0, 0xFFFF)

/-- The bitwise 2-of-3. -/
def majority (a b c : BitVec 16) : BitVec 16 := (a &&& b) ||| (a &&& c) ||| (b &&& c)

/-- The copy of R369 from the state source lane into a lane that has joined every task. -/
def copyMotion (s : State) : State :=
  let src := (s.lane s.vot.reint.srcState).mot
  allLanes.foldl (fun s l =>
      if (s.lane l).mot.waitCopy && counted s l then
        s.modLane l (fun L => { L with mot := { L.mot with
          mon := Vector.ofFn (fun m : Fin 16 =>
            let a := vget src.mon m
            { vget L.mot.mon m with state := a.state, set := a.set, ref := a.ref }),
          mark := src.mark,
          src := Vector.ofFn (fun j : Fin 8 => { vget L.mot.src j with count := (vget src.src j).count }),
          pend := src.pend } })
      else s) s

/-- Masks latched and agreed at a tick event, with the disagreement check (R368). -/
def latchMasks (s : State) : State :=
  let c (l : LaneId) := monContribution (s.lane l)
  let armed := majority (c 0).1 (c 1).1 (c 2).1
  let tripped := majority (c 0).2 (c 1).2 (c 2).2
  let s1 := { s with mot := { s.mot with agArmed := armed, agTripped := tripped } }
  let s2 := s1.modLanes (fun L => { L with mot := { L.mot with
    agArmed := armed, agTripped := tripped, armed := monMask L .armed, tripped := monMask L .tripped } })
  allLanes.foldl (fun s l =>
    let M := (s.lane l).mot
    let differs := monActive (s.lane l) && (M.armed != armed || M.tripped != tripped)
    let s' := s.modLane l (fun L => { L with mot := { L.mot with
      wordDiff := differs, wordDis := if differs && M.wordDiff then L.mot.wordDis + 1 else L.mot.wordDis } })
    if differs && M.wordDiff then repLane 0x3005 l s' else s') s2

/-- The comparison of raw and derived counts at a tick event (R352). -/
def compareCounts (s : State) : State :=
  allLanes.foldl (fun s l =>
    let L := s.lane l
    let now := if monActive L then (allPulse.filter (fun j =>
        srcMode s j.val != 0 && (vget L.mot.src j).count != (vget s.mot.src j).count)).map Fin.val
      else []
    let again := now.filter (fun j => nsMem L.mot.diverged j)
    let s1 := s.modLane l (fun L => { L with mot := { L.mot with diverged := now } })
    again.foldl (fun s j => report 0x3004 (10 + l.val) (leBytes 1 j) s) s1) s

/-- A lane that has received the copy of R369 acts by itself from the next fabric cycle on. -/
def endWaits (s : State) : State :=
  allLanes.foldl (fun s l =>
    if (s.lane l).mot.waitCopy && counted s l then s.modLane l (fun L => { L with mot := { L.mot with waitCopy := false } }) else s) s

/-- The motion part of a tick event, after the joins of R132 and before the snapshots: commands, copy, masks, comparison, open
gatherings closed, timestamp queues drained, calibration timeout (R352, R355, R366 to R369, R373). -/
def motionAtTick (s : State) : State :=
  let s1 := allLanes.foldl (fun s l => applyCommands l s) s
  let s2 := compareCounts (endWaits (latchMasks (copyMotion s1)))
  let s3 := s2.mot.gather.foldl (fun s g => closeGathering g s) { s2 with mot := { s2.mot with gather := [] } }
  let s4 := s3.modLanes (fun L => if L.state = .running then { L with tsu := L.tsu.map (fun q => { q with queue := [] }) } else L)
  calTimeout s4

/-! ## Motion items -/

/-- An optional timestamp as a field. -/
def tsField (t : Option DWord) : List Byte := leBytes 8 ((t.map BitVec.toNat).getD 0)

/-- A record as R67 lays it out. -/
def AgRec.bytes (r : AgRec) : List Byte :=
  leBytes 8 r.ts.toNat ++ leBytes 1 (r.input + 8 * bit r.rise + 16 * bit r.gap) ++ zeros 1 ++ leBytes 2 r.cnt.toNat ++ zeros 4

/-- STANDSTILL of a motion item (R354). -/
def itemStandstill (s : State) (j : Nat) : Bool :=
  let T := max 1 (tgetD s.cfg.mot.srcs j {}).tss
  decide ((s.mot.agree j).quietSince + T * tickUnits ≤ s.tick * tickUnits)

/-- Ticks from the last counted edge to the start boundary (R354); free where there was none (log 12). -/
def ticksSince (s : State) (j : Nat) : Nat :=
  match (s.mot.agree j).tLast with
  | none => Config.outOfFormat 5 j % 65536
  | some t => min 65535 ((sdiff 64 (compactTs (s.tick * tickUnits)).toNat t.toNat).toNat / (tickUnits / 2 ^ 24))

/-- A motion item as the lane runtime fills it (R353, R354). -/
def motionItemBytes (s : State) (t : TaskId) (c : InItemCfg) (j : Nat) : List Byte :=
  let S := s.mot.agree j
  let w := tgetD s.mot.win (8 * t.val + j) {}
  let recMax := min 240 ((c.length - 56) / 16)
  let recs := w.recs.drop (w.recs.length - recMax)
  let trunc := w.trunc || recMax < w.recs.length
  let flags := bit (itemStandstill s j) + 2 * bit S.reverse + 4 * bit w.quadErr + 8 * bit w.gap + 16 * bit w.disagree
    + 32 * bit trunc
  let invalid := (srcInputs s j).any (fun i => s.mot.fault.getLsbD i)
  let header := leBytes 2 c.item ++ leBytes 1 ((if invalid then 2 else 0) + 8) ++ leBytes 1 flags ++ leBytes 2 0
    ++ leBytes 2 c.length ++ tsField S.tLast
  let body := leBytes 4 S.count.toNat ++ leBytes 2 w.nEdges ++ leBytes 1 flags ++ leBytes 1 recs.length
    ++ tsField w.tFirst ++ tsField S.tPrev ++ tsField S.tLast
    ++ leBytes 1 (S.markIn + 8 * bit S.markValid) ++ zeros 3 ++ leBytes 4 S.markCnt.toNat ++ leBytes 8 S.markTs.toNat
    ++ leBytes 2 s.mot.agArmed.toNat ++ leBytes 2 s.mot.agTripped.toNat ++ leBytes 2 (ticksSince s j) ++ zeros 2
    ++ recs.flatMap AgRec.bytes
  header ++ padTo c.length body

/-- The windows of a task begin anew at the start of its instance (R354). -/
def openWindows (t : TaskId) (s : State) : State :=
  { s with mot := { s.mot with win := s.mot.win.filter (fun e => e.1 / 8 != t.val) } }

/-- The program start opens every window and forgets the marks (R354). -/
def motProgramStart (s : State) : State :=
  { s with mot := { s.mot with win := [], src := s.mot.src.map (fun S => { S with markValid := false }) } }

/-- The settings of a new configuration are loaded (R346): the merger begins to count its sources anew. -/
def motLoad (s : State) : State :=
  let lv := vget s.mot.level 0
  { s with mot := { ({} : MotUnit) with
      level := s.mot.level, fault := s.mot.fault, agLevel := lv, cal := s.mot.cal,
      src := Vector.replicate 8 { ({} : SrcAgree) with quietSince := s.tim.now } } }

/-! ## The trip path and the registers -/

/-- Do a lane's monitors let the column of VO[v] close (R370)? -/
def monitorsAllow (s : State) (L : Lane) (v : VoId) : Bool :=
  allMons.all (fun m => !(monCfg s m).voMask.getLsbD v.val || (vget L.mot.mon m).state == .armed)

/-- MonState as bits (R375). -/
def MonState.code : MonState → Nat
  | .disarmed => 0 | .armed => 1 | .tripped => 2

/-- A word of a limit set (R361). -/
def limWord (l : LimSet) (w : Nat) : Nat :=
  match w with
  | 0 => unsigned 32 l.lo
  | 1 => unsigned 32 l.hi
  | 2 => l.limInt
  | _ => l.k

/-- The RO words of the MOT block by offset (R375). -/
def motRead (s : State) (l : LaneId) (off : Nat) : Word :=
  let L := s.lane l
  let M := L.mot
  if off = 0 then packW [(16, (monMask L .armed).toNat), (16, (monMask L .tripped).toNat)]
  else if off = 0xC then packW [(5, M.pend.length), (11, 0), (16, M.lateCnt.toNat)]
  else if off = 0x10 then packW [(16, M.agArmed.toNat), (16, M.agTripped.toNat)]
  else if off = 0x14 then packW [(16, M.edgeDis.toNat), (16, M.wordDis.toNat)]
  else if 0x1C ≤ off ∧ off < 0x2C then
    let sel := (L.reg (MOT + 0x18)).toNat
    let c := monCfg s (Fin.ofNat 16 (field sel 0 4))
    BitVec.ofNat 32 (limWord (limSet c (BitVec.ofNat 2 (field sel 4 2))) ((off - 0x1C) / 4))
  else if 0x100 ≤ off ∧ off < 0x200 then
    let i : PulseId := Fin.ofNat 8 ((off - 0x100) / 0x20)
    let p := pinCfg s i.val
    let k := vget M.mark i
    let S := vget M.src i
    match (off - 0x100) % 0x20 with
    | 0 => packW [(1, bit p.current), (2, p.mode), (1, bit p.markFall), (3, p.markSrc)]
    | 4 => packW [(1, bit ((vget s.mot.level l).getLsbD i.val)), (1, bit (s.mot.fault.getLsbD i.val)),
        (1, bit (markHeld s L i.val)), (1, bit k.seen), (12, 0), (16, (vget M.faultCnt i).toNat)]
    | 8 => k.count
    | 0xC => packW [(3, rawSrcMode s i.val), (1, bit (tgetD s.cfg.mot.srcs i.val {}).invert), (12, 0),
        (16, (tgetD s.cfg.mot.srcs i.val {}).tss)]
    | 0x10 => S.count
    | 0x14 => packW [(1, bit S.standstill), (1, bit S.reverse), (14, 0), (16, S.qerr.toNat)]
    | _ => 0
  else if 0x200 ≤ off ∧ off < 0x300 then
    let m : Fin 16 := Fin.ofNat 16 ((off - 0x200) / 0x10)
    let c := monCfg s m
    let X := vget M.mon m
    match (off - 0x200) % 0x10 with
    | 0 => packW [(3, c.type), (1, 0), (3, c.src), (1, 0), (3, c.markIn), (5, 0), (8, c.voMask.toNat)]
    | 4 => packW [(2, X.state.code), (2, X.set.toNat), (12, 0), (16, X.tripCnt.toNat)]
    | 8 => X.ref
    | 0xC => X.tripNs
    | _ => 0
  else 0

end Sys2Proof.Machine
end

