-- ==== Sys2Proof/Machine/Analog.lean ====
section
/-!
DEFINITION. The analog chain (R376 to R401): blocks of samples and their flags, decimator resets, auxiliary switching, modulator
faults and the coarse path. The filters' output values are operands; what the chain makes of them is the model's.
-/

namespace Sys2Proof.Machine

/-- All analog channels, in order. -/
def allAna : List (Fin 16) := [0, 1, 2, 3, 4, 5, 6, 7, 8, 9, 10, 11, 12, 13, 14, 15]

/-- The settings of an analog channel (R378). -/
def anaCfg (s : State) (c : Fin 16) : AnaCfg := tgetD s.cfg.ana.chans c.val {}

/-- Is a channel on: RANGE 1 to 3 (R376)? -/
def anaOn (c : AnaCfg) : Bool := 1 ≤ c.range && c.range ≤ 3

/-- The output rate OR in samples per tick (R379). -/
def anaRate (c : AnaCfg) : Nat := 2 ^ (c.orCode % 4)

/-- The block length in ticks; 7 acts as 6 (R386, R401). -/
def anaBlock (c : AnaCfg) : Nat := 2 ^ min 6 c.blkLog2

/-- The group delay G = (85.5 × R − 2) × 50 ns with R = 512 / OR (R379). -/
def anaDelay (c : AnaCfg) : Nat := (4275 * (512 / anaRate c) - 100) * nsUnits

/-- The latency A in ticks (R388). -/
def anaLatency (c : AnaCfg) : Nat := 2 + 16 / anaRate c

/-- A channel changed. -/
def modAna (c : Fin 16) (f : AnaCh → AnaCh) (s : State) : State := { s with ana := { s.ana with ch := vmod s.ana.ch c f } }

/-! ## Resets and switches -/

/-- A reset of one channel: the settling window and the coarse path's dead time, in ns beyond G (R391, R394, R395). -/
def resetChannel (s : State) (extra : Nat) (c : Fin 16) (a : AnaCh) : AnaCh :=
  let g : Int := anaDelay (anaCfg s c)
  { a with
    settle := ((s.tim.now : Int) - g, (s.tim.now : Int) + g + (extra * nsUnits : Nat)) :: a.settle,
    coarseFrom := s.tim.now + (1600 + extra) * nsUnits }

/-- A decimator reset of every channel by a source: 0 the pin, 1 ANA_SYNC, 2 a time step, 3 an activation. Requests of one fabric
cycle make one reset (R391, R392). -/
def decimatorReset (src : Nat) (s : State) : State :=
  let bit := BitVec.ofNat 4 (2 ^ src)
  if s.ana.resetCyc = some s.tim.cycles then { s with ana := { s.ana with lastSrc := s.ana.lastSrc ||| bit } }
  else
    let ch := Vector.ofFn (fun c : Fin 16 => resetChannel s 0 c (vget s.ana.ch c))
    rep 0x3404 { s with ana := { s.ana with
      ch := ch, syncCnt := s.ana.syncCnt + 1, lastSrc := bit, syncTs := s.ts, resetCyc := some s.tim.cycles } }

/-- SYNC_PIN_EDGE (R391): every edge is timestamped, with its sampler phase (R65); the selected one resets while enabled. -/
def execSyncPinEdge (rise : Bool) (phase : Fin 8) (s : State) : Host.Outcome State Fault Refusal :=
  act (fun s =>
    let s1 := { s with ana := { s.ana with pinTs := capTs s phase } }
    let fall := regField s (ANA + 4) 1 1 == 1
    onlyIf (regField s (ANA + 4) 0 1 == 1 && rise != fall) (decimatorReset 0) s1) s

/-- A forward step of module time is a reset; the instants it carried time over are gaps (R393). -/
def anaStep (from_ upto : Nat) (s : State) : State :=
  if from_ < upto then decimatorReset 2 { s with ana := { s.ana with steps := (from_, upto) :: s.ana.steps } } else s

/-- ANA_SYNC (R398, R399). -/
def execAnaSync (ring : Fin 64) (tag : Fin 1024) (s : State) : Host.Outcome State Fault Refusal :=
  act (runOp ring tag 0x60 (fun d s =>
    runTimed ring d 0 0 (fun s => opDone ring d.tag 0 0 s.ts.toNat (decimatorReset 1 s)) s)) s

/-- The auxiliary multiplexer switches (R394); to the input already selected, nothing happens. -/
def auxSwitch (sel : BitVec 3) (s : State) : State :=
  if s.ana.auxSel = sel then s
  else modAna 15 (resetChannel s 20000 15) { s with ana := { s.ana with
    auxSel := sel, swCnt := s.ana.swCnt + 1, switches := (s.tim.now, sel) :: s.ana.switches } }

/-- ANA_AUX_SEL (R394, R398, R399). -/
def auxSelOp (r : Fin 64) (d : Desc) (s : State) : State :=
  let sel := BitVec.ofNat 3 (field d.paramA 0 3)
  let same := s.ana.auxSel == sel
  if !(anaCfg s 15).auxEn then opDone r d.tag 0x80 0 0 s
  else runTimed r d (bit same) 0 (fun s =>
    opDone r d.tag 0 (bit same) (if same then 0 else s.ts.toNat) (auxSwitch sel s)) s

/-- ANA_AUX_SEL. -/
def execAnaAuxSel (ring : Fin 64) (tag : Fin 1024) (s : State) : Host.Outcome State Fault Refusal :=
  act (runOp ring tag 0x61 (auxSelOp ring)) s

/-! ## Blocks -/

/-- Does a closed or open interval meet another? -/
def meets (w : Nat × Option Nat) (lo hi : Int) : Bool :=
  decide ((w.1 : Int) ≤ hi) && match w.2 with
    | none => true
    | some e => decide (lo ≤ (e : Int))

/-- Is an instant passed over by a step (R393)? -/
def inGap (s : State) (t : Nat) : Bool := s.ana.steps.any (fun w => decide (w.1 < t) && decide (t < w.2))

/-- The value of a sample before clipping (R384): factory calibration, then user calibration; which way a tie of the rounding goes is
free (log 9). -/
def sampleValue (s : State) (c : Fin 16) (raw : Int) : Int :=
  let k := anaCfg s c
  let aux := if k.auxEn then s.ana.auxSel.toNat else 0
  let x := if (vget s.ana.ch c).calMissing then divRound 10 raw 65536 else Config.factoryCorrect c.val k.range aux raw
  divRound 11 ((k.gain : Int) * (x - k.ofs)) 4194304

/-- The word of one sample, with the flags of R387: settling, overrange by clipping, overrange, gap. -/
def sampleWord (s : State) (c : Fin 16) (t : Nat) (raw : Int) : Nat × Bool × Bool × Bool × Bool :=
  let a := vget s.ana.ch c
  let g : Int := anaDelay (anaCfg s c)
  let v := sampleValue s c raw
  let gap := inGap s t
  let clipped := v != saturate 24 v && !gap
  let settling := a.settle.any (fun w => decide (w.1 < (t : Int)) && decide ((t : Int) ≤ w.2))
  let bad := a.modBad.any (fun w => meets w ((t : Int) - g) ((t : Int) + g))
  let over_ := clipped || bad
  let value := if gap then 0 else unsigned 24 (saturate 24 v)
  (pack [(24, value), (1, bit settling), (1, bit over_), (1, bit gap), (5, 0)], settling, clipped, over_, gap)

/-- The instant of sample i of a block that starts at a tick (R380). -/
def sampleInstant (c : AnaCfg) (first i : Nat) : Nat := first * tickUnits + i * tickUnits / anaRate c

/-- Has none of the block's ticks had a tick event (R393)? -/
def noTickEvent (s : State) (first n : Nat) : Bool :=
  (List.range n).all (fun i =>
    let b := (first + i) * tickUnits
    s.ana.steps.any (fun w => decide (w.1 < b) && decide (b ≤ w.2) && decide (b + tickUnits ≤ w.2)))

/-- A completed block becomes an arrival of the channel's item (R386 to R389). It is due so that the item takes it at the swap of tick
N + B − 1 + A. -/
def blockWrite (c : Fin 16) (first : Nat) (raws : List Int) (s : State) : State :=
  let k := anaCfg s c
  let b := anaBlock k
  let n := anaRate k * b
  if !anaOn k || first % b != 0 || raws.length != n || s.tick + 1 != first + b - 1 + anaLatency k || noTickEvent s first b then s
  else
    let a := vget s.ana.ch c
    let words := (List.range n).map (fun i => (i, sampleWord s c (sampleInstant k first i) (raws.getD i 0)))
    let lo := first * tickUnits
    let hi := (first + b) * tickUnits
    let last := sampleInstant k first (n - 1)
    let aux := if k.auxEn then ((s.ana.switches.find? (fun w => w.1 ≤ last)).map Prod.snd).getD 0 else 0
    let anySettle := words.any (fun w => w.2.2.1)
    let anyOver := words.any (fun w => w.2.2.2.2.1)
    let anyGap := words.any (fun w => w.2.2.2.2.2)
    let coarseOut := a.coarseOut.any (fun w => meets w lo ((hi : Int) - 1))
    let switched := k.auxEn && s.ana.switches.any (fun w => lo ≤ w.1 && w.1 < hi)
    let valid := words.any (fun w => !w.2.2.1 && !w.2.2.2.2.2)
    let payload := leBytes 4 (compactTick first) ++ leBytes 1 c.val ++ leBytes 1 (k.orCode + 4 * min 6 k.blkLog2)
      ++ leBytes 1 aux.toNat ++ zeros 1 ++ words.flatMap (fun w => leBytes 4 w.2.1)
    let eng := bit anySettle + 2 * bit anyOver + 4 * bit anyGap + 8 * bit coarseOut + 16 * bit switched
    let clips := words.filter (fun w => w.2.2.2.1)
    let clipTicks := ((clips.map (fun w => w.1 / anaRate k)).foldl nsAdd []).length
    let g := anaDelay k
    let keepW (w : Nat × Option Nat) : Bool := match w.2 with
      | none => true
      | some e => decide (lo ≤ e + g)
    let upd (a : AnaCh) : AnaCh := { a with
      ovrCnt := a.ovrCnt + BitVec.ofNat 16 clips.length, overrange := (words.getLast?.map (fun w => w.2.2.2.1)).getD false,
      settle := a.settle.filter (fun w => decide ((lo : Int) ≤ w.2)), modBad := a.modBad.filter keepW,
      coarseOut := a.coarseOut.filter keepW }
    let s1 := modAna c upd (arrive k.item ⟨valid, BitVec.ofNat 8 eng, compactTs lo, payload⟩ s)
    (List.range clipTicks).foldl (fun s _ => rep 0x3401 s) s1

/-- ANALOG_BLOCK_WRITE (R388): `raws` are the resampler outputs of the block's instants, in units of 2^-16 of a code. -/
def execAnalogBlockWrite (chan : Fin 16) (first : Nat) (raws : List Int) (s : State) : Host.Outcome State Fault Refusal :=
  act (blockWrite chan first raws) s

/-! ## Modulator faults and the coarse path -/

/-- 256 modulator clocks, 12.8 µs (R383). -/
def modWindow : Nat := 12800 * nsUnits

/-- A modulator fault begins or ends (R383); its class is reported once per tick and channel. -/
def modulatorFault (c : Fin 16) (begins : Bool) (s : State) : State :=
  let a := vget s.ana.ch c
  if a.modFault = begins then s
  else if begins then
    let s1 := modAna c (fun a => { a with
      modFault := true, modTick := some s.tick, modBad := (s.tim.now - modWindow, none) :: a.modBad }) s
    let s2 := { s1 with ana := { s1.ana with modFltCnt := s1.ana.modFltCnt + 1 } }
    if a.modTick = some s.tick then s2 else rep 0x3402 s2
  else modAna c (fun a => { a with
    modFault := false, modBad := a.modBad.map (fun w => (w.1, some (w.2.getD (s.tim.now - modWindow)))) }) s

/-- MODULATOR_FAULT (R383): no transition for 256 clocks, or (`begins` false) 256 clocks with transitions. -/
def execModulatorFault (chan : Fin 16) (begins : Bool) (s : State) : Host.Outcome State Fault Refusal :=
  act (modulatorFault chan begins) s

/-- A coarse value passes the coarse comparator (R395, R396). -/
def coarseValue (c : Fin 16) (v : BitVec 12) (s : State) : State :=
  let a := vget s.ana.ch c
  let base := ANA + 0x110 + 0x20 * c.val
  if regField s base 31 1 = 0 then modAna c (fun a => { a with coarse := v }) s
  else
    let x := signed 12 v.toNat
    let low := decide (x < signed 12 (regField s base 0 12))
    let high := decide (signed 12 (regField s base 16 12) < x)
    let rises := bit (low && !a.coarseLow) + bit (high && !a.coarseHigh)
    let wasOut := a.coarseLow || a.coarseHigh
    let out := if (low || high) && !wasOut then (s.tim.now, none) :: a.coarseOut
      else if !(low || high) && wasOut then a.coarseOut.map (fun w => (w.1, some (w.2.getD s.tim.now)))
      else a.coarseOut
    let s1 := modAna c (fun a => { a with
      coarse := v, coarseLow := low, coarseHigh := high, coarseOut := out,
      coarseTick := if rises = 0 then a.coarseTick else some s.tick }) s
    let s2 := { s1 with ana := { s1.ana with coarseCnt := s1.ana.coarseCnt + BitVec.ofNat 16 rises } }
    if rises = 0 ∨ a.coarseTick = some s.tick then s2 else rep 0x3403 s2

/-- COARSE_LIMIT (R396): a new coarse value of a channel. -/
def execCoarseLimit (chan : Fin 16) (value : BitVec 12) (s : State) : Host.Outcome State Fault Refusal :=
  act (coarseValue chan value) s

/-- Is a channel's coarse value valid now (R395)? -/
def coarseValid (s : State) (c : Fin 16) : Bool := anaOn (anaCfg s c) && decide ((vget s.ana.ch c).coarseFrom ≤ s.tim.now)

/-- ANA_COARSE_READ (R397): the coarse values of this fabric cycle are latched into the buffer. -/
def coarseReadOp (r : Fin 64) (values : Vector (BitVec 12) 16) (d : Desc) (s : State) : State :=
  let s1 := allAna.foldl (fun s c => coarseValue c (vget values c) s) s
  let half (c : Fin 16) : List Byte :=
    if testBit d.paramA c.val then leBytes 2 ((vget values c).toNat + 4096 * bit (coarseValid s1 c) + 8192) else zeros 2
  opDone r d.tag 0 0 s.ts.toNat (writeBuffer d.addr (allAna.flatMap half) s1)

/-- ANA_COARSE_READ; `values` are the coarse values of the channels. -/
def execAnaCoarseRead (ring : Fin 64) (tag : Fin 1024) (values : Vector (BitVec 12) 16) (s : State) :
    Host.Outcome State Fault Refusal :=
  act (runOp ring tag 0x62 (coarseReadOp ring values)) s

/-- A held ANA_SYNC or ANA_AUX_SEL takes effect at its tick event (R391, R394). -/
def anaRelease (d : Desc) (s : State) : State :=
  match d.opcode with
  | 0x60 => decimatorReset 1 s
  | 0x61 => auxSwitch (BitVec.ofNat 3 (field d.paramA 0 3)) s
  | _ => s

/-- The settings of a new configuration are loaded (R378, R385). `hasCal` says which channels have a factory calibration entry. -/
def anaLoad (hasCal : Nat → Bool) (s : State) : State :=
  let missing (c : Fin 16) : Bool := anaOn (anaCfg s c) && !hasCal c.val
  let s1 := { s with ana := { s.ana with ch := Vector.ofFn (fun c : Fin 16 => { vget s.ana.ch c with calMissing := missing c }) } }
  let s2 := if allAna.any missing then rep 0x3405 s1 else s1
  decimatorReset 3 s2

/-! ## Registers -/

/-- The RO words of the ANA block by offset (R401). -/
def anaRead (s : State) (off : Nat) : Word :=
  let A := s.ana
  let pendAux := allRings.any (fun r => (s.ringAt r).held.any (fun h => h.desc.opcode == 0x61))
  if off = 0 then packW [(16, A.syncCnt.toNat), (4, A.lastSrc.toNat)]
  else if off = 8 then A.syncTs.setWidth 32
  else if off = 0xC then (A.syncTs >>> 32).setWidth 32
  else if off = 0x10 then A.pinTs.setWidth 32
  else if off = 0x14 then (A.pinTs >>> 32).setWidth 32
  else if off = 0x18 then packW [(3, A.auxSel.toNat), (1, bit pendAux), (12, 0), (16, A.swCnt.toNat)]
  else if off = 0x1C then packW [(16, A.coarseCnt.toNat), (16, A.modFltCnt.toNat)]
  else if 0x100 ≤ off ∧ off < 0x300 then
    let c : Fin 16 := Fin.ofNat 16 ((off - 0x100) / 0x20)
    let k := anaCfg s c
    let a := vget A.ch c
    let t : Int := (s.tim.now : Int) - anaDelay k
    match (off - 0x100) % 0x20 with
    | 0 => packW [(3, k.range), (1, 0), (2, k.orCode), (2, 0), (3, k.blkLog2), (1, bit k.userCal), (1, bit k.auxEn), (3, 0), (13, k.item)]
    | 4 => packW [(1, bit (a.settle.any (fun w => decide (w.1 < t) && decide (t ≤ w.2)))), (1, bit a.overrange), (1, bit a.modFault),
        (1, bit a.coarseLow), (1, bit a.coarseHigh), (1, bit a.calMissing), (10, 0), (16, a.ovrCnt.toNat)]
    | 8 => packW [(25, k.gain)]
    | 0xC => packW [(24, unsigned 24 k.ofs)]
    | 0x14 => packW [(12, a.coarse.toNat), (1, bit (coarseValid s c))]
    | _ => 0
  else 0

end Sys2Proof.Machine
end

