-- ==== Sys2Proof/Machine/Containers.lean ====
section
/-!
DEFINITION. Signed containers and the keys that may sign them (R478 to R488): the header, the checks of R483, lifecycle states, and what
the stored containers say of the running configuration, image and firmware. The payload encodings are Apmer's (log 6); digests and
signatures are FIPS 202's and 204's (log 5).
-/

namespace Sys2Proof.Machine

/-! ## The header -/

/-- Length of a container header (R482). -/
def headerLen : Nat := 5632
/-- TYPE of a container. -/
def contType (b : List Byte) : Nat := byteAt b 4
/-- FMT of a container. -/
def contFmt (b : List Byte) : Nat := byteAt b 5
/-- SVN of a container. -/
def contSvn (b : List Byte) : Nat := byteAt b 8
/-- MIN_FW_SVN of a container. -/
def contMinSvn (b : List Byte) : Nat := byteAt b 9
/-- VERSION of a container. -/
def contVersion (b : List Byte) : Nat := leAt b 12 4
/-- PAYLOAD_LEN of a container. -/
def contLen (b : List Byte) : Nat := leAt b 16 8
/-- PAYLOAD_DIGEST of a container. -/
def contDigest (b : List Byte) : List Byte := slice b 40 64
/-- APP_DIGEST of a configuration container. -/
def contApp (b : List Byte) : List Byte := slice b 104 32
/-- SIGNER_PK of a container. -/
def contKey (b : List Byte) : List Byte := slice b 136 1952
/-- SIGNATURE of a container. -/
def contSig (b : List Byte) : List Byte := slice b 2088 3309
/-- The payload of a container. -/
def contPayload (b : List Byte) : List Byte := b.drop headerLen

/-- ASCII text as bytes. -/
def ascii (t : String) : List Byte := t.toList.map (fun c => BitVec.ofNat 8 c.toNat)

/-- The message ML-DSA signs in pure form under a context string (FIPS 204, R478, R480). -/
def withContext (ctx : String) (m : List Byte) : List Byte := zeros 1 ++ leBytes 1 ctx.length ++ ascii ctx ++ m

/-- The context string of a container type (R480). -/
def typeContext : Nat → String
  | 1 => "ZWD3100-FW"
  | 2 => "ZWD3100-APP"
  | 3 => "ZWD3100-CFG"
  | _ => "ZWD3100-CAL"

/-- A 32-byte digest (R479). -/
def digest32 (b : List Byte) : List Byte := (Config.shake256 64 b).take 32

/-! ## Lifecycle and keys -/

/-- Lifecycle states (R486). -/
inductive Lifecycle | blank | provisioned | owned | returned | retired
deriving DecidableEq, Repr

/-- The lifecycle state of a fuse count (R486). -/
def lifecycleOf (n : Nat) : Lifecycle :=
  if n = 0 then .blank
  else if n = 1 then .provisioned
  else if 15 ≤ n then .retired
  else if n % 2 = 0 then .owned
  else .returned

/-- The module's lifecycle state. -/
def lifecycle (s : State) : Lifecycle := lifecycleOf s.otp.lifeN.toNat

/-- LC_STATE (R518). -/
def Lifecycle.code : Lifecycle → Nat
  | .blank => 0 | .provisioned => 1 | .owned => 2 | .returned => 3 | .retired => 4

/-- The owner slot of a fuse count: the current one, or in RETURNED the one last used (R486). -/
def ownerSlotOf (n : Nat) : Nat := n / 2 - 1

/-- The current owner slot. -/
def ownerSlot (s : State) : Nat := ownerSlotOf s.otp.lifeN.toNat

/-- The digest a vendor slot holds, unless revoked (R485). -/
def vendorKey (s : State) (i : Nat) : Option (List Byte) :=
  let v := s.trust.vendor.toList.getD i {}
  if v.revoked then none else v.digest

/-- The digest an owner slot holds (R485). -/
def ownerKey (s : State) (i : Nat) : Option (List Byte) := (s.trust.owner.toList[i]?).getD none

/-- The digest held in a key slot of a class (R482). -/
def slotKey (s : State) (cls slot : Nat) : Option (List Byte) := if cls = 0 then vendorKey s slot else ownerKey s slot

/-- Is a key permitted to sign a container type in the present lifecycle state (R483 order 3, R486)? -/
def keyPermitted (s : State) (type cls slot : Nat) : Bool :=
  match lifecycle s with
  | .blank | .retired => false
  | .provisioned | .returned => cls == 0 && slot < 4
  | .owned => (cls == 0 && slot < 4 && type == 1) || (cls == 1 && slot == ownerSlot s && (type == 2 || type == 3))

/-! ## The checks -/

/-- Are the zero fields of a header zero (R482)? -/
def zeroFields (b : List Byte) : Bool :=
  let t := contType b
  (b.drop 10).take 2 == zeros 2 && (b.drop 29).take 11 == zeros 11 && (b.drop 5397).take 235 == zeros 235 &&
  (t == 1 || contSvn b == 0) && (t == 2 || t == 3 || contMinSvn b == 0) && (t == 3 || contApp b == zeros 32)

/-- The largest container of a type in MiB (R483 order 2). -/
def placeMiB : Nat → Nat
  | 1 => 512
  | 2 => 1024
  | 3 => 16
  | _ => 32

/-- The running firmware's container. -/
def runningFw (s : State) : List Byte := (vget s.trust.banks (if s.trust.bankB then 1 else 0)).getD []

/-- RUN_FMT and MIN_FMT of the running firmware (R500). -/
def formats (s : State) : Nat × Nat := Config.fwFormats (contPayload (runningFw s))

/-- The version rules of R483 order 8, but for the CVER rule of activation. -/
def versionOk (s : State) (b : List Byte) : Bool :=
  let (run, low) := formats s
  match contType b with
  | 1 => s.trust.secVer ≤ contSvn b
  | 2 | 3 => contMinSvn b ≤ contSvn (runningFw s) && low ≤ contFmt b && contFmt b ≤ run
  | _ => true

/-- The first check of R483 that a container fails, as its reason code, or 0. -/
def containerReason (s : State) (b : List Byte) : Nat :=
  let t := contType b
  let cls := byteAt b 6
  let slot := byteAt b 7
  if leAt b 0 4 ≠ 0x3143575A ∨ t < 1 ∨ 4 < t ∨ ¬ zeroFields b then 1
  else if b.length ≠ headerLen + contLen b ∨ placeMiB t * 1048576 < b.length then 2
  else if ¬ keyPermitted s t cls slot then 3
  else if slotKey s cls slot ≠ some (digest32 (contKey b)) then 4
  else if ¬ Config.mldsaVerify (contKey b) (withContext (typeContext t) (b.take 2088)) (contSig b) then 5
  else if ¬ (leAt b 24 5 = s.otp.serial.toNat ∨ (leAt b 24 5 = 0 ∧ t ≠ 4)) ∨ (t = 4 ∧ leAt b 24 5 = 0) then 6
  else if Config.shake256 64 (contPayload b) ≠ contDigest b then 7
  else if ¬ versionOk s b then 8
  else 0

/-- A container is rejected: counted, and the class reported with its reason (R483). -/
def rejectContainer (reason : Nat) (s : State) : State :=
  report 0x4801 7 (leBytes 1 reason) { s with trust := { s.trust with verifyFail := s.trust.verifyFail + 1 } }

/-! ## What the stored containers say -/

/-- A configuration slot. -/
def cfgSlot (s : State) (i : Nat) : CfgSlot := s.trust.slots.toList.getD i {}

/-- The number of the slot in a state, if one is (R489). -/
def slotIn (s : State) (st : SlotState) : Option Nat := (List.range 8).find? (fun i => (cfgSlot s i).state == st)

/-- The ACTIVE configuration's container. -/
def activeCont (s : State) : Option (List Byte) := (slotIn s .active).map (fun i => (cfgSlot s i).cont)

/-- The configuration digest, zero without an active configuration (R479, R518). -/
def cfgDigest (s : State) : List Byte := match activeCont s with
  | some b => (contDigest b).take 32
  | none => zeros 32

/-- The image slot that holds an image with a digest (R495). -/
def imageSlot (s : State) (digest : List Byte) : Option Nat :=
  (List.range 8).find? (fun i => match (s.trust.images.toList[i]?).getD none with
    | some b => (contDigest b).take 32 == digest
    | none => false)

/-- An image slot's container. -/
def imageAt (s : State) (i : Nat) : List Byte := ((s.trust.images.toList[i]?).getD none).getD []

/-- Is there an active configuration, loaded and free of a configuration fault (R3)? -/
def cfgActive (s : State) : Bool := s.trust.cfgOk && (slotIn s .active).isSome

end Sys2Proof.Machine
end

