-- ==== Sys2Proof/Machine/ClaspRoles.lean ====
section
/-!
DEFINITION. Clasp roles that register commits change (R443, R445) and the CLS registers (R458).
-/

namespace Sys2Proof.Machine

/-- The roles that claim (R443). -/
def ClsRole.claims : ClsRole → Bool
  | .contend | .standby | .active => true
  | .none | .listen | .join | .withdrawn => false

/-- The lanes that run, one bit a lane. -/
def runningMask (s : State) : BitVec 3 :=
  BitVec.ofNat 3 ((allLanes.filter (fun l => (s.lane l).state == .running)).foldl (fun n l => n + 2 ^ l.val) 0)

/-- A checkpoint attempt begins: the program is stopped and the claim withdrawn (R443, R453). -/
def enterJoin (s : State) : State :=
  let s1 := stopProgram s
  setRole .join { s1 with cls := { s1.cls with
    outEn := false, yielding := false, phase := 1, round := 1, joined := 0, final := [], started := [], joinLive := runningMask s1 } }

/-- A committed YIELD (R445): no claim in the next frame, the enable kept until its decision; ignored while the partner is not in
STANDBY. -/
def yieldNow (s : State) : State :=
  if s.cls.role = .active ∧ s.cls.plUp ∧ s.cls.partner.role = .standby then
    setRole .standby { s with cls := { s.cls with yielding := true } }
  else s

/-- A committed RESYNC rebuilds the standby (R443). -/
def resyncNow (s : State) : State := if s.cls.role = .standby then enterJoin s else s

/-! ## Registers -/

/-- A CLS register's read-only fields at an offset (R458), its writable ones included. -/
def clsRead (s : State) (off : Nat) : Word :=
  let c := s.cls
  match off with
  | 0x00 => packW [(3, c.role.code), (1, bit c.outEn), (2, c.lineOk.toNat), (1, bit c.plUp), (1, bit c.won),
      (3, if c.plUp then c.partner.role.code else 0), (1, bit (c.plUp && c.partner.digest == cfgDigest s))]
  | 0x04 => packW [(3, s.cfg.cls.base), (1, bit s.cfg.cls.sticky), (4, s.cfg.cls.posId), (8, 0), (16, s.cfg.cls.waitTicks)]
  | 0x08 => packW [(16, c.own.toNat), (16, c.winner.toNat)]
  | 0x0C => packW [(8, c.score.toNat), (8, regField s (CLS + 0xC) 8 8), (7, c.deduct.toNat)]
  | 0x10 => regGet s (CLS + 0x10)
  | 0x14 => c.epoch.setWidth 32
  | 0x18 => c.partner.epoch.setWidth 32
  | 0x1C => packW [(3, if c.role = .join then c.phase else 0), (7, if c.role = .join then c.round else 0), (16, c.joined.toNat),
      (6, c.fails.toNat)]
  | 0x20 => packW [(16, c.lastUs), (16, c.worstUs)]
  | 0x24 => packW [(16, c.roleCnt.toNat), (16, c.lineErr.toNat)]
  | 0x28 => packW [(16, c.cmpCnt.toNat), (16, c.divCnt.toNat)]
  | _ => 0

end Sys2Proof.Machine
end

