-- ==== Sys2Proof/Machine/SafeCheck.lean ====
section
/-!
DEFINITION. Check values and the safe container (R324, R325, R332, R333), the component check of an arrival (R338), and the
evaluation of safe receivers (R339 to R341).
-/

namespace Sys2Proof.Machine

/-- The check value of an algorithm over bytes (R324). -/
def checkValue (alg : Nat) (bs : List Byte) : Nat :=
  match alg with
  | 0 => crc32k2 bs
  | 1 => crc64 bs
  | 2 => crc32c bs
  | _ => crc16 bs

/-- Bytes of a check value, C of R324. -/
def checkLen (alg : Nat) : Nat :=
  match alg with
  | 0 => 4
  | 1 => 8
  | 2 => 4
  | _ => 2

/-- The fold block (R325). -/
def foldBlock (foldId foldSeq : Nat) : List Byte := leBytes 4 foldId ++ leBytes 4 foldSeq

/-- Length of a container with ULEN user bytes (R332). -/
def containerLen (ulen : Nat) : Nat := 16 + 8 * ((ulen + 7) / 8)

/-- The container up to CHECK (R332). -/
def containerBody (alg ulen seq : Nat) (data : List Byte) : List Byte :=
  leBytes 1 (1 + 16 * alg) ++ leBytes 1 0 ++ leBytes 2 ulen ++ leBytes 4 seq ++ padTo (8 * ((ulen + 7) / 8)) (padTo ulen data)

/-- A safe container (R332, R333). -/
def container (safeId alg ulen seq : Nat) (data : List Byte) : List Byte :=
  let b := containerBody alg ulen seq data
  b ++ leBytes 8 (checkValue alg (foldBlock safeId seq ++ b))

/-- The second condition of R338: VER, ALG and ULEN. -/
def formatOk (c : SafeRecvCfg) (b : List Byte) : Bool := byteAt b 0 == 1 + 16 * c.alg && leAt b 2 2 == c.ulen

/-- The third condition of R338: CHECK over the declared SAFE_ID. -/
def checkOk (c : SafeRecvCfg) (b : List Byte) : Bool :=
  let n := containerLen c.ulen
  b.length == n && leAt b (n - 8) 8 == checkValue c.alg (foldBlock c.safeId (leAt b 4 4) ++ b.take (n - 8))

/-- A unit in service for a role: the lowest-numbered one (R323, R327). -/
def unitFor (s : State) (role : Nat) : Option (Fin 16) :=
  ((List.range 16).map (Fin.ofNat 16)).find? (fun u => (vget s.chk.unit u).role.toNat == role && !(vget s.chk.unit u).failed)

/-- A unit has done one more operation, wrap or check. -/
def countUnit (u : Fin 16) (s : State) : State :=
  { s with chk := { s.chk with unit := vmod s.chk.unit u (fun x => { x with ops := x.ops + 1 }) } }

/-- A receiver's state changed. -/
def State.modRecv (s : State) (n : Nat) (f : RecvSt → RecvSt) : State :=
  { s with chk := { s.chk with recv := tset s.chk.recv n (f (tgetD s.chk.recv n {})) } }

/-- A copy fails R338 with a class, reported once per tick and receiver. -/
def copyFailed (n : Nat) (isB : Bool) (cls : Option Nat) (s : State) : State :=
  let R := tgetD s.chk.recv n {}
  let s1 := s.modRecv n (fun R => { R with
    failedA := R.failedA || !isB, failedB := R.failedB || isB,
    failA := if isB then R.failA else R.failA + 1, failB := if isB then R.failB + 1 else R.failB })
  let s2 := { s1 with chk := { s1.chk with checkFail := s1.chk.checkFail + 1 } }
  match cls with
  | some 1 => if R.repCheck then s2 else rep 0x2C01 (s2.modRecv n (fun R => { R with repCheck := true }))
  | some _ => if R.repFormat then s2 else rep 0x2C02 (s2.modRecv n (fun R => { R with repFormat := true }))
  | none => s2

/-- The component check of one arrival by the receive unit of a role (R327, R338). -/
def checkCopy (role n : Nat) (c : SafeRecvCfg) (isB : Bool) (a : Arrival) (s : State) : State :=
  match unitFor s role with
  | none => copyFailed n isB (some 1) s
  | some u =>
    let s1 := countUnit u s
    if !a.valid then copyFailed n isB none s1
    else if !formatOk c a.payload then copyFailed n isB (some 2) s1
    else if !checkOk c a.payload then copyFailed n isB (some 1) s1
    else s1.modRecv n (fun R => { R with
      fresh := R.fresh ++ [{ isB := isB, seq := leAt a.payload 4 4, data := slice a.payload 8 c.ulen, rxTs := a.rxTs }] })

/-- The receiver an item is a component of (R337). -/
def receiverOf (s : State) (item : Nat) : Option (Nat × SafeRecvCfg) :=
  s.cfg.chk.receivers.find? (fun e => e.2.itemA == item || (e.2.itemB != 0x1FFF && e.2.itemB == item))

/-- An engine's arrival: written into the item's back buffer, and checked where the item is a component of a safe receiver (R32,
R338). `role` is the receive role of the arriving engine (R323). -/
def arriveFrom (role item : Nat) (a : Arrival) (s : State) : State :=
  let s1 := arrive item a s
  match receiverOf s item with
  | none => s1
  | some (n, c) => checkCopy role n c (c.itemA != item) a s1

/-! ## Evaluation (R339 to R341) -/

/-- Is a copy acceptable at a tick (R339)? -/
def acceptable (last : Option Nat) (tick maxDelay : Nat) (c : SafeCopy) : Bool :=
  (match last with
    | some l => decide (0 < sdiff 32 c.seq l)
    | none => true) &&
  (let d := sdiff 32 (tick % 2 ^ 32) c.seq
   decide (1 ≤ d) && decide (d ≤ (maxDelay : Int)))

/-- The latest SEQ among copies. -/
def latestSeq : List SafeCopy → Option Nat
  | [] => none
  | c :: r => match latestSeq r with
    | none => some c.seq
    | some m => if 0 < sdiff 32 c.seq m then some c.seq else some m

/-- The outcome of an evaluation (R340). -/
inductive SafeOutcome
  | nothing
  | accepted (c : SafeCopy)
  | hold (c : SafeCopy)
  | differ
deriving DecidableEq, Repr

/-- The copy with the earlier receive timestamp. -/
def earlier (c : SafeCopy) (cs : List SafeCopy) : SafeCopy :=
  cs.foldl (fun m x => if 0 < sdiff 64 m.rxTs.toNat x.rxTs.toNat then x else m) c

/-- The table of R340 over the candidates with the latest SEQ. -/
def safeOutcome (strict : Bool) (cands : List SafeCopy) : SafeOutcome :=
  match latestSeq cands with
  | none => .nothing
  | some q =>
    match cands.filter (fun c => c.seq == q) with
    | [] => .nothing
    | c :: r =>
      if r.any (fun x => x.data != c.data) then .differ
      else if !strict || r.any (fun x => x.isB != c.isB) then .accepted (earlier c r)
      else .hold c

/-- ENG_BITS of a safe item (R341). -/
def safeBits (R : RecvSt) (rejected differ held : Bool) : BitVec 8 :=
  BitVec.ofNat 8 (bit (R.fresh.any (fun c => !c.isB)) + 2 * bit (R.fresh.any (fun c => c.isB)) + 4 * bit R.failedA + 8 * bit R.failedB
    + 16 * bit rejected + 32 * bit differ + 64 * bit held)

/-- Rejections of an evaluation: counted and reported one by one (R339). -/
def rejectCopies : Nat → State → State
  | 0, s => s
  | n + 1, s => rejectCopies n (rep 0x2C03 { s with chk := { s.chk with seqRej := s.chk.seqRej + 1 } })

/-- The safe item's ENG_BITS at an evaluation without an arrival (R341). -/
def setSafeBits (item : Nat) (b : BitVec 8) (s : State) : State :=
  { s with cyc := { s.cyc with items := tset s.cyc.items item { tgetD s.cyc.items item {} with engBits := b } } }

/-- One safe receiver at the tick event (R339 to R341). -/
def evaluateReceiver (s : State) (e : Nat × SafeRecvCfg) : State :=
  let (n, c) := e
  let R := tgetD s.chk.recv n {}
  let ok (x : SafeCopy) : Bool := acceptable R.last s.tick c.maxDelay x
  let freshOk := R.fresh.filter ok
  let heldOk := R.held.filter ok
  let lostN := (R.fresh.length - freshOk.length) + bit (R.held.isSome && heldOk.isNone)
  let out := safeOutcome (c.strict && c.itemB != 0x1FFF) (freshOk ++ heldOk.toList)
  let arrived := !R.fresh.isEmpty || R.failedA || R.failedB
  let held' : Option SafeCopy := match out with
    | .nothing => none
    | .accepted _ | .differ => none
    | .hold x => some x
  let bits := safeBits R (decide (0 < lostN)) (decide (out = .differ)) held'.isSome
  let s1 := rejectCopies lostN s
  let s2 := s1.modRecv n (fun R => { R with
    fresh := [], held := held', failedA := false, failedB := false, repCheck := false, repFormat := false,
    last := match out with
      | .accepted x => some x.seq
      | _ => R.last,
    accCnt := match out with
      | .accepted _ => R.accCnt + 1
      | _ => R.accCnt,
    diffCnt := if out = .differ then R.diffCnt + 1 else R.diffCnt })
  match out with
  | .accepted x => arrive c.safeItem ⟨true, bits, x.rxTs, x.data⟩ s2
  | .differ =>
    arrive c.safeItem ⟨false, bits, 0, []⟩
      (rep 0x2C04 { s2 with chk := { s2.chk with diffCnt := s2.chk.diffCnt + 1 } })
  | .nothing | .hold _ => if arrived then setSafeBits c.safeItem bits s2 else s2

/-- Every safe receiver at the tick event (R340). -/
def evaluateReceivers (s : State) : State := s.cfg.chk.receivers.foldl evaluateReceiver s

/-- At a program start the committed roles take effect and LAST holds no value (R323, R339). -/
def chkProgramStart (s : State) : State :=
  let roles := Vector.ofFn (fun (u : Fin 16) =>
    { vget s.chk.unit u with role := BitVec.ofNat 3 (regField s (CHK + 0x100 + 8 * u.val) 0 3) })
  { s with chk := { s.chk with unit := roles, recv := s.chk.recv.map (fun e => (e.1, { e.2 with last := none })) } }

end Sys2Proof.Machine
end

