-- ==== Sys2Proof/Machine/StrathLine.lean ====
section
/-!
DEFINITION. The Strath line (R205 to R238): port states, equalisers, frame checks, forwarding and delivery, link delays, wrapping
and healing, and the operation STR_LINK_READ.
-/

namespace Sys2Proof.Machine

/-- Both ports of a channel: west and east (R205). -/
def bothPorts : List PortId := [0, 1]

/-- Both channels. -/
def bothChans : List ChanId := [0, 1]

/-- A channel of the node. -/
def State.chan (s : State) (ch : ChanId) : Chan := vget s.stra.chan ch

/-- The node with one channel changed. -/
def State.modChan (s : State) (ch : ChanId) (f : Chan → Chan) : State :=
  { s with stra := { s.stra with chan := vmod s.stra.chan ch f } }

/-- A port of a channel. -/
def State.port (s : State) (ch : ChanId) (p : PortId) : Port := vget (s.chan ch).port p

/-- The node with one port changed. -/
def State.modPort (s : State) (ch : ChanId) (p : PortId) (f : Port → Port) : State :=
  s.modChan ch (fun C => { C with port := vmod C.port p f })

/-- The node with its node-level state changed. -/
def State.modNode (s : State) (f : Node → Node) : State := { s with stra := { s.stra with node := f s.stra.node } }

/-- Reports a class of a channel (R237, R271). -/
def repStr (ch : ChanId) (offset : Nat) (s : State) : State := rep (faultCode (5 + ch.val) offset) s

/-- The number of the basic cycle module time stands in (R52, R239). -/
def basicCycle (s : State) : Nat := s.tick / 8

/-- STRA_LINE_CFG.NODE_ID of a channel (R238). -/
def nodeId (s : State) (ch : ChanId) : Nat := regField s (STR ch) 0 7

/-- FORCE_WRAP of a port (R230). -/
def forceWrap (s : State) (ch : ChanId) (p : PortId) : Bool := regField s (STR ch + 0x100 + 0x40 * p.val) 1 1 == 1

/-- The time base is LOCKED or MASTER (R232). -/
def timeGood (s : State) : Bool := s.tim.state == .locked || s.tim.state == .master

/-- The module time a hardware timestamp captures: that of the fabric cycle plus a phase of 0.625 ns (R65). -/
def captureTime (phase : Fin 8) (s : State) : Nat := s.tim.now + phase.val * 5 * 2 ^ 37

/-! ## Equaliser and codes -/

/-- LSTATE as bits (R238). -/
def LState.code : LState → Nat
  | .disabled => 0 | .down => 1 | .train => 2 | .sync => 3 | .up => 4 | .failed => 5

/-- ASTATE as bits (R238). -/
def AState.code : AState → Nat
  | .preset => 0 | .acquire => 1 | .track => 2 | .frozen => 3

/-- A port that enters a state takes its equaliser along (R212). -/
def Port.enter (P : Port) (t : LState) : Port :=
  let held := match P.astate with
    | .acquire | .track => AState.frozen
    | a => a
  let a := match t with
    | .train => AState.acquire
    | .up => (match P.astate with
      | .acquire => .track
      | a => a)
    | .failed | .down => held
    | .disabled | .sync => P.astate
  { P with lstate := t, astate := a }

/-! ## Wrapping (R222, R230 to R234) -/

/-- A port becomes WRAPPED: counted and reported; a frame on the old path ends with ABT (R222, R230, R237). -/
def wrapPort (ch : ChanId) (p : PortId) (heal : Option (BitVec 16)) (s : State) : State :=
  let C := s.chan ch
  if (s.port ch p).wrapped then s
  else
    let abt := decide (s.tim.now < C.fwdUntil)
    let s1 := s.modPort ch p (fun P => { P with
      wrapped := true, closeProp := none, closeHeard := none, closeNowSent := 0, closeNowRecv := 0, lastAbt := P.lastAbt || abt })
    let s2 := s1.modChan ch (fun C => { C with
      wrapCnt := C.wrapCnt + 1, fwdUntil := 0,
      healLast := heal.getD C.healLast,
      healWorst := BitVec.ofNat 16 (max C.healWorst.toNat (heal.getD C.healWorst).toNat) })
    let s3 := repStr ch 0x2 s2
    if regField s3 (STR ch) 8 1 = 1 then repStr ch 0xA s3 else s3

/-- The other channel has not unwrapped within 16 basic cycles (R234). -/
def interlockFree (s : State) (ch : ChanId) : Bool :=
  match (s.chan (1 - ch)).lastUnwrap with
  | some c => c + 16 ≤ basicCycle s
  | none => true

/-- May a port take part in a timed unwrap (R232)? -/
def mayClose (s : State) (ch : ChanId) (p : PortId) : Bool :=
  let P := s.port ch p
  P.wrapped && P.lstate == .up && timeGood s && !forceWrap s ch p

/-- A port that may close and has no proposal makes its first one: the current cycle plus 16 (R232, R234). -/
def propose (ch : ChanId) (s : State) (p : PortId) : State :=
  if mayClose s ch p && (s.port ch p).closeProp.isNone && interlockFree s ch then
    let q := BitVec.ofNat 16 (basicCycle s + 16)
    (s.modPort ch p (fun P => { P with closeProp := some q })).modChan ch (fun C => { C with closeCyc := q })
  else s

/-- The ports of a channel that may close begin to send CLOSE (R232). -/
def proposeAll (ch : ChanId) (s : State) : State := bothPorts.foldl (propose ch) s

/-- A port unwraps (R232, R233). -/
def unwrapPort (ch : ChanId) (p : PortId) (s : State) : State :=
  let s1 := s.modPort ch p (fun P => { P with
    wrapped := false, closeProp := none, closeHeard := none, closeNowSent := 0, closeNowRecv := 0 })
  repStr ch 0x3 (s1.modChan ch (fun C => { C with unwrapCnt := C.unwrapCnt + 1, lastUnwrap := some (basicCycle s), fwdUntil := 0 }))

/-- A CLOSE with a proposal arrives (R232): the later of the two proposals is the port's; the cycle in which its final proposal
was first received is kept. -/
def closeReceived (ch : ChanId) (p : PortId) (q : BitVec 16) (s0 : State) : State :=
  let s := propose ch s0 p
  let P := s.port ch p
  match P.closeProp with
  | none => s
  | some own =>
    if !mayClose s ch p then s
    else if 0 < sdiff 16 q.toNat own.toNat then
      (s.modPort ch p (fun P => { P with closeProp := some q, closeHeard := some (basicCycle s) })).modChan ch
        (fun C => { C with closeCyc := q })
    else if q = own then
      s.modPort ch p (fun P => { P with closeHeard := some (P.closeHeard.getD (basicCycle s)) })
    else s

/-- CLOSE_RECEIVED (R232). -/
def execCloseReceived (chan : ChanId) (port : PortId) (proposal : BitVec 16) (s : State) : Host.Outcome State Fault Refusal :=
  actLine (fun s => closeReceived chan port proposal (s.modPort chan port (fun P => { P with rfiRx := false, rfiRun := 0 }))) s

/-- Has the agreed cycle begun, with the final proposal received at least 2 basic cycles before it (R232)? -/
def unwrapDue (s : State) (ch : ChanId) (p : PortId) : Bool :=
  match (s.port ch p).closeProp, (s.port ch p).closeHeard with
  | some q, some h =>
    0 ≤ sdiff 16 (basicCycle s % 65536) q.toNat && 2 ≤ sdiff 16 q.toNat (h % 65536)
  | _, _ => false

/-- TIMED_UNWRAP (R232, R234). -/
def execTimedUnwrap (chan : ChanId) (port : PortId) (s : State) : Host.Outcome State Fault Refusal :=
  actLine (fun s => onlyIf (mayClose s chan port && unwrapDue s chan port && interlockFree s chan) (unwrapPort chan port) s) s

/-- A CLOSE_NOW arrives (R233): it is answered, and after 8 sent and 8 received consecutively the port unwraps. -/
def closeNowReceived (ch : ChanId) (p : PortId) (consecutive : Bool) (s : State) : State :=
  let P := s.port ch p
  if P.wrapped && P.lstate == .up then
    let s1 := s.modPort ch p (fun P => { P with
      rfiRx := false, rfiRun := 0,
      closeNowSent := P.closeNowSent + 1, closeNowRecv := if consecutive then P.closeNowRecv + 1 else 1 })
    let P1 := s1.port ch p
    if 8 ≤ P1.closeNowSent && 8 ≤ P1.closeNowRecv && !forceWrap s1 ch p && interlockFree s1 ch then unwrapPort ch p s1 else s1
  else s

/-- CLOSE_NOW_RECEIVED (R233); `consecutive` says that no other ordered set came since the last one. -/
def execCloseNowReceived (chan : ChanId) (port : PortId) (consecutive : Bool) (s : State) : Host.Outcome State Fault Refusal :=
  actLine (closeNowReceived chan port consecutive) s

/-- A port sends CLOSE or CLOSE_NOW, W_CLOSE and E_CLOSE of R238 (R232, R233). -/
def closing (s : State) (ch : ChanId) (p : PortId) : Bool :=
  let P := s.port ch p
  P.wrapped && P.lstate == .up && (P.closeProp.isSome || 0 < P.closeNowSent || !timeGood s)

/-! ## Port states (R214, R215) -/

/-- Signal is detected for 1 µs (R214). -/
def signalDetected (ch : ChanId) (p : PortId) (s : State) : State :=
  s.modPort ch p (fun P =>
    let P1 := { P with los := false }
    if P.lstate = .down ∨ (P.lstate = .failed ∧ P.los) then P1.enter .train else P1)

/-- SIGNAL_DETECTED (R214). -/
def execSignalDetected (chan : ChanId) (port : PortId) (s : State) : Host.Outcome State Fault Refusal :=
  actLine (signalDetected chan port) s

/-- CODE_GROUP_SYNC (R211, R214). -/
def execCodeGroupSync (chan : ChanId) (port : PortId) (s : State) : Host.Outcome State Fault Refusal :=
  actLine (fun s => s.modPort chan port (fun P =>
    let P1 := { P with sync := true }
    if P.lstate = .train then P1.enter .sync else P1)) s

/-- CODE_GROUP_SYNC_LOST (R211): the 4 invalid code groups count and the loss is counted. -/
def execCodeGroupSyncLost (chan : ChanId) (port : PortId) (s : State) : Host.Outcome State Fault Refusal :=
  actLine (fun s => onlyIf (s.port chan port).sync (fun s =>
    s.modPort chan port (fun P => { P with sync := false, syncLoss := P.syncLoss + 1, cgErr := P.cgErr + 4 })) s) s

/-- TRAIN_TIMEOUT (R214). -/
def execTrainTimeout (chan : ChanId) (port : PortId) (s : State) : Host.Outcome State Fault Refusal :=
  actLine (fun s => onlyIf ((s.port chan port).lstate == .train && !(s.port chan port).sync)
    (fun s => s.modPort chan port (fun P => P.enter .down)) s) s

/-- A port goes UP (R214). -/
def portUp (ch : ChanId) (p : PortId) (s : State) : State :=
  let P := s.port ch p
  if P.lstate = .sync ∧ P.sync ∧ P.dlyValid then
    propose ch (s.modPort ch p (fun P => { P.enter .up with upCnt := P.upCnt + 1, rfiRx := false, rfiRun := 0 })) p
  else s

/-- PORT_UP (R214). -/
def execPortUp (chan : ChanId) (port : PortId) (s : State) : Host.Outcome State Fault Refusal := actLine (portUp chan port) s

/-- Does a criterion of R215 with a cause of R214 hold: 1 loss of signal, 2 sync loss, 3 activity timeout, 4 remote fault? -/
def failureHolds (P : Port) (cause : BitVec 3) : Bool :=
  match cause.toNat with
  | 1 => true
  | 2 => !P.sync
  | 3 => true
  | 4 => 4 ≤ P.rfiRun
  | _ => false

/-- A failure criterion takes a port to FAILED and wraps it (R214, R215, R230). -/
def portFailed (ch : ChanId) (p : PortId) (cause : BitVec 3) (heal : BitVec 16) (s : State) : State :=
  let P := s.port ch p
  if (P.lstate = .sync ∨ P.lstate = .up) ∧ failureHolds P cause then
    let s1 := s.modPort ch p (fun P => { P.enter .failed with cause := cause, los := P.los || cause == 1 })
    let s2 := wrapPort ch p (some heal) s1
    if P.lstate = .up then repStr ch 0x1 s2 else s2
  else s

/-- PORT_FAILED (R215); `heal` is the time from the onset of the condition to the wrap, in 10 ns. -/
def execPortFailed (chan : ChanId) (port : PortId) (cause : BitVec 3) (heal : BitVec 16) (s : State) :
    Host.Outcome State Fault Refusal :=
  actLine (portFailed chan port cause heal) s

/-- PORT_RECOVERED (R214): sync is back and no RFI has come for 1 ms. -/
def execPortRecovered (chan : ChanId) (port : PortId) (s : State) : Host.Outcome State Fault Refusal :=
  actLine (fun s => onlyIf ((s.port chan port).lstate == .failed && (s.port chan port).sync)
    (fun s => s.modPort chan port (fun P => { P.enter .sync with rfiRx := false, rfiRun := 0 })) s) s

/-- RFI_RECEIVED (R214, R215); `consecutive` says that it follows directly on another one. -/
def execRfiReceived (chan : ChanId) (port : PortId) (consecutive : Bool) (s : State) : Host.Outcome State Fault Refusal :=
  actLine (fun s => s.modPort chan port (fun P => { P with
    rfiRx := true, rfiRun := if consecutive then P.rfiRun + 1 else 1 })) s

/-- EQUALISER_FREEZE_EXPIRY (R212). -/
def execEqualiserFreezeExpiry (chan : ChanId) (port : PortId) (s : State) : Host.Outcome State Fault Refusal :=
  actLine (fun s => onlyIf ((s.port chan port).astate == .frozen)
    (fun s => s.modPort chan port (fun P => { P with astate := .preset, boost := 8, taps := Vector.replicate 5 0 })) s) s

/-- BOOST after a basic cycle of adaptation: in TRACK it changes by at most 1 (R212). -/
def adaptBoost (P : Port) (want : BitVec 4) : BitVec 4 :=
  match P.astate with
  | .acquire => want
  | .track => if P.boost < want then P.boost + 1 else if want < P.boost then P.boost - 1 else P.boost
  | .preset | .frozen => P.boost

/-- DFE taps after a basic cycle of adaptation, each within −64 to +63 (R212). -/
def adaptTaps (P : Port) (want : Vector Int 5) : Vector Int 5 :=
  match P.astate with
  | .acquire | .track => want.map (saturate 7)
  | .preset | .frozen => P.taps

/-- The eye monitor's report of a basic cycle (R213) with the settings the adaptation has reached (R212). -/
def eyeMonitor (ch : ChanId) (p : PortId) (h w : BitVec 8) (boost : BitVec 4) (taps : Vector Int 5) (s : State) : State :=
  let P := s.port ch p
  let low := decide (h.toNat < regField s (STR ch) 16 8)
  let s1 := s.modPort ch p (fun P => { P with
    eyeH := h, eyeW := w, low := low, boost := adaptBoost P boost, taps := adaptTaps P taps })
  if low && !P.low then repStr ch 0x4 s1 else s1

/-- EYE_MONITOR (R213). -/
def execEyeMonitor (chan : ChanId) (port : PortId) (height width : BitVec 8) (boost : BitVec 4) (taps : Vector Int 5) (s : State) :
    Host.Outcome State Fault Refusal :=
  actLine (eyeMonitor chan port height width boost taps) s

/-- A commit of STRA_PORT_CTRL[p].EN (R214). -/
def portEnWrite (ch : ChanId) (p : PortId) (en : Bool) (s : State) : State :=
  let s1 := regPut s (STR ch + 0x100 + 0x40 * p.val) 0 1 (bit en)
  if en then
    if (s1.port ch p).lstate = .disabled then s1.modPort ch p (fun P => P.enter .down) else s1
  else wrapPort ch p none (s1.modPort ch p (fun P => P.enter .disabled))

/-- PORT_EN_WRITE (R214). -/
def execPortEnWrite (chan : ChanId) (port : PortId) (value : Bool) (s : State) : Host.Outcome State Fault Refusal :=
  act (portEnWrite chan port value) s

/-- A commit of FORCE_WRAP: 1 wraps the port whatever its state, 0 lets it close again (R230, R232). -/
def forceWrapWrite (ch : ChanId) (p : PortId) (v : Bool) (s : State) : State :=
  let s1 := regPut s (STR ch + 0x100 + 0x40 * p.val) 1 1 (bit v)
  if v then (wrapPort ch p none s1).modPort ch p (fun P => { P with closeProp := none, closeHeard := none })
  else propose ch s1 p

/-- FORCE_WRAP_WRITE (R230). -/
def execForceWrapWrite (chan : ChanId) (port : PortId) (value : Bool) (s : State) : Host.Outcome State Fault Refusal :=
  act (forceWrapWrite chan port value) s

/-! ## Link delay (R227, R228) -/

/-- A port's request goes out, once per basic cycle in SYNC and UP (R227). -/
def dlyReqSend (ch : ChanId) (p : PortId) (phase : Fin 8) (s : State) : State :=
  let P := s.port ch p
  if (P.lstate = .sync ∨ P.lstate = .up) ∧ P.reqCycle ≠ some (basicCycle s) then
    s.modPort ch p (fun P => { P with reqAt := some (captureTime phase s), reqCycle := some (basicCycle s) })
  else s

/-- DLY_REQ_SEND (R227). -/
def execDlyReqSend (chan : ChanId) (port : PortId) (phase : Fin 8) (s : State) : Host.Outcome State Fault Refusal :=
  actLine (dlyReqSend chan port phase) s

/-- DLY_REQ_RECEIVED (R227): the neighbour's request is answered with the measured turnaround, in 0.625 ns. -/
def execDlyReqReceived (chan : ChanId) (port : PortId) (turnaround : BitVec 24) (s : State) : Host.Outcome State Fault Refusal :=
  actLine (fun s => s.modPort chan port (fun P => { P with rspSent := some turnaround, rfiRx := false, rfiRun := 0 })) s

/-- Measurements of the last 16 basic cycles, NVALID of R238. -/
def Port.nvalid (P : Port) : Nat := (P.gave.filter id).length

/-- The mean of the kept measurements in 1/16 ns (R228); each is twice the delay in 2^-40 ns. -/
def Port.mean (P : Port) : Int :=
  if P.meas.isEmpty then 0 else divFree 4 (P.meas.foldl (· + ·) 0) (2 ^ 37 * P.meas.length)

/-- DLY, VALID and RANGE_ERR from the kept measurements (R228). -/
def Port.updateDelay (P : Port) : Port :=
  let m := P.mean
  let bad := decide (m < 0) || decide (16000 < m)
  { P with
    dly := BitVec.ofInt 16 m, rangeErr := bad, dlyValid := !bad && 8 ≤ P.nvalid + bit P.gaveNow }

/-- A response yields one measurement: ((t4 − t1) − turnaround) / 2 (R227, R228). -/
def dlyRspReceived (ch : ChanId) (p : PortId) (phase : Fin 8) (turn : BitVec 24) (s : State) : State :=
  match (s.port ch p).reqAt with
  | none => s
  | some t1 =>
    let d2 : Int := (captureTime phase s : Int) - t1 - (turn.toNat * 5 * 2 ^ 37 : Nat)
    let put (P : Port) : Port :=
      { P with
        reqAt := none, gaveNow := true, rfiRx := false, rfiRun := 0,
        meas := (P.meas ++ [d2]).drop ((P.meas.length + 1) - 16) }.updateDelay
    let s1 := s.modPort ch p put
    if (s1.port ch p).rangeErr then repStr ch 0x5 s1 else s1

/-- DLY_RSP_RECEIVED (R228). -/
def execDlyRspReceived (chan : ChanId) (port : PortId) (phase : Fin 8) (turnaround : BitVec 24) (s : State) :
    Host.Outcome State Fault Refusal :=
  actLine (dlyRspReceived chan port phase turnaround) s

/-- DLY_RSP_TIMEOUT (R227). -/
def execDlyRspTimeout (chan : ChanId) (port : PortId) (s : State) : Host.Outcome State Fault Refusal :=
  actLine (fun s => s.modPort chan port (fun P => { P with reqAt := none })) s

/-! ## Frames (R216 to R226) -/

/-- A Strath frame on the line: header, payload, FCS, the invalid code groups in it, and whether it ended with EOF (R216). -/
structure Frame where
  header : List Byte
  payload : List Byte
  fcs : List Byte
  badGroups : Nat
  eof : Bool
deriving DecidableEq, Repr

/-- The header with HOPS, WRAPS and PATH_DLY replaced and HCRC recomputed (R217, R226). -/
def rehead (h : List Byte) (hops wraps path : Nat) : List Byte :=
  let b := h.take 12 ++ leBytes 1 hops ++ leBytes 1 wraps ++ leBytes 4 path
  b ++ leBytes 2 (crc16 b)

/-- The header of a frame at its source (R217). -/
def newHeader (kind src : Nat) (ch : ChanId) (slot mode cycle len : Nat) : List Byte :=
  rehead (leBytes 1 (kind + 16) ++ leBytes 1 (src + 128 * ch.val) ++ leBytes 2 (slot + 512 * mode) ++ leBytes 4 cycle
    ++ leBytes 1 len ++ zeros 3) 255 0 0

/-- FCS over header bytes 0 to 11 and the payload (R219). -/
def frameFcs (h payload : List Byte) : List Byte := leBytes 4 (crc32c (h.take 12 ++ payload))

/-- The first check of R220 that a frame fails on a channel: 1 to 5, or none. -/
def failedCheck (ch : ChanId) (f : Frame) : Option Nat :=
  let h := f.header
  if leAt h 18 2 ≠ crc16 (h.take 18) then some 1
  else if byteAt h 0 / 16 ≠ 1 ∨ byteAt h 0 % 16 = 0 ∨ 4 < byteAt h 0 % 16 then some 2
  else if byteAt h 1 / 128 ≠ ch.val then some 3
  else if 0 < f.badGroups ∨ !f.eof ∨ f.payload.length ≠ 8 * (byteAt h 8 % 128) then some 4
  else if f.fcs ≠ frameFcs h f.payload then some 5
  else none

/-- Counts and reports a failed check, each class once per basic cycle and channel (R220). -/
def checkFailed (ch : ChanId) (p : PortId) (n : Nat) (f : Frame) (s : State) : State :=
  let frameError (s : State) : State :=
    if (s.chan ch).repFrame then s else repStr ch 0x6 (s.modChan ch (fun C => { C with repFrame := true }))
  if n = 1 then frameError (s.modPort ch p (fun P => { P with hcrcErr := P.hcrcErr + 1 }))
  else if n = 2 then frameError s
  else if n = 3 then
    let s1 := s.modChan ch (fun C => { C with chmisCnt := C.chmisCnt + 1 })
    if (s.chan ch).repChmis then s1 else repStr ch 0x7 (s1.modChan ch (fun C => { C with repChmis := true }))
  else if n = 4 ∧ 0 < f.badGroups then frameError s
  else frameError (s.modPort ch p (fun P => { P with fcsErr := P.fcsErr + 1 }))

/-- Line time of a frame from SOF to EOF, in module-time units (R216). -/
def lineTime (payload : Nat) : Nat := (payload + 32) * 20 * nsUnits

/-- A frame leaves on the transmit pair of a port; the port keeps it as the last one sent. The transmitters are off in a shutdown
(R523). -/
def sendOn (ch : ChanId) (p : PortId) (bytes : List Byte) (abt : Bool) (s : State) : State :=
  if s.pwr.shutdown then s else s.modPort ch p (fun P => { P with lastTx := bytes, lastAbt := abt })

/-- Forwards a frame that came in at a port (R221 to R226): out of the other port 320 ns later, or turned at its wrap within
400 ns; a frame that failed a check after the header ends with ABT. An own frame turned into the forward stream is stripped,
and a frame whose SOF meets an own frame in transmission is discarded and counted. -/
def forward (ch : ChanId) (p : PortId) (f : Frame) (abt : Bool) (s : State) : State :=
  let h := f.header
  let C := s.chan ch
  let q : PortId := 1 - p
  let turn := (s.port ch q).wrapped
  let own := decide (byteAt h 1 % 128 = nodeId s ch)
  let busy := match C.ownUntil with
    | some (_, t) => decide (s.tim.now < t)
    | none => false
  let usesForward := p = 0 || turn
  if own && (p = 0 || turn) then s
  else if busy && usesForward then
    repStr ch 0x8 (s.modChan ch (fun C => { C with collCnt := C.collCnt + 1 }))
  else
    let delay := if turn then 6400 else 5120
    let path := leAt h 14 4 + (s.port ch p).dly.toNat + delay
    let h' := rehead h (byteAt h 12 - 1) (byteAt h 13 + bit turn) path
    let s1 := sendOn ch (if turn then p else q) (h' ++ f.payload ++ f.fcs) abt s
    if usesForward then
      s1.modChan ch (fun C => { C with fwdUntil := s.tim.now + (delay / 16) * nsUnits + lineTime f.payload.length })
    else s1

/-- Is a COLD frame with the node's own ID one that this node has not sent (R252)? -/
def foreignCold (s : State) (ch : ChanId) (h : List Byte) : Bool :=
  byteAt h 0 % 16 == 3 && byteAt h 1 % 128 == nodeId s ch && !nsMem s.stra.node.coldSent (leAt h 4 4)

/-- ENG_BITS and validity of a DATA frame for its binding (R267). -/
def strathArrival (b : SlotBind) (ch : ChanId) (d : Delivered) : Arrival :=
  let badSrc := !(d.src == b.src || (b.src2 != 0 && d.src == b.src2))
  let badLen := d.payload.length != b.length
  { valid := !badSrc && !badLen,
    engBits := BitVec.ofNat 8 (ch.val + 2 * bit (1 ≤ d.wraps) + 4 * bit badSrc + 8 * bit badLen),
    rxTs := BitVec.ofNat 64 d.rxTime, payload := d.payload }

/-- A delivered frame reaches the Strath engine (R224, R255, R267): DATA goes to its bound item, the others wait for the engine. -/
def deliverFrame (ch : ChanId) (slot : Nat) (d : Delivered) (s : State) : State :=
  let s1 := s.modChan ch (fun C => { C with wrapNow := C.wrapNow || decide (1 ≤ d.wraps) })
  let misMode := d.kind ≠ 3 ∧ d.mode ≠ s.stra.node.actMode
  let s2 := if misMode then s1.modChan ch (fun C => { C with modeMis := C.modeMis + 1 }) else s1
  if d.kind ≠ 1 then s2.modChan ch (fun C => { C with inbox := C.inbox ++ [d] })
  else if misMode then s2
  else match s.stra.binds.find? (fun b => b.mode == d.mode && b.slot == slot && b.chan == ch.val) with
    | none => s2
    | some b =>
      let a := strathArrival b ch d
      arriveFrom (2 + ch.val) b.item a (if a.valid then s2 else repStr ch 0x1E s2)

/-- Delivery of a checked frame under R224: the first copy only, never an own frame, none without a node ID. -/
def deliver (ch : ChanId) (p : PortId) (phase : Fin 8) (f : Frame) (s : State) : State :=
  let h := f.header
  let src := byteAt h 1 % 128
  let key := (src, leAt h 4 4, leAt h 2 2 % 512)
  let me := nodeId s ch
  let d : Delivered :=
    { kind := byteAt h 0 % 16, src := src, mode := leAt h 2 2 / 512 % 8, cycle := leAt h 4 4, wraps := byteAt h 13,
      rxTime := captureTime phase s / 2 ^ 24, rxValid := captureValid s,
      path := (leAt h 14 4 + (s.port ch p).dly.toNat) % 2 ^ 32, payload := f.payload }
  if me = 0 ∨ me = 127 then s
  else if src = me then
    if foreignCold s ch h then s.modChan ch (fun C => { C with inbox := C.inbox ++ [d] }) else s
  else if (s.chan ch).seen.contains key then s.modChan ch (fun C => { C with dupCnt := C.dupCnt + 1 })
  else deliverFrame ch key.2.2 d (s.modChan ch (fun C => { C with seen := C.seen ++ [key] }))

/-- A frame that passed R220: delivered; not forwarded with HOPS = 0 (R225). -/
def goodFrame (ch : ChanId) (p : PortId) (phase : Fin 8) (f : Frame) (s : State) : State :=
  let s1 := deliver ch p phase f s
  if byteAt f.header 12 = 0 then repStr ch 0x9 (s1.modChan ch (fun C => { C with hopsCnt := C.hopsCnt + 1 }))
  else forward ch p f false s1

/-- A frame at a receive pair (R220 to R226). A WRAPPED port delivers and forwards nothing; its invalid code groups count. -/
def frameReceived (ch : ChanId) (p : PortId) (phase : Fin 8) (f : Frame) (s : State) : State :=
  let s1 := s.modPort ch p (fun P => { P with
    cgErr := P.cgErr + BitVec.ofNat 16 f.badGroups, rfiRx := false, rfiRun := 0 })
  if (s1.port ch p).wrapped then s1
  else match failedCheck ch f with
    | none => goodFrame ch p phase f s1
    | some n =>
      let s2 := checkFailed ch p n f s1
      if 4 ≤ n ∧ byteAt f.header 12 ≠ 0 then forward ch p f true s2 else s2

/-- FRAME_RECEIVED (R220): the frame's SOF crosses a port's timestamp point in this fabric cycle, at a sampler phase. -/
def execFrameReceived (chan : ChanId) (port : PortId) (phase : Fin 8) (header payload fcs : List Byte) (badGroups : Nat) (eof : Bool)
    (s : State) : Host.Outcome State Fault Refusal :=
  actLine (frameReceived chan port phase ⟨header, payload, fcs, badGroups, eof⟩) s

/-! ## STR_LINK_READ -/

/-- STR_LINK_READ (R236). -/
def strLinkReadOp (r : Fin 64) (d : Desc) (s : State) : State :=
  let ch : ChanId := if testBit d.paramA 0 then 1 else 0
  let p : PortId := if testBit d.paramA 1 then 1 else 0
  let P := s.port ch p
  let ra := pack [(3, P.lstate.code), (1, bit P.wrapped), (4, P.boost.toNat), (2, P.astate.code), (1, bit P.dlyValid), (5, 0),
    (8, P.eyeH.toNat), (8, P.eyeW.toNat)]
  let rb := pack [(16, P.dly.toNat), (16, P.cgErr.toNat), (16, P.fcsErr.toNat), (16, (s.chan ch).wrapCnt.toNat)]
  opDone r d.tag 0 ra rb s

/-- STR_LINK_READ: carries out the started operation of a ring. -/
def execStrLinkRead (ring : Fin 64) (tag : Fin 1024) (s : State) : Host.Outcome State Fault Refusal :=
  act (runOp ring tag 0x13 (strLinkReadOp ring)) s

end Sys2Proof.Machine
end

