-- ==== Sys2Proof/Machine/Links.lean ====
section
/-!
DEFINITION. Consist Ethernet, TRDP, PTP and MVB (R273 to R294).
-/

namespace Sys2Proof.Machine

/-- Both Ethernet ports. -/
def bothEth : List EthId := [0, 1]

/-- The module with one Ethernet port changed. -/
def State.modEth (s : State) (q : EthId) (f : EthPort → EthPort) : State :=
  { s with eth := { s.eth with port := vmod s.eth.port q f } }

/-- An Ethernet port. -/
def State.ethPort (s : State) (q : EthId) : EthPort := vget s.eth.port q

/-- A field of ETH_PORT_CFG[q] (R294). -/
def ethCfg (s : State) (q : EthId) (lo w : Nat) : Nat := regField s (ETH + 0x100 + 0x40 * q.val) lo w

/-- Is a port enabled with its link up? -/
def ethReady (s : State) (q : EthId) : Bool := ethCfg s q 0 1 == 1 && (s.ethPort q).link

/-- A port sends; the port keeps what it sent last. -/
def ethTransmit (q : EthId) (t : EthTx) (s : State) : State := s.modEth q (fun P => { P with sent := some t })

/-- An ingress timestamp, corrected by ING_LAT (R276), in 2^-40 ns. -/
def ingressTime (q : EthId) (phase : Fin 8) (s : State) : Nat :=
  captureTime phase s - regField s (ETH + 0x108 + 0x40 * q.val) 16 16 * 2 ^ 36

/-- An egress timestamp, corrected by EGR_LAT (R69, R276), in 2^-40 ns. -/
def egressTime (q : EthId) (phase : Fin 8) (s : State) : Nat :=
  captureTime phase s + regField s (ETH + 0x108 + 0x40 * q.val) 0 16 * 2 ^ 36

/-! ## Links (R293) -/

/-- Role of a port in PTP (R285). -/
inductive PtpRole | disabled | measure | master
deriving DecidableEq, Repr

/-- PTP_ROLE: 2#11 acts as DISABLED (R294). -/
def ptpRole (s : State) (q : EthId) : PtpRole :=
  match ethCfg s q 2 2 with
  | 1 => .measure
  | 2 => .master
  | _ => .disabled

/-- portState LISTENING and MASTER of IEEE 1588-2019. -/
def ptpListening : BitVec 4 := 4
/-- portState MASTER of IEEE 1588-2019. -/
def ptpMaster : BitVec 4 := 6

/-- A PTP port state; a change is reported (R286). -/
def setPtpState (q : EthId) (st : BitVec 4) (s : State) : State :=
  if (s.ethPort q).ptpState = st then s else rep 0x2004 (s.modEth q (fun P => { P with ptpState := st }))

/-- The port state a change of PTP_ROLE leads to: 0 when DISABLED (R294), LISTENING otherwise. -/
def ptpRoleChanged (q : EthId) (s : State) : State :=
  match ptpRole s q with
  | .disabled => setPtpState q 0 (s.modEth q (fun P => { P with offset := none, syncWait := none, lastSync := none, delayReq := none }))
  | .measure | .master => if (s.ethPort q).ptpState = 0 then setPtpState q ptpListening s else s

/-- ETH_LINK_UP (R293); `speed` is 1 for 100 Mbit/s, 2 for 1 000 Mbit/s. -/
def execEthLinkUp (port : EthId) (speed : BitVec 2) (s : State) : Host.Outcome State Fault Refusal :=
  act (fun s => onlyIf (!(s.ethPort port).link)
    (fun s => rep 0x2002 (s.modEth port (fun P => { P with link := true, speed := speed, linkCnt := P.linkCnt + 1 }))) s) s

/-- ETH_LINK_DOWN (R293). -/
def execEthLinkDown (port : EthId) (s : State) : Host.Outcome State Fault Refusal :=
  act (fun s => onlyIf (s.ethPort port).link
    (fun s => rep 0x2001 (s.modEth port (fun P => { P with link := false, speed := 0 }))) s) s

/-! ## Received frames (R275, R282 to R284) -/

/-- A frame that the receive buffer or no posted buffer takes is dropped (R275, R284). -/
def ethDrop (q : EthId) (s : State) : State := s.modEth q (fun P => { P with rxDrop := P.rxDrop + 1 })

/-- An accepted frame finds the receive buffer full (R275): reported once per tick and port. -/
def ethOverflow (q : EthId) (s : State) : State :=
  let s1 := ethDrop q s
  if (s.ethPort q).ovfTick then s1 else rep 0x2003 (s1.modEth q (fun P => { P with ovfTick := true }))

/-- The subscription a PD frame matches on a port (R275, R283). -/
def subFor (s : State) (q : EthId) (comId : Nat) : Option Subscription :=
  s.eth.subs.find? (fun b => b.port == q.val && b.comId == comId)

/-- A PD frame becomes an arrival of its item (R282). -/
def pdArrival (q : EthId) (phase : Fin 8) (b : Subscription) (src seq etb op : Nat) (payload : List Byte) (s : State) : State :=
  let gap := match b.lastSeq with
    | some n => seq != (n + 1) % 2 ^ 32
    | none => false
  let badSrc := (b.src1 != 0 || b.src2 != 0) && !((b.src1 != 0 && src == b.src1) || (b.src2 != 0 && src == b.src2))
  let badLen := payload.length != b.length
  let badTopo := (etb != 0 && etb != s.cfg.eth.etbTopo) || (op != 0 && op != s.cfg.eth.opTopo)
  let a : Arrival :=
    { valid := !badSrc && !badLen && !badTopo,
      engBits := BitVec.ofNat 8 (q.val + 2 * bit gap + 4 * bit badSrc + 8 * bit badLen + 16 * bit badTopo),
      rxTs := compactTs (ingressTime q phase s), payload := payload }
  let s1 := { s with eth := { s.eth with subs := s.eth.subs.map (fun x => if x = b then { b with lastSeq := some seq } else x) } }
  let s2 := if gap then s1.modEth q (fun P => { P with seqGap := P.seqGap + 1 }) else s1
  arriveFrom 4 b.item a s2

/-- The buffer a message fills: the oldest posted for its ComId, or else for ComId 0 (R284). -/
def postFor (s : State) (comId : Nat) : Option PostBuf :=
  match s.eth.posts.find? (fun b => b.comId == comId) with
  | some b => some b
  | none => s.eth.posts.find? (fun b => b.comId == 0)

/-- A message fills a posted buffer and completes its operation (R284, R292). -/
def fillPost (q : EthId) (b : PostBuf) (kind comId src : Nat) (handle : Option Nat) (payload : List Byte) (s : State) : State :=
  let s1 := { s with eth := { s.eth with posts := s.eth.posts.erase b } }
  let s2 := writeBuffer b.addr (payload.take b.len) s1
  let ra := payload.length % 65536 + 65536 * q.val + 131072 * kind
  let rb := src % 2 ^ 32 + 2 ^ 32 * (handle.getD comId % 2 ^ 32)
  opDone (Fin.ofNat 64 b.ring) b.tag (if b.len < payload.length then 0x86 else 0) ra rb s2

/-- Opens a session and gives its handle; no rule states how handles are numbered, so the number is free (log 10). -/
def openSession (port comId peer : Nat) (op : Option (Nat × Nat)) (s : State) : Nat × State :=
  let h := (Config.sessionHandle s.eth.opened).toNat
  (h, { s with eth := { s.eth with
    opened := s.eth.opened + 1,
    sessions := s.eth.sessions ++ [{ handle := h, port := port, comId := comId, peer := peer, op := op }] } })

/-- Closes a session. -/
def closeSession (x : Session) (s : State) : State := { s with eth := { s.eth with sessions := s.eth.sessions.erase x } }

/-- A received message (R284): it fills a buffer or is dropped; an Mr opens a session, an Mp closes the one it answers. -/
def mdReceived (q : EthId) (kind comId src handle : Nat) (payload : List Byte) (s : State) : State :=
  let s1 := match s.eth.sessions.find? (fun x => kind == 2 && x.op.isSome && x.handle == handle) with
    | some x => match x.op with
      | some (r, t) => opDone (Fin.ofNat 64 r) t 0 payload.length 0 (closeSession x s)
      | none => s
    | none => s
  match postFor s1 comId with
  | none => ethDrop q s1
  | some b =>
    let s2 := s1.modEth q (fun P => { P with rxFrames := P.rxFrames + 1 })
    if kind = 1 then
      if 32 ≤ s2.eth.sessions.length then ethDrop q s1
      else
        let (h, s3) := openSession q.val comId src none s2
        fillPost q b kind comId src (some h) payload s3
    else fillPost q b kind comId src none payload s2

/-- A frame that the filter accepts counts, or finds the receive buffer full (R275). -/
def acceptFrame (q : EthId) (full : Bool) (f : State → State) (s : State) : State :=
  if full then ethOverflow q s else f (s.modEth q (fun P => { P with rxFrames := P.rxFrames + 1 }))

/-- A frame arrives at a port (R275, R282, R284). -/
def ethFrameReceived (q : EthId) (phase : Fin 8) (full : Bool) (f : EthFrame) (s : State) : State :=
  if !ethReady s q then s
  else match f with
  | .badFcs => s.modEth q (fun P => { P with fcsErr := P.fcsErr + 1 })
  | .other => s
  | .arp => acceptFrame q full (ethTransmit q .arpReply) s
  | .icmpEcho => acceptFrame q full (ethTransmit q .echoReply) s
  | .pd comId src seq etb op payload =>
    match subFor s q comId with
    | some b => acceptFrame q full (pdArrival q phase b src seq etb op payload) s
    | none => s
  | .md kind comId src handle payload =>
    if full ∧ (postFor s comId).isSome then ethOverflow q s else mdReceived q kind comId src handle payload s

/-- ETH_FRAME_RECEIVED (R275); `full` says that the 256 KiB receive buffer has no room for the frame. -/
def execEthFrameReceived (port : EthId) (phase : Fin 8) (full : Bool) (frame : EthFrame) (s : State) :
    Host.Outcome State Fault Refusal :=
  act (ethFrameReceived port phase full frame) s

/-- A session ends after REPLY_MS (R284): one of ours completes with 16#84. -/
def mdTimeout (handle : Nat) (s : State) : State :=
  match s.eth.sessions.find? (fun x => x.handle == handle) with
  | none => s
  | some x => match x.op with
    | some (r, t) => opDone (Fin.ofNat 64 r) t 0x84 0 0 (closeSession x s)
    | none => closeSession x s

/-- MD_REPLY_TIMEOUT (R284). -/
def execMdReplyTimeout (handle : BitVec 32) (s : State) : Host.Outcome State Fault Refusal := act (mdTimeout handle.toNat) s

/-! ## Publications (R280, R281) -/

/-- New content of a publication. -/
def loadPub (n : Nat) (b : List Byte) (s : State) : State :=
  { s with eth := { s.eth with pubs := tset s.eth.pubs n { tgetD s.eth.pubs n {} with content := some b } } }

/-- At a tick event a publication's content is taken, after releases and TIMED operations (R281); the overflow class may be
reported again. -/
def ethAtTick (s : State) : State :=
  { s with eth := { s.eth with
      pubs := s.eth.pubs.map (fun e => (e.1, { e.2 with atTick := e.2.content })),
      port := s.eth.port.map (fun P => { P with ovfTick := false }) } }

/-- Does a gate let an output item of a destination be sent now (R452)? -/
def gateOpen (s : State) (d : OutDest) : Bool :=
  s.cls.outEn || !s.cfg.cyc.outItems.any (fun o => decide (o.dest = d) && o.gate == .enable)

/-- Is it a publication's send instant (R280): the first in a cycle of its phase? -/
def pdDue (s : State) (n : Nat) (c : PubCfg) : Bool :=
  basicCycle s % 2 ^ c.periodLog2 == c.phase && (tgetD s.eth.pubs n {}).sentIn != some (basicCycle s)

/-- A publication's send instant (R280, R281, R452). -/
def pdSend (n : Nat) (s : State) : State :=
  match tget? s.cfg.eth.pubs n with
  | none => s
  | some c =>
    let P := tgetD s.eth.pubs n {}
    match P.atTick with
    | none => s
    | some b =>
      if pdDue s n c ∧ gateOpen s (.pd n) then
        let seq := (tgetD s.eth.seqs c.comId (2 ^ 32 - 1) + 1) % 2 ^ 32
        let s1 := { s with eth := { s.eth with
          seqs := tset s.eth.seqs c.comId seq, pubs := tset s.eth.pubs n { P with sentIn := some (basicCycle s) } } }
        bothEth.foldl (fun s q =>
          if testBit c.mask q.val && ethReady s q then
            ethTransmit q (.pd c.comId c.dest seq s.cfg.eth.etbTopo s.cfg.eth.opTopo b) s
          else s) s1
      else s

/-! ## PTP (R285, R286) -/

/-- The offset of module time from PTP time at a Sync (R285). -/
def ptpOffset (q : EthId) (origin rx : Int) (s : State) : State :=
  s.modEth q (fun P => { P with offset := some (rx - origin - P.meanDelay), lastSync := some (origin, rx), syncWait := none })

/-- The state decision of a received Announce by the port's role (R285). -/
def ptpAnnounced (q : EthId) (st : BitVec 4) (steps : BitVec 8) (s : State) : State :=
  match ptpRole s q with
  | .disabled => s
  | .measure => setPtpState q (if st = ptpMaster then ptpListening else st) (s.modEth q (fun P => { P with steps := steps }))
  | .master => setPtpState q (if timeGood s then st else ptpListening) (s.modEth q (fun P => { P with steps := steps }))

/-- A PTP message by the port's role (R285). Messages of another domain are discarded. -/
def ptpReceived (q : EthId) (phase : Fin 8) (domain : Nat) (m : PtpMsg) (s : State) : State :=
  let rx : Int := (ingressTime q phase s / 2 ^ 24 : Nat)
  let role := ptpRole s q
  if !ethReady s q || role == .disabled || domain != ethCfg s q 4 7 then s
  else
    let s1 := s.modEth q (fun P => { P with rxFrames := P.rxFrames + 1 })
    match m with
    | .announce st steps => ptpAnnounced q st steps s1
    | .sync seq two origin corr =>
      if role != .measure || !captureValid s1 then s1
      else if two then s1.modEth q (fun P => { P with syncWait := some (seq, rx - corr) })
      else ptpOffset q (origin + corr) rx s1
    | .followUp seq origin corr =>
      match (s1.ethPort q).syncWait with
      | some (n, t2) => if n = seq then ptpOffset q (origin + corr) t2 s1 else s1
      | none => s1
    | .delayReq seq =>
      if (s1.ethPort q).ptpState = ptpMaster then ethTransmit q (.ptpDelayResp seq rx.toNat) s1 else s1
    | .delayResp seq t4 corr =>
      match (s1.ethPort q).delayReq, (s1.ethPort q).lastSync with
      | some (n, t3), some (t1, t2) =>
        if n = seq then
          s1.modEth q (fun P => { P with delayReq := none, meanDelay := divFree 5 ((t2 - t1) + (t4 - corr - t3)) 2 })
        else s1
      | _, _ => s1

/-- PTP_MESSAGE_RECEIVED (R285). -/
def execPtpMessageReceived (port : EthId) (phase : Fin 8) (domain : BitVec 7) (msg : PtpMsg) (s : State) :
    Host.Outcome State Fault Refusal :=
  act (ptpReceived port phase domain.toNat msg) s

/-- The next PTP message of a port (R277, R285): a MASTER port sends only while the time base is LOCKED or MASTER. An event
message's timestamp goes through the transmit-timestamp queue; the Follow_Up takes it out again. -/
def ptpSend (q : EthId) (phase : Fin 8) (k : PtpSend) (s : State) : State :=
  let P := s.ethPort q
  let ts := egressTime q phase s
  let masterNow := ptpRole s q == .master && P.ptpState == ptpMaster && timeGood s
  if !ethReady s q then s
  else match k with
  | .becomeMaster => if ptpRole s q == .master && timeGood s then setPtpState q ptpMaster s else s
  | .announce => if masterNow then ethTransmit q (.ptpAnnounce s.tim.utcOfs s.tim.utcValid) s else s
  | .sync =>
    if masterNow then
      let s1 := (pushTxTs q (0x8000 + P.syncSeq.toNat % 0x8000) (compactTs ts) s).1
      ethTransmit q (.ptpSync P.syncSeq.toNat) (s1.modEth q (fun P => { P with syncSeq := P.syncSeq + 1 }))
    else s
  | .followUp =>
    let ident : BitVec 16 := BitVec.ofNat 16 (0x8000 + (P.syncSeq - 1).toNat % 0x8000)
    match (vget s.tim.txq q).entries.find? (fun e => e.ident == ident) with
    | some e => ethTransmit q (.ptpFollowUp (P.syncSeq - 1).toNat e.ts) (popTxTs q ident.toNat s)
    | none => s
  | .delayReq =>
    if ptpRole s q == .measure then
      let n := P.delaySeq.toNat
      let (s1, ok) := pushTxTs q (0x8000 + n % 0x8000) (compactTs ts) s
      let s2 := if ok then popTxTs q (0x8000 + n % 0x8000) s1 else s1
      ethTransmit q (.ptpDelayReq n) (s2.modEth q (fun P => { P with
        delaySeq := P.delaySeq + 1, delayReq := if ok then some (n, (ts / 2 ^ 24 : Nat)) else none }))
    else s

/-- PTP_MESSAGE_SEND (R285). -/
def execPtpMessageSend (port : EthId) (phase : Fin 8) (what : PtpSend) (s : State) : Host.Outcome State Fault Refusal :=
  act (ptpSend port phase what) s

/-- A MASTER port returns to LISTENING when the time base leaves LOCKED and MASTER (R285). -/
def ptpFollowTime (s : State) : State :=
  bothEth.foldl (fun s q =>
    if ptpRole s q == .master && (s.ethPort q).ptpState == ptpMaster && !timeGood s then setPtpState q ptpListening s else s) s

/-! ## Ethernet operations (R291, R292) -/

/-- The frame of an ETH_SEND leaves the port (R291): its source MAC is the port's own. -/
def ethFrameOut (q : EthId) (b : List Byte) (s : State) : State :=
  ethTransmit q (.frame (b.take 6 ++ beBytes 6 (vget s.otp.mac q).toNat ++ b.drop 12)) s

/-- ETH_SEND (R291, R292). -/
def ethSendOp (r : Fin 64) (phase : Fin 8) (d0 : Desc) (s : State) : State :=
  let d := d0.withData s
  let q : EthId := Fin.ofNat 2 (field d.paramA 0 1)
  runTimed r d 0 0 (fun s =>
    if !ethReady s q then opDone r d.tag 0x81 0 0 s
    else
      let s1 := ethFrameOut q d.data s
      if testBit d.paramA 1 then
        let ident := field d.paramB 0 16
        let ts := compactTs (egressTime q phase s1)
        let (s2, ok) := pushTxTs q ident ts s1
        if ok then opDone r d.tag 0 ident ts.toNat s2 else opDone r d.tag 0x80 ident 0 s2
      else opDone r d.tag 0 0 0 s1) s

/-- ETH_SEND: carries out the started operation of a ring; the phase is the egress sampler's. -/
def execEthSend (ring : Fin 64) (tag : Fin 1024) (phase : Fin 8) (s : State) : Host.Outcome State Fault Refusal :=
  act (runOp ring tag 0x20 (ethSendOp ring phase)) s

/-- TRDP_PD_PUB (R291). -/
def trdpPdPubOp (r : Fin 64) (d0 : Desc) (s : State) : State :=
  let d := d0.withData s
  runTimed r d 0 0 (fun s => opDone r d.tag 0 0 0 (loadPub (field d.paramA 0 9) d.data s)) s

/-- TRDP_PD_PUB: carries out the started operation of a ring. -/
def execTrdpPdPub (ring : Fin 64) (tag : Fin 1024) (s : State) : Host.Outcome State Fault Refusal :=
  act (runOp ring tag 0x21 (trdpPdPubOp ring)) s

/-- TRDP_PD_SUB (R291, R292). -/
def trdpPdSubOp (r : Fin 64) (d : Desc) (s : State) : State :=
  let b : Subscription :=
    { item := field d.paramA 0 13, port := field d.paramA 16 1, comId := d.paramB, src1 := d.paramC, src2 := d.addr % 2 ^ 32,
      length := d.length }
  let subs := s.eth.subs
  if 512 ≤ subs.length || !s.cfg.eth.subComIds.contains b.comId then opDone r d.tag 0x82 0 0 s
  else if subs.any (fun x => x.item == b.item || (x.port == b.port && x.comId == b.comId)) then opDone r d.tag 0x83 0 0 s
  else opDone r d.tag 0 subs.length 0 { s with eth := { s.eth with subs := subs ++ [b] } }

/-- TRDP_PD_SUB: carries out the started operation of a ring. -/
def execTrdpPdSub (ring : Fin 64) (tag : Fin 1024) (s : State) : Host.Outcome State Fault Refusal :=
  act (runOp ring tag 0x22 (trdpPdSubOp ring)) s

/-- TRDP_MD_SEND (R284, R291, R292). -/
def trdpMdSendOp (r : Fin 64) (d : Desc) (s : State) : State :=
  let q : EthId := Fin.ofNat 2 (field d.paramA 0 1)
  let kind := field d.paramA 1 2
  let payload := readBuffer s d.addr d.length
  if !ethReady s q then opDone r d.tag 0x81 0 0 s
  else match kind with
  | 0 => opDone r d.tag 0 0 0 (ethTransmit q (.md 0 d.paramB d.paramC 0 payload) s)
  | 1 =>
    if 32 ≤ s.eth.sessions.length then opDone r d.tag 0x84 0 0 s
    else
      let (h, s1) := openSession q.val d.paramB d.paramC (some (r.val, d.tag)) s
      ethTransmit q (.md 1 d.paramB d.paramC h payload) s1
  | _ =>
    match s.eth.sessions.find? (fun x => x.op.isNone && x.handle == d.paramC) with
    | none => opDone r d.tag 0x85 0 0 s
    | some x => opDone r d.tag 0 0 0 (ethTransmit q (.md 2 d.paramB x.peer x.handle payload) (closeSession x s))

/-- Does an operation already wait in a session or a posted buffer? -/
def ethWaits (s : State) (r : Fin 64) (t : Fin 1024) : Bool :=
  s.eth.sessions.any (fun x => x.op == some (r.val, t.val)) || s.eth.posts.any (fun b => b.ring == r.val && b.tag == t.val)

/-- TRDP_MD_SEND: carries out the started operation of a ring; an Mr waits for its session. -/
def execTrdpMdSend (ring : Fin 64) (tag : Fin 1024) (s : State) : Host.Outcome State Fault Refusal :=
  act (fun s => onlyIf (!ethWaits s ring tag) (runOp ring tag 0x23 (trdpMdSendOp ring)) s) s

/-- TRDP_MD_POST (R284, R291): the buffer waits for a message. -/
def trdpMdPostOp (r : Fin 64) (d : Desc) (s : State) : State :=
  { s with eth := { s.eth with posts := s.eth.posts ++ [{ ring := r.val, tag := d.tag, comId := d.paramB, addr := d.addr, len := d.length }] } }

/-- TRDP_MD_POST: carries out the started operation of a ring. -/
def execTrdpMdPost (ring : Fin 64) (tag : Fin 1024) (s : State) : Host.Outcome State Fault Refusal :=
  act (fun s => onlyIf (!ethWaits s ring tag) (runOp ring tag 0x24 (trdpMdPostOp ring)) s) s

/-- PTP_READ (R292). -/
def ptpReadOp (r : Fin 64) (d : Desc) (s : State) : State :=
  let P := s.ethPort (Fin.ofNat 2 (field d.paramA 0 1))
  let ra := P.ptpState.toNat + 16 * bit P.offset.isSome + 256 * P.steps.toNat
  opDone r d.tag 0 ra (unsigned 64 (P.offset.getD 0)) s

/-- PTP_READ: carries out the started operation of a ring. -/
def execPtpRead (ring : Fin 64) (tag : Fin 1024) (s : State) : Host.Outcome State Fault Refusal :=
  act (runOp ring tag 0x25 (ptpReadOp ring)) s

/-! ## MVB (R287 to R293) -/

/-- A field of MVB_CFG (R294). -/
def mvbCfg (s : State) (lo w : Nat) : Nat := regField s MVB lo w

/-- Is the MVB port enabled? -/
def mvbOn (s : State) : Bool := mvbCfg s 0 1 == 1

/-- The MVB port changed. -/
def State.modMvb (s : State) (f : Mvb → Mvb) : State := { s with mvb := f s.mvb }

/-- Does the port answer master frames as a device (R289)? -/
def mvbAnswers (s : State) : Bool := mvbOn s && mvbCfg s 4 12 != 0

/-- A master frame for a source port is answered with the content it holds (R289, R452). -/
def mvbMasterFrame (addr : Nat) (s : State) : State :=
  match tget? s.mvb.src addr with
  | none => s
  | some b =>
    if mvbAnswers s ∧ gateOpen s (.mvb addr) then s.modMvb (fun M => { M with sentPort := some (addr, b) }) else s

/-- The arrival of a slave frame (R290). -/
def mvbArrival (s : State) (lineB : Bool) (phase : Fin 8) (size : Nat) (data : List Byte) : Arrival :=
  let otherFailed := if lineB then !s.mvb.lineA else !s.mvb.lineB
  let badLen := data.length != size
  { valid := !badLen, engBits := BitVec.ofNat 8 (bit lineB + 2 * bit otherFailed + 4 * bit badLen),
    rxTs := compactTs (captureTime phase s), payload := data }

/-- A slave frame (R287, R290, R293). -/
def mvbSlaveFrame (lineB : Bool) (phase : Fin 8) (f : MvbRx) (s : State) : State :=
  if !mvbOn s then s
  else match f with
  | .process addr data =>
    match s.mvb.binds.find? (fun b => b.1 == addr.toNat) with
    | some (_, item, size) => arriveFrom 5 item (mvbArrival s lineB phase size data) s
    | none => s
  | .message data =>
    match s.cfg.mvb.inbox with
    | some item => arriveFrom 5 item (mvbArrival s lineB phase data.length data) s
    | none => s
  | .error => s.modMvb (fun M => { M with frameErr := M.frameErr + 1 })
  | .silence => if s.mvb.master then s.modMvb (fun M => { M with noReply := M.noReply + 1 }) else s
  | .duplicate => rep 0x2405 s

/-- MVB_SLAVE_FRAME (R290). -/
def execMvbSlaveFrame (lineB : Bool) (phase : Fin 8) (frame : MvbRx) (s : State) : Host.Outcome State Fault Refusal :=
  act (mvbSlaveFrame lineB phase frame) s

/-- A basic period (R288, R292): a message-data slot takes the oldest waiting message; 64 periods without one end it. -/
def mvbBasicPeriod (msgSlot : Bool) (s : State) : State :=
  if !mvbOn s then s
  else
    let s1 := if s.mvb.master then s.modMvb (fun M => { M with periods := M.periods + 1 }) else s
    let (s2, rest) := match msgSlot, s1.mvb.msgs with
      | true, m :: r =>
        (opDone (Fin.ofNat 64 m.ring) m.tag 0 0 0 (s1.modMvb (fun M => { M with sentMsg := some (m.dest, m.data) })), r)
      | _, ms => (s1, ms)
    let aged := rest.map (fun m => { m with waited := m.waited + 1 })
    let s3 := s2.modMvb (fun M => { M with msgs := aged.filter (fun m => m.waited < 64) })
    (aged.filter (fun m => 64 ≤ m.waited)).foldl (fun s m => opDone (Fin.ofNat 64 m.ring) m.tag 0x87 0 0 s) s3

/-- MVB_BASIC_PERIOD (R288); `msgSlot` says that it holds a message-data slot for this device. -/
def execMvbBasicPeriod (msgSlot : Bool) (s : State) : Host.Outcome State Fault Refusal := act (mvbBasicPeriod msgSlot) s

/-- MVB_LINE_FAILED (R293). -/
def execMvbLineFailed (lineB : Bool) (s : State) : Host.Outcome State Fault Refusal :=
  act (fun s => onlyIf (if lineB then s.mvb.lineB else s.mvb.lineA)
    (fun s => rep 0x2401 (s.modMvb (fun M => if lineB then { M with lineB := false } else { M with lineA := false }))) s) s

/-- MVB_LINE_RESTORED (R293). -/
def execMvbLineRestored (lineB : Bool) (s : State) : Host.Outcome State Fault Refusal :=
  act (fun s => onlyIf (!(if lineB then s.mvb.lineB else s.mvb.lineA))
    (fun s => rep 0x2402 (s.modMvb (fun M => if lineB then { M with lineB := true } else { M with lineA := true }))) s) s

/-- MASTERSHIP_GAINED (R293). -/
def execMastershipGained (s : State) : Host.Outcome State Fault Refusal :=
  act (fun s => onlyIf (!s.mvb.master && mvbOn s && mvbCfg s 1 1 == 1)
    (fun s => rep 0x2403 (s.modMvb (fun M => { M with
      master := true, masterAddr := BitVec.ofNat 12 (mvbCfg s 4 12), gained := M.gained + 1 }))) s) s

/-- MASTERSHIP_LOST (R293); the address is the new master's, 0 when there is none. -/
def execMastershipLost (addr : BitVec 12) (s : State) : Host.Outcome State Fault Refusal :=
  act (fun s => onlyIf s.mvb.master
    (fun s => rep 0x2404 (s.modMvb (fun M => { M with master := false, masterAddr := addr, lostCnt := M.lostCnt + 1 }))) s) s

/-- New content of a source port (R289). -/
def loadMvb (addr : Nat) (b : List Byte) (s : State) : State := s.modMvb (fun M => { M with src := tset M.src addr b })

/-- MVB_PORT_WRITE (R289, R291). -/
def mvbPortWriteOp (r : Fin 64) (d0 : Desc) (s : State) : State :=
  let d := d0.withData s
  runTimed r d 0 0 (fun s => opDone r d.tag 0 0 0 (loadMvb (field d.paramA 0 12) d.data s)) s

/-- MVB_PORT_WRITE: carries out the started operation of a ring. -/
def execMvbPortWrite (ring : Fin 64) (tag : Fin 1024) (s : State) : Host.Outcome State Fault Refusal :=
  act (runOp ring tag 0x30 (mvbPortWriteOp ring)) s

/-- MVB_PORT_BIND (R291, R292). -/
def mvbPortBindOp (r : Fin 64) (d : Desc) (s : State) : State :=
  let addr := field d.paramA 0 12
  let item := field d.paramA 16 13
  let bs := s.mvb.binds
  if 256 ≤ bs.length || (tget? s.cfg.mvb.sink addr).isNone then opDone r d.tag 0x82 0 0 s
  else if bs.any (fun b => b.1 == addr || b.2.1 == item) then opDone r d.tag 0x83 0 0 s
  else opDone r d.tag 0 bs.length 0 (s.modMvb (fun M => { M with binds := bs ++ [(addr, item, d.length)] }))

/-- MVB_PORT_BIND: carries out the started operation of a ring. -/
def execMvbPortBind (ring : Fin 64) (tag : Fin 1024) (s : State) : Host.Outcome State Fault Refusal :=
  act (runOp ring tag 0x31 (mvbPortBindOp ring)) s

/-- MVB_MSG_SEND (R287, R292): the message waits for a message-data slot. -/
def mvbMsgSendOp (r : Fin 64) (d : Desc) (s : State) : State :=
  s.modMvb (fun M => { M with msgs := M.msgs ++
    [{ ring := r.val, tag := d.tag, dest := field d.paramA 0 12, data := readBuffer s d.addr d.length }] })

/-- MVB_MSG_SEND: carries out the started operation of a ring. -/
def execMvbMsgSend (ring : Fin 64) (tag : Fin 1024) (s : State) : Host.Outcome State Fault Refusal :=
  act (fun s => onlyIf (!s.mvb.msgs.any (fun m => m.ring == ring.val && m.tag == tag.val))
    (runOp ring tag 0x32 (mvbMsgSendOp ring)) s) s

end Sys2Proof.Machine
end

