-- ==== Sys2Proof/Machine/ColBridge.lean ====
section
/-!
DEFINITION. The Col bridge (R295 to R322): data phases and byte lanes, operations, posted writes, latest-value routes, inbound writes,
and what meets open transactions.
-/

namespace Sys2Proof.Machine

/-- The bridge changed. -/
def State.modCol (s : State) (f : Col → Col) : State := { s with col := f s.col }

/-! ## Windows and data phases (R296 to R301) -/

/-- A field of the setting in force of a window (R299, R322). -/
def winField (s : State) (n lo w : Nat) : Nat := field (vget s.col.win (Fin.ofNat 16 n)).setting.toNat lo w

/-- Bytes of a card behind a window: 1, 2 or 4; 2#11 acts as 2#10 (R322). -/
def winWidth (s : State) (n : Nat) : Nat := match winField s n 1 2 with
  | 0 => 1
  | 1 => 2
  | _ => 4

/-- Data phases per transaction at most (R300, R322). -/
def winBurst (s : State) (n : Nat) : Nat := 2 ^ min 4 (winField s n 5 3)

/-- The window an offset in the window region lies in (R298). -/
def windowOf (x : Nat) : Nat := x / 2 ^ 28

/-- The backplane address of an offset in the window region (R298). -/
def busAddr (s : State) (x : Nat) : Nat := 2 ^ 28 * winField s (windowOf x) 28 4 + x % 2 ^ 28

/-- The byte offset to which buffer byte `i` travels in a byte-lane mode (R301). -/
def laneSwap (swap i : Nat) : Nat :=
  match swap with
  | 1 => i - i % 2 + (1 - i % 2)
  | 2 => i - i % 4 + (3 - i % 4)
  | _ => i

/-- The condition of R301 on address and length. -/
def swapOk (swap addr len : Nat) : Bool :=
  match swap with
  | 1 => addr % 2 == 0 && len % 2 == 0
  | 2 => addr % 4 == 0 && len % 4 == 0
  | _ => true

/-- The addresses of the data phases that cover a range with a width (R300). -/
def phaseAddrs (addr len width : Nat) : List Nat :=
  let first := addr / width
  let last := (addr + len - 1) / width
  (List.range (last + 1 - first)).map (fun i => (first + i) * width)

/-- Byte enables of a phase: the lanes whose bytes lie in the range (R296, R300). -/
def phaseBe (addr len width a : Nat) : BitVec 4 :=
  BitVec.ofNat 4 ((List.range width).foldl (fun m k => if addr ≤ a + k ∧ a + k < addr + len then m + 2 ^ k else m) 0)

/-- AD of a write phase: the byte at A + k travels on BLk, which is AD[31 − 8k : 24 − 8k] (R296). -/
def phaseAd (byte : Nat → Byte) (be : BitVec 4) (a : Nat) : BitVec 32 :=
  BitVec.ofNat 32 ((List.range 4).foldl (fun v k =>
    if be.getLsbD k then v + (byte (a + k)).toNat * 2 ^ (24 - 8 * k) else v) 0)

/-- The data phases of a write of a buffer at a backplane address (R300, R301). -/
def writePhases (addr width swap : Nat) (data : List Byte) : List BusPhase :=
  let byte (x : Nat) : Byte := data.getD (laneSwap swap (x - addr)) 0#8
  (phaseAddrs addr data.length width).map (fun a =>
    let be := phaseBe addr data.length width a
    { addr := a, write := true, ad := phaseAd byte be a, be := be })

/-- The data phases of a read: each reads its whole phase (R300). -/
def readPhases (addr len width : Nat) : List BusPhase :=
  (phaseAddrs addr len width).map (fun a => { addr := a, write := false, ad := 0, be := BitVec.ofNat 4 (2 ^ width - 1) })

/-- Does a new transaction begin at phase `i`: after 2^BURST_LOG2 phases or at a 64-byte boundary (R300)? `n` phases are in the
open transaction. -/
def newTransaction (burst n a : Nat) : Bool := n == 0 || n == burst || a % 64 == 0

/-- Transactions that the first phases of an operation make (R300). -/
def countTransactions (burst : Nat) : Nat → List BusPhase → Nat
  | _, [] => 0
  | n, p :: r => if newTransaction burst n p.addr then 1 + countTransactions burst 1 r else countTransactions burst (n + 1) r

/-- Error kind of a failed phase (R316). -/
def BusAnswer.kind : BusAnswer → Nat
  | .ack _ => 0 | .noTarget => 1 | .error => 2 | .timeout => 3

/-- Runs data phases against the targets' answers: the AD of the phases that succeeded, in order, and the failing phase with its
kind (R314). A phase without an answer times out. -/
def runPhases : List BusPhase → List BusAnswer → List (BusPhase × BitVec 32) × Option (BusPhase × Nat)
  | [], _ => ([], none)
  | p :: _, [] => ([], some (p, 3))
  | p :: ps, .ack ad :: as =>
    let (done, bad) := runPhases ps as
    ((p, ad) :: done, bad)
  | p :: _, b :: _ => ([], some (p, b.kind))

/-- The outcome of an operation's phases on the backplane. -/
structure BusRun where
  done : List (BusPhase × BitVec 32)
  bad : Option (BusPhase × Nat)
deriving DecidableEq, Repr

/-- Issues phases in a window: counts transactions and a failure, which is reported (R314). -/
def issue (n : Nat) (ps : List BusPhase) (ans : List BusAnswer) (s : State) : BusRun × State :=
  let (done, bad) := runPhases ps ans
  let issued := ps.take (done.length + bit bad.isSome)
  let t := countTransactions (winBurst s n) 0 issued
  let s1 := s.modCol (fun C => { C with
    phases := issued,
    win := vmod C.win (Fin.ofNat 16 n) (fun w => { w with
      txnCnt := w.txnCnt + BitVec.ofNat 16 t, errCnt := if bad.isSome then w.errCnt + 1 else w.errCnt }) })
  (⟨done, bad⟩, if bad.isSome then rep 0x2803 s1 else s1)

/-- The bytes a read took from its phases, in buffer order (R296, R300, R301). -/
def readBytes (addr len swap : Nat) (done : List (BusPhase × BitVec 32)) : List Byte :=
  let cells : List (Nat × Byte) := done.flatMap (fun e =>
    (List.range 4).map (fun k => (e.1.addr + k, BitVec.ofNat 8 (e.2.toNat / 2 ^ (24 - 8 * k)))))
  (List.range len).map (fun i =>
    match cells.find? (fun c => c.1 == addr + laneSwap swap i) with
    | some c => c.2
    | none => 0#8)

/-- The offset in the window region of a phase of an operation that begins at region offset `x`. -/
def regionOf (x a : Nat) : Nat := 2 ^ 28 * windowOf x + a % 2 ^ 28

/-! ## Operations (R305, R311 to R313) -/

/-- The route entry of a number (R302). -/
def routeOf (s : State) (n : Nat) : RouteEntry := tgetD s.cfg.col.routes n { waddr := 0, rlen := 0, kind := 0 }

/-- Is an access operation refused (R305)? -/
def refused (s : State) (d : Desc) : Bool :=
  let n := field d.paramA 0 14
  let e := routeOf s n
  let off := field d.paramB 0 28
  let x := e.waddr + off
  let allowed := match d.opcode with
    | 0x40 => e.rd
    | 0x41 => e.wr
    | _ => e.wrNp
  n < 256 || e.kind != 1 || !allowed || e.rlen < off + d.length ||
  !swapOk (winField s (windowOf x) 3 2) (busAddr s x) d.length

/-- The region offset an access operation begins at. -/
def opOffset (s : State) (d : Desc) : Nat := (routeOf s (field d.paramA 0 14)).waddr + field d.paramB 0 28

/-- The checks an access operation makes on its route and window (R299, R305, R313): refused, disabled or ready. -/
def withRoute (r : Fin 64) (d : Desc) (f : Nat → State → State) (s : State) : State :=
  if refused s d then rep 0x2802 (opDone r d.tag 0x80 0 0 s)
  else
    let x := opOffset s d
    if winField s (windowOf x) 0 1 = 0 then opDone r d.tag 0x81 0 0 s else f x s

/-- Does the backplane run: no reset and its clock good (R320, R559)? -/
def busUp (s : State) : Bool := !s.col.bpRst && clockGood s 13

/-- May the bus take another transaction: it runs, and no earlier posted write of a smaller sequence waits (R312, R320)? -/
def busFree (s : State) (d : Desc) : Bool :=
  busUp s && !s.col.posted.any (fun p => decide (sdiff 32 p.seq d.seq < 0))

/-- Completes an operation with a failure of the backplane (R313, R317). -/
def busOpFailed (r : Fin 64) (d : Desc) (x : Nat) (p : BusPhase) (kind : Nat) (s : State) : State :=
  let res := busFailure (regionOf x p.addr) d.seq p.be kind (testBit d.flags 2) (field d.paramA 0 14)
  let ra := res.1
  let rb := res.2
  opDone r d.tag (0x83 + kind) ra rb s

/-- COL_READ on the bus (R311 to R314): the buffer is written only after the last phase has succeeded. -/
def colReadRun (r : Fin 64) (ans : List BusAnswer) (d : Desc) (x : Nat) (s : State) : State :=
  if !busFree s d then s
  else
    let n := windowOf x
    let a := busAddr s x
    let iss := issue n (readPhases a d.length (winWidth s n)) ans s
    let run := iss.1
    let s1 := iss.2
    match run.bad with
    | some (p, k) => busOpFailed r d x p k s1
    | none => opDone r d.tag 0 d.length d.seq (writeBuffer d.addr (readBytes a d.length (winField s n 3 2) run.done) s1)

/-- COL_READ (R305, R311). -/
def colReadOp (r : Fin 64) (ans : List BusAnswer) (d : Desc) (s : State) : State := withRoute r d (colReadRun r ans d) s

/-- COL_READ; the answers are those of its data phases in order. -/
def execColRead (ring : Fin 64) (tag : Fin 1024) (answers : List BusAnswer) (s : State) : Host.Outcome State Fault Refusal :=
  act (runOp ring tag 0x40 (colReadOp ring answers)) s

/-- The posted form of a write operation (R312, R316). -/
def postedOf (s : State) (r : Fin 64) (d : Desc) (x : Nat) : Posted :=
  { ring := r.val, gen := (s.ringAt r).gen, tag := d.tag, route := field d.paramA 0 14, seq := d.seq,
    timed := testBit d.flags 2, off := x, data := d.data }

/-- A write whose backplane writes are not enabled completes as withheld (R313, R320). -/
def withheld (r : Fin 64) (d : Desc) (s : State) : State := opDone r d.tag 0x88 0 d.seq s

/-- COL_WRITE (R311 to R313): its data enters the 64-entry posted buffer; while it is full the operation waits. -/
def colWriteOp (r : Fin 64) (d : Desc) (s : State) : State :=
  withRoute r d (fun x s =>
    if !s.cls.outEn then withheld r d s
    else runTimed r d 0 d.seq (fun s =>
      if s.col.posted.length < 64 ∧ !s.col.bpRst then
        opDone r d.tag 0 0 d.seq (s.modCol (fun C => { C with posted := C.posted ++ [postedOf s r d x] }))
      else s) s) s

/-- COL_WRITE: carries out the started operation of a ring. -/
def execColWrite (ring : Fin 64) (tag : Fin 1024) (s : State) : Host.Outcome State Fault Refusal :=
  act (runOp ring tag 0x41 (colWriteOp ring)) s

/-- COL_WRITE_NP on the bus (R311 to R314). -/
def colWriteNpRun (r : Fin 64) (ans : List BusAnswer) (d : Desc) (x : Nat) (s : State) : State :=
  if !busFree s d then s
  else
    let n := windowOf x
    let iss := issue n (writePhases (busAddr s x) (winWidth s n) (winField s n 3 2) d.data) ans s
    let run := iss.1
    let s1 := iss.2
    match run.bad with
    | some (p, k) => busOpFailed r d x p k s1
    | none => opDone r d.tag 0 d.length d.seq s1

/-- COL_WRITE_NP through its route: withheld while the writes are, then TIMED or at once (R305, R311, R320). -/
def colWriteNpRoute (r : Fin 64) (ans : List BusAnswer) (d : Desc) (x : Nat) (s : State) : State :=
  if !s.cls.outEn then withheld r d s else runTimed r d d.length d.seq (colWriteNpRun r ans d x) s

/-- COL_WRITE_NP (R311 to R314). -/
def colWriteNpOp (r : Fin 64) (ans : List BusAnswer) (d : Desc) (s : State) : State := withRoute r d (colWriteNpRoute r ans d) s

/-- COL_WRITE_NP: carries out the started operation of a ring. -/
def execColWriteNp (ring : Fin 64) (tag : Fin 1024) (answers : List BusAnswer) (s : State) : Host.Outcome State Fault Refusal :=
  act (runOp ring tag 0x42 (colWriteNpOp ring answers)) s

/-- A held TIMED write of either kind at its release tick enters the posted writes, or is withheld (R313, R320). -/
def releaseColWrite (r : Fin 64) (d : Desc) (s : State) : State :=
  let p := postedOf s r d (opOffset s d)
  if s.cls.outEn then s.modCol (fun C => { C with posted := C.posted ++ [p] }) else postedError p true p.off 0 5 s

/-- COL_LV_BIND (R311, R313). -/
def colLvBindOp (r : Fin 64) (d : Desc) (s : State) : State :=
  let n := field d.paramA 0 8
  let item := field d.paramA 16 13
  let e := routeOf s n
  if !(e.kind == 2 || e.kind == 4) || e.rlen != d.length then opDone r d.tag 0x82 0 0 s
  else if s.col.binds.any (fun b => b.1 == n || b.2 == item) then opDone r d.tag 0x83 0 0 s
  else opDone r d.tag 0 n 0 (s.modCol (fun C => { C with binds := tset C.binds n item }))

/-- COL_LV_BIND: carries out the started operation of a ring. -/
def execColLvBind (ring : Fin 64) (tag : Fin 1024) (s : State) : Host.Outcome State Fault Refusal :=
  act (runOp ring tag 0x43 (colLvBindOp ring)) s

/-! ## Posted writes (R312 to R317) -/

/-- Is the completion of a posted write's operation already written: then its ring no longer keeps the operation? -/
def completionWritten (s : State) (p : Posted) : Bool :=
  !((s.ringAt (Fin.ofNat 64 p.ring)).ops.any (fun o => o.desc.tag == p.tag && o.desc.seq == p.seq))

/-- The oldest posted write is issued (R312 to R315). -/
def postedWriteIssue (ans : List BusAnswer) (s : State) : State :=
  match s.col.posted with
  | [] => s
  | p :: rest =>
    if !busUp s || !completionWritten s p then s
    else
      let n := windowOf p.off
      let s0 := s.modCol (fun C => { C with posted := rest })
      let iss := issue n (writePhases (busAddr s p.off) (winWidth s n) (winField s n 3 2) p.data) ans s0
      let run := iss.1
      let s1 := iss.2
      match run.bad with
      | some (ph, k) => postedError p true (regionOf p.off ph.addr) ph.be k s1
      | none => s1

/-- POSTED_WRITE_ISSUE (R312). -/
def execPostedWriteIssue (answers : List BusAnswer) (s : State) : Host.Outcome State Fault Refusal :=
  act (postedWriteIssue answers) s

/-- The first data phase of a write, for a transaction that never had one. -/
def firstPhase (s : State) (x : Nat) (data : List Byte) : Nat × BitVec 4 :=
  let n := windowOf x
  match writePhases (busAddr s x) (winWidth s n) (winField s n 3 2) data with
  | p :: _ => (regionOf x p.addr, p.be)
  | [] => (x, 0)

/-- An outbound transaction held for HOLD_TMO_US is abandoned (R319): the operation named, or the oldest posted write. -/
def holdTimeout (op : Option (Fin 64 × Fin 1024)) (s : State) : State :=
  let count (s : State) : State := rep 0x2808 (s.modCol (fun C => { C with holdTmoCnt := C.holdTmoCnt + 1 }))
  match op with
  | some (r, t) =>
    match (s.ringAt r).ops.find? (fun o => o.desc.tag == t.val && decide (o.stage = .running)) with
    | some o =>
      if o.desc.opcode = 0x40 ∨ o.desc.opcode = 0x42 then
        let x := opOffset s o.desc
        let first := firstPhase s x (if o.desc.opcode = 0x40 then zeros o.desc.length else o.desc.data)
        let off := first.1
        let be := first.2
        let res := busFailure off o.desc.seq be 3 (testBit o.desc.flags 2) (field o.desc.paramA 0 14)
        let ra := res.1
        let rb := res.2
        count (opDone r t.val 0x87 ra rb s)
      else s
    | none => s
  | none =>
    match s.col.posted with
    | [] => s
    | p :: rest =>
      let first := firstPhase s p.off p.data
      let off := first.1
      let be := first.2
      count (postedError p true off be 3 (s.modCol (fun C => { C with posted := rest })))

/-- HOLD_TIMEOUT (R319). -/
def execHoldTimeout (op : Option (Fin 64 × Fin 1024)) (s : State) : Host.Outcome State Fault Refusal := act (holdTimeout op) s

/-! ## Latest-value routes (R307, R308, R310) -/

/-- Takes the next route sequence number (R312). -/
def takeSeq (s : State) : Nat × State := (s.col.nextSeq.toNat, s.modCol (fun C => { C with nextSeq := C.nextSeq + 1 }))

/-- A route that is due in this tick and has not run (R307, R308). -/
def routeDue (s : State) (n : Nat) (kind tick : Nat) : Option RouteEntry :=
  let e := routeOf s n
  if e.kind = kind ∧ tick % 2 ^ e.xferPlog2 = 0 ∧ nsMem s.col.served n = false ∧ winField s (windowOf e.waddr) 0 1 = 1 ∧ busUp s then
    some e
  else none

/-- Marks a route as served in this tick. -/
def markServed (n : Nat) (s : State) : State := s.modCol (fun C => { C with served := nsAdd C.served n })

/-- A kind 2 route reads its range and writes an arrival (R307). -/
def latestRead (n : Nat) (ans : List BusAnswer) (s : State) : State :=
  match routeDue s n 2 (s.tick + 1) with
  | none => s
  | some e =>
    let w := windowOf e.waddr
    let a := busAddr s e.waddr
    let s0 := markServed n (takeSeq s).2
    let iss := issue w (readPhases a e.rlen (winWidth s w)) ans s0
    let run := iss.1
    let s1 := iss.2
    let put (v : Bool) (b : List Byte) (s1 : State) : State := match tget? s1.col.binds n with
      | some item => arriveFrom 6 item ⟨v, 0, s.ts, b⟩ s1
      | none => s1
    match run.bad with
    | none => put true (readBytes a e.rlen (winField s w 3 2) run.done) s1
    | some _ => rep 0x2805 (put false [] (s1.modCol (fun C => { C with lvFailCnt := C.lvFailCnt + 1 })))

/-- LATEST_VALUE_READ (R307). -/
def execLatestValueRead (route : Fin 256) (answers : List BusAnswer) (s : State) : Host.Outcome State Fault Refusal :=
  act (latestRead route.val answers) s

/-- A kind 2 transfer that still runs 1 µs before the tick event writes no arrival (R310). -/
def privilegedOverrun (n : Nat) (ans : List BusAnswer) (s : State) : State :=
  match routeDue s n 2 (s.tick + 1) with
  | none => s
  | some e =>
    let w := windowOf e.waddr
    let s0 := markServed n (takeSeq s).2
    let iss := issue w (readPhases (busAddr s e.waddr) e.rlen (winWidth s w)) ans s0
    let s1 := iss.2
    rep 0x2806 (s1.modCol (fun C => { C with lvOvrCnt := C.lvOvrCnt + 1 }))

/-- PRIVILEGED_OVERRUN (R310). -/
def execPrivilegedOverrun (route : Fin 256) (answers : List BusAnswer) (s : State) : Host.Outcome State Fault Refusal :=
  act (privilegedOverrun route.val answers) s

/-- The value an output item was last released with, none before its first release (R188, R308). -/
def releasedValue (s : State) (item : Nat) : Option (List Byte) :=
  let o := tgetD s.cyc.outs item {}
  if o.released then o.value else none

/-- A kind 3 route writes the last released value (R308); skipped while backplane writes are not enabled (R320). -/
def latestWrite (n : Nat) (ans : List BusAnswer) (s : State) : State :=
  match routeDue s n 3 s.tick with
  | none => s
  | some e =>
    match releasedValue s e.outItem with
    | none => s
    | some v =>
      if !s.cls.outEn then markServed n s
      else
        let w := windowOf e.waddr
        let seq := (takeSeq s).1
        let sq := (takeSeq s).2
        let data := padTo e.rlen v
        let iss := issue w (writePhases (busAddr s e.waddr) (winWidth s w) (winField s w 3 2) data) ans (markServed n sq)
        let run := iss.1
        let s1 := iss.2
        match run.bad with
        | none => s1
        | some (ph, k) =>
          let p : Posted := { ring := 0, gen := 0, tag := 0, route := n, seq := seq, timed := false, off := e.waddr, data := data }
          postedError p false (regionOf e.waddr ph.addr) ph.be k (s1.modCol (fun C => { C with lvFailCnt := C.lvFailCnt + 1 }))

/-- At a tick event the routes may be served again. -/
def colAtTick (s : State) : State := s.modCol (fun C => { C with served := [] })

/-! ## Inbound writes (R309, R318) -/

/-- The kind 4 route whose range holds a write at an offset of the inbound range (R303, R309). -/
def inboundRoute (s : State) (off len : Nat) : Option (Nat × RouteEntry) :=
  s.cfg.col.routes.find? (fun e => e.2.kind == 4 && e.2.waddr ≤ off && off + len ≤ e.2.waddr + e.2.rlen)

/-- A card's transaction into the inbound range (R309): a write is staged and completes an arrival with the range's last byte; ERR
and the inbound-error class otherwise. -/
def inboundAccess (addr : Nat) (data : Option (List Byte)) (s : State) : State :=
  let base := regField s (COL + 0x8) 20 12 * 2 ^ 20
  if regField s (COL + 0x8) 0 1 = 0 ∨ addr < base ∨ base + 2 ^ 20 ≤ addr then s
  else match data with
  | none => rep 0x2807 s
  | some b =>
    match inboundRoute s (addr - base) b.length with
    | none => rep 0x2807 s
    | some (n, e) =>
      match tget? s.col.binds n with
      | none => rep 0x2807 s
      | some item =>
        let j := addr - base - e.waddr
        let cells := b.zipIdx.map (fun p => (laneSwap e.inswap (j + p.2), p.1))
        let m := memWrites (tgetD s.col.staged n []) cells
        let s1 := s.modCol (fun C => { C with staged := tset C.staged n m })
        if j + b.length = e.rlen then arriveFrom 6 item ⟨true, 0, s.ts, memRead m 0 e.rlen⟩ s1 else s1

/-- INBOUND_WRITE (R309, R318): `data` is none for a read of the range; `crossing` says that the module's own bus request was
pending. -/
def execInboundWrite (addr : Nat) (data : Option (List Byte)) (crossing : Bool) (s : State) : Host.Outcome State Fault Refusal :=
  act (fun s => inboundAccess addr data
    (if crossing then s.modCol (fun C => { C with xingCnt := C.xingCnt + 1 }) else s)) s

/-! ## Other events (R297, R299, R320) -/

/-- DIRECT_ACCESS (R297): the access is not carried to the backplane. -/
def execDirectAccess (lane : LaneId) (core : CoreId) (addr : Nat) (s : State) : Host.Outcome State Fault Refusal :=
  act (fun s => onlyIf (inWindows addr && (vget (s.lane lane).cores core).fetching) (rep 0x2801) s) s

/-- WINDOW_SETTING_APPLY (R299): a committed setting takes effect once no posted write of the window is buffered. -/
def execWindowSettingApply (window : Fin 16) (s : State) : Host.Outcome State Fault Refusal :=
  act (fun s => onlyIf (!s.col.posted.any (fun p => windowOf p.off == window.val))
    (fun s => s.modCol (fun C => { C with
      win := vmod C.win window (fun w => { w with setting := regGet s (COL + 0x100 + 8 * window.val) }) })) s) s

/-- The operation on the bus, with the phase it was in, ends with an error kind and a status (R316, R320, R559). -/
def endOnBus (onBus : Option (Fin 64 × Fin 1024 × Nat)) (kind : Nat) (status : Nat → Nat) (s : State) : State :=
  match onBus with
  | none => s
  | some (r, t, ph) =>
    match (s.ringAt r).ops.find? (fun o => o.desc.tag == t.val && decide (o.stage = .running)) with
    | some o =>
      if o.desc.opcode = 0x40 ∨ o.desc.opcode = 0x42 then
        let x := opOffset s o.desc
        let w := winWidth s (windowOf x)
        let a := (phaseAddrs (busAddr s x) o.desc.length w).getD ph (busAddr s x)
        let be := if o.desc.opcode = 0x40 then BitVec.ofNat 4 (2 ^ w - 1) else phaseBe (busAddr s x) o.desc.length w a
        let res := busFailure (regionOf x a) o.desc.seq be kind (testBit o.desc.flags 2) (field o.desc.paramA 0 14)
        let ra := res.1
        let rb := res.2
        opDone r t.val (status o.desc.seq) ra rb s
      else s
    | none => s

/-- BP_RST (R320): the operation on the bus ends; every posted write becomes a posted error of kind 4. -/
def bpReset (onBus : Option (Fin 64 × Fin 1024 × Nat)) (s : State) : State :=
  let s1 := endOnBus onBus 4 (fun n => (Config.busResetStatus n).toNat) s
  failPosted 4 (s1.modCol (fun C => { C with bpRst := true }))

/-- BP_RST (R320). -/
def execBpRst (onBus : Option (Fin 64 × Fin 1024 × Nat)) (s : State) : Host.Outcome State Fault Refusal :=
  act (fun s => onlyIf (!s.col.bpRst) (bpReset onBus) s) s

/-- BP_RST_END (R320). -/
def execBpRstEnd (s : State) : Host.Outcome State Fault Refusal := act (fun s => s.modCol (fun C => { C with bpRst := false })) s

end Sys2Proof.Machine
end

