-- ==== Sys2Proof/Machine/Field.lean ====
section
/-!
DEFINITION. Field channels and voted outputs (R402 to R434): commands, diagnostics, the voted output matrix and contactor feedback
monitors. Measured currents and voltages are operands; what the engine makes of them is the model's.
-/

namespace Sys2Proof.Machine

/-- All field channels, in order. -/
def allFld : List FldId := (List.range 48).map (Fin.ofNat 48)

/-- All voted outputs, in order. -/
def allVo : List VoId := [0, 1, 2, 3, 4, 5, 6, 7]

/-- All feedback monitors, in order. -/
def allCfm : List (Fin 32) := (List.range 32).map (Fin.ofNat 32)

/-- A channel's settings (R403). -/
def fldCfg (s : State) (n : FldId) : FldCfg := tgetD s.cfg.fld.chans n.val {}

/-- Is a channel in OUTPUT (R402)? -/
def isOutput (s : State) (n : FldId) : Bool := (fldCfg s n).mode == 2

/-- A channel's group (R402). -/
def groupOf (n : FldId) : Fin 6 := Fin.ofNat 6 (n.val / 8)

/-- Channel k of a group. -/
def groupCh (g k : Nat) : FldId := Fin.ofNat 48 (8 * (g % 6) + k)

/-- A bit of a vector set or cleared. -/
def putBit {w : Nat} (v : BitVec w) (i : Nat) (b : Bool) : BitVec w :=
  if b then v ||| BitVec.ofNat w (2 ^ i) else v &&& ~~~(BitVec.ofNat w (2 ^ i))

/-- A channel changed. -/
def modFld (n : FldId) (f : FldCh → FldCh) (s : State) : State := { s with fld := { s.fld with ch := vmod s.fld.ch n f } }

/-! ## Commands -/

/-- The command of an output channel (R408, R411): a latched switch is released when its command goes off and on again. -/
def setCmd (n : FldId) (v : Bool) (s : State) : State :=
  if !isOutput s n then s
  else
    let s1 := if v && !s.fld.cmd.getLsbD n.val then modFld n (fun c => { c with latched := false }) s else s
    { s1 with fld := { s1.fld with cmd := putBit s1.fld.cmd n.val v } }

/-- The masked channels of a group take new states; channels not in OUTPUT are ignored (R408). -/
def setGroup (g mask v : Nat) (s : State) : State :=
  (List.range 8).foldl (fun s k => if testBit mask k then setCmd (groupCh g k) (testBit v k) s else s) s

/-- The masked voted outputs take new committed commands (R418). -/
def setVo (mask v : Nat) (s : State) : State :=
  (List.range 8).foldl (fun s k => if testBit mask k then
    { s with fld := { s.fld with voCmd := putBit s.fld.voCmd k (testBit v k) } } else s) s

/-- Masked channels of a group that are not in OUTPUT (R432). -/
def notOutputs (s : State) (g mask : Nat) : Nat :=
  ((List.range 8).filter (fun k => testBit mask k && !isOutput s (groupCh g k))).foldl (fun m k => m + 2 ^ k) 0

/-- FLD_OUT_SET (R429, R432). -/
def fldOutSet (r : Fin 64) (d : Desc) (s : State) : State :=
  let g := field d.paramA 0 3
  let mask := field d.paramA 8 8
  let bad := notOutputs s g mask
  if bad ≠ 0 then opDone r d.tag 0x80 bad 0 s
  else runTimed r d 0 0 (fun s => opDone r d.tag 0 0 0 (setGroup g mask (field d.paramA 16 8) s)) s

/-- FLD_OUT_SET. -/
def execFldOutSet (ring : Fin 64) (tag : Fin 1024) (s : State) : Host.Outcome State Fault Refusal :=
  act (runOp ring tag 0x50 (fldOutSet ring)) s

/-- VO_SET (R418, R429). -/
def execVoSet (ring : Fin 64) (tag : Fin 1024) (s : State) : Host.Outcome State Fault Refusal :=
  act (runOp ring tag 0x51 (fun d s =>
    runTimed ring d 0 0 (fun s => opDone ring d.tag 0 0 0 (setVo (field d.paramA 0 8) (field d.paramA 8 8) s)) s)) s

/-- LINK of a monitor; 3 acts as 0 (R434). -/
def cfmLink (c : CfmCfg) : Nat := if c.link = 3 then 0 else c.link

/-- CFM_SET: the masked monitors take new expected states (R427, R429). -/
def setCfm (mask v : Nat) (s : State) : State :=
  (List.range 32).foldl (fun s k => if testBit mask k then
    { s with fld := { s.fld with cfm := vmod s.fld.cfm (Fin.ofNat 32 k) (fun c => { c with command := testBit v k }) } } else s) s

/-- Masked monitors with LINK not 0 (R432). -/
def linkedMonitors (s : State) (mask : Nat) : Nat :=
  ((List.range 32).filter (fun k => testBit mask k &&
    match tget? s.cfg.fld.cfm k with
    | some c => cfmLink c != 0
    | none => false)).foldl (fun m k => m + 2 ^ k) 0

/-- CFM_SET (R429, R432). -/
def execCfmSet (ring : Fin 64) (tag : Fin 1024) (s : State) : Host.Outcome State Fault Refusal :=
  act (runOp ring tag 0x54 (fun d s =>
    let bad := linkedMonitors s d.paramA
    if bad ≠ 0 then opDone ring d.tag 0x81 0 bad s
    else runTimed ring d 0 0 (fun s => opDone ring d.tag 0 0 0 (setCfm d.paramA d.paramB s)) s)) s

/-- A held FLD_OUT_SET, VO_SET or CFM_SET takes effect at its tick event (R409). -/
def fieldRelease (d : Desc) (s : State) : State :=
  match d.opcode with
  | 0x50 => setGroup (field d.paramA 0 3) (field d.paramA 8 8) (field d.paramA 16 8) s
  | 0x51 => setVo (field d.paramA 0 8) (field d.paramA 8 8) s
  | 0x54 => setCfm d.paramA d.paramB s
  | _ => s

/-! ## The matrix and the driven states -/

/-- The column command of a lane for VO[v] (R370). -/
def columnCmd (s : State) (l : LaneId) (v : VoId) : Bool :=
  let L := s.lane l
  s.fld.voCmd.getLsbD v.val && L.state == .running && monitorsAllow s L v

/-- Lanes that command their column of VO[v] closed. -/
def closedColumns (s : State) (v : VoId) : List LaneId := allLanes.filter (fun l => columnCmd s l v)

/-- The matrix state of VO[v] (R420, R425). -/
def matrixOn (s : State) (v : VoId) : Bool := 2 ≤ (closedColumns s v).length && s.cls.outEn

/-- Is the element of a lane's column closed: the column command gated by the output enable (R425)? -/
def elementClosed (s : State) (l : LaneId) (v : VoId) : Bool := columnCmd s l v && s.cls.outEn

/-- The driven state of an output channel (R425, R427). -/
def driven (s : State) (n : FldId) : Bool := s.fld.cmd.getLsbD n.val && s.cls.outEn && !(vget s.fld.ch n).latched

/-- Does the channel's switch conduct (R413)? -/
def conducts (s : State) (n : FldId) : Bool := driven s n && !(vget s.fld.ch n).ot

/-! ## Inputs and diagnostics -/

/-- FIELD_INPUT_LEVEL_CHANGE (R405): a channel's filtered level takes a new raw level. A channel in OFF reads low (R402). -/
def execFieldInputLevelChange (chan : FldId) (level : Bool) (s : State) : Host.Outcome State Fault Refusal :=
  act (fun s =>
    let m := (fldCfg s chan).mode
    onlyIf ((m == 1 || m == 2) && s.fld.level.getLsbD chan.val != level)
      (fun s => { s with fld := { s.fld with
        level := putBit s.fld.level chan.val level, changed := putBit s.fld.changed chan.val true } }) s) s

/-- A report of a channel's, group's or output's class with its number. -/
def repNum (code n : Nat) (s : State) : State := report code (originOf code) (leBytes 1 n) s

/-- Overload of an output channel (R411). -/
def overload (n : FldId) (begins : Bool) (s : State) : State :=
  let c := vget s.fld.ch n
  if !isOutput s n || c.ovl == begins then s
  else if begins then
    let latch := (fldCfg s n).latchOff
    let s1 := modFld n (fun c => { c with ovl := true, latched := c.latched || latch }) s
    repNum 0x3801 n.val { s1 with fld := { s1.fld with ovlCnt := s1.fld.ovlCnt + 1 } }
  else modFld n (fun c => { c with ovl := false }) s

/-- OVERLOAD (R411): for 2 ms over 0.6 A or in current limit, or (`begins` false) 20 ms without. -/
def execOverload (chan : FldId) (begins : Bool) (s : State) : Host.Outcome State Fault Refusal := act (overload chan begins) s

/-- OVER_TEMPERATURE_SWITCH (R412): thermal shutdown holds the switch open, or no longer does. -/
def execOverTemperatureSwitch (chan : FldId) (hot : Bool) (s : State) : Host.Outcome State Fault Refusal :=
  act (fun s =>
    if !isOutput s chan || (vget s.fld.ch chan).ot == hot then s
    else
      let s1 := modFld chan (fun c => { c with ot := hot }) s
      if hot then repNum 0x3802 chan.val s1 else s1) s

/-- Is a current below the open-wire threshold (R413)? -/
def belowOpenWire (s : State) (n : FldId) (mA : Nat) : Bool :=
  let base := (vget s.fld.ch n).base
  if base = 0 then mA < 3 else mA * 100 * 4096 < base * max 1 (fldCfg s n).owPct

/-- Do the off-state tests of a channel run: command off, outputs enabled, supply not low (R413, R415)? -/
def offTests (s : State) (n : FldId) : Bool :=
  isOutput s n && !s.fld.cmd.getLsbD n.val && s.cls.outEn && !s.fld.supLow.getLsbD (groupOf n).val

/-- A flag of a channel takes a value, its class reported at the rising edge. -/
def flagEdge (code : Nat) (n : FldId) (was now : Bool) (f : FldCh → FldCh) (s : State) : State :=
  let s1 := modFld n f s
  if now && !was then repNum code n.val s1 else s1

/-- The open-wire tests (R413): a current in mA or a pin voltage in mV that has held for 160 ticks. -/
def openWire (n : FldId) (onState : Bool) (reading : Nat) (s : State) : State :=
  let c := vget s.fld.ch n
  if onState then
    if isOutput s n && conducts s n && !s.fld.supLow.getLsbD (groupOf n).val then
      let b := belowOpenWire s n reading
      flagEdge 0x3803 n c.owOn b (fun c => { c with owOn := b }) s
    else s
  else if offTests s n && (fldCfg s n).owOffEn then
    let b := decide (8000 < reading)
    flagEdge 0x3803 n c.owOff b (fun c => { c with owOff := b }) s
  else s

/-- OPEN_WIRE (R413). -/
def execOpenWire (chan : FldId) (onState : Bool) (reading : Nat) (s : State) : Host.Outcome State Fault Refusal :=
  act (openWire chan onState reading) s

/-- EXTERNALLY_DRIVEN (R413): the pin voltage in mV, without the test current, that has held for 160 ticks. -/
def execExternallyDriven (chan : FldId) (reading : Nat) (s : State) : Host.Outcome State Fault Refusal :=
  act (fun s =>
    if offTests s chan then
      let b := decide (11000 < reading)
      flagEdge 0x3804 chan (vget s.fld.ch chan).ext b (fun c => { c with ext := b }) s
    else s) s

/-- BASE moves towards the mean current by at most LEARNED / 4 096 and stays within LEARNED ± 25 % (R414). All in 1/4096 mA. -/
def trackBase (base learned mean : Nat) : Nat :=
  let moved := if base < mean then min mean (base + learned) else max mean (base - learned)
  max (learned * 3072) (min (learned * 5120) moved)

/-- BASELINE_TRACK (R414): `mean` is the mean current of the last 8 000 ticks in mA. -/
def execBaselineTrack (chan : FldId) (mean : Nat) (s : State) : Host.Outcome State Fault Refusal :=
  act (fun s =>
    let c := vget s.fld.ch chan
    if (fldCfg s chan).trackEn && isOutput s chan && s.fld.cmd.getLsbD chan.val && c.learned != 0 then
      let b := trackBase c.base c.learned (mean * 4096)
      let lim := b == c.learned * 3072 || b == c.learned * 5120
      flagEdge 0x3805 chan c.baseLim lim (fun c => { c with base := b, baseLim := lim }) s
    else s) s

/-- A value written to BASE, which also becomes LEARNED (R414). -/
def setBase (n : FldId) (mA : Nat) (s : State) : State :=
  modFld n (fun c => { c with base := mA % 4096 * 4096, learned := mA % 4096, baseLim := false }) s

/-- FLD_BASE_WRITE (R414). -/
def execFldBaseWrite (chan : FldId) (base : BitVec 12) (s : State) : Host.Outcome State Fault Refusal :=
  act (setBase chan base.toNat) s

/-- GROUP_OVERLOAD (R415): over 3 A for 10 ms, or (`begins` false) 20 ms without. -/
def execGroupOverload (group : Fin 6) (begins : Bool) (s : State) : Host.Outcome State Fault Refusal :=
  act (fun s =>
    let s1 := { s with fld := { s.fld with grpOvl := putBit s.fld.grpOvl group.val begins } }
    if begins && !s.fld.grpOvl.getLsbD group.val then repNum 0x3806 group.val s1 else s1) s

/-- GROUP_SUPPLY_LOW (R415). -/
def execGroupSupplyLow (group : Fin 6) (s : State) : Host.Outcome State Fault Refusal :=
  act (fun s =>
    let s1 := { s with fld := { s.fld with supLow := putBit s.fld.supLow group.val true } }
    if !s.fld.supLow.getLsbD group.val then repNum 0x3807 group.val s1 else s1) s

/-- GROUP_SUPPLY_RESTORED (R415): the flag clears and the group's suspended tests resume. -/
def execGroupSupplyRestored (group : Fin 6) (s : State) : Host.Outcome State Fault Refusal :=
  act (fun s => { s with fld := { s.fld with supLow := putBit s.fld.supLow group.val false } }) s

/-! ## Faults of the matrix -/

/-- A matrix element fault of VO[v] (R421, R423). -/
def elementFault (v : VoId) (s : State) : State :=
  let s1 := { s with fld := { s.fld with
    stuck := putBit s.fld.stuck v.val true, voFault := putBit s.fld.voFault v.val true } }
  if s.fld.stuck.getLsbD v.val then s1 else repNum 0x3808 v.val s1

/-- VO_COLUMN_TEST (R422): one column of an on output is opened; `closedShown` an element of it still shows less than 1 V, `openShown` an
element of the path left closed shows more than 1 V, and the load current of the preceding tick in mA. -/
def columnTest (v : VoId) (l : LaneId) (closedShown openShown : Bool) (current : Nat) (s : State) : State :=
  if s.cfg.fld.testEn.getLsbD v.val && matrixOn s v && s.vot.mode == .triple then
    let pathClosed := allLanes.all (fun m => m == l || columnCmd s m v)
    if closedShown || (openShown && pathClosed && 50 < current) then elementFault v s else s
  else s

/-- VO_COLUMN_TEST. -/
def execVoColumnTest (vo : VoId) (lane : LaneId) (closedShown openShown : Bool) (current : Nat) (s : State) :
    Host.Outcome State Fault Refusal :=
  act (columnTest vo lane closedShown openShown current) s

/-- VO_READBACK_FAULT (R423): a sense of the pin that has stood for 1 ms. -/
def readbackFault (v : VoId) (sense : Bool) (s : State) : State :=
  let s0 := { s with fld := { s.fld with voSense := putBit s.fld.voSense v.val sense } }
  if matrixOn s0 v = sense then { s0 with fld := { s0.fld with readback := putBit s0.fld.readback v.val false } }
  else if s0.cls.outEn then
    let s1 := { s0 with fld := { s0.fld with
      readback := putBit s0.fld.readback v.val true, voFault := putBit s0.fld.voFault v.val true } }
    if s0.fld.readback.getLsbD v.val then s1 else repNum 0x3809 v.val s1
  else s0

/-- VO_READBACK_FAULT. -/
def execVoReadbackFault (vo : VoId) (sense : Bool) (s : State) : Host.Outcome State Fault Refusal := act (readbackFault vo sense) s

/-- FLD_VO_CLR (R423, R434): a committed 1 clears VO_FAULT and STUCK. -/
def clearVo (mask : BitVec 8) (s : State) : State :=
  { s with fld := { s.fld with
    voFault := s.fld.voFault &&& ~~~mask, stuck := s.fld.stuck &&& ~~~mask, readback := s.fld.readback &&& ~~~mask } }

/-- FLD_VO_CLR. -/
def execFldVoClr (mask : BitVec 8) (s : State) : Host.Outcome State Fault Refusal := act (clearVo mask) s

/-- The element checks of a tick (R421): elements that show less than 1 V while their path carries supply voltage, and closed elements
that show more than 1 V. -/
def checkElements (low high : List (VoId × LaneId)) (s : State) : State :=
  let s1 := low.foldl (fun s e => if !matrixOn s e.1 && !elementClosed s e.2 e.1 then elementFault e.1 s else s) s
  high.foldl (fun s e =>
    if (closedColumns s e.1).length == 2 && elementClosed s e.2 e.1 && 50 < vget s.fld.voCurrent e.1 then elementFault e.1 s else s) s1

/-! ## Contactor feedback monitors and the field item -/

/-- The expected state of a monitor (R427). -/
def expected (s : State) (c : CfmCfg) (m : CfmSt) : Bool :=
  match cfmLink c with
  | 1 => matrixOn s (Fin.ofNat 8 c.linkIdx)
  | 2 => driven s (Fin.ofNat 48 c.linkIdx)
  | _ => m.command

/-- One evaluation of a monitor, `dt` ticks after the last one (R428): its new state, and the class it reports. -/
def evalCfm (c : CfmCfg) (exp act_ : Bool) (dt : Nat) (m : CfmSt) : CfmSt × Option Nat :=
  let m1 := { m with actual := act_ }
  let enter (m : CfmSt) : CfmSt × Option Nat :=
    ({ m with state := .mismatch, timer := 0, misCnt := m.misCnt + 1 }, some 0x380A)
  if m.expect ≠ exp then
    let t := if exp then max 1 c.pickup else max 1 c.dropout
    ({ m1 with state := .transit, expect := exp, timer := t }, none)
  else match m.state with
    | .transit =>
      if act_ = exp then ({ m1 with state := .agree, timer := 0 }, none)
      else if m.timer ≤ dt then enter m1
      else ({ m1 with timer := m.timer - dt }, none)
    | .agree => if act_ = exp then (m1, none) else enter m1
    | .mismatch => if act_ = exp then ({ m1 with state := .agree }, some 0x380B) else (m1, none)

/-- One configured contactor monitor over the ticks since the last evaluation, with its report (R428). -/
def evalMonitor (dt : Nat) (s : State) (f : Fin 32) : State :=
  match tget? s.cfg.fld.cfm f.val with
  | none => s
  | some c =>
    let m := vget s.fld.cfm f
    let e := evalCfm c (expected s c m) (s.fld.level.getLsbD c.input != c.pol) dt m
    let s1 := { s with fld := { s.fld with cfm := vset s.fld.cfm f e.1 } }
    match e.2 with
    | some code =>
      let s2 := if code = 0x380A then { s1 with fld := { s1.fld with misCnt := s1.fld.misCnt + 1 } } else s1
      repNum code f.val s2
    | none => s1

/-- Every configured monitor is evaluated (R428). -/
def evalMonitors (s : State) : State :=
  let s1 := allCfm.foldl (evalMonitor (s.tick - s.fld.lastEval)) s
  { s1 with fld := { s1.fld with lastEval := s.tick } }

/-- Channels with a flag of R411 to R415: of their own, or of their group. -/
def chFault (s : State) (n : FldId) : Bool :=
  let c := vget s.fld.ch n
  let g := (groupOf n).val
  c.ovl || c.ot || c.owOn || c.owOff || c.ext || c.latched || c.baseLim || s.fld.grpOvl.getLsbD g || s.fld.supLow.getLsbD g

/-- A mask from a list of numbers. -/
def maskOf (l : List Nat) : Nat := l.foldl (fun m k => m + 2 ^ k) 0

/-- The payload of the field item (R406). -/
def fieldPayload (s : State) : List Byte :=
  let inState (st : CfmState) : Nat := maskOf ((allCfm.filter (fun f => (vget s.fld.cfm f).state == st)).map Fin.val)
  leBytes 8 s.fld.level.toNat ++ leBytes 8 s.fld.changed.toNat
    ++ leBytes 8 (maskOf ((allFld.filter (chFault s)).map Fin.val))
    ++ leBytes 1 (maskOf ((allVo.filter (matrixOn s)).map Fin.val)) ++ leBytes 1 s.fld.voSense.toNat
    ++ leBytes 1 s.fld.voFault.toNat ++ zeros 1 ++ leBytes 4 (inState .mismatch) ++ leBytes 4 (inState .transit) ++ zeros 4

/-- The field sample instant (R406): senses read, monitors evaluated, the field item written. -/
def fieldSample (sense : BitVec 8) (s : State) : State :=
  let s1 := evalMonitors { s with fld := { s.fld with voSense := sense } }
  let eng := bit (s1.fld.supLow != 0) + 2 * bit s1.cls.outEn
  let s2 := match s1.cfg.fld.item with
    | some i => arrive i ⟨true, BitVec.ofNat 8 eng, s1.ts, fieldPayload s1⟩ s1
    | none => s1
  { s2 with fld := { s2.fld with changed := 0 } }

/-- FIELD_SAMPLE_INSTANT (R406); `sense` are the readbacks of the VO pins (R416). -/
def execFieldSampleInstant (sense : BitVec 8) (s : State) : Host.Outcome State Fault Refusal := act (fieldSample sense) s

/-! ## Diagnostics and learning -/

/-- The 8 bytes of one channel (R430). -/
def diagBytes (s : State) (n : FldId) (m : ChanDiag) : List Byte :=
  let c := vget s.fld.ch n
  let flags := bit (s.fld.level.getLsbD n.val) + 2 * bit c.ovl + 4 * bit c.owOn + 8 * bit c.owOff + 16 * bit c.ot + 32 * bit c.ext
    + 64 * bit c.latched
  leBytes 2 m.current ++ leBytes 2 (divFree 12 c.base 4096).toNat ++ leBytes 1 flags ++ leBytes 1 (unsigned 8 m.temp)
    ++ leBytes 2 (unsigned 16 m.volts)

/-- FLD_DIAG_READ (R430, R432): `start` is the compact timestamp of the first measurement. -/
def diagRead (r : Fin 64) (ms : List ChanDiag) (start : DWord) (d : Desc) (s : State) : State :=
  let g := field d.paramA 0 3
  let ks := List.range 8
  let bytes := ks.flatMap (fun k => diagBytes s (groupCh g k) (ms.getD k default))
  let flagged := maskOf (ks.filter (fun k =>
    let c := vget s.fld.ch (groupCh g k)
    c.ovl || c.owOn || c.owOff || c.ot || c.ext || c.latched))
  opDone r d.tag 0 flagged start.toNat (writeBuffer d.addr bytes s)

/-- FLD_DIAG_READ. -/
def execFldDiagRead (ring : Fin 64) (tag : Fin 1024) (readings : List ChanDiag) (start : DWord) (s : State) :
    Host.Outcome State Fault Refusal :=
  act (runOp ring tag 0x52 (diagRead ring readings start)) s

/-- Masked channels of a group that are on and report no flag (R431). -/
def learnable (s : State) (g mask : Nat) : Nat :=
  maskOf ((List.range 8).filter (fun k =>
    let n := groupCh g k
    let c := vget s.fld.ch n
    testBit mask k && isOutput s n && s.fld.cmd.getLsbD n.val && !(c.ovl || c.owOn || c.owOff || c.ot || c.ext || c.latched)))

/-- FLD_BASELINE_LEARN begins (R431); the currents of the ticks that follow are averaged. -/
def learnBegin (r : Fin 64) (d : Desc) (s : State) : State :=
  let g := field d.paramA 0 3
  let mask := field d.paramA 8 8
  let n := field d.paramB 0 16
  if s.fld.learn.any (fun x => x.ring == r && x.tag == d.tag) then s
  else { s with fld := { s.fld with
    learn := s.fld.learn ++ [⟨r, d.tag, g, mask, learnable s g mask, n, n, List.replicate 8 0⟩] } }

/-- FLD_BASELINE_LEARN. -/
def execFldBaselineLearn (ring : Fin 64) (tag : Fin 1024) (s : State) : Host.Outcome State Fault Refusal :=
  act (runOp ring tag 0x53 (learnBegin ring)) s

/-- One tick of a learning run with the currents of its channels; the last one ends it (R431, R432). -/
def learnTick (s : State) (x : LearnRun) : State :=
  let ok := maskOf ((List.range 8).filter (fun k => testBit x.ok k && testBit (learnable s x.group x.mask) k))
  let sums := (List.range 8).map (fun k => x.sums.getD k 0 + (vget s.fld.ch (groupCh x.group k)).current)
  let x1 := { x with ok := ok, sums := sums, left := x.left - 1 }
  if x1.left = 0 then
    let s1 := (List.range 8).foldl (fun s k =>
      if testBit ok k then setBase (groupCh x.group k) (divFree 13 (sums.getD k 0) x.ticks).toNat s else s) s
    opDone x.ring x.tag 0 (ok + 256 * (x.mask - ok)) 0 s1
  else { s with fld := { s.fld with learn := s.fld.learn ++ [x1] } }

/-- The field measurements of a tick: channel currents in mA, group supplies in units of 10 mV, voted output currents in mA, element
senses (R407, R415, R416, R421), and the learning runs. -/
def fieldAtTick (currents : List Nat) (supplies : List Nat) (voCurrents : List Nat) (low high : List (VoId × LaneId)) (s : State) :
    State :=
  let s0 := checkElements low high s
  let ch := Vector.ofFn (fun n : Fin 48 => { vget s0.fld.ch n with current := min 4095 (currents.getD n.val 0) })
  let supV := Vector.ofFn (fun g : Fin 6 => supplies.getD g.val 0)
  let voI := Vector.ofFn (fun v : Fin 8 => voCurrents.getD v.val 0)
  let runs := s0.fld.learn
  runs.foldl learnTick { s0 with fld := { s0.fld with ch := ch, supV := supV, voCurrent := voI, learn := [] } }

/-- The safe value of an output item bound to field channels becomes their command (R403). -/
def safeCommand (s : State) (o : OutItemCfg) : State :=
  match o.dest, o.safe with
  | .field g, some v => setGroup g 0xFF (byteAt v 0) s
  | .vo m, some v => setVo m (byteAt v 0) s
  | _, _ => s

/-- The settings of a new configuration are loaded (R403, R410, R418, R428): commands take the safe values of the items bound to them,
monitors begin in AGREE. -/
def fldLoad (s : State) : State :=
  let s0 := { s with fld := { s.fld with cmd := 0, voCmd := 0, cfm := Vector.replicate 32 {}, lastEval := s.tick } }
  s0.cfg.cyc.outItems.foldl safeCommand s0

/-! ## Registers -/

/-- CfmState as bits (R434). -/
def CfmState.code : CfmState → Nat
  | .agree => 0 | .transit => 1 | .mismatch => 2

/-- The RO words of the FLD block by offset, and FLD_BASE[n] (R434). -/
def fldRead (s : State) (off : Nat) : Word :=
  let F := s.fld
  if off = 0 then packW [(6, F.supLow.toNat), (2, 0), (6, F.grpOvl.toNat), (2, 0), (1, bit s.cls.outEn)]
  else if off = 4 then F.level.setWidth 32
  else if off = 8 then packW [(16, F.level.toNat / 2 ^ 32)]
  else if off = 0xC then F.cmd.setWidth 32
  else if off = 0x10 then packW [(16, F.cmd.toNat / 2 ^ 32)]
  else if off = 0x14 then
    packW [(8, F.voCmd.toNat), (8, maskOf ((allVo.filter (matrixOn s)).map Fin.val)), (8, F.voSense.toNat)]
  else if off = 0x18 then packW [(8, F.voFault.toNat), (8, F.stuck.toNat), (8, s.cfg.fld.testEn.toNat)]
  else if 0x20 ≤ off ∧ off < 0x2C then
    packW [(8, maskOf ((allVo.filter (columnCmd s (Fin.ofNat 3 ((off - 0x20) / 4)))).map Fin.val))]
  else if off = 0x2C then packW [(16, F.ovlCnt.toNat), (16, F.misCnt.toNat)]
  else if 0x100 ≤ off ∧ off < 0x400 then
    let n : FldId := Fin.ofNat 48 ((off - 0x100) / 0x10)
    let k := fldCfg s n
    let c := vget F.ch n
    match (off - 0x100) % 0x10 with
    | 0 => packW [(2, k.mode), (1, bit k.latchOff), (1, bit k.owOffEn), (1, bit k.trackEn), (3, 0), (8, k.filt), (7, k.owPct)]
    | 4 => packW [(1, bit (F.level.getLsbD n.val)), (1, bit c.ovl), (1, bit c.owOn), (1, bit c.owOff), (1, bit c.ot), (1, bit c.ext),
        (1, bit c.latched), (1, bit c.baseLim), (8, 0), (12, c.current)]
    | 8 => packW [(12, (divFree 12 c.base 4096).toNat), (4, 0), (12, c.learned)]
    | _ => 0
  else if 0x400 ≤ off ∧ off < 0x500 then
    let f : Fin 32 := Fin.ofNat 32 ((off - 0x400) / 8)
    let m := vget F.cfm f
    let c := (tget? s.cfg.fld.cfm f.val).getD ⟨0, false, 0, 0, 0, 0⟩
    if off % 8 = 0 then packW [(6, c.input), (1, bit c.pol), (1, bit (tget? s.cfg.fld.cfm f.val).isSome), (2, c.link), (6, c.linkIdx),
        (12, c.pickup)]
    else packW [(2, m.state.code), (1, bit m.expect), (1, bit m.actual), (12, c.dropout), (16, m.misCnt.toNat)]
  else if 0x600 ≤ off ∧ off < 0x618 then
    let g := (off - 0x600) / 4
    let sum := (List.range 8).foldl (fun n k => n + (vget F.ch (groupCh g k)).current) 0
    packW [(12, vget F.supV (Fin.ofNat 6 g)), (4, 0), (12, fitU 6 12 (divFree 14 sum 2))]
  else 0

end Sys2Proof.Machine
end

