-- ==== Sys2Proof/Machine/Flags.lean ====
section
/-!
DEFINITION. What is shown of the module as a whole, computed from its state: the SYS_FAULT pin (R571), the role (R2), masks over the clock
domains (R561), and the front-panel indicators (R585, R586).
-/

namespace Sys2Proof.Machine

/-- Does SYS_FAULT show the fault level (R571)? -/
def faultPin (s : State) : Bool :=
  let role := s.cls.role == .listen || s.cls.role == .contend || s.cls.role == .join || s.cls.role == .standby || s.cls.role == .active
  s.pwr.held || s.pwr.shutdown || s.cross.fabLost || s.flt.pinLatch || s.pwr.pstate == .keepAlive ||
    !(role || s.pwr.pstate == .parked)

/-- Is the active configuration one of the station role (R2)? -/
def stationRole (s : State) : Bool := cfgActive s && s.cfg.trust.station

/-- One bit per domain 1 to 15. -/
def domainMask (s : State) (f : XDom → Bool) : Nat :=
  ((List.range 16).filter (fun d => 1 ≤ d && f (vget s.cross.dom (Fin.ofNat 16 d)))).foldl (fun n d => n + 2 ^ d) 0

/-! ## Front-panel indicators -/

/-- Displays of an indicator (R585). -/
inductive Light | off | green | yellow | red | greenFlash | yellowFlash
deriving DecidableEq, Repr

/-- PWR. -/
def pwrLight (s : State) : Light :=
  if s.pwr.held then .off
  else if s.pwr.pstate = .operational ∧ !s.pwr.warn then .green
  else if s.pwr.warn ∨ !s.pwr.storeOk then .yellow
  else if s.pwr.pstate = .parked ∨ s.pwr.pstate = .entering then .greenFlash
  else .off

/-- RUN. -/
def runLight (s : State) : Light :=
  if s.cyc.prog = .running then .green
  else if s.tim.state = .locked ∨ s.tim.state = .master then .greenFlash
  else if s.trust.recovery ∨ s.trust.cfgFault then .red
  else .off

/-- ROLE. -/
def roleLight (s : State) : Light :=
  match s.cls.role with
  | .active => .green
  | .standby => .yellow
  | .listen | .contend | .join => .yellowFlash
  | .withdrawn => .red
  | .none => .off

/-- L0, L1 or L2. -/
def laneLight (s : State) (l : LaneId) : Light :=
  match (s.lane l).state with
  | .running => .green
  | .loading | .sweep | .ready => .yellowFlash
  | .safe => .red
  | .off => if (vget s.vot.lanes l).heldOut then .red else .off

/-- NA or NB. -/
def chanLight (s : State) (ch : ChanId) : Light :=
  let ports := (vget s.stra.chan ch).port.toList
  match s.stra.node.nstate with
  | .synced =>
    if ports.all (fun P => !P.wrapped && P.lstate == .up) then .green
    else if ports.any (fun P => P.wrapped) then .yellow
    else .off
  | .listen | .coldstart | .integrating => .yellowFlash
  | .silent | .incompatible => .red
  | .init => .off

/-- The nine indicators in the order PWR, RUN, ROLE, L0 to L2, NA, NB, FLT; dark in keep-alive (R585, R586). -/
def indicators (s : State) : List Light :=
  let shown := [pwrLight s, runLight s, roleLight s] ++ allLanes.map (laneLight s) ++ [chanLight s 0, chanLight s 1]
    ++ [if faultPin s then .red else .off]
  if s.pwr.pstate = .keepAlive then shown.map (fun _ => .off) else shown

end Sys2Proof.Machine
end

