-- ==== Sys2Proof/Machine/Lanes.lean ====
section
/-!
DEFINITION. Inside a lane (R76 to R106): the images and the digest unit, task marks, findings, the interrupt controller,
the timestamp unit, ECC, and the lane's start.
-/

namespace Sys2Proof.Machine

/-! ## Images and the digest unit -/

/-- First byte of instance data (R35). -/
def idataBase : Nat := 0x24000000
/-- First byte of the retained area (R35). -/
def retBase : Nat := 0x34000000
/-- First byte of the retained header (R196). -/
def retHeader : Nat := 0x340FF000
/-- First byte of scratch (R35). -/
def scratchBase : Nat := 0x38000000
/-- Bytes of scratch a task has (R35). -/
def scratchSize : Nat := 0x400000
/-- Lines of the covered state (R91). -/
def coveredLines : Nat := 4210688

/-- The line number, in the image, of a covered line index (R91): instance data, then the retained area. -/
def lineOfIndex (i : Nat) : Nat := if i < 4194304 then idataBase / 64 + i else retBase / 64 + (i - 4194304)

/-- Is a line of the image covered (R91)? -/
def lineCovered (n : Nat) : Bool :=
  (idataBase / 64 ≤ n && n < idataBase / 64 + 4194304) || (retBase / 64 ≤ n && n < retBase / 64 + 16384)

/-- The signature h of a line: CRC-64 of its address and its 64 bytes (R93). -/
def lineHash (n : Nat) (bytes : List Byte) : DWord := BitVec.ofNat 64 (crc64 (leBytes 8 (64 * n) ++ bytes))

/-- The signature of the line as the image holds it. -/
def Core.hashLine (c : Core) (n : Nat) : DWord := lineHash n (memRead c.img (64 * n) 64)

/-- The stored signature L[i] of a line (R91). -/
def Core.lineSig (c : Core) (n : Nat) : DWord := tgetD c.sig n (lineHash n (zeros 64))

/-- The covered line an address lies in is marked dirty (R91). -/
def Core.markDirty (c : Core) (a : Nat) : Core :=
  if lineCovered (a / 64) then { c with dirty := nsAdd c.dirty (a / 64) } else c

/-- A write to a scratch line clears its zero tag (R97). -/
def Core.untag (c : Core) (a : Nat) : Core :=
  if scratchBase ≤ a ∧ a < scratchBase + 16 * scratchSize then { c with scratchWritten := nsAdd c.scratchWritten (a / 64) } else c

/-- One byte written to a core's image (R91, R97). -/
def Core.writeByte (c : Core) (a : Nat) (b : Byte) : Core :=
  (({ c with img := memSet c.img a b } : Core).markDirty a).untag a

/-- Bytes written to a core's image, in order. -/
def Core.writes (c : Core) : List (Nat × Byte) → Core
  | [] => c
  | (a, b) :: r => (c.writeByte a b).writes r

/-- Consecutive bytes written to a core's image. -/
def Core.writeBytes (c : Core) (a : Nat) : List Byte → Core
  | [] => c
  | b :: r => (c.writeByte a b).writeBytes (a + 1) r

/-- Sets the zero tags of a task's scratch: its lines read as zero and hold no error any more (R97, R103). -/
def Core.zeroScratch (c : Core) (t : TaskId) : Core :=
  let lo := scratchBase + t.val * scratchSize
  let keep (n : Nat) : Bool := n < lo / 64 || (lo + scratchSize) / 64 ≤ n
  { c with
    img := memClear c.img lo (lo + scratchSize), zeroTag := c.zeroTag ||| BitVec.ofNat 16 (2 ^ t.val),
    scratchWritten := c.scratchWritten.filter keep, bad := c.bad.filter keep }

/-- First byte and size of task t's instance-data range (R105). -/
def Lane.idataRange (L : Lane) (t : TaskId) : Nat × Nat :=
  let a := LANE + 0x100 + t.val * 8
  (idataBase + L.regField a 0 12 * 65536, L.regField a 16 13 * 65536)

/-- First byte and size of task t's retained range (R105). -/
def Lane.retRange (L : Lane) (t : TaskId) : Nat × Nat :=
  let a := LANE + 0x104 + t.val * 8
  (retBase + L.regField a 0 10 * 1024, L.regField a 16 11 * 1024)

/-- Is an address in a range? -/
def inRange (r : Nat × Nat) (a : Nat) : Bool := r.1 ≤ a && a < r.1 + r.2

/-- Is an address in task t's instance data or retained range? -/
def Lane.inTask (L : Lane) (t : TaskId) (a : Nat) : Bool := inRange (L.idataRange t) a || inRange (L.retRange t) a

/-- The task a covered line belongs to: the one whose range holds it, else task 0 (R92). -/
def Lane.lineTask (L : Lane) (n : Nat) : TaskId :=
  (allTasks.find? (fun t => L.inTask t (64 * n))).getD 0

/-- Folds one dirty line into its task's digest: D := D − L + s, L := s, dirty cleared (R92). -/
def Core.foldLine (c : Core) (t : TaskId) (n : Nat) : Core :=
  let s := c.hashLine n
  { c with
    dig := vset c.dig t (vget c.dig t - c.lineSig n + s),
    sig := tsetD c.sig n s (lineHash n (zeros 64)), dirty := nsDel c.dirty n }

/-- Folds every dirty line of a task (R92 steps 1 and 2). -/
def Lane.foldTask (L : Lane) (t : TaskId) (c : Core) : Core :=
  (c.dirty.filter (fun n => L.lineTask n == t)).foldl (fun c n => c.foldLine t n) c

/-- The sum of the line signatures of task t over the first `n` covered lines (R93, R95). -/
def Lane.sumLines (L : Lane) (c : Core) (t : TaskId) : Nat → DWord
  | 0 => 0
  | n + 1 => L.sumLines c t n + (if L.lineTask (lineOfIndex n) = t then c.hashLine (lineOfIndex n) else 0)

/-- The lines an image lists a byte of. -/
def listedLines (m : Mem) : NatSet := (m.map (fun e => e.1 / 64)).foldl nsAdd []

/-- The digest unit's start: L and D from the contents of the image (R95). -/
def Lane.sweepCore (L : Lane) (c : Core) : Core :=
  { c with
    sig := (listedLines c.img).foldl
      (fun m n => if lineCovered n then tsetD m n (c.hashLine n) (lineHash n (zeros 64)) else m) [],
    dig := (Vector.ofFn (fun t : TaskId => L.sumLines c t coveredLines)), dirty := [] }

/-- The first task whose two digests differ (R95). -/
def firstUnequal (a b : Vector DWord 16) : Option TaskId := allTasks.find? (fun t => vget a t != vget b t)

/-! ## Findings -/

/-- ECC_UNCORRECTABLE (R103): counted and reported; the reading core takes an access fault; met by the scrub in a covered line
it is a scrub-signature finding. -/
def eccUncorrectable (l : LaneId) (c : CoreId) (line : Nat) (scrub : Bool) (s : State) : State :=
  let s1 := s.modLane l (fun L => { L with
    eccUncorr := L.eccUncorr + 1, cores := vmod L.cores c (fun c => { c with bad := nsAdd c.bad line }) })
  let s2 := repLane 0x1409 l s1
  if scrub && lineCovered line then laneFinding l 4 0 0 (64 * line) s2 else s2

/-- ECC_UNCORRECTABLE; `line` is the image line, `scrub` tells that the scrub of R96 met it. -/
def execEccUncorrectable (lane : LaneId) (core : CoreId) (line : Nat) (scrub : Bool) (s : State) :
    Host.Outcome State Fault Refusal :=
  act (eccUncorrectable lane core line scrub) s

/-- ECC_CORRECTED (R104, R85). -/
def execEccCorrected (lane : LaneId) (s : State) : Host.Outcome State Fault Refusal :=
  act (fun s => repLane 0x140A lane
    (s.modLane lane (fun L => { L.raise 7 with eccCorr := L.eccCorr + 1 }))) s

/-- ZERO_TAG_ERROR (R98): a finding of the digest unit. -/
def execZeroTagError (lane : LaneId) (task : TaskId) (s : State) : Host.Outcome State Fault Refusal :=
  act (laneFinding lane 6 task.val 0 0) s

/-- FORCE_SAFE by one core's own write (R101); the lane runtime's write under R194 reports the task-lag class instead. -/
def forceSafeWrite (l : LaneId) (lag : Bool) (s : State) : State :=
  if (s.lane l).state.live then repLane (if lag then 0x0506 else 0x1407) l (laneSafe l 7 0 0 0 true s) else s

/-- FORCE_SAFE; `lag` tells the lane runtime's write under R194. -/
def execForceSafe (lane : LaneId) (lag : Bool) (s : State) : Host.Outcome State Fault Refusal :=
  act (forceSafeWrite lane lag) s

/-- A proposal timeout: one core has produced entry k and the other has not within its time (R89). -/
def pairTimeout (l : LaneId) (s : State) : State :=
  let L := s.lane l
  match (vget L.cores 0).queue, (vget L.cores 1).queue with
  | e :: _, [] => laneFinding l 2 ((e.ctx.map Prod.fst).getD 0) L.pairIndex e.acc.addr s
  | [], e :: _ => laneFinding l 2 ((e.ctx.map Prod.fst).getD 0) L.pairIndex e.acc.addr s
  | _, _ => s

/-- PROPOSAL_TIMEOUT (R89): LANE_PAIR_TMO.TMO_US has passed in the lagging core's context. -/
def execProposalTimeout (lane : LaneId) (s : State) : Host.Outcome State Fault Refusal := act (pairTimeout lane) s

/-! ## Interrupt controller and timestamp unit -/

/-- LANE_IRQ_ACK (R83): the core's read position moves to the next snapshot; ignored at the newest. -/
def execLaneIrqAck (lane : LaneId) (core : CoreId) (s : State) : Host.Outcome State Fault Refusal :=
  act (fun s => s.modCore lane core (fun c => { c with lag := c.lag - 1 })) s

/-- The snapshot of a tick event (R83): pending sources, masked, tagged with the compact tick, and cleared; the last 4 are
kept and each core's read position falls one behind. -/
def Lane.takeSnapshot (L : Lane) (tick : Nat) : Lane :=
  let L1 := if (L.tsu.toList.any (fun q => 32 ≤ q.queue.length)) then L.raise 5 else L
  let snap := (BitVec.ofNat 32 tick, L1.irqPend &&& BitVec.ofNat 9 (L1.regField (LANE + 0x40) 0 9))
  { L1 with
    irqPend := 0, snaps := (L1.snaps ++ [snap]).drop ((L1.snaps.length + 1) - 4),
    cores := L1.cores.map (fun c => if c.fetching then { c with lag := min 4 (c.lag + 1) } else c) }

/-- The interrupt-lag finding (R86). -/
def interruptLag (l : LaneId) (s : State) : State :=
  if (s.lane l).cores.toList.any (fun c => c.fetching && c.lag == 4) then laneFinding l 5 0 0 0 s else s

/-- The interrupt snapshots of every lane at a tick event (R83, R86). -/
def irqSnapshots (s : State) : State :=
  let s1 := s.modLanes (fun L => L.takeSnapshot s.tick)
  allLanes.foldl (fun s l => interruptLag l s) s1

/-- TSU_RECORD_REMOVE (R105): a read of the last word removes the head record of the queue. -/
def execTsuRecordRemove (lane : LaneId) (input : PulseId) (s : State) : Host.Outcome State Fault Refusal :=
  act (fun s => s.modLane lane (fun L => { L with
    tsu := vmod L.tsu input (fun q => { q with queue := q.queue.drop 1 }) })) s

/-! ## Task marks -/

/-- The start-tick bits an instance is known by in marks and keys (R109). -/
def instBits (start : Nat) : Nat := start % 65536

/-- A core writes its task-start mark: it enters the context of the task's oldest instance it has not begun (R89). -/
def startMark (l : LaneId) (c : CoreId) (t : TaskId) (s : State) : State :=
  let fits (i : LaneInst) : Bool := i.task == t.val && !i.begun.getLsbD c.val
  match (vget s.cyc.insts l).find? fits with
  | none => s
  | some i =>
    let i' := { i with begun := i.begun ||| BitVec.ofNat 2 (2 ^ c.val) }
    let insts := (vget s.cyc.insts l).map (fun x => if x = i then i' else x)
    let s1 := { s with cyc := { s.cyc with insts := vset s.cyc.insts l insts } }
    s1.modCore l c (fun c => { c with ctx := (t.val, instBits i.start) :: c.ctx })

/-- TASK_START_MARK (R89). -/
def execTaskStartMark (lane : LaneId) (core : CoreId) (task : TaskId) (s : State) : Host.Outcome State Fault Refusal :=
  act (startMark lane core task) s

/-- The configured task (R170). -/
def taskCfg? (s : State) (t : Nat) : Option TaskCfg := s.cfg.cyc.tasks.find? (fun c => c.task.val == t)

/-- Bytes cut into accesses of at most 32 bytes from an exchange-memory offset (R87). -/
def chunkWrites (off : Nat) (bs : List Byte) : Nat → List Access
  | 0 => []
  | n + 1 =>
    if bs.isEmpty then []
    else
      let part := bs.take 32
      ⟨exchangeBase + off, .write, part, BitVec.ofNat 32 (2 ^ part.length - 1)⟩ :: chunkWrites (off + 32) (bs.drop 32) n

/-- The accesses the lane runtime makes for an instance from one core's image: every output item with its 8-byte header
into the voted bank, then the end record (R186). -/
def outputAccesses (s : State) (cfg : TaskCfg) (run start : Nat) (img : Mem) : List Access :=
  let bank := if run % 2 = 0 then cfg.voted0 else cfg.voted1
  let items := cfg.outputs.filterMap (fun i => s.cfg.cyc.outItems.find? (fun o => o.item == i))
  let one (o : OutItemCfg) : List Access :=
    let bytes := leBytes 2 o.item ++ leBytes 2 o.length ++ zeros 4 ++ memRead img (cfg.outArea + o.srcOff) o.length
    chunkWrites (bank + o.bankOff) bytes (bytes.length / 32 + 1)
  let endRec := leBytes 8 start ++ leBytes 1 cfg.task.val ++ zeros 1 ++ leBytes 2 items.length ++ zeros 4
  items.flatMap one ++ chunkWrites (bank + cfg.endOff) endRec 1

/-- The writes of an instance's monitor command block (R365): for each entry with an operation, its release tick to MOT_CMD_TICK and
the entry to MOT_CMD. -/
def monitorAccesses (cfg : TaskCfg) (start : Nat) (img : Mem) : List Access :=
  match cfg.monBlock with
  | none => []
  | some b => (List.range 8).flatMap (fun k =>
      let e := memRead img (b + 4 * k) 4
      if byteAt e 1 = 0 then []
      else
        let word := pack [(4, byteAt e 0), (2, byteAt e 1), (2, byteAt e 2)]
        [⟨MOT + 4, .write, leBytes 4 (compactTick (start + 2 ^ cfg.periodLog2)), 0xF⟩, ⟨MOT + 8, .write, leBytes 4 word, 0xF⟩])

/-- The monitor command block is zeroed (R365). -/
def zeroMonBlock (cfg : Option TaskCfg) (c : Core) : Core :=
  match cfg.bind TaskCfg.monBlock with
  | some b => c.writeBytes b (zeros 32)
  | none => c

/-- A write of the application that PMP lets through: the task's own instance data but its parameter area, its retained
range outside the header, and its scratch (R77). -/
def pmpWrites (s : State) (L : Lane) (t : TaskId) (w : Nat × Byte) : Bool :=
  let scratch := (scratchBase + t.val * scratchSize, scratchSize)
  let param := s.image.params.any (fun p => p.task == t && inRange (p.addr, p.size) w.1)
  (L.inTask t w.1 && !param && w.1 < retHeader || inRange scratch w.1)

/-- The digest unit's part of a task-end mark, and the core's return to the context below (R92). -/
def Lane.endCore (L : Lane) (t : TaskId) (bits : Nat) (c : Core) : Core :=
  let c1 := L.foldTask t c
  { c1 with digReady := c1.digReady ++ [((t.val, bits), vget c1.dig t)], ctx := c1.ctx.drop 1 }

/-- A lagging core that ends a context without having produced the entry the other core waits on (R89). -/
def endTimeout (l : LaneId) (c : CoreId) (ctx : Nat × Nat) (s : State) : State :=
  let L := s.lane l
  let other : CoreId := if c = 0 then 1 else 0
  match (vget L.cores c).queue, (vget L.cores other).queue with
  | [], e :: _ => if e.ctx = some ctx then laneFinding l 2 ctx.1 L.pairIndex e.acc.addr s else s
  | _, _ => s

/-- Marks a core's end of an instance of its lane, with the retained lines the A-core wrote in it. -/
def markEnded (l : LaneId) (c : CoreId) (ctx : Nat × Nat) (fault : Bool) (ret : NatSet) (s : State) : State :=
  let m := BitVec.ofNat 2 (2 ^ c.val)
  let upd (i : LaneInst) : LaneInst :=
    if i.task = ctx.1 ∧ instBits i.start = ctx.2 then
      { i with ended := i.ended ||| m, faulted := if fault then i.faulted ||| m else i.faulted,
               retLines := if c = 0 then ret else i.retLines }
    else i
  { s with cyc := { s.cyc with insts := vset s.cyc.insts l ((vget s.cyc.insts l).map upd) } }

/-- The instance a core runs, with the start-tick bits that name it. -/
def currentInst (s : State) (l : LaneId) (c : CoreId) : Option (TaskId × LaneInst × Nat) :=
  match (vget (s.lane l).cores c).ctx with
  | [] => none
  | (t, bits) :: _ =>
    match (vget s.cyc.insts l).find? (fun i => i.task == t && instBits i.start == bits) with
    | some i => some (Fin.ofNat 16 t, i, bits)
    | none => none

/-- The dirty lines of a task's retained range (R197). -/
def retainedDirty (L : Lane) (t : TaskId) (c : Core) : NatSet := c.dirty.filter (fun n => inRange (L.retRange t) (64 * n))

/-- The lines a task end folds in the state source's A image are marked copy-dirty (R129). -/
def markCopyDirty (l : LaneId) (c : CoreId) (lines : List Nat) (s : State) : State :=
  let r := s.vot.reint
  if c = 0 ∧ r.srcState = l ∧ r.phase ≠ .idle ∧ r.phase ≠ .reset then
    { s with vot := { s.vot with reint := { r with copyDirty := lines.foldl nsAdd r.copyDirty } } }
  else s

/-- A core writes its task-end mark: its stores reach the image, the lane runtime's output copies and end record are issued
(R186), and the digest unit folds the task's dirty lines (R92). -/
def endMark (l : LaneId) (c : CoreId) (writes : List (Nat × Byte)) (s : State) : State :=
  match currentInst s l c with
  | none => s
  | some (t, i, bits) =>
    let L := s.lane l
    let c1 := (vget L.cores c).writes (writes.filter (pmpWrites s L t))
    let accs := match taskCfg? s t.val with
      | some cfg => outputAccesses s cfg i.run i.start c1.img ++ monitorAccesses cfg i.start c1.img
      | none => []
    let c2 := { zeroMonBlock (taskCfg? s t.val) c1 with queue := c1.queue ++ accs.map (fun a => (⟨a, some (t.val, bits)⟩ : QEntry)) }
    let s1 := markCopyDirty l c (c2.dirty.filter (fun n => L.lineTask n == t))
      (s.modLane l (fun L => { L with cores := vset L.cores c (L.endCore t bits c2) }))
    endTimeout l c (t.val, bits) (markEnded l c (t.val, bits) false (retainedDirty L t c2) s1)

/-- TASK_END_MARK; `writes` are the bytes the core's instance stored. -/
def execTaskEndMark (lane : LaneId) (core : CoreId) (writes : List (Nat × Byte)) (s : State) :
    Host.Outcome State Fault Refusal :=
  act (endMark lane core writes) s

/-- Counts a task fault that both cores of a lane took: the lane reports it, and FLT_CNT counts each instance once
(R193, R204). -/
def countFault (l : LaneId) (code : Nat) (t : TaskId) (start : Nat) (s : State) : State :=
  let s1 := repLane code l s
  if (vget s1.cyc.tasks t).faultStart = some start then s1
  else s1.modTask t (fun T => { T with fltCnt := T.fltCnt + 1, prevFault := true, faultStart := some start })

/-- A U-mode exception ends the instance in the faulting core: no outputs, no end record, the task-end mark (R193). -/
def taskFault (l : LaneId) (c : CoreId) (writes : List (Nat × Byte)) (s : State) : State :=
  match currentInst s l c with
  | none => s
  | some (t, i, bits) =>
    let L := s.lane l
    let c1 := (vget L.cores c).writes (writes.filter (pmpWrites s L t))
    let s1 := markCopyDirty l c (c1.dirty.filter (fun n => L.lineTask n == t))
      (s.modLane l (fun L => { L with cores := vset L.cores c (L.endCore t bits c1) }))
    let s2 := markEnded l c (t.val, bits) true (retainedDirty L t c1) s1
    let both := (vget s2.cyc.insts l).any (fun i => i.task == t.val && instBits i.start == bits && i.faulted == 3)
    endTimeout l c (t.val, bits) (if both then countFault l 0x0504 t i.start s2 else s2)

/-- TASK_FAULT; `writes` are the bytes the core's instance stored before the fault. -/
def execTaskFault (lane : LaneId) (core : CoreId) (writes : List (Nat × Byte)) (s : State) :
    Host.Outcome State Fault Refusal :=
  act (taskFault lane core writes) s

/-! ## Lane start -/

/-- Draws bytes from the module's random source; its pool keeps the last 64 bytes given (R481, log 4). -/
def drawRandom (n : Nat) (s : State) : List Byte × State :=
  let bs := padTo n (Config.random s.draws n)
  let pool := s.trust.pool ++ bs
  (bs, { s with draws := s.draws + 1, trust := { s.trust with pool := pool.drop (pool.length - 64) } })

/-- A lane leaves reset: everything it holds is at its reset value but its MRAM copy, and a new scrambling key is drawn,
from the kept pool when the random source has failed (R82, R99, R481, R529). -/
def releaseLane (l : LaneId) (s : State) : State :=
  let gen := (s.lane l).keyGen + 1
  let (key, s1) :=
    if s.trust.rngOk then drawRandom 16 s else (Config.shake256 16 (s.trust.pool ++ leBytes 1 gen.toNat), s)
  s1.modLane l (fun L => { ({} : Lane) with
    state := .loading, key := BitVec.ofNat 128 (ofLe key), keyValid := true, keyGen := gen, mram := L.mram })

/-- Do the configured ranges of the tasks stay inside their areas and apart (R106)? -/
def rangesValid (s : State) : Bool :=
  let ts := s.cfg.cyc.tasks
  ts.all (fun t => t.idataBase + t.idataSize ≤ 4096 && t.retBase + t.retSize ≤ 1024) &&
  ts.all (fun t => ts.all (fun u => t.task == u.task ||
    ((t.idataBase + t.idataSize ≤ u.idataBase || u.idataBase + u.idataSize ≤ t.idataBase || t.idataSize == 0 || u.idataSize == 0) &&
     (t.retBase + t.retSize ≤ u.retBase || u.retBase + u.retSize ≤ t.retBase || t.retSize == 0 || u.retSize == 0))))

/-- What the lane runtime writes to its LANE registers from the active configuration while LOADING (R89, R106). -/
def loadLaneRegs (s : State) (L : Lane) : Lane :=
  let L1 := L.regSet (LANE + 0xC) (BitVec.ofNat 32 (s.cfg.cyc.pairTmoUs % 512))
  s.cfg.cyc.tasks.foldl (fun L t =>
    (L.regSet (LANE + 0x100 + t.task.val * 8) (BitVec.ofNat 32 (t.idataBase + 65536 * t.idataSize))).regSet
      (LANE + 0x104 + t.task.val * 8) (BitVec.ofNat 32 (t.retBase + 65536 * t.retSize))) L1

/-- The image a lane starts from: program, instance data and retained area of the application image (R530). -/
def freshImage (s : State) (damage : List (Nat × Byte)) : Mem :=
  memWrites (memWrites (memWrites (memWrites [] s.image.program) s.image.idata) s.image.retained) damage

/-- Both images are loaded and the sweep starts (R99); invalid ranges leave the lane in LOADING with a configuration fault
(R106). -/
def imagesLoaded (l : LaneId) (damageA damageB : List (Nat × Byte)) (s : State) : State :=
  if (s.lane l).state = .loading ∧ ¬(s.vot.reint.phase ≠ .idle ∧ s.vot.reint.target = l) then
    if rangesValid s then
      s.modLane l (fun L =>
        let L1 := loadLaneRegs s L
        let boot (c : Core) (d : List (Nat × Byte)) : Core := { c with img := freshImage s d, fetching := true }
        { L1 with state := .sweep, cores := vmod (vmod L1.cores 0 (boot · damageA)) 1 (boot · damageB) })
    else configFault 2 s
  else s

/-- IMAGES_LOADED; the damages are bytes that stand in lane DRAM otherwise than loaded. -/
def execImagesLoaded (lane : LaneId) (damageA damageB : List (Nat × Byte)) (s : State) : Host.Outcome State Fault Refusal :=
  act (imagesLoaded lane damageA damageB) s

/-- The end of the sweep, by the first task whose two digests differ: none takes the lane to READY, one is a latent divergence (R95,
R99). A target of re-integration goes on to its self-test (R128); at start-up the first READY lane starts the wait of R123. -/
def sweepEnd (l : LaneId) (s : State) : Option TaskId → State
  | some t =>
    laneFinding l 3 t.val 0 0 (s.modLane l (fun L => { L with
      digA := vget (vget L.cores 0).dig t, digB := vget (vget L.cores 1).dig t, digTask := BitVec.ofNat 4 t.val }))
  | none =>
    let s1 := s.modLane l (fun L => { L with
      state := .ready, digA := vget (vget L.cores 0).dig 15, digB := vget (vget L.cores 1).dig 15, digTask := 15 })
    let reint := s1.vot.reint
    if reint.phase = .sweep ∧ reint.target = l then
      { s1 with vot := { s1.vot with reint := { reint with phase := .test } } }
    else if s1.vot.mode = .init then { s1 with vot := { s1.vot with waiting := true } }
    else s1

/-- Both cores' digest units have computed their start values (R95). -/
def sweepDigests (l : LaneId) (s : State) : State := s.modLane l (fun L => { L with cores := L.cores.map L.sweepCore })

/-- The first task whose digests differ between a lane's cores (R95). -/
def Lane.firstUnequal (L : Lane) : Option TaskId := Machine.firstUnequal (vget L.cores 0).dig (vget L.cores 1).dig

/-- The sweep of a lane ends (R95). -/
def sweepComplete (l : LaneId) (s : State) : State :=
  if (s.lane l).state = .sweep then sweepEnd l (sweepDigests l s) ((sweepDigests l s).lane l).firstUnequal else s

/-- SWEEP_COMPLETE (R95). -/
def execSweepComplete (lane : LaneId) (s : State) : Host.Outcome State Fault Refusal := act (sweepComplete lane) s

end Sys2Proof.Machine
end

