-- ==== Sys2Proof/Machine/Rings.lean ====
section
/-!
DEFINITION. The rings (R139 to R169): enabling, draining, descriptors, doorbells, completion heads, completions, and the
operations NOP and ECHO. Fetching a descriptor is in `Serve`.
-/

namespace Sys2Proof.Machine

/-- STATE of a ring as bits (R168). -/
def RingState.code : RingState → Nat
  | .disabled => 0 | .active => 1 | .draining => 2 | .stalled => 3 | .cfgErr => 4

/-- Entries of a ring's queues (R141). -/
def Ring.entries (R : Ring) : Nat := 2 ^ R.sizeLog2

/-- First offset and size of a submission queue (R142). -/
def Ring.sqRange (R : Ring) : Nat × Nat := (R.sqBase, 32 * R.entries)

/-- First offset and size of a completion queue (R142). -/
def Ring.cqRange (R : Ring) : Nat × Nat := (R.cqBase, 16 * R.entries)

/-- Do two ranges share a byte? -/
def overlaps (a b : Nat × Nat) : Bool := a.1 < b.1 + b.2 && b.1 < a.1 + a.2

/-- Is a ring enabled: neither DISABLED nor in CFG_ERR? -/
def Ring.enabled (R : Ring) : Bool := R.state != .disabled && R.state != .cfgErr

/-- The class of area a ring's submission queue lies in (R141). -/
def submissionClass (r : Nat) : AreaClass :=
  match ringLane r with
  | some l => .lanePrivate l
  | none => if r < 32 then .voted else .engine

/-- Does a range lie in one area of a class (R141)? -/
def inAreaClass (s : State) (r : Nat × Nat) (c : AreaClass) : Bool :=
  s.cfg.cyc.areas.any (fun a => a.cls == c && a.base ≤ r.1 && r.1 + r.2 ≤ a.base + a.size)

/-- Does ring `o`, when enabled, leave ring `R`'s queues and tags alone (R143)? -/
def Ring.apart (R o : Ring) : Bool :=
  !o.enabled ||
  (!overlaps R.sqRange o.sqRange && !overlaps R.sqRange o.cqRange && !overlaps R.cqRange o.sqRange &&
   !overlaps R.cqRange o.cqRange && !overlaps (R.tagBase, R.tagCount) (o.tagBase, o.tagCount))

/-- The conditions of R143 on a ring's set-up. -/
def ringSetupOk (s : State) (r : Fin 64) : Bool :=
  let R := s.ringAt r
  let others := allRings.filter (fun q => q != r)
  1 ≤ R.sizeLog2 && R.sizeLog2 ≤ 12 &&
  R.sqBase + 32 * R.entries ≤ exchangeSize && R.cqBase + 16 * R.entries ≤ exchangeSize &&
  inAreaClass s R.sqRange (submissionClass r.val) && inAreaClass s R.cqRange .engine &&
  R.engine ≤ 8 && R.owner ≤ 16 && 1 ≤ R.tagCount && R.tagCount ≤ R.entries && R.tagBase + R.tagCount ≤ 1024 &&
  !overlaps R.sqRange R.cqRange && others.all (fun q => R.apart (s.ringAt q)) &&
  (others.filter (fun q => (s.ringAt q).enabled)).foldl (fun n q => n + (s.ringAt q).tagCount) R.tagCount ≤ 1024

/-- Enables a ring: EN = 1 checks its set-up and makes it ACTIVE with empty queues and zero indices, or CFG_ERR (R143). A ring
that is enabled already stays as it is. -/
def enableRing (r : Fin 64) (s : State) : State :=
  let R := s.ringAt r
  if R.enabled then s
  else if ringSetupOk s r then
    let s1 := { s with mem := memClear s.mem R.cqBase (R.cqBase + 16 * R.entries) }
    s1.modRing r (fun R => { R with
      en := true, state := .active, prod := 0, head := 0, cons := 0, cp := 0, cpLatch := 0, ownerLatch := 0,
      pending := [], busy := [], ops := [], held := [], credit := max 1 R.creditCfg, gen := R.gen + 1 })
  else configFault 1 (repRing 0x100C R.engine (s.modRing r (fun R => { R with en := true, state := .cfgErr })))

/-- RING_ENABLE (R143). -/
def execRingEnable (ring : Fin 64) (s : State) : Host.Outcome State Fault Refusal := act (enableRing ring) s

/-- A commit of EN = 0 (R164): an enabled ring drains; one in CFG_ERR was never in use and is DISABLED at once. -/
def disableRing (r : Fin 64) (s : State) : State :=
  if (s.ringAt r).state = .cfgErr then s.modRing r (fun R => { R with en := false, state := .disabled })
  else drainRing r s

/-- RING_DRAIN (R164). -/
def execRingDrain (ring : Fin 64) (s : State) : Host.Outcome State Fault Refusal := act (disableRing ring) s

/-- Nothing of a draining ring runs any more: its tags are freed and it is DISABLED (R164). -/
def drainComplete (r : Fin 64) (s : State) : State :=
  let R := s.ringAt r
  if R.state = .draining ∧ R.ops = [] then s.modRing r (fun R => { R with state := .disabled, busy := [] }) else s

/-- RING_DRAIN_COMPLETE (R164). -/
def execRingDrainComplete (ring : Fin 64) (s : State) : Host.Outcome State Fault Refusal := act (drainComplete ring) s

/-- The enabled ring and slot whose submission queue a 32-byte write at an offset fills exactly (R148). -/
def slotAt (s : State) (off : Nat) : Option (Fin 64 × Nat) :=
  match allRings.find? (fun r => (s.ringAt r).enabled && inRange (s.ringAt r).sqRange off) with
  | some r => some (r, (off - (s.ringAt r).sqBase) / 32)
  | none => none

/-- A write into a submission queue (R148): one aligned 32-byte write fills a slot and sets its pending bit; a slot still
pending keeps its descriptor; any other size or alignment is discarded as a forbidden target. -/
def writeSlot (r : Fin 64) (off : Nat) (bs : List Byte) (s : State) : State :=
  let R := s.ringAt r
  let slot := (off - R.sqBase) / 32
  if bs.length ≠ 32 ∨ (off - R.sqBase) % 32 ≠ 0 then rep 0x0C06 s
  else if nsMem R.pending slot then repRing 0x1008 R.engine s
  else { s with mem := memWrite s.mem off bs }.modRing r (fun R => { R with pending := nsAdd R.pending slot })

/-- A descriptor write at an exchange-memory offset. -/
def descriptorWrite (off : Nat) (bs : List Byte) (s : State) : State :=
  match slotAt s off with
  | some (r, _) => writeSlot r off bs s
  | none => s

/-- DESCRIPTOR_WRITE (R148); `off` is an exchange-memory offset. -/
def execDescriptorWrite (off : Nat) (bytes : List Byte) (s : State) : Host.Outcome State Fault Refusal :=
  act (descriptorWrite off bytes) s

/-- A doorbell (R149, R150): a valid new producer index is taken, an invalid one is ignored and reported. -/
def doorbell (r : Fin 64) (prod : BitVec 16) (s : State) : State :=
  let R := s.ringAt r
  let d := (prod - R.prod).toNat
  let used := (R.prod - R.cons).toNat
  if d = 0 then s
  else if R.state = .active ∧ d + used ≤ R.entries then s.modRing r (fun R => { R with prod := prod })
  else repRing 0x1006 R.engine s

/-- DOORBELL (R150). -/
def execDoorbell (ring : Fin 64) (prod : BitVec 16) (s : State) : Host.Outcome State Fault Refusal :=
  act (doorbell ring prod) s

/-- A new completion head (R158): it may not move backwards nor pass CP_LATCH of the owner's last start tick; the tags whose
entries it has passed are free. -/
def writeHead (r : Fin 64) (head : BitVec 16) (s : State) : State :=
  let R := s.ringAt r
  let d := (head - R.head).toNat
  if d ≤ (R.ownerLatch - R.head).toNat then
    s.modRing r (fun R => { R with
      head := head, busy := R.busy.filter (fun e => match e.2 with
        | some i => d ≤ (i - R.head).toNat
        | none => true) })
  else repRing 0x1007 R.engine s

/-- COMPLETION_HEAD_WRITE (R158). -/
def execCompletionHeadWrite (ring : Fin 64) (head : BitVec 16) (s : State) : Host.Outcome State Fault Refusal :=
  act (writeHead ring head) s

/-- RING_STALLED (R151): the next slot is covered by PROD and its pending bit has stayed clear too long. -/
def stallRing (r : Fin 64) (s : State) : State :=
  let R := s.ringAt r
  if R.state = .active ∧ R.cons ≠ R.prod ∧ nsMem R.pending (R.cons.toNat % R.entries) = false then
    repRing 0x1009 R.engine (s.modRing r (fun R => { R with state := .stalled }))
  else s

/-- RING_STALLED (R151). -/
def execRingStalled (ring : Fin 64) (s : State) : Host.Outcome State Fault Refusal := act (stallRing ring) s

/-- The firmware takes a frame's timestamp out of its queue when it delivers it to the requester (R70): for an ETH_SEND that
asked for one. -/
def takeTxTs (d : Desc) (status : Nat) (s : State) : State :=
  if d.opcode = 0x20 ∧ testBit d.paramA 1 ∧ status = 0 then
    popTxTs (Fin.ofNat 2 (d.paramA % 2)) (d.paramB % 65536) s
  else s

/-- An engine writes the completion of an operation that is done (R153, R164). -/
def completeOp (r : Fin 64) (tag : Nat) (s : State) : State :=
  let R := s.ringAt r
  match R.ops.find? (fun o => o.desc.tag == tag && decide (o.stage ≠ .running)) with
  | some o =>
    match o.stage with
    | .running => s
    | .done st ra rb =>
      ringComplete r tag st ra rb (testBit o.desc.flags 1)
        ((takeTxTs o.desc st s).modRing r (fun R => { R with ops := R.ops.filter (fun p => p.desc.tag != tag) }))
  | none => s

/-- OPERATION_COMPLETE (R153). -/
def execOperationComplete (ring : Fin 64) (tag : Fin 1024) (s : State) : Host.Outcome State Fault Refusal :=
  act (completeOp ring tag.val) s

/-- NOP (R165): zero results. -/
def execNop (ring : Fin 64) (tag : Fin 1024) (s : State) : Host.Outcome State Fault Refusal :=
  act (runOp ring tag 0x00 (fun d => opDone ring d.tag 0 0 0)) s

/-- ECHO (R165): RESULT_A := PARAM_A, RESULT_B := ADDR. -/
def execEcho (ring : Fin 64) (tag : Fin 1024) (s : State) : Host.Outcome State Fault Refusal :=
  act (runOp ring tag 0x01 (fun d => opDone ring d.tag 0 d.paramA d.addr)) s

/-! ## At the tick event -/

/-- At a tick event: CP_LATCH takes the completion index and the credit is reset (R157, R162). -/
def latchRings (s : State) : State :=
  { s with rng := { s.rng with
      ring := s.rng.ring.map (fun R => { R with cpLatch := R.cp, credit := max 1 R.creditCfg }),
      eng := s.rng.eng.map (fun e => { e with pos := 0 }) } }

/-- The visiting order of an engine's round: voted, supervisor, then lane-private rings (R162). -/
def visitOrder : List (Fin 64) :=
  (List.range 32).map (Fin.ofNat 64) ++ [62, 63] ++ ((List.range 30).map (fun i => Fin.ofNat 64 (i + 32)))

/-- Has a ring a fetchable descriptor under R151 and remaining credit (R162)? -/
def Ring.fetchable (R : Ring) : Bool :=
  R.state == .active && R.cons != R.prod && nsMem R.pending (R.cons.toNat % R.entries) && 0 < R.credit

/-- BUDGET_US of an engine: 0 acts as 1, values above 125 as 125 (R168). -/
def engineBudget (s : State) (e : Fin 9) : Nat := max 1 (min 125 (regField s (RNG + 0x100 + e.val * 8) 0 7))

/-- All engines, in order. -/
def allEngines : List (Fin 9) := [0, 1, 2, 3, 4, 5, 6, 7, 8]

/-- The end of a tick for the engines (R163): the measured busy time is shown, and a tick that ends with the budget spent
while a descriptor was still fetchable is an overrun. -/
def engineBudgets (busyUs : Fin 9 → Nat) (s : State) : State :=
  allEngines.foldl (fun s e =>
    let overrun := engineBudget s e ≤ busyUs e &&
      allRings.any (fun r => (s.ringAt r).engine == e.val && (s.ringAt r).fetchable)
    let put (n : BitVec 16) : State := { s with rng := { s.rng with
      eng := vmod s.rng.eng e (fun x => { x with busyUs := min 125 (busyUs e), overrunCnt := x.overrunCnt + n }) } }
    if overrun then repRing 0x100A e.val (put 1) else put 0) s

/-- The completions of a ring's owner from HEAD up to CP_LATCH, as bytes, oldest first (R157). -/
def newCompletions (s : State) (r : Fin 64) : List Byte :=
  let R := s.ringAt r
  let n := (R.cpLatch - R.head).toNat
  (List.range n).flatMap (fun i => memRead s.mem (R.cqBase + 16 * ((R.head.toNat + i) % R.entries)) 16)

end Sys2Proof.Machine
end

