-- ==== Sys2Proof/Machine/Reintegrate.lean ====
section
/-!
DEFINITION. Admission and re-integration of lanes (R122 to R136): the self-tests, the copy rounds, joining and the failed
attempts.
-/

namespace Sys2Proof.Machine

/-- The module with the re-integration changed. -/
def State.modReint (s : State) (f : Reint → Reint) : State := { s with vot := { s.vot with reint := f s.vot.reint } }

/-- VSTATE as bits (R138). -/
def VState.code : VState → Nat
  | .absent => 0 | .counted => 1 | .joining => 2 | .heldOut => 3

/-- PHASE as bits (R138). -/
def ReintPhase.code : ReintPhase → Nat
  | .idle => 0 | .reset => 1 | .load => 2 | .sweep => 3 | .test => 4 | .join => 5

/-! ## Final rounds and joining -/

/-- Is a task idle in a lane: no instance of it between its start boundary and its release (R131)? -/
def taskIdle (s : State) (l : LaneId) (t : TaskId) : Bool := !(vget s.cyc.insts l).any (fun i => i.task == t.val)

/-- The next start boundary of a task after a tick (R52). -/
def nextStart (tick periodLog2 : Nat) : Nat := (tick / 2 ^ periodLog2 + 1) * 2 ^ periodLog2

/-- The idle task whose final round the path takes: the one with the earliest next start boundary (R131). -/
def chooseFinal (s : State) : Option TaskId :=
  let r := s.vot.reint
  let open_ := s.cfg.cyc.tasks.filter (fun t =>
    taskIdle s r.srcState t.task && !r.joined.getLsbD t.task.val && !r.finalDone.getLsbD t.task.val)
  (open_.foldl (fun best t => match best with
    | none => some (nextStart s.tick t.periodLog2, t.task)
    | some (n, u) =>
      if nextStart s.tick t.periodLog2 < n then some (nextStart s.tick t.periodLog2, t.task) else some (n, u)) none).map Prod.snd

/-- The path begins the next final round when none runs (R131). -/
def startFinal (s : State) : State :=
  if s.vot.reint.phase = .join ∧ s.vot.reint.finalTask = none then s.modReint (fun r => { r with finalTask := chooseFinal s })
  else s

/-- Bytes of a line copied from one image into both images of the target (R128). -/
def copyLine (src : Mem) (n : Nat) (L : Lane) : Lane :=
  { L with cores := L.cores.map (fun c => c.writeBytes (64 * n) (memRead src (64 * n) 64)) }

/-- Lines copied from the state source's A image into the target (R128, R131). -/
def copyLines (lines : List Nat) (s : State) : State :=
  let r := s.vot.reint
  let src := (vget (s.lane r.srcState).cores 0).img
  s.modLane r.target (fun L => lines.foldl (fun L n => copyLine src n L) L)

/-- Bytes of an address range copied from an image into both images of a lane; what the range held before goes. -/
def copyRange (src : Mem) (lo hi : Nat) (L : Lane) : Lane :=
  let part := src.filter (fun e => lo ≤ e.1 && e.1 < hi)
  let old (c : Core) : NatSet := (listedLines (c.img.filter (fun e => lo ≤ e.1 && e.1 < hi))).filter lineCovered
  { L with cores := L.cores.map (fun c =>
      ({ c with img := memClear c.img lo hi, dirty := (old c).foldl nsAdd c.dirty } : Core).writes part) }

/-- FINAL_ROUND_END: the marked lines of the idle task are copied (R131). -/
def finalRoundEnd (t : TaskId) (s : State) : State :=
  let r := s.vot.reint
  if r.phase = .join ∧ r.finalTask = some t ∧ taskIdle s r.srcState t then
    let L := s.lane r.srcState
    let mine := r.copyDirty.filter (fun n => L.lineTask n == t)
    let s1 := copyLines mine s
    startFinal (s1.modReint (fun r => { r with
      copyDirty := r.copyDirty.filter (fun n => L.lineTask n != t), finalTask := none,
      finalDone := r.finalDone ||| BitVec.ofNat 16 (2 ^ t.val) }))
  else s

/-- FINAL_ROUND_END (R131). -/
def execFinalRoundEnd (task : TaskId) (s : State) : Host.Outcome State Fault Refusal := act (finalRoundEnd task) s

/-- FINAL_ROUND_ABANDONED: the task's start boundary came first; its lines stay marked (R131). -/
def finalRoundAbandoned (t : TaskId) (s : State) : State :=
  let r := s.vot.reint
  if r.phase = .join ∧ r.finalTask = some t ∧ taskIdle s r.srcState t = false then
    startFinal (s.modReint (fun r => { r with finalTask := none }))
  else s

/-- FINAL_ROUND_ABANDONED (R131). -/
def execFinalRoundAbandoned (task : TaskId) (s : State) : Host.Outcome State Fault Refusal :=
  act (finalRoundAbandoned task) s

/-- A task's retained range is rewritten into the target's MRAM at its join (R132). -/
def mirrorRange (t : TaskId) (L : Lane) : Lane :=
  let r := L.retRange t
  let img := (vget L.cores 0).img
  let part := (img.filter (fun e => inRange r e.1)).map (fun e => (e.1 - retBase, e.2))
  { L with mram := memWrites (memClear L.mram (r.1 - retBase) (r.1 - retBase + r.2)) part }

/-- Is a runtime vote open (R132)? -/
def runtimeVoteOpen (s : State) : Bool := s.vot.votes.any (fun v => match v.key with
  | .runtime _ => true
  | .task _ _ _ => false)

/-- The runtime sequence number of the counted lanes (R132). -/
def countedSeq (s : State) : BitVec 16 :=
  match allLanes.find? (fun l => counted s l) with
  | some l => (vget s.vot.lanes l).seq
  | none => 0

/-- Is every configured task joined? -/
def allJoined (s : State) (joined : BitVec 16) : Bool := s.cfg.cyc.tasks.all (fun t => joined.getLsbD t.task.val)

/-- One task joins at its start boundary (R132): the first join admits the lane (R133), the last one completes TRIPLE (R122). -/
def joinTask (t : TaskId) (s : State) : State :=
  let r := s.vot.reint
  if t = 0 ∧ runtimeVoteOpen s then
    s.modReint (fun r => { r with finalDone := r.finalDone &&& ~~~(1 : BitVec 16) })
  else
    let first := r.joined == 0
    let ms := (s.tim.now - (vget s.vot.lanes r.target).since) / msUnits
    let s1 := (s.modReint (fun r => { r with
      joined := r.joined ||| BitVec.ofNat 16 (2 ^ t.val),
      lastMs := if first then min 65535 ms else r.lastMs,
      worstMs := if first then max r.worstMs (min 65535 ms) else r.worstMs })).modLane r.target (mirrorRange t)
    let s2 := if first then s1.modLane r.target (fun L => { L with state := .running }) else s1
    let s3 := if t = 0 then s2.modVot r.target (fun v => { v with seq := countedSeq s }) else s2
    if allJoined s3 s3.vot.reint.joined then
      let s4 := (s3.modVot r.target (fun v => { v with vstate := .counted, joinedAt := some s.tim.now })).modReint
        (fun r => { r with phase := .idle, finalTask := none })
      rep 0x0C0D { s4 with vot := { s4.vot with
        counted := s4.vot.counted ||| BitVec.ofNat 3 (2 ^ r.target.val), mode := .triple } }
    else s3

/-- The joins of a tick event: every task whose final round has finished joins at its start boundary (R132). -/
def joinTasks (s : State) : State :=
  s.cfg.cyc.tasks.foldl (fun s t =>
    let r := s.vot.reint
    if r.phase = .join ∧ s.tick % 2 ^ t.periodLog2 = 0 ∧ r.finalDone.getLsbD t.task.val ∧ ¬ r.joined.getLsbD t.task.val then
      joinTask t.task s
    else s) s

/-! ## Attempts -/

/-- The counted lanes, in order. -/
def countedLanes (s : State) : List LaneId := allLanes.filter (counted s)

/-- REINT_START (R127): the supervisor resets a lane that is out; the lower-numbered counted lane is the code source, the other
the state source. -/
def reintStart (l : LaneId) (s : State) : State :=
  if s.vot.mode = .dual ∧ s.vot.reint.phase = .idle ∧ ¬ counted s l ∧ ¬ (vget s.vot.lanes l).heldOut then
    match countedLanes s with
    | [a, b] =>
      let s1 := s.modLane l (fun L => { ({} : Lane) with keyGen := L.keyGen, mram := L.mram, mot := { waitCopy := true } })
      (s1.modVot l (fun v => { v with pairOk := false })).modReint (fun r => { r with
        target := l, phase := .reset, srcCode := a, srcState := b, round := 0, joined := 0, lines := 0, codeDone := false,
        copyDirty := [], allDirty := false, roundSet := [], lastRound := 0, finalTask := none, finalDone := 0 })
    | _ => s
  else s

/-- REINT_START (R127). -/
def execReintStart (lane : LaneId) (s : State) : Host.Outcome State Fault Refusal := act (reintStart lane) s

/-- REINT_RESET_DONE (R128, R129): LOAD begins with a new key; round 1 copies every covered line. -/
def reintResetDone (s : State) : State :=
  let r := s.vot.reint
  if r.phase = .reset then
    let s1 := releaseLane r.target s
    (s1.modLane r.target (loadLaneRegs s1)).modReint (fun r => { r with phase := .load, round := 1, allDirty := true })
  else s

/-- REINT_RESET_DONE (R128). -/
def execReintResetDone (s : State) : Host.Outcome State Fault Refusal := act reintResetDone s

/-- COPY_ROUND_END (R129): the round's lines are copied; the next round starts from the bits set by then. -/
def copyRoundEnd (s : State) : State :=
  let r := s.vot.reint
  if r.phase = .load then
    let src := (vget (s.lane r.srcState).cores 0).img
    let s1 := if r.allDirty then
        (s.modLane r.target (copyRange src idataBase (idataBase + 0x10000000))).modLane r.target
          (copyRange src retBase (retBase + 0x100000))
      else copyLines r.roundSet s
    s1.modReint (fun r => { r with
      round := min 127 (r.round + 1), lines := 0, allDirty := false,
      lastRound := if r.allDirty then coveredLines else r.roundSet.length, roundSet := r.copyDirty, copyDirty := [] })
  else s

/-- COPY_ROUND_END (R129). -/
def execCopyRoundEnd (s : State) : Host.Outcome State Fault Refusal := act copyRoundEnd s

/-- CODE_COPY_END (R128): the lane runtime region and the program image up to its declared length. -/
def codeCopyEnd (s : State) : State :=
  let r := s.vot.reint
  if r.phase = .load ∧ r.codeDone = false then
    let src := (vget (s.lane r.srcCode).cores 0).img
    (s.modLane r.target (copyRange src 0 (0x04000000 + s.image.length))).modReint (fun r => { r with codeDone := true })
  else s

/-- CODE_COPY_END (R128). -/
def execCodeCopyEnd (s : State) : Host.Outcome State Fault Refusal := act codeCopyEnd s

/-- LOAD_END (R130): the code copy has finished and the last round began with at most 65 536 marked lines; the lines of the
round not yet copied stay marked. -/
def loadEnd (s : State) : State :=
  let r := s.vot.reint
  if r.phase = .load ∧ r.codeDone ∧ r.allDirty = false ∧ r.lastRound ≤ 65536 then
    (s.modLane r.target (fun L => { L with
      state := .sweep, cores := L.cores.map (fun c => { c with fetching := true }) })).modReint
      (fun r => { r with phase := .sweep, copyDirty := r.roundSet.foldl nsAdd r.copyDirty, roundSet := [] })
  else s

/-- LOAD_END (R130). -/
def execLoadEnd (s : State) : Host.Outcome State Fault Refusal := act loadEnd s

/-- Failed attempts of a lane within the last 86 400 s of module time (R136). -/
def recentFails (s : State) (l : LaneId) : Nat :=
  ((vget s.vot.lanes l).fails.filter (fun t => s.tim.now - t < 86400 * secUnits)).length

/-- Has a re-integration attempt of the lane failed (R135): SAFE before it has joined fully, or SAFE within 10 s of joining
fully, or (`timeout`) not admitted 1 s after the moment that started it? -/
def attemptFailed (s : State) (l : LaneId) (timeout : Bool) : Bool :=
  let r := s.vot.reint
  let st := (s.lane l).state
  (r.phase != .idle && r.target == l && (st == .safe || (timeout && st != .running))) ||
  (r.phase == .idle && st == .safe && match (vget s.vot.lanes l).joinedAt with
    | some t => (vget s.vot.lanes l).since - t < 10 * secUnits
    | none => false)

/-- REINT_FAILED (R135, R136): the attempt is recorded and reported; the third within 86 400 s holds the lane out. -/
def reintFailed (l : LaneId) (timeout : Bool) (s : State) : State :=
  if attemptFailed s l timeout then
    let s1 := (s.modVot l (fun v => { v with fails := v.fails ++ [s.tim.now], since := s.tim.now, joinedAt := none,
                                             vstate := .absent })).modReint
      (fun r => if r.target = l then { r with phase := .idle, joined := 0, finalTask := none, finalDone := 0 } else r)
    let s2 := rep 0x0C0A s1
    if 3 ≤ recentFails s2 l then
      rep 0x0C0C ((s2.modVot l (fun v => { v with heldOut := true, vstate := .heldOut })).modLane l
        (fun L => { ({} : Lane) with keyGen := L.keyGen, mram := L.mram, mot := { waitCopy := true } }))
    else s2
  else s

/-- REINT_FAILED (R135). -/
def execReintFailed (lane : LaneId) (timeout : Bool) (s : State) : Host.Outcome State Fault Refusal :=
  act (reintFailed lane timeout) s

/-! ## Self-tests and admission -/

/-- Does the comparator's record of its self-test pass (R125): entry k differs in exactly bit k for k below 330, entries 330 and
331 match, and the withheld entry timed out? -/
def selfTestPasses (found : List (List Nat)) (timeout : Bool) : Bool :=
  found == (List.range 330).map (fun k => [k]) ++ [[], []] && timeout

/-- PAIR_SELF_TEST (R125): a pass is noted and takes a target of re-integration to JOIN; a failure forces the lane to SAFE. -/
def pairSelfTest (l : LaneId) (found : List (List Nat)) (timeout : Bool) (s : State) : State :=
  if (s.lane l).state = .ready then
    if selfTestPasses found timeout then
      let s1 := s.modVot l (fun v => { v with pairOk := true })
      if s1.vot.reint.phase = .test ∧ s1.vot.reint.target = l then
        startFinal ((s1.modVot l (fun v => { v with vstate := .joining })).modReint (fun r => { r with phase := .join }))
      else s1
    else rep 0x0C08 (laneSafe l 7 0 0 0 true (s.modVot l (fun v => { v with pairOk := false })))
  else s

/-- PAIR_SELF_TEST; `found` lists, for each test entry, the compared bits found different. -/
def execPairSelfTest (lane : LaneId) (found : List (List Nat)) (timeout : Bool) (s : State) :
    Host.Outcome State Fault Refusal :=
  act (pairSelfTest lane found timeout) s

/-- The lanes that are READY, self-tested and not held out (R122, R136). -/
def readyLanes (s : State) : List LaneId :=
  allLanes.filter (fun l => (s.lane l).state == .ready && (vget s.vot.lanes l).pairOk && !(vget s.vot.lanes l).heldOut)

/-- The value VOT_TEST_SINK holds after the voter self-test: that of the last test key that committed (R126). -/
def testSinkValue (three : Bool) (ok : BitVec 4) : Option Nat :=
  let keys := (if three then [3, 1, 0] else [0]).filter (fun t => ok.getLsbD t)
  keys.head?.map (fun t => 0x5A5AA5A0 + t)

/-- VOTER_SELF_TEST (R126): every row must give the expected result; a failure is reported and the voter stays in INIT. -/
def voterSelfTest (ok : BitVec 4) (s : State) : State :=
  let n := (readyLanes s).length
  if s.vot.mode = .init ∧ 2 ≤ n then
    let s1 := { s with vot := { s.vot with stepOk := ok, testDone := true, testFail := ok != 15 } }
    let s2 := match testSinkValue (n == 3) ok with
      | some v => regSet s1 (VOT + 0x64) (BitVec.ofNat 32 v)
      | none => s1
    if ok = 15 then s2 else rep 0x0C09 s2
  else s

/-- VOTER_SELF_TEST; `ok` has a bit for each test key that gave the expected result. -/
def execVoterSelfTest (ok : BitVec 4) (s : State) : Host.Outcome State Fault Refusal := act (voterSelfTest ok) s

/-- STARTUP_WAIT_EXPIRY (R123): the wait for the other lanes ends. -/
def execStartupWaitExpiry (s : State) : Host.Outcome State Fault Refusal :=
  act (fun s => onlyIf (s.vot.mode == .init && s.vot.waiting)
    (fun s => { s with vot := { s.vot with waitEnded := true } }) s) s

/-- Has the start-up wait ended: expired, or every lane that is not held out is ready (R123)? -/
def waitOver (s : State) : Bool :=
  s.vot.waitEnded || allLanes.all (fun l => (vget s.vot.lanes l).heldOut || (readyLanes s).contains l)

/-- LANE_ADMISSION (R122): with configuration and image verified (R530), the voter self-test passed and at least two ready, self-tested lanes, INIT goes to TRIPLE or
DUAL and these lanes run. -/
def laneAdmission (s : State) : State :=
  let ls := readyLanes s
  if s.vot.mode = .init ∧ s.trust.cfgOk ∧ s.vot.testDone ∧ s.vot.testFail = false ∧ 2 ≤ ls.length ∧ waitOver s then
    let s1 := ls.foldl (fun s l => (s.modLane l (fun L => { L with state := .running })).modVot l
      (fun v => { v with vstate := .counted })) s
    { s1 with vot := { s1.vot with
      mode := if ls.length = 3 then .triple else .dual,
      counted := BitVec.ofNat 3 ((ls.map (fun l => 2 ^ l.val)).foldl (· + ·) 0) } }
  else s

/-- LANE_ADMISSION (R122). -/
def execLaneAdmission (s : State) : Host.Outcome State Fault Refusal := act laneAdmission s

/-- LANE_RESET_RELEASE (R99): the supervisor releases a lane from reset; a lane held out stays OFF (R136), and every lane in RECOVERY
(R497). -/
def execLaneResetRelease (lane : LaneId) (s : State) : Host.Outcome State Fault Refusal :=
  act (fun s => onlyIf ((s.lane lane).state == .off && !s.trust.recovery && !(vget s.vot.lanes lane).heldOut &&
    !(s.vot.reint.phase != .idle && s.vot.reint.target == lane)) (releaseLane lane) s) s

end Sys2Proof.Machine
end

