-- ==== Sys2Proof/Machine/StrathNode.lean ====
section
/-!
DEFINITION. The Strath schedule (R239 to R272): slots and transmit buffers, time masters, start-up and integration, mode switches,
the sync monitor, Bezel, and the operations STR_SLOT_WRITE, STR_SLOT_BIND and STR_MODE_REQ.
-/

namespace Sys2Proof.Machine

/-- NSTATE as bits (R272). -/
def NState.code : NState → Nat
  | .init => 0 | .listen => 1 | .coldstart => 2 | .integrating => 3 | .synced => 4 | .silent => 5 | .incompatible => 6

/-! ## Schedule and settings -/

/-- The entry of a slot in a mode (R240). -/
def slotEntry? (s : State) (mode slot : Nat) : Option SlotEntry := (tget? s.cfg.stra.modes mode).bind (fun m => tget? m slot)

/-- Is a mode in the schedule set (R240)? -/
def modePresent (s : State) (mode : Nat) : Bool := (tget? s.cfg.stra.modes mode).isSome

/-- The node ID of this chapter (R242). -/
def ownId (s : State) : Nat := nodeId s 0

/-- STRA_NODE_CFG fields (R272). -/
def nodeCfg (s : State) (lo w : Nat) : Nat := regField s (STR 0 + 0x1000) lo w

/-- MASTER_EN (R246). -/
def masterEn (s : State) : Bool := nodeCfg s 2 1 == 1

/-- SYNC_HOLD: 0 acts as 1, above 8 as 8 (R272). -/
def syncHold (s : State) : Nat := max 1 (min 8 (nodeCfg s 8 4))

/-- MODE_LEAD: at least SYNC_HOLD + 8 (R256, R272). -/
def modeLead (s : State) : Nat := max (syncHold s + 8) (nodeCfg s 16 8)

/-- Is a slot the node's own: it names the node, or it is slot 0 and the node is the active master (R240, R452)? -/
def ownSlot (s : State) (e : SlotEntry) (slot : Nat) : Bool :=
  if slot = 0 then s.stra.node.master else e.sender == ownId s || (e.sender2 != 0 && e.sender2 == ownId s)

/-- Is a slot used in the running cycle (R240)? -/
def usedNow (s : State) (e : SlotEntry) : Bool := basicCycle s % 2 ^ e.repLog2 == e.phase

/-! ## Bezel (R261 to R264) -/

/-- The Bezel of a channel changed. -/
def State.modBezel (s : State) (ch : ChanId) (f : Bezel → Bezel) : State := s.modChan ch (fun C => { C with bezel := f C.bezel })

/-- A Bezel whose clock runs aligns its cycle origin to an instant in 2^-16 ns (R262, R559). -/
def bezelAlign (ch : ChanId) (origin : Int) (s : State) : State :=
  let start : Int := (basicCycle s * 1000000 * 65536 : Nat)
  s.modBezel ch (fun B => if !B.oscOk then B else { B with aligned := true, hold := 0, blocked := false, ofs := saturate 8 (divFree 3 (origin - start) 163840) })

/-- A block or a truncation: reported, and the third within 16 consecutive cycles latches the Bezel (R263, R264). -/
def bezelHit (ch : ChanId) (s : State) : State :=
  let c := basicCycle s
  let hits := c :: (s.chan ch).bezel.hits.filter (fun h => c < h + 16)
  let s1 := repStr ch 0x1C (s.modBezel ch (fun B => { B with hits := hits }))
  if 3 ≤ hits.length ∧ !(s.chan ch).bezel.latched then repStr ch 0x1D (s1.modBezel ch (fun B => { B with latched := true })) else s1

/-- Does Bezel let an own frame pass (R263, R264)? `bz` is its SOF in the Bezel's own cycle time, in 2.5 ns, and `since` the
Bezel's time since the previous own frame it passed, in µs. -/
def bezelPasses (s : State) (ch : ChanId) (e : SlotEntry) (kind len slot : Nat) (bz : Int) (since : Nat) : Bool :=
  let B := (s.chan ch).bezel
  if B.latched || B.blocked then false
  else if B.aligned then
    let d := (8 * e.len + 40) * 8
    (slot != 0 || masterEn s) && usedNow s e && decide ((2 * e.start : Int) - 48 ≤ bz) && decide (bz ≤ (2 * e.start : Int) + d - 16)
  else (kind == 2 || kind == 3) && len == 4 && 990 ≤ since

/-- BEZEL_TRUNCATION (R263): an own frame still being sent is cut with ABT. -/
def bezelTruncation (ch : ChanId) (s : State) : State :=
  match (s.chan ch).ownUntil with
  | none => s
  | some (_, t) =>
    if s.tim.now < t then
      let p : PortId := if (s.port ch 1).wrapped then 0 else 1
      let s1 := (s.modChan ch (fun C => { C with ownUntil := none })).modPort ch p (fun P => { P with lastAbt := true })
      bezelHit ch (s1.modBezel ch (fun B => { B with truncCnt := B.truncCnt + 1 }))
    else s

/-- BEZEL_TRUNCATION (R263). -/
def execBezelTruncation (chan : ChanId) (s : State) : Host.Outcome State Fault Refusal := actLine (bezelTruncation chan) s

/-- BEZEL_UNALIGNED (R262). -/
def execBezelUnaligned (chan : ChanId) (s : State) : Host.Outcome State Fault Refusal :=
  actLine (fun s => onlyIf (8 ≤ (s.chan chan).bezel.hold) (fun s => s.modBezel chan (fun B => { B with aligned := false })) s) s

/-- A commit of 1 to BZ_CTRL.UNLATCH ends the latch; the module clears the bit (R264, R272). -/
def unlatch (ch : ChanId) (s : State) : State := s.modBezel ch (fun B => { B with latched := false, hits := [] })

/-- UNLATCH (R264). -/
def execUnlatch (chan : ChanId) (s : State) : Host.Outcome State Fault Refusal := act (unlatch chan) s

/-! ## Own frames (R243 to R245, R265) -/

/-- The payload of a REF with its transmit timestamp (R243). -/
def refPayload (s : State) (phase : Fin 8) : List Byte :=
  let n := s.stra.node
  timeBytes (captureTime phase s) ++ leBytes 1 (nodeCfg s 0 2) ++ leBytes 1 (n.actMode + 8 * bit n.pend + 16 * (if n.pend then n.nextMode else 0))
    ++ leBytes 2 s.tim.utcOfs.toNat ++ leBytes 1 (bit s.tim.leapPos + 2 * bit s.tim.leapNeg + 4 * bit s.tim.utcValid) ++ zeros 3
    ++ leBytes 4 (if n.pend then n.switchCycle else 0) ++ leBytes 4 s.cfg.stra.schedId

/-- COLD_SEQ of the COLD frame of this cycle: the COLD frames sent in earlier cycles of the cold start (R244). -/
def coldSeq (s : State) : Nat := (s.stra.node.coldSent.filter (fun c => c != basicCycle s % 2 ^ 32)).length

/-- The payload of a COLD frame (R244). -/
def coldPayload (s : State) : List Byte :=
  zeros 16 ++ leBytes 1 (nodeCfg s 0 2) ++ leBytes 1 (coldSeq s) ++ zeros 10 ++ leBytes 4 s.cfg.stra.schedId

/-- The payload of a MODE frame (R245). -/
def modePayload (q : ModeReq) : List Byte := leBytes 1 q.mode ++ leBytes 1 q.seq ++ zeros 6

/-- What an own slot sends: kind and payload; none where there is nothing to send (R188, R253, R265). -/
def slotContent (s : State) (e : SlotEntry) (slot : Nat) (phase : Fin 8) : Option (Nat × List Byte) :=
  if slot = 0 then some (2, refPayload s phase)
  else if e.kind = 4 then
    match s.stra.node.reqs with
    | q :: _ => if s.stra.node.master then none else some (4, modePayload q)
    | [] => none
  else (tgetD s.stra.tx e.txBuf {}).atStart.map (fun b => (1, b))

/-- An own frame goes out of the forward stream's output, east, or west where the east port is WRAPPED (R222, R223). -/
def sendOwn (ch : ChanId) (slot kind : Nat) (payload : List Byte) (mode : Nat) (phase : Fin 8) (s : State) : State :=
  let turn := (s.port ch 1).wrapped
  let h0 := newHeader kind (nodeId s ch) ch slot mode (basicCycle s) (payload.length / 8)
  let h := if turn then rehead h0 255 1 0 else h0
  let s1 := sendOn ch (if turn then 0 else 1) (h ++ payload ++ frameFcs h payload) false s
  let s2 := s1.modChan ch (fun C => { C with ownUntil := some (slot, s.tim.now + lineTime payload.length) })
  if kind = 2 then bezelAlign ch (captureTime phase s / 2 ^ 24 : Nat) s2
  else if kind = 3 then s2.modNode (fun n => { n with coldSent := nsAdd n.coldSent (basicCycle s % 2 ^ 32) })
  else if kind = 4 then s2.modNode (fun n => { n with reqs := match n.reqs with
    | q :: r => { q with sentIn := some (q.sentIn.getD (basicCycle s)) } :: r
    | [] => [] })
  else s2

/-- An own slot that is not sent (R223, R259). -/
def missOwn (ch : ChanId) (s : State) : State := repStr ch 0x1B (s.modChan ch (fun C => { C with ownMiss := C.ownMiss + 1 }))

/-- An own frame that is due: it waits for no frame on the line and goes through Bezel (R223, R263). -/
def offerOwn (ch : ChanId) (e : SlotEntry) (slot kind : Nat) (payload : List Byte) (mode : Nat) (phase : Fin 8) (bz : Int)
    (since : Nat) (s : State) : State :=
  if s.tim.now < (s.chan ch).fwdUntil then
    missOwn ch (repStr ch 0x8 (s.modChan ch (fun C => { C with collCnt := C.collCnt + 1 })))
  else if bezelPasses s ch e kind (payload.length / 8) slot bz since then sendOwn ch slot kind payload mode phase s
  else
    let s1 := s.modBezel ch (fun B => { B with blockCnt := B.blockCnt + 1 })
    bezelHit ch s1

/-- Slot 0 of every mode (R241). -/
def slotZero : SlotEntry := { start := 0, sender := 0, len := 4, ch := 3, repLog2 := 0, phase := 0, txBuf := 0, kind := 2, sender2 := 0 }

/-- Is an own slot of a SYNCED node due on a channel in this cycle (R240, R250, R452)? -/
def slotDue (s : State) (ch : ChanId) (e : SlotEntry) (slot : Nat) : Bool :=
  ownSlot s e slot && usedNow s e && testBit e.ch ch.val && decide (s.stra.node.ownFrom ≤ basicCycle s) && (e.sender2 == 0 || s.cls.outEn)

/-- An own slot is due on a channel (R250, R259, R265, R452). -/
def ownSlotSend (ch : ChanId) (slot : Nat) (phase : Fin 8) (bz : Int) (since : Nat) (s : State) : State :=
  let n := s.stra.node
  match n.nstate with
  | .coldstart => if slot = 0 then offerOwn ch slotZero 0 3 (coldPayload s) 0 phase bz since s else s
  | .synced =>
    match slotEntry? s n.actMode slot with
    | none => s
    | some e =>
      if slotDue s ch e slot then
        match slotContent s e slot phase with
        | some (k, b) => offerOwn ch e slot k b n.actMode phase bz since s
        | none => s
      else s
  | .silent =>
    match slotEntry? s n.actMode slot with
    | none => s
    | some e => if ownSlot s e slot && usedNow s e && testBit e.ch ch.val then missOwn ch s else s
  | .init | .listen | .integrating | .incompatible => s

/-! ## Node states (R247 to R260) -/

/-- The listen timer's value (R250). -/
def restartListen (s : State) : State := s.modNode (fun n => { n with listenMs := 20 + ownId s })

/-- INIT to LISTEN once a schedule set is loaded and the node ID is 1 to 126 (R250). -/
def enterListen (s : State) : State :=
  if s.stra.node.nstate = .init ∧ modePresent s 0 ∧ 1 ≤ ownId s ∧ ownId s ≤ 126 then
    restartListen (s.modNode (fun n => { n with nstate := .listen }))
  else s

/-- A REF's fields (R243): time in 2^-16 ns, rank, mode, pending switch, UTC fields and SCHED_ID. -/
structure RefFields where
  time : Nat
  rank : Nat
  mode : Nat
  pend : Bool
  next : Nat
  switch : Nat
  utcOfs : Nat
  leap : Nat
  sched : Nat
deriving DecidableEq, Repr

/-- Reads a valid REF (R43, R243). -/
def refFields (d : Delivered) : Option RefFields :=
  let b := d.payload
  if b.length = 32 ∧ nsValid (leAt b 2 4) then
    some { time := (leAt b 6 6 * 1000000000 + leAt b 2 4) * 65536 + leAt b 0 2, rank := byteAt b 16 % 4,
           mode := byteAt b 17 % 8, pend := testBit (byteAt b 17) 3, next := byteAt b 17 / 16 % 8,
           switch := leAt b 24 4, utcOfs := leAt b 18 2, leap := byteAt b 20 % 8, sched := leAt b 28 4 }
  else none

/-- θ of a REF in 2^-16 ns (R55, R226). -/
def refTheta (d : Delivered) (f : RefFields) : Int := (f.time : Int) - d.rxTime + (d.path * 4096 : Nat)

/-- The node takes mode and pending switch from a REF (R250, R260). -/
def takeMode (f : RefFields) (n : Node) : Node :=
  { n with actMode := f.mode, pend := f.pend, nextMode := f.next, switchCycle := f.switch }

/-- The active master that hears a REF of a lower node ID stops (R248). -/
def yieldMaster (s : State) : State := loseMaster (s.modNode (fun n => { n with master := false }))

/-- What every valid REF that is not ignored tells the node (R55, R247, R249, R254). -/
def noteRef (ch : ChanId) (d : Delivered) (f : RefFields) (s : State) : State :=
  let mine := d.cycle = basicCycle s % 2 ^ 32 ∨ s.tim.state = .unset
  let s1 := s.modChan ch (fun C => { C with
    curRef := if d.rxValid then some (refTheta d f) else C.curRef, hadRef := if mine then some d.src else C.hadRef })
  let s2 := s1.modNode (fun n => { n with
    masterId := d.src, masterRnk := f.rank, lastRef := some (f.mode, f.pend, f.next, f.switch, basicCycle s) })
  { s2 with tim := { s2.tim with
      utcOfs := BitVec.ofNat 16 f.utcOfs, leapPos := testBit f.leap 0, leapNeg := testBit f.leap 1, utcValid := testBit f.leap 2 } }

/-- INTEGRATING becomes SYNCED (R250). -/
def integrationComplete (f : RefFields) (s : State) : State :=
  if s.stra.node.nstate = .integrating ∧ s.tim.state = .locked ∧ modePresent s f.mode then
    s.modNode (fun n => { n with nstate := .synced, ownFrom := basicCycle s + 1 })
  else s

/-- A REF by the node's state (R247, R248, R250). -/
def refInState (f : RefFields) (s : State) : State :=
  match s.stra.node.nstate with
  | .listen | .coldstart =>
    if f.sched ≠ s.cfg.stra.schedId then repStr 0 0x14 (s.modNode (fun n => { n with nstate := .incompatible }))
    else s.modNode (fun n => { takeMode f n with nstate := .integrating, integCycles := 0, integSlow := false })
  | .integrating => integrationComplete f (s.modNode (takeMode f))
  | .synced => s.modNode (fun n => { n with pend := f.pend, nextMode := f.next, switchCycle := f.switch })
  | .silent | .init | .incompatible => s

/-- A delivered REF (R247, R248, R262): every one aligns Bezel; an active master ignores one of a higher node ID. -/
def refReceived (ch : ChanId) (d : Delivered) (s : State) : State :=
  match refFields d with
  | none => s
  | some f =>
    let s1 := bezelAlign ch ((d.rxTime : Int) - (d.path * 4096 : Nat)) s
    if s1.stra.node.master ∧ ownId s1 < d.src then s1
    else
      let s2 := if s1.stra.node.master then yieldMaster s1 else s1
      refInState f (noteRef ch d f s2)

/-- Takes the oldest delivered frame of a kind out of a channel's inbox. -/
def takeInbox (ch : ChanId) (kind : Nat) (f : Delivered → State → State) (s : State) : State :=
  match (s.chan ch).inbox.find? (fun d => d.kind == kind) with
  | none => s
  | some d => f d (s.modChan ch (fun C => { C with inbox := C.inbox.erase d }))

/-- REF_RECEIVED (R247). -/
def execRefReceived (chan : ChanId) (s : State) : Host.Outcome State Fault Refusal := actLine (takeInbox chan 2 (refReceived chan)) s

/-- A delivered COLD frame (R250, R252). -/
def coldReceived (d : Delivered) (s : State) : State :=
  let me := ownId s
  if d.src = me then repStr 0 0x18 s
  else
    let differs := leAt d.payload 28 4 ≠ s.cfg.stra.schedId
    match s.stra.node.nstate with
    | .listen =>
      if differs then repStr 0 0x14 (s.modNode (fun n => { n with nstate := .incompatible })) else restartListen s
    | .coldstart =>
      if differs then repStr 0 0x14 (s.modNode (fun n => { n with nstate := .incompatible }))
      else if d.src < me then repStr 0 0x12 (restartListen (s.modNode (fun n => { n with nstate := .listen, yields := n.yields + 1 })))
      else s
    | .init | .integrating | .synced | .silent | .incompatible => s

/-- COLD_RECEIVED (R252). -/
def execColdReceived (chan : ChanId) (s : State) : Host.Outcome State Fault Refusal := actLine (takeInbox chan 3 coldReceived) s

/-- LISTEN_TIMER_EXPIRY (R250). -/
def listenExpiry (s : State) : State :=
  if s.stra.node.nstate ≠ .listen then s
  else if masterEn s then
    repStr 0 0x11 (s.modNode (fun n => { n with nstate := .coldstart, coldStarts := n.coldStarts + 1, coldSent := [] }))
  else restartListen s

/-- LISTEN_TIMER_EXPIRY (R250). -/
def execListenTimerExpiry (s : State) : Host.Outcome State Fault Refusal := actLine listenExpiry s

/-- The node becomes the active time master (R246, R247). -/
def takeMaster (s : State) : State :=
  becomeMaster (s.modNode (fun n => { n with master := true, masterId := ownId s, masterRnk := nodeCfg s 0 2 }))

/-- Sixteen COLD frames have been sent (R250, R251): SYNCED, active master, mode 0, REF from the next cycle; from UNSET the UTC
fields come from the Locket domain (R249). -/
def coldstartComplete (s : State) : State :=
  if s.stra.node.nstate = .coldstart ∧ 16 ≤ s.stra.node.coldSent.length then
    let s1 := if s.tim.state = .unset then { s with tim := { s.tim with
        utcOfs := s.pwr.locketUtcOfs, leapPos := testBit s.pwr.locketLeap.toNat 0, leapNeg := testBit s.pwr.locketLeap.toNat 1,
        utcValid := testBit s.pwr.locketLeap.toNat 2 && clockGood s 14 } } else s
    let s2 := takeMaster s1
    s2.modNode (fun n => { n with nstate := .synced, actMode := 0, pend := false, nextMode := 0, switchCycle := 0, ownFrom := basicCycle s2 + 1 })
  else s

/-- INTEGRATION_SLOW (R250). -/
def execIntegrationSlow (s : State) : Host.Outcome State Fault Refusal :=
  actLine (fun s => onlyIf (s.stra.node.nstate == .integrating && 256 ≤ s.stra.node.integCycles && !s.stra.node.integSlow)
    (fun s => repStr 0 0x17 (s.modNode (fun n => { n with integSlow := true }))) s) s

/-- MASTER_TAKEOVER (R247). -/
def masterTakeover (s : State) : State :=
  let n := s.stra.node
  if masterEn s ∧ !n.master ∧ n.nstate = .synced ∧ 2 + nodeCfg s 0 2 ≤ n.missRun then
    repStr 0 0x13 (takeMaster (s.modNode (fun n => { n with takeovers := n.takeovers + 1 })))
  else s

/-- MASTER_TAKEOVER (R247). -/
def execMasterTakeover (s : State) : Host.Outcome State Fault Refusal := actLine masterTakeover s

/-- MODE_SWITCH (R255). -/
def modeSwitch (s : State) : State :=
  let n := s.stra.node
  if n.nstate = .synced ∧ n.pend ∧ 0 ≤ sdiff 32 (basicCycle s % 2 ^ 32) n.switchCycle then
    repStr 0 0x1A (s.modNode (fun n => { n with actMode := n.nextMode, pend := false, nextMode := 0, switchCycle := 0 }))
  else s

/-- MODE_SWITCH (R255). -/
def execModeSwitch (s : State) : Host.Outcome State Fault Refusal := actLine modeSwitch s

/-- The REF of the current cycle, with its mode and announcement. -/
def currentRef (s : State) : Option (Nat × Bool × Nat × Nat) :=
  match s.stra.node.lastRef with
  | some (m, p, nx, sw, c) => if c = basicCycle s then some (m, p, nx, sw) else none
  | none => none

/-- Is a Bezel of the node latched (R258)? -/
def anyLatched (s : State) : Bool := bothChans.any (fun ch => (s.chan ch).bezel.latched)

/-- The first cause of R258 that holds; 0 for none. -/
def tripCause (s : State) : Nat :=
  let n := s.stra.node
  let far := match n.theta with
    | some t => decide (80 * 65536 < t.natAbs)
    | none => false
  let mode := match currentRef s with
    | some r => r.1 != n.actMode
    | none => false
  if far && !n.master then 1
  else if syncHold s ≤ n.missRun && !n.master then 2
  else if mode then 3
  else if anyLatched s then 4
  else if nodeCfg s 4 1 = 0 then 5
  else 0

/-- The node falls silent (R258, R259). -/
def silence (cause : Nat) (s : State) : State :=
  repStr 0 0x15 (s.modNode (fun n => { n with nstate := .silent, silCause := BitVec.ofNat 3 cause, silCnt := n.silCnt + 1 }))

/-- SYNC_MONITOR_TRIP (R258). -/
def execSyncMonitorTrip (s : State) : Host.Outcome State Fault Refusal :=
  actLine (fun s => onlyIf (s.stra.node.nstate == .synced && tripCause s != 0) (fun s => silence (tripCause s) s) s) s

/-- A commit of TX_EN (R258): 0 silences a SYNCED node with cause 5. -/
def txEnWrite (v : Bool) (s : State) : State :=
  let s1 := regPut s (STR 0 + 0x1000) 4 1 (bit v)
  if !v && s1.stra.node.nstate == .synced then silence 5 s1 else s1

/-- TX_EN_WRITE (R258). -/
def execTxEnWrite (value : Bool) (s : State) : Host.Outcome State Fault Refusal := act (txEnWrite value) s

/-- A silent node resumes (R260). -/
def nodeResume (s : State) : State :=
  match currentRef s with
  | some (m, p, nx, sw) =>
    if s.stra.node.nstate = .silent ∧ s.tim.state = .locked ∧ modePresent s m ∧ !anyLatched s ∧ nodeCfg s 4 1 = 1 ∧
        (s.pwr.pstate = .operational ∨ s.pwr.pstate = .entering) then
      repStr 0 0x16 (s.modNode (fun n => { n with
        nstate := .synced, actMode := m, pend := p, nextMode := nx, switchCycle := sw, ownFrom := basicCycle s + 1 }))
    else s
  | none => s

/-- NODE_RESUME (R260). -/
def execNodeResume (s : State) : Host.Outcome State Fault Refusal := actLine nodeResume s

/-! ## Mode requests (R253, R254, R270) -/

/-- The active master handles a request for a mode (R254). -/
def handleRequest (mode : Nat) (s : State) : State :=
  let s1 := s.modNode (fun n => { n with handled := true })
  if modePresent s mode ∧ !s.stra.node.pend then
    repStr 0 0x19 (s1.modNode (fun n => { n with
      pend := true, nextMode := mode, switchCycle := (basicCycle s + 1 + modeLead s) % 2 ^ 32 }))
  else s1

/-- Delivered MODE frames of both channels, of lowest node ID first. -/
def lowestMode (s : State) : Option Delivered :=
  (bothChans.flatMap (fun ch => (s.chan ch).inbox.filter (fun d => d.kind == 4))).foldl
    (fun m d => match m with
      | some b => if d.src < b.src then some d else some b
      | none => some d) none

/-- MODE_FRAME_RECEIVED (R254): the active master takes the waiting request of the lowest node ID, one per cycle; other nodes
discard MODE frames. -/
def modeFrameReceived (s : State) : State :=
  match lowestMode s with
  | none => s
  | some d =>
    if s.stra.node.master ∧ s.stra.node.handled then s
    else
      let s1 := bothChans.foldl (fun s ch => s.modChan ch (fun C => { C with
        inbox := C.inbox.filter (fun x => !(x.kind == 4 && x.src == d.src)) })) s
      if s1.stra.node.master ∧ s1.stra.node.nstate = .synced then handleRequest (byteAt d.payload 0 % 8) s1 else s1

/-- MODE_FRAME_RECEIVED (R254). -/
def execModeFrameReceived (s : State) : Host.Outcome State Fault Refusal := actLine modeFrameReceived s

/-- The outcome of a request at a node whose announcement state is known (R254, R269). -/
def finishRequest (q : ModeReq) (pend : Bool) (next switch : Nat) (s : State) : State :=
  let s1 := s.modNode (fun n => { n with reqs := n.reqs.erase q })
  if pend && next == q.mode then opDone (Fin.ofNat 64 q.ring) q.tag 0 switch 0 s1
  else opDone (Fin.ofNat 64 q.ring) q.tag 0x84 0 0 s1

/-- The active master handles its own application's request (R253, R254). -/
def ownRequest (q : ModeReq) (s : State) : State :=
  if s.stra.node.handled then s
  else
    let s1 := handleRequest q.mode s
    finishRequest q s1.stra.node.pend s1.stra.node.nextMode s1.stra.node.switchCycle s1

/-- STR_MODE_REQ (R253, R269, R270). -/
def strModeReqOp (r : Fin 64) (d : Desc) (s : State) : State :=
  let mode := field d.paramA 0 3
  if s.stra.node.nstate ≠ .synced ∨ nodeCfg s 3 1 = 0 then opDone r d.tag 0x85 0 0 s
  else if !modePresent s mode then opDone r d.tag 0x83 0 0 s
  else
    let q : ModeReq := { ring := r.val, tag := d.tag, mode := mode, seq := (s.stra.node.reqSeq + 1).toNat }
    let s1 := s.modNode (fun n => { n with reqSeq := n.reqSeq + 1, reqs := n.reqs ++ [q] })
    if s1.stra.node.master then ownRequest q s1 else s1

/-- STR_MODE_REQ: carries out the started operation of a ring. -/
def execStrModeReq (ring : Fin 64) (tag : Fin 1024) (s : State) : Host.Outcome State Fault Refusal :=
  act (fun s =>
    if s.stra.node.reqs.any (fun q => q.ring == ring.val && q.tag == tag.val) then s
    else runOp ring tag 0x12 (strModeReqOp ring) s) s

/-- MODE_REQ_ANSWER (R270): the REF of a cycle after the first sending answers the oldest request; 64 cycles without an answer
end it. -/
def modeReqAnswer (s : State) : State :=
  match s.stra.node.reqs with
  | [] => s
  | q :: _ =>
    if s.stra.node.master then ownRequest q s
    else
      let answered := match s.stra.node.lastRef, q.sentIn with
        | some (_, p, nx, sw, c), some c0 => if c0 < c then some (p, nx, sw) else none
        | _, _ => none
      match answered with
      | some (p, nx, sw) => finishRequest q p nx sw s
      | none =>
        if 64 ≤ q.waited then opDone (Fin.ofNat 64 q.ring) q.tag 0x86 0 0 (s.modNode (fun n => { n with reqs := n.reqs.erase q }))
        else s

/-- MODE_REQ_ANSWER (R270). -/
def execModeReqAnswer (s : State) : Host.Outcome State Fault Refusal := act modeReqAnswer s

/-! ## Transmit buffers and bindings (R265, R268, R269) -/

/-- New content of a transmit buffer (R265). -/
def loadTxBuf (n : Nat) (b : List Byte) (s : State) : State :=
  { s with stra := { s.stra with tx := tset s.stra.tx n { tgetD s.stra.tx n {} with content := some b } } }

/-- STR_SLOT_WRITE (R268, R269): the payload was read when the descriptor was fetched. -/
def strSlotWriteOp (r : Fin 64) (d : Desc) (s : State) : State :=
  runTimed r d 0 0 (fun s => opDone r d.tag 0 0 0 (loadTxBuf (field d.paramA 0 9) d.data s)) s

/-- STR_SLOT_WRITE: carries out the started operation of a ring. -/
def execStrSlotWrite (ring : Fin 64) (tag : Fin 1024) (s : State) : Host.Outcome State Fault Refusal :=
  act (runOp ring tag 0x10 (strSlotWriteOp ring)) s

/-- Is a slot of a mode received on a channel with a payload length (R269)? -/
def slotReceived (s : State) (mode slot : Nat) (ch : Nat) (length : Nat) : Bool :=
  match slotEntry? s mode slot with
  | none => false
  | some e => e.kind == 1 && e.sender != ownId s && e.sender2 != ownId s && testBit e.ch ch && 8 * e.len == length

/-- STR_SLOT_BIND (R268, R269). -/
def strSlotBindOp (r : Fin 64) (d : Desc) (s : State) : State :=
  let b : SlotBind :=
    { slot := field d.paramA 0 9, mode := field d.paramA 9 3, chan := field d.paramA 12 1, item := field d.paramA 16 13,
      src := field d.paramB 0 7, src2 := field d.paramB 8 7, length := d.length }
  let bs := s.stra.binds
  if 4096 ≤ bs.length then opDone r d.tag 0x80 0 0 s
  else if !slotReceived s b.mode b.slot b.chan b.length then opDone r d.tag 0x81 0 0 s
  else if bs.any (fun x => x.mode == b.mode && ((x.slot == b.slot && x.chan == b.chan) || x.item == b.item)) then
    opDone r d.tag 0x82 0 0 s
  else opDone r d.tag 0 bs.length 0 { s with stra := { s.stra with binds := bs ++ [b] } }

/-- STR_SLOT_BIND: carries out the started operation of a ring. -/
def execStrSlotBind (ring : Fin 64) (tag : Fin 1024) (s : State) : Host.Outcome State Fault Refusal :=
  act (runOp ring tag 0x11 (strSlotBindOp ring)) s

/-! ## The end of a basic cycle -/

/-- A port at the end of a basic cycle (R228). -/
def Port.cycleEnd (P : Port) : Port :=
  let P1 := { P with gave := (P.gave ++ [P.gaveNow]).drop ((P.gave.length + 1) - 16), gaveNow := false }
  if P1.meas.isEmpty then P1 else P1.updateDelay

/-- A channel at the end of a basic cycle (R213, R220, R238, R247, R262, R272). -/
def Chan.cycleEnd (C : Chan) : Chan :=
  let B := C.bezel
  { C with
    port := C.port.map Port.cycleEnd, wrapSeen := C.wrapNow, wrapNow := false, repFrame := false, repChmis := false,
    refOk := C.hadRef.isSome, refSrc := C.hadRef.getD C.refSrc, refMiss := if C.hadRef.isSome then C.refMiss else C.refMiss + 1,
    curRef := none, hadRef := none,
    bezel := { B with hold := if B.aligned || 0 < B.hold then satInc 4 B.hold else B.hold } }

/-- The node at the end of a basic cycle (R247, R250, R254, R257). -/
def Node.cycleEnd (n : Node) (hadRef : Bool) (cycle : Nat) : Node :=
  { n with
    cycle := cycle, missRun := if hadRef then 0 else satInc 4 n.missRun,
    integCycles := if n.nstate = .integrating then n.integCycles + 1 else n.integCycles,
    theta := none, measured := false, handled := false, reqs := n.reqs.map (fun q => { q with waited := q.waited + 1 }) }

/-- When module time has entered another basic cycle: the cycle's end and the transmit buffers' contents at the start of the new
one (R239, R265). -/
def cycleTurn (s : State) : State :=
  if basicCycle s = s.stra.node.cycle then s
  else
    let had := bothChans.any (fun ch => (s.chan ch).hadRef.isSome)
    let s1 := { s with stra := { s.stra with
      chan := s.stra.chan.map Chan.cycleEnd, node := s.stra.node.cycleEnd had (basicCycle s),
      tx := s.stra.tx.map (fun e => (e.1, { e.2 with atStart := e.2.content })) } }
    bothChans.foldl (fun s ch => proposeAll ch s) s1

/-- The measurement of a basic cycle (R55): channel A's, or channel B's. The flag says whether time was stepped. -/
def refMeasurement (s : State) : State × Bool :=
  if s.stra.node.measured ∨ s.tim.state = .master then (s, false)
  else
    let pick := match (s.chan 0).curRef, (s.chan 1).curRef with
      | some t, _ => some ((0 : ChanId), t)
      | none, some t => some (1, t)
      | none, none => none
    match pick with
    | some (ch, t) => measure ch t (s.modNode (fun n => { n with measured := true, theta := some t }))
    | none => (missMeasurement (s.modNode (fun n => { n with measured := true })), false)

end Sys2Proof.Machine
end

