-- ==== Sys2Proof/Machine/SafeTransfer.lean ====
section
/-!
DEFINITION. Check-value operations and safe senders (R327 to R331, R334 to R336), arrivals by name (R32), and the sending
instants that report a late wrap: own slots, publications, source ports, routes.
-/

namespace Sys2Proof.Machine

/-! ## Operations (R328 to R331) -/

/-- Feed width in bytes: 1, 2 or 4 (R325, R328). -/
def feedWidth (f : Nat) : Nat := 2 ^ f

/-- Cycles of a unit (R326). -/
def unitCycles (fold n w : Nat) : Nat := 16 + (fold + n + w - 1) / w

/-- The parameters of a check operation (R328). -/
structure ChkParams where
  alg : Nat
  feed : Nat
  noFold : Bool
  dest : Nat
  foldId : Nat
  foldSeq : Nat
deriving DecidableEq, Repr

/-- Reads the parameters of R328. -/
def chkParams (d : Desc) : ChkParams :=
  { alg := field d.paramA 0 2, feed := field d.paramA 2 2, noFold := testBit d.paramA 4, dest := field d.paramA 8 24,
    foldId := d.paramB, foldSeq := d.paramC }

/-- The check value of an operation over data (R325, R328). -/
def chkValue (p : ChkParams) (data : List Byte) : Nat :=
  checkValue p.alg ((if p.noFold then [] else foldBlock p.foldId p.foldSeq) ++ data)

/-- Gives an operation to a RING unit in service; without one it completes with 16#81 (R330, R331). -/
def onRingUnit (r : Fin 64) (u : Fin 16) (d : Desc) (f : State → State) (s : State) : State :=
  match unitFor s 0 with
  | none => opDone r d.tag 0x81 0 0 s
  | some _ =>
    let U := vget s.chk.unit u
    if U.role = 0 ∧ !U.failed then f (countUnit u s) else s

/-- Writes bytes at an exchange-memory offset. -/
def writeAt (off : Nat) (b : List Byte) (s : State) : State := { s with mem := memWrite s.mem off b }

/-- CHK_COMPUTE and CHK_APPEND (R328, R330). -/
def chkComputeOp (append : Bool) (r : Fin 64) (u : Fin 16) (d : Desc) (s : State) : State :=
  onRingUnit r u d (fun s =>
    let p := chkParams d
    let data := readBuffer s d.addr d.length
    let v := chkValue p data
    let s1 := if append then writeAt p.dest (data ++ leBytes (checkLen p.alg) v) s else s
    opDone r d.tag 0 (unitCycles (if p.noFold then 0 else 8) d.length (feedWidth p.feed)) v s1) s

/-- CHK_COMPUTE; the unit is the free RING unit that engine 5 passes the operation to (R331). -/
def execChkCompute (ring : Fin 64) (tag : Fin 1024) (unit : Fin 16) (s : State) : Host.Outcome State Fault Refusal :=
  act (runOp ring tag 0x82 (chkComputeOp false ring unit)) s

/-- CHK_APPEND. -/
def execChkAppend (ring : Fin 64) (tag : Fin 1024) (unit : Fin 16) (s : State) : Host.Outcome State Fault Refusal :=
  act (runOp ring tag 0x80 (chkComputeOp true ring unit)) s

/-- CHK_CHECK_STRIP (R328, R330). -/
def chkStripOp (r : Fin 64) (u : Fin 16) (d : Desc) (s : State) : State :=
  onRingUnit r u d (fun s =>
    let p := chkParams d
    let c := checkLen p.alg
    let n := d.length - c
    let bytes := readBuffer s d.addr d.length
    let data := bytes.take n
    let v := chkValue p data
    if ofLe (bytes.drop n) = v then opDone r d.tag 0 n v (writeAt p.dest data s)
    else rep 0x2C07 (opDone r d.tag 0x80 0 v s)) s

/-- CHK_CHECK_STRIP. -/
def execChkCheckStrip (ring : Fin 64) (tag : Fin 1024) (unit : Fin 16) (s : State) : Host.Outcome State Fault Refusal :=
  act (runOp ring tag 0x81 (chkStripOp ring unit)) s

/-- UNIT_SELF_TEST (R327); `ok` says that every reference vector came out right at every feed width. -/
def execUnitSelfTest (unit : Fin 16) (ok : Bool) (s : State) : Host.Outcome State Fault Refusal :=
  act (fun s =>
    let s1 := { s with chk := { s.chk with unit := vmod s.chk.unit unit (fun U => { U with stOk := ok, failed := U.failed || !ok }) } }
    if ok then s1 else rep 0x2C06 s1) s

/-! ## Safe senders (R334 to R336) -/

/-- The safe sender of an output item. -/
def senderOf (s : State) (item : Nat) : Option (Nat × SafeSendCfg) := s.cfg.chk.senders.find? (fun e => e.2.outItem == item)

/-- A released item of a safe sender is wrapped, or its wrap is late for want of a SEND unit (R335, R336). Answers what the
engine's buffer takes. -/
def wrapRelease (s : State) (item : Nat) (value : List Byte) : Option (List Byte) × State :=
  match senderOf s item with
  | none => (some value, s)
  | some (n, c) =>
    let put (x : SendSt) (s : State) : State := { s with chk := { s.chk with send := tset s.chk.send n x } }
    match unitFor s 1 with
    | none => (none, put { tgetD s.chk.send n {} with late := true } s)
    | some u =>
      let seq := s.tick % 2 ^ 32
      (some (container c.safeId c.alg c.ulen seq value), put { lastSeq := seq } (countUnit u s))

/-- A late wrap of an item's sender is counted and reported (R336). -/
def noteLate (s : State) (o : OutItemCfg) : State :=
  match senderOf s o.item with
  | none => s
  | some (n, _) =>
    let x := tgetD s.chk.send n {}
    if x.late then
      rep 0x2C05 { s with chk := { s.chk with
        wrapLate := s.chk.wrapLate + 1, send := tset s.chk.send n { x with late := false } } }
    else s

/-- At a send instant of a destination: a late wrap is counted and reported, once for each release (R336). -/
def reportLate (dest : OutDest) (s : State) : State :=
  (s.cfg.cyc.outItems.filter (fun o => decide (o.dest = dest))).foldl noteLate s

/-- OWN_SLOT_SEND (R265): `bz` is the frame's SOF in the Bezel's own cycle time, in 2.5 ns, `since` the Bezel's time since the
previous own frame it passed, in µs. -/
def execOwnSlotSend (chan : ChanId) (slot : Fin 512) (phase : Fin 8) (bz : Int) (since : Nat) (s : State) :
    Host.Outcome State Fault Refusal :=
  actLine (fun s =>
    let s1 := match slotEntry? s s.stra.node.actMode slot.val with
      | some e => if e.kind = 1 ∧ s.stra.node.nstate = .synced ∧ slotDue s chan e slot.val then reportLate (.txBuf e.txBuf) s else s
      | none => s
    ownSlotSend chan slot.val phase bz since s1) s

/-- PD_PUBLICATION_SEND (R281). -/
def execPdPublicationSend (pub : Fin 512) (s : State) : Host.Outcome State Fault Refusal :=
  act (fun s =>
    let due := match tget? s.cfg.eth.pubs pub.val with
      | some c => pdDue s pub.val c
      | none => false
    pdSend pub.val (onlyIf due (reportLate (.pd pub.val)) s)) s

/-- MVB_MASTER_FRAME (R289): it is a configured source port's send instant. -/
def execMvbMasterFrame (addr : BitVec 12) (s : State) : Host.Outcome State Fault Refusal :=
  act (fun s => mvbMasterFrame addr.toNat
    (onlyIf (mvbAnswers s && (tget? s.cfg.mvb.src addr.toNat).isSome) (reportLate (.mvb addr.toNat)) s)) s

/-- LATEST_VALUE_WRITE (R308): a due transfer is the route's send instant. -/
def execLatestValueWrite (route : Fin 256) (answers : List BusAnswer) (s : State) : Host.Outcome State Fault Refusal :=
  act (fun s => latestWrite route.val answers
    (onlyIf (routeDue s route.val 3 s.tick).isSome (reportLate (.route route.val)) s)) s

/-! ## Arrivals (R32) -/

/-- ITEM_ARRIVAL (R32, R180, R338): an engine, by its receive role of R323, writes an arrival; `crossing` says that the burst is
still in progress at the next tick event. -/
def execItemArrival (role : Fin 8) (item : Fin 8192) (valid : Bool) (engBits : BitVec 8) (rxTs : DWord) (payload : List Byte) (crossing : Bool)
    (s : State) : Host.Outcome State Fault Refusal :=
  act (fun s =>
    let s1 := arriveFrom role.val item.val ⟨valid, engBits, rxTs, payload⟩ s
    if crossing ∧ (inItem? s1 item.val).isSome then
      let cell := tgetD s1.cyc.items item.val {}
      { s1 with cyc := { s1.cyc with items := tset s1.cyc.items item.val { cell with inBurst := true } } }
    else s1) s

end Sys2Proof.Machine
end

