-- ==== Sys2Proof/Machine/RegRead.lean ====
section
/-!
DEFINITION. What a lane reads from the registers (R36, R37, R39, R75, R105, R138, R168, R169, R238, R272, R294, R322, R343, R375, R401,
R434, R458, R477, R518, R545, R561, R575), and what a read does beside: latching and the removal of a timestamp record.
-/

namespace Sys2Proof.Machine

/-- The writable bits of a register as a lane sees them (R16). -/
def tableWord (s : State) (l : LaneId) (a : Nat) : Word :=
  match regRow? a with
  | some r => match r.access with
    | .vrw => regGet s a
    | .rw => (s.lane l).reg a
  | none => 0

/-- The low and high words of a 64-bit value. -/
def loWord (n : Nat) : Word := BitVec.ofNat 32 n
/-- Bits 63 to 32 of a 64-bit value. -/
def hiWord (n : Nat) : Word := BitVec.ofNat 32 (n / 2 ^ 32)

/-! ## TIM and SYS -/

/-- The RO words of the TIM block (R75). -/
def timRead (s : State) (l : LaneId) (off : Nat) : Word :=
  let T := s.tim
  let L := (s.lane l).latch
  match off with
  | 0x00 => packW [(3, T.state.code), (1, bit T.refusing), (1, bit T.stepHeld), (1, T.srcCh.toNat)]
  | 0x10 => packW [(16, T.now % nsUnits / 2 ^ 24)]
  | 0x14 => packW [(30, L.timNs.toNat)]
  | 0x18 => L.timSecLo
  | 0x1C => packW [(16, L.timSecHi.toNat)]
  | 0x20 => loWord s.tick
  | 0x24 => L.timTickHi
  | 0x28 => packW [(16, T.utcOfs.toNat), (1, bit T.leapPos), (1, bit T.leapNeg), (1, bit T.utcValid)]
  | 0x2C => BitVec.ofInt 32 T.rate
  | 0x30 => BitVec.ofInt 32 T.offset
  | 0x34 => BitVec.ofInt 32 T.refusedOfs
  | 0x38 => packW [(16, T.refuseCnt.toNat), (16, T.missCnt.toNat)]
  | 0x3C => T.skip
  | 0x100 => packW [(5, (vget T.txq 0).entries.length), (11, 0), (16, (vget T.txq 0).lostCnt.toNat)]
  | 0x104 => packW [(16, (vget T.txq 0).lostId.toNat)]
  | 0x110 => packW [(5, (vget T.txq 1).entries.length), (11, 0), (16, (vget T.txq 1).lostCnt.toNat)]
  | 0x114 => packW [(16, (vget T.txq 1).lostId.toNat)]
  | _ => 0

/-- The RO words of the SYS block (R39, R561, R575). -/
def sysRead (s : State) (l : LaneId) (off : Nat) : Word :=
  match off with
  | 0x00 => 0x2D44575A
  | 0x04 => 0x30303133
  | 0x08 => packW [(8, s.otp.issue.toNat), (8, 0), (16, s.otp.week.toNat)]
  | 0x0C => loWord s.otp.serial.toNat
  | 0x10 => packW [(8, s.otp.serial.toNat / 2 ^ 32)]
  | 0x14 => packW [(5, s.otp.lifeN.toNat)]
  | 0x80 => packW [(1, bit (programRuns s)), (1, bit (cfgActive s)), (1, bit (stationRole s)), (3, s.cls.role.code), (1, bit s.cls.outEn),
      (2, s.vot.mode.code), (3, s.tim.state.code), (1, bit s.pwr.warn), (1, bit (faultPin s)), (1, bit (s.cyc.swap == .trial)),
      (1, bit s.trust.bankB)]
  | 0x84 => loWord s.cyc.progTick
  | 0x88 => (s.lane l).latch.sysProgHi
  | 0x100 => packW [(1, bit s.cross.fabLost), (15, domainMask s XDom.clkOk / 2), (1, 0), (15, domainMask s XDom.clkLost / 2)]
  | 0x200 => packW [(1, bit (faultPin s)), (1, bit s.flt.pinLatch), (1, bit s.flt.yieldPend), (13, 0), (16, s.flt.lastCode.toNat)]
  | 0x204 => packW [(16, s.flt.reports.toNat), (16, s.flt.suppressed.toNat)]
  | 0x20C =>
    let item := s.cfg.flt.faultItem
    packW [(3, (item.map Prod.snd).getD 0), (1, bit item.isSome), (9, s.cfg.flt.reactions.length), (3, 0), (13, (item.map Prod.fst).getD 0)]
  | 0x214 =>
    let code := ((s.lane l).reg (SYS + 0x210)).toNat % 65536
    packW [(4, tgetD s.cfg.flt.reactions code 0), (12, 0), (16, (tgetD s.flt.cls code 0).toNat)]
  | _ =>
    if 0x20 ≤ off ∧ off < 0x40 then BitVec.ofNat 32 (leAt s.otp.idKey (off - 0x20) 4)
    else if 0x118 ≤ off ∧ off < 0x190 then
      let x := vget s.cross.dom (Fin.ofNat 16 ((off - 0x110) / 8))
      if off % 8 = 0 then packW [(1, bit x.merged), (1, bit x.stall), (1, bit x.lost), (5, 0), (8, x.accPeak)]
      else packW [(8, x.mergeCnt), (8, x.stallCnt.toNat), (16, x.lostCnt.toNat)]
    else 0

/-! ## LANE, VOT and RNG -/

/-- The interrupt snapshot at a core's read position (R83). -/
def snapshotOf (L : Lane) (c : CoreId) : BitVec 32 × BitVec 9 :=
  L.snaps.getD (L.snaps.length - 1 - (vget L.cores c).lag) (0, 0)

/-- The record at the head of a timestamp queue, as 16 bytes (R67). -/
def tsuHead (q : TsuInput) : List Byte :=
  match q.queue with
  | r :: _ =>
    leBytes 8 r.ts.toNat ++ leBytes 1 (r.input + 8 * bit r.rise + 16 * bit r.gap) ++ zeros 1 ++ leBytes 2 r.cnt.toNat ++ zeros 4
  | [] => zeros 16

/-- The RO words of the LANE block (R105). -/
def laneBlockRead (s : State) (l : LaneId) (c : CoreId) (off : Nat) : Word :=
  let L := s.lane l
  let lagA := (vget L.cores 0).lag
  let lagB := (vget L.cores 1).lag
  match off with
  | 0x00 => packW [(2, l.val), (6, 0), (1, c.val)]
  | 0x04 => packW [(3, L.state.code), (1, 0), (3, max lagA lagB - min lagA lagB), (1, 0), (12, L.release.length)]
  | 0x08 => packW [(1, bit L.forceSafe)]
  | 0x10 => packW [(3, L.misKind.toNat), (1, 0), (4, L.misTask.toNat), (12, L.misEntry.toNat)]
  | 0x14 => loWord L.misAddr.toNat
  | 0x18 => hiWord L.misAddr.toNat
  | 0x20 => loWord L.digA.toNat
  | 0x24 => hiWord L.digA.toNat
  | 0x28 => loWord L.digB.toNat
  | 0x2C => hiWord L.digB.toNat
  | 0x30 => packW [(4, L.digTask.toNat), (28, L.digInst.toNat)]
  | 0x38 => packW [(8, 0), (23, L.scrubPos)]
  | 0x3C => packW [(1, bit L.keyValid), (7, 0), (8, L.keyGen.toNat)]
  | 0x44 => packW [(9, (snapshotOf L c).2.toNat)]
  | 0x4C => (snapshotOf L c).1
  | 0x50 => packW [(16, L.eccCorr.toNat), (16, L.eccUncorr.toNat)]
  | _ =>
    if 0x200 ≤ off ∧ off < 0x300 then
      let q := vget L.tsu (Fin.ofNat 8 ((off - 0x200) / 0x20))
      let k := (off - 0x200) % 0x20
      if k = 0 then packW [(7, q.queue.length), (9, 0), (16, q.edgeCnt.toNat)]
      else if 0x10 ≤ k then BitVec.ofNat 32 (leAt (tsuHead q) (k - 0x10) 4)
      else 0
    else 0

/-- The RO words of the VOT block (R138). -/
def votRead (s : State) (off : Nat) : Word :=
  let V := s.vot
  let R := V.reint
  match off with
  | 0x00 => packW [(3, V.counted.toNat), (1, 0), (2, V.mode.code), (2, 0), (1, bit V.modFault)]
  | 0x0C => packW [(3, V.evKind.toNat), (1, bit V.evRt), (2, V.evLane.toNat), (2, 0), (4, V.evTask.toNat), (11, V.evIndex.toNat)]
  | 0x10 => packW [(16, V.evKey.toNat)]
  | 0x14 => loWord V.evAddr.toNat
  | 0x18 => hiWord V.evAddr.toNat
  | 0x1C => packW [(10, V.votes.length), (6, 0), (10, V.peak)]
  | 0x20 => packW [(2, R.target.val), (3, R.phase.code), (2, R.srcCode.val), (2, R.srcState.val), (7, R.round), (16, R.joined.toNat)]
  | 0x24 => packW [(23, R.lines)]
  | 0x28 => packW [(16, R.lastMs), (16, R.worstMs)]
  | 0x60 => packW [(4, V.stepOk.toNat), (1, bit V.testDone), (1, bit V.testFail)]
  | _ =>
    if 0x30 ≤ off ∧ off < 0x60 then
      let l : LaneId := Fin.ofNat 3 ((off - 0x30) / 0x10)
      let v := vget V.lanes l
      let waiting := V.votes.filter (fun x => x.committed && countedFor s l x.key && !x.props.any (fun p => p.1 == l.val))
      match (off - 0x30) % 0x10 with
      | 0 => packW [(2, v.vstate.code), (2, min 3 (recentFails s l)), (1, bit v.pairOk), (11, 0), (10, waiting.length)]
      | 4 => packW [(16, v.lateCnt.toNat), (16, v.dissentCnt.toNat)]
      | _ => 0
    else 0

/-- The words of a ring's registers, in their order (R168, R169). -/
def ringWord (R : Ring) (k : Nat) : Word :=
  match k with
  | 0 => packW [(24, R.sqBase)]
  | 1 => packW [(24, R.cqBase)]
  | 2 => packW [(1, bit R.en), (4, R.sizeLog2), (3, 0), (4, R.engine), (5, R.owner), (7, 0), (8, R.creditCfg)]
  | 3 => packW [(10, R.tagBase), (6, 0), (11, R.tagCount)]
  | 4 => packW [(16, R.prod.toNat)]
  | 5 => packW [(16, R.head.toNat)]
  | 6 => packW [(16, R.cons.toNat), (3, R.state.code)]
  | 7 => packW [(16, R.cp.toNat), (16, R.cpLatch.toNat)]
  | _ => 0

/-- The ring whose registers stand at an offset of the RNG block in a lane's view, and the register's place (R168, R169). -/
def ringReg (l : LaneId) (off : Nat) : Option (Fin 64 × Nat) :=
  let k := off % 0x20 / 4
  if 0x1000 ≤ off ∧ off < 0x1400 then some (Fin.ofNat 64 ((off - 0x1000) / 0x20), k)
  else if 0x2000 ≤ off ∧ off < 0x2140 then some (Fin.ofNat 64 (32 + 10 * l.val + (off - 0x2000) / 0x20), k)
  else if 0x3000 ≤ off ∧ off < 0x3040 then some (Fin.ofNat 64 (62 + (off - 0x3000) / 0x20), k)
  else none

/-- Busy tags of all rings (R158). -/
def inFlight (s : State) : Nat := allRings.foldl (fun n r => n + (s.ringAt r).busy.length) 0

/-- The RO words of the RNG block and every ring's registers (R168, R169). -/
def rngRead (s : State) (l : LaneId) (off : Nat) : Word :=
  let G := s.rng
  match ringReg l off with
  | some (r, k) => ringWord (s.ringAt r) k
  | none =>
    if off = 0 then packW [(11, inFlight s), (5, 0), (11, G.peak)]
    else if off = 4 then packW [(6, G.errRing.toNat), (2, 0), (8, G.errStatus.toNat), (16, G.errIndex.toNat)]
    else if off = 8 then packW [(16, G.errCnt.toNat)]
    else if 0x100 ≤ off ∧ off < 0x148 ∧ off % 8 = 4 then
      let e := vget G.eng (Fin.ofNat 9 ((off - 0x100) / 8))
      packW [(7, min 125 e.busyUs), (9, 0), (16, e.overrunCnt.toNat)]
    else 0

/-! ## STRA and STRB -/

/-- A signed tap as a byte (R238). -/
def tapByte (v : Int) : Nat × Nat := (8, unsigned 8 v)

/-- A port's RO words by offset from its first register (R238). -/
def portRead (P : Port) (k : Nat) : Word :=
  match k with
  | 0x04 => packW [(3, P.lstate.code), (1, bit P.los), (1, bit P.sync), (1, bit P.rfiRx), (3, P.cause.toNat), (7, 0), (16, P.upCnt.toNat)]
  | 0x08 => packW [(16, P.cgErr.toNat), (16, P.syncLoss.toNat)]
  | 0x0C => packW [(16, P.hcrcErr.toNat), (16, P.fcsErr.toNat)]
  | 0x10 => packW [(16, P.dly.toNat), (1, bit P.dlyValid), (1, bit P.rangeErr), (5, P.nvalid)]
  | 0x14 => packW [(4, P.boost.toNat), (2, P.astate.code)]
  | 0x18 => packW [tapByte (P.taps.get 0), tapByte (P.taps.get 1), tapByte (P.taps.get 2), tapByte (P.taps.get 3)]
  | 0x1C => packW [tapByte (P.taps.get 4)]
  | 0x20 => packW [(8, P.eyeH.toNat), (8, P.eyeW.toNat), (1, bit P.low)]
  | _ => 0

/-- A slot entry as 16 bytes (R240). -/
def slotBytes (e : SlotEntry) : List Byte :=
  leBytes 4 (pack [(18, e.start), (7, e.sender)]) ++ leBytes 2 (pack [(7, e.len), (2, e.ch), (4, e.repLog2)]) ++ leBytes 2 e.phase
    ++ leBytes 2 e.txBuf ++ leBytes 1 e.kind ++ leBytes 1 e.sender2 ++ zeros 4

/-- The slot entry a lane has selected; zero for an absent mode or entry (R272). -/
def selectedSlot (s : State) (l : LaneId) (ch : ChanId) : List Byte :=
  let sel := ((s.lane l).reg (STR ch + 0x1030)).toNat
  let mode := field sel 9 3
  let slot := field sel 0 9
  match slotEntry? s mode slot with
  | some e => slotBytes e
  | none => if slot = 0 ∧ modePresent s mode then slotBytes slotZero else zeros 16

/-- The RO words of STRA and STRB (R238, R272); node registers read the same in both. -/
def strRead (s : State) (l : LaneId) (ch : ChanId) (off : Nat) : Word :=
  let C := s.chan ch
  let n := s.stra.node
  let B := C.bezel
  match off with
  | 0x0004 => packW [(1, bit (vget C.port 0).wrapped), (1, bit (vget C.port 1).wrapped), (1, bit (closing s ch 0)), (1, bit (closing s ch 1)),
      (1, bit C.wrapSeen), (11, 0), (16, C.closeCyc.toNat)]
  | 0x0008 => packW [(16, C.wrapCnt.toNat), (16, C.unwrapCnt.toNat)]
  | 0x000C => packW [(16, C.healLast.toNat), (16, C.healWorst.toNat)]
  | 0x0010 => packW [(16, C.collCnt.toNat), (16, C.hopsCnt.toNat)]
  | 0x0014 => packW [(16, C.dupCnt.toNat), (16, C.chmisCnt.toNat)]
  | 0x1000 => regGet s (STR 0 + 0x1000)
  | 0x1004 => packW [(3, n.nstate.code), (1, bit n.master), (3, n.actMode), (1, bit n.pend), (3, n.nextMode), (1, 0), (7, n.masterId),
      (2, n.masterRnk), (3, n.silCause.toNat)]
  | 0x1008 => BitVec.ofNat 32 (if n.pend then n.switchCycle else 0)
  | 0x100C => BitVec.ofNat 32 s.cfg.stra.schedId
  | 0x1010 => packW [(16, n.silCnt.toNat), (4, n.missRun)]
  | 0x1014 => packW [(8, n.coldStarts.toNat), (8, n.yields.toNat), (8, n.takeovers.toNat)]
  | 0x1018 => packW [(1, bit C.refOk), (7, C.refSrc), (8, 0), (16, C.refMiss.toNat)]
  | 0x101C => packW [(16, C.ownMiss.toNat), (16, C.modeMis.toNat)]
  | 0x1020 => packW [(1, bit B.aligned), (1, bit B.latched), (1, bit B.oscOk), (5, 0), (8, unsigned 8 B.ofs), (4, B.hold)]
  | 0x1024 => packW [(16, B.truncCnt.toNat), (16, B.blockCnt.toNat)]
  | _ =>
    if 0x1034 ≤ off ∧ off < 0x1044 then BitVec.ofNat 32 (leAt (selectedSlot s l ch) (off - 0x1034) 4)
    else if 0x100 ≤ off ∧ off < 0x140 then portRead (vget C.port 0) (off - 0x100)
    else if 0x140 ≤ off ∧ off < 0x180 then portRead (vget C.port 1) (off - 0x140)
    else 0

/-! ## ETH, MVB, COL and CHK -/

/-- The RO words of the ETH block (R294). -/
def ethRead (s : State) (off : Nat) : Word :=
  if 0x100 ≤ off ∧ off < 0x180 then
    let P := s.ethPort (Fin.ofNat 2 ((off - 0x100) / 0x40))
    match (off - 0x100) % 0x40 with
    | 0x04 => packW [(1, bit P.link), (2, P.speed.toNat), (1, 0), (4, P.ptpState.toNat), (8, 0), (16, P.linkCnt.toNat)]
    | 0x0C => packW [(16, P.rxFrames.toNat), (16, P.rxDrop.toNat)]
    | 0x10 => packW [(16, P.fcsErr.toNat), (16, P.seqGap.toNat)]
    | _ => 0
  else 0

/-- The RO words of the MVB block (R294). -/
def mvbRead (s : State) (off : Nat) : Word :=
  let M := s.mvb
  match off with
  | 0x04 => packW [(1, bit M.lineA), (1, bit M.lineB), (1, bit M.master), (13, 0), (12, M.masterAddr.toNat)]
  | 0x08 => packW [(16, M.frameErr.toNat), (16, M.noReply.toNat)]
  | 0x0C => packW [(16, M.gained.toNat), (16, M.lostCnt.toNat)]
  | _ => 0

/-- A route entry as 16 bytes (R303). -/
def routeBytes (e : RouteEntry) : List Byte :=
  leBytes 4 e.waddr ++ leBytes 4 e.rlen
    ++ leBytes 1 (pack [(3, e.kind), (1, bit e.rd), (1, bit e.wr), (1, bit e.wrNp), (2, e.inswap)]) ++ leBytes 1 e.xferPlog2
    ++ leBytes 2 e.outItem ++ leBytes 2 e.ofs ++ zeros 2

/-- The RO words of the COL block (R322). -/
def colRead (s : State) (l : LaneId) (off : Nat) : Word :=
  let C := s.col
  match off with
  | 0x04 => packW [(7, C.posted.length), (1, 0), (1, bit C.wrEn), (1, bit C.bpRst), (1, 0)]
  | 0x0C => C.nextSeq
  | 0x10 => C.perrA
  | 0x14 => loWord C.perrB.toNat
  | 0x18 => hiWord C.perrB.toNat
  | 0x1C => packW [(16, C.perrCnt.toNat), (16, C.lostCnt.toNat)]
  | 0x20 => packW [(16, C.xingCnt.toNat), (16, C.holdTmoCnt.toNat)]
  | 0x24 => packW [(16, C.lvFailCnt.toNat), (16, C.lvOvrCnt.toNat)]
  | _ =>
    if 0x34 ≤ off ∧ off < 0x44 then
      match tget? s.cfg.col.routes (((s.lane l).reg (COL + 0x30)).toNat % 2 ^ 14) with
      | some e => BitVec.ofNat 32 (leAt (routeBytes e) (off - 0x34) 4)
      | none => 0
    else if 0x100 ≤ off ∧ off < 0x180 ∧ off % 8 = 4 then
      let w := vget C.win (Fin.ofNat 16 ((off - 0x100) / 8))
      packW [(16, w.errCnt.toNat), (16, w.txnCnt.toNat)]
    else 0

/-- A safe sender's entry (R334). -/
def senderBytes (c : SafeSendCfg) : List Byte :=
  leBytes 4 c.safeId ++ leBytes 2 c.outItem ++ leBytes 2 c.ulen ++ leBytes 1 c.alg ++ zeros 7

/-- A safe receiver's entry (R337). -/
def receiverBytes (c : SafeRecvCfg) : List Byte :=
  leBytes 4 c.safeId ++ leBytes 2 c.itemA ++ leBytes 2 c.itemB ++ leBytes 2 c.safeItem ++ leBytes 2 c.ulen ++ leBytes 2 c.maxDelay
    ++ leBytes 1 (bit c.strict + 2 * c.alg) ++ zeros 1

/-- The RO words of the CHK block (R343). -/
def chkRead (s : State) (l : LaneId) (off : Nat) : Word :=
  let C := s.chk
  let sel := ((s.lane l).reg (CHK + 0x10)).toNat
  let index := field sel 0 10
  let isSend := testBit sel 10
  let R := tgetD C.recv index {}
  match off with
  | 0x00 =>
    let failed := ((List.range 16).filter (fun u => (vget C.unit (Fin.ofNat 16 u)).failed)).foldl (fun n u => n + 2 ^ u) 0
    packW [(16, 0), (16, failed)]
  | 0x04 => packW [(16, C.checkFail.toNat), (16, C.diffCnt.toNat)]
  | 0x08 => packW [(16, C.seqRej.toNat), (16, C.wrapLate.toNat)]
  | 0x24 => BitVec.ofNat 32 (if isSend then (tgetD C.send index {}).lastSeq else R.last.getD 0)
  | 0x28 => if isSend then 0 else packW [(16, R.accCnt.toNat), (16, R.diffCnt.toNat)]
  | 0x2C => if isSend then 0 else packW [(16, R.failA.toNat), (16, R.failB.toNat)]
  | _ =>
    if 0x14 ≤ off ∧ off < 0x24 then
      let b := if isSend then ((tget? s.cfg.chk.senders index).map senderBytes).getD (zeros 16)
        else ((tget? s.cfg.chk.receivers index).map receiverBytes).getD (zeros 16)
      BitVec.ofNat 32 (leAt b (off - 0x14) 4)
    else if 0x100 ≤ off ∧ off < 0x180 ∧ off % 8 = 4 then
      let u := vget C.unit (Fin.ofNat 16 ((off - 0x100) / 8))
      packW [(16, u.ops.toNat), (1, bit u.stOk)]
    else 0

/-! ## REC, CFG, SIG and PWR -/

/-- The RO words of the REC block (R477). -/
def recRead (s : State) (l : LaneId) (off : Nat) : Word :=
  let d := s.rcd
  let L := (s.lane l).latch
  match off with
  | 0x00 => packW [(13, d.staged.length), (1, bit d.flushing), (1, bit (decide (permCap ≤ d.perm.length))), (1, bit d.circWrap), (1, bit d.losing)]
  | 0x08 => loWord d.next
  | 0x0C => L.recNextHi
  | 0x10 => loWord d.flushed
  | 0x14 => L.recFlushedHi
  | 0x18 => loWord d.oldest
  | 0x1C => L.recOldestHi
  | 0x20 => loWord d.fmt
  | 0x24 => L.recFmtHi
  | 0x28 => packW [(16, d.flushCnt.toNat), (16, d.appRefused.toNat)]
  | 0x2C => packW [(16, d.lostCnt.toNat), (16, d.nandErr.toNat)]
  | _ => 0

/-- A slot's state as bits (R518). -/
def SlotState.code : SlotState → Nat
  | .empty => 0 | .loaded => 1 | .active => 2 | .previous => 3 | .invalid => 4

/-- The RO words of the CFG block (R518). -/
def cfgRead (s : State) (off : Nat) : Word :=
  let T := s.trust
  let act := slotIn s .active
  let prev := slotIn s .previous
  let cont := (activeCont s).getD []
  match off with
  | 0x00 => packW [(3, act.getD 0), (1, bit act.isSome), (3, prev.getD 0), (1, bit prev.isSome), (1, bit T.migratedRun),
      (1, bit (stationRole s)), (1, bit T.cfgFault)]
  | 0x04 => T.actCnt
  | 0x08 => BitVec.ofNat 32 (if act.isSome then contVersion cont else 0)
  | 0x0C => packW [(8, if act.isSome then contFmt cont else 0), (8, (formats s).1), (8, (formats s).2)]
  | 0x10 => packW [(8, T.faultCause.toNat), (3, T.faultSlot.toNat)]
  | 0x50 => packW [(1, bit (!T.ucalQueue.isEmpty)), (2, T.ucalLast.toNat), (13, 0), (13, T.ucal.length)]
  | _ =>
    if 0x20 ≤ off ∧ off < 0x40 then BitVec.ofNat 32 (leAt (cfgDigest s) (off - 0x20) 4)
    else if 0x100 ≤ off ∧ off < 0x140 then
      let x := cfgSlot s ((off - 0x100) / 8)
      if off % 8 = 0 then packW [(3, x.state.code), (5, 0), (8, contFmt x.cont), (8, contMinSvn x.cont)]
      else BitVec.ofNat 32 (contVersion x.cont)
    else 0

/-- A firmware bank's container, empty where the bank holds none. -/
def bankCont (s : State) (b : Bool) : List Byte := (vget s.trust.banks (if b then 1 else 0)).getD []

/-- The RO words of the SIG block (R518). -/
def sigRead (s : State) (off : Nat) : Word :=
  let T := s.trust
  let other := bankCont s (!T.bankB)
  match off with
  | 0x00 => packW [(5, s.otp.lifeN.toNat), (3, (lifecycle s).code), (1, bit T.bankB), (1, bit (T.trial == some T.bankB)), (1, bit T.pref),
      (2, T.trialLeft.toNat), (1, bit T.rngOk), (1, bit T.session.isSome)]
  | 0x04 => packW [(8, T.secVer), (8, contSvn (bankCont s T.bankB)), (8, contSvn other),
      (1, bit (!other.isEmpty && containerReason s other == 0 && contType other == 1))]
  | 0x08 => BitVec.ofNat 32 (contVersion (bankCont s false))
  | 0x0C => BitVec.ofNat 32 (contVersion (bankCont s true))
  | 0x10 =>
    let revoked := ((List.range 4).filter (fun i => (T.vendor.toList.getD i {}).revoked)).foldl (fun n i => n + 2 ^ i) 0
    packW [(4, revoked), (3, ownerSlot s), (1, bit (lifecycle s == .owned)), (5, if cfgActive s then s.cfg.trust.keys.length else 0)]
  | 0x14 => packW [(16, T.verifyFail.toNat), (16, T.utmusRej.toNat)]
  | _ => 0

/-- PSTATE as bits (R545): 0 OPERATIONAL, 1 ENTERING, 2 PARKED. No lane reads it in keep-alive. -/
def PState.code : PState → Nat
  | .operational => 0 | .entering => 1 | .parked => 2 | .keepAlive => 3

/-- AvsState as bits (R545). -/
def AvsState.code : AvsState → Nat
  | .off => 0 | .track => 1 | .freqReduced => 2 | .atLimit => 3

/-- A lane's voltage-loop settings: F_NOM and F_MIN in 25 MHz, TARGET in 4 ps (R545). -/
def avsCfg (s : State) (l : LaneId) : Nat × Nat × Nat := tgetD s.cfg.pwr.avs l.val (48, 32, 32)

/-- A temperature in whole degrees, from units of 0.125 °C; its rounding is free (log 9). -/
def wholeDegrees (v : Int) : Nat := unsigned 8 (divFree 16 v 8)

/-- The RO words of the PWR block (R545). -/
def pwrRead (s : State) (off : Nat) : Word :=
  let P := s.pwr
  match off with
  | 0x00 => packW [(2, P.pstate.code), (1, bit P.warn), (1, bit P.shutdown), (1, bit P.storeOk), (1, bit (P.temp.toList.any TempSt.warn)),
      (1, bit (P.temp.toList.any TempSt.hot)), (1, bit (P.rail.toList.any (fun r => r.low || r.high))), (1, bit P.locketValid), (1, bit P.ovp)]
  | 0x04 => packW [(12, P.vin), (4, 0), (13, P.vstore)]
  | 0x08 => packW [(12, P.minVin), (4, 0), (12, P.lastMin)]
  | 0x0C => packW [(16, P.warnCnt.toNat), (16, P.failCnt.toNat)]
  | 0x10 => packW [(16, P.cause.toNat), (16, P.rstCnt.toNat)]
  | 0x18 => packW [(3, P.wakeSrc.toNat), (13, 0), (16, P.wakeCnt.toNat)]
  | 0x1C => loWord P.locketSec.toNat
  | 0x20 => hiWord P.locketSec.toNat
  | 0x24 => P.locketAlarm
  | 0x28 => packW [(4, s.cfg.pwr.resetEn.toNat)]
  | 0x2C => packW [(4, P.hbLost.toNat), (12, 0), (16, P.engRstCnt.toNat)]
  | _ =>
    if 0x100 ≤ off ∧ off < 0x130 then
      let t := vget P.temp (Fin.ofNat 12 ((off - 0x100) / 4))
      packW [(12, unsigned 12 t.value), (1, bit t.warn), (1, bit t.hot), (10, 0), (8, wholeDegrees (t.peak.getD 0))]
    else if 0x140 ≤ off ∧ off < 0x178 then
      let r := vget P.rail (Fin.ofNat 14 ((off - 0x140) / 4))
      packW [(16, r.value), (1, bit r.low), (1, bit r.high), (6, 0), (8, r.cnt.toNat)]
    else if 0x180 ≤ off ∧ off < 0x1B0 then
      let l : LaneId := Fin.ofNat 3 ((off - 0x180) / 0x10)
      let a := vget P.avs l
      let (fNom, fMin, target) := avsCfg s l
      match (off - 0x180) % 0x10 with
      | 0 => packW [(10, a.vcore), (6, a.freq), (2, a.state.code), (6, 0), (8, a.margin)]
      | 4 => packW [(6, fNom), (2, 0), (6, fMin), (2, 0), (8, target)]
      | 8 => packW [(10, a.vInit.getD 0), (8, unsigned 8 a.ageMv), (14, a.days)]
      | _ => packW [(8, a.pm.getD 0 0), (8, a.pm.getD 1 0), (8, a.pm.getD 2 0)]
    else 0

/-! ## A lane's read -/

/-- The read-only fields at a lane address (R16, R37). -/
def roWord (s : State) (l : LaneId) (c : CoreId) (a : Nat) : Word :=
  let off := a % 0x10000
  match (a - SYS) / 0x10000 with
  | 0 => sysRead s l off
  | 1 => timRead s l off
  | 2 => votRead s off
  | 3 => rngRead s l off
  | 4 => laneBlockRead s l c off
  | 5 => strRead s l 0 off
  | 6 => strRead s l 1 off
  | 7 => ethRead s off
  | 8 => mvbRead s off
  | 9 => colRead s l off
  | 10 => chkRead s l off
  | 11 => motRead s l off
  | 12 => anaRead s off
  | 13 => fldRead s off
  | 14 => clsRead s off
  | 15 => recRead s l off
  | 16 => cfgRead s off
  | 17 => sigRead s off
  | 18 => pwrRead s off
  | _ => 0

/-- The word a core of a lane reads at a register's address (R36): an offset without a register reads as zero. -/
def regRead (s : State) (l : LaneId) (c : CoreId) (a : Nat) : Word := roWord s l c a ||| tableWord s l a

/-- What a read does beside (R39, R75, R105, R477). -/
def readEffect (l : LaneId) (a : Nat) (s : State) : State :=
  let hi (n : Nat) : Word := hiWord n
  let latch (f : Latches → Latches) : State := s.modLane l (fun L => { L with latch := f L.latch })
  if a = TIM + 0x10 then latch (fun x => { x with
    timNs := BitVec.ofNat 30 (s.tim.now / nsUnits % 1000000000), timSecLo := BitVec.ofNat 32 (s.tim.now / secUnits),
    timSecHi := BitVec.ofNat 16 (s.tim.now / secUnits / 2 ^ 32) })
  else if a = TIM + 0x20 then latch (fun x => { x with timTickHi := hi s.tick })
  else if a = SYS + 0x84 then latch (fun x => { x with sysProgHi := hi s.cyc.progTick })
  else if a = REC + 0x08 then latch (fun x => { x with recNextHi := hi s.rcd.next })
  else if a = REC + 0x10 then latch (fun x => { x with recFlushedHi := hi s.rcd.flushed })
  else if a = REC + 0x18 then latch (fun x => { x with recOldestHi := hi s.rcd.oldest })
  else if a = REC + 0x20 then latch (fun x => { x with recFmtHi := hi s.rcd.fmt })
  else if LANE + 0x200 ≤ a ∧ a < LANE + 0x300 ∧ (a - LANE) % 0x20 = 0x1C then
    s.modLane l (fun L => { L with tsu := vmod L.tsu (Fin.ofNat 8 ((a - LANE - 0x200) / 0x20)) (fun q => { q with queue := q.queue.drop 1 }) })
  else s

/-- A read of a register by a core of a lane: its word, and the module after it. -/
def laneRegRead (l : LaneId) (c : CoreId) (a : Nat) (s : State) : Word × State := (regRead s l c a, readEffect l a s)

end Sys2Proof.Machine
end

