-- ==== Sys2Proof/Machine/RegWrite.lean ====
section
/-!
DEFINITION. What a committed VRW write does (R16, R112) and what a lane's own RW or WO write does (R16, R37, R102): registers with a
behaviour of their own by name, every other one by its writable bits. Writes to RO and RSVD fields are ignored.
-/

namespace Sys2Proof.Machine

/-! ## Rings -/

/-- A write to a ring's register (R143, R164, R168, R169): bases, SIZE_LOG2, ENGINE, OWNER and the tag range are ignored while EN is
1; CREDIT may change at any time. -/
def ringCommit (r : Fin 64) (k : Nat) (w : Nat) (s : State) : State :=
  let R := s.ringAt r
  let upd (f : Ring → Ring) : State := if R.en then s else s.modRing r f
  match k with
  | 0 => upd (fun R => { R with sqBase := place (field w 6 18) 6 18 })
  | 1 => upd (fun R => { R with cqBase := place (field w 6 18) 6 18 })
  | 2 =>
    let s1 := (upd (fun R => { R with sizeLog2 := field w 1 4, engine := field w 8 4, owner := field w 12 5 })).modRing r
      (fun R => { R with creditCfg := field w 24 8 })
    if testBit w 0 then (if R.en then s1 else enableRing r s1) else (if R.en then disableRing r s1 else s1)
  | 3 => upd (fun R => { R with tagBase := field w 0 10, tagCount := field w 16 11 })
  | 4 => doorbell r (BitVec.ofNat 16 w) s
  | 5 => writeHead r (BitVec.ofNat 16 w) s
  | _ => s

/-! ## User calibration (R504, R505) -/

/-- Is a KIND with its INDEX valid (R504)? -/
def ucalKeyOk (kind index : Nat) : Bool :=
  (kind == 1 && index < 16) || (kind == 2 && index < 48) || (kind == 3 && index < 1024)

/-- The place of an entry in the store. -/
def ucalKey (kind index : Nat) : Nat := kind * 65536 + index

/-- Entries the store holds at most. -/
def ucalCap : Nat := 4096

/-- Does an entry find a place: it is erased, or replaces a stored one, or the store has room? -/
def ucalFits (s : State) (kind index : Nat) (value : Option Nat) : Bool :=
  value.isNone || (tget? s.trust.ucal (ucalKey kind index)).isSome || s.trust.ucal.length < ucalCap

/-- A refused write of the lanes. -/
def ucalRefused (s : State) : State := rep 0x4409 { s with trust := { s.trust with ucalLast := 2 } }

/-- A committed OP of CFG_UCAL_CMD with the key and value registers (R505): refused while a write runs, for an invalid KIND or INDEX,
or by a full store; otherwise it waits for Signet. -/
def ucalCommand (store : Bool) (s : State) : State :=
  let key := (regGet s (CFG + 0x40)).toNat
  let kind := field key 0 8
  let index := field key 8 12
  let value := (regGet s (CFG + 0x44)).toNat + 2 ^ 32 * (regGet s (CFG + 0x48)).toNat
  let v := if store then some value else none
  if !s.trust.ucalQueue.isEmpty || !ucalKeyOk kind index || !ucalFits s kind index v then ucalRefused s
  else { s with trust := { s.trust with ucalQueue := s.trust.ucalQueue ++ [⟨kind, index, v, true⟩] } }

/-- UCAL_STORE (R505): OP 1 committed. -/
def execUcalStore (s : State) : Host.Outcome State Fault Refusal := act (ucalCommand true) s

/-- UCAL_ERASE (R505): OP 2 committed. -/
def execUcalErase (s : State) : Host.Outcome State Fault Refusal := act (ucalCommand false) s

/-! ## Sticky flags of SYS (R558, R561, R572) -/

/-- SYS_XCLR (R558, R561): a committed 1 clears MERGED and LOST of a domain and its CLK_LOST. -/
def clearCrossings (mask : Nat) (s : State) : State :=
  { s with cross := { s.cross with dom := Vector.ofFn (fun d =>
      if testBit mask d.val ∧ d ≠ 0 then { vget s.cross.dom d with merged := false, lost := false, clkLost := false }
      else vget s.cross.dom d) } }

/-- SYS_XCLR. -/
def execSysXclr (mask : BitVec 16) (s : State) : Host.Outcome State Fault Refusal := act (clearCrossings mask.toNat) s

/-- PIN_CLR (R572): a set PIN_LATCH is cleared and the clearing reported. -/
def clearPin (s : State) : State :=
  if s.flt.pinLatch then rep 0x0403 { s with flt := { s.flt with pinLatch := false } } else s

/-- PIN_CLR. -/
def execPinClr (s : State) : Host.Outcome State Fault Refusal := act clearPin s

/-! ## Commits -/

/-- A committed word in a register by its writable bits; every other register is left alone (R16). -/
def maskedCommit (a : Nat) (w : Word) (s : State) : State :=
  match regRow? a with
  | some r => match r.access with
    | .vrw => regSet s a (w &&& BitVec.ofNat 32 r.mask)
    | .rw => s
  | none => s

/-- A committed word in a register of STRA or STRB (R214, R230, R258, R264): EN and FORCE_WRAP act where they change. -/
def strCommit (ch : ChanId) (a : Nat) (w : Word) (s : State) : State :=
  let n := w.toNat
  let off := a - STR ch
  if off = 0x100 ∨ off = 0x140 then
    let p : PortId := if off = 0x100 then 0 else 1
    let old := (regGet s a).toNat
    let s1 := if testBit n 0 = testBit old 0 then s else portEnWrite ch p (testBit n 0) s
    if testBit n 1 = testBit old 1 then s1 else forceWrapWrite ch p (testBit n 1) s1
  else if off = 0x1000 ∧ ch = 0 then
    let old := regField s a 4 1
    let s1 := regPut (maskedCommit a w s) a 4 1 old
    if bit (testBit n 4) = old then s1 else txEnWrite (testBit n 4) s1
  else if off = 0x1028 then onlyIf (testBit n 0) (unlatch ch) s
  else maskedCommit a w s

/-- A committed word in ETH_PORT_CFG of a port (R285): a change of PTP_ROLE takes the clock to its new state. -/
def ethCommit (a : Nat) (w : Word) (s : State) : State :=
  let s1 := maskedCommit a w s
  if a = ETH + 0x100 then ptpRoleChanged 0 s1
  else if a = ETH + 0x140 then ptpRoleChanged 1 s1
  else s1

/-- A committed word in a register of SYS, TIM, FLD, CLS, REC or CFG with a behaviour of its own, or none. -/
def actionCommit (a : Nat) (w : Word) (s : State) : Option State :=
  let n := w.toNat
  if a = TIM + 0x4 then some (acceptStepWrite (testBit n 0) s)
  else if a = SYS + 0x104 then some (clearCrossings n s)
  else if a = SYS + 0x208 then some (onlyIf (testBit n 0) clearPin s)
  else if a = FLD + 0x1C then some (clearVo (BitVec.ofNat 8 n) s)
  else if a = CLS + 0x10 then some (onlyIf (testBit n 1) resyncNow (onlyIf (testBit n 0) yieldNow s))
  else if a = REC + 0x4 then some (onlyIf (testBit n 0) flushRequest s)
  else if a = CFG + 0x4C then some (match n % 4 with
    | 1 => ucalCommand true s
    | 2 => ucalCommand false s
    | _ => s)
  else if FLD + 0x108 ≤ a ∧ a < FLD + 0x408 ∧ (a - FLD) % 16 = 8 then
    some (setBase (Fin.ofNat 48 ((a - FLD - 0x108) / 16)) (n % 4096) s)
  else none

/-- A word committed to a register address (R16, R112). -/
def commitReg (a : Nat) (w : Word) (s : State) : State :=
  match actionCommit a w s with
  | some t => t
  | none =>
    if RNG + 0x1000 ≤ a ∧ a < RNG + 0x1400 then
      ringCommit (Fin.ofNat 64 ((a - RNG - 0x1000) / 0x20)) ((a - RNG) % 0x20 / 4) w.toNat s
    else if STR 0 ≤ a ∧ a < STR 1 then strCommit 0 a w s
    else if STR 1 ≤ a ∧ a < ETH then strCommit 1 a w s
    else if ETH ≤ a ∧ a < MVB then ethCommit a w s
    else maskedCommit a w s

/-! ## A lane's own writes -/

/-- A matched write of a lane to an RW or WO register in its own view (R16, R102): LANE_CTRL.FORCE_SAFE, MOT_CMD, the task ranges (R106)
and its own rings act as their rules say. -/
def laneRegWrite (l : LaneId) (a : Nat) (w : Word) (s : State) : State :=
  let n := w.toNat
  if RNG + 0x2000 ≤ a ∧ a < RNG + 0x2140 then
    ringCommit (Fin.ofNat 64 (32 + 10 * l.val + (a - RNG - 0x2000) / 0x20)) ((a - RNG) % 0x20 / 4) n s
  else if a = MOT + 8 then motCmd l (Fin.ofNat 16 n) (field n 4 2) (BitVec.ofNat 2 (field n 6 2)) s
  else if a = LANE + 0x48 then
    s.modLane l (fun L => { L with cores := L.cores.map (fun c => { c with lag := c.lag - n % 2 }) })
  else if LANE + 0x100 ≤ a ∧ a < LANE + 0x180 ∧ (s.lane l).state ≠ .loading then s
  else
    let s1 := match regRow? a with
      | some r => match r.access with
        | .rw => s.modLane l (fun L => L.regSet a (w &&& BitVec.ofNat 32 r.mask))
        | .vrw => s
      | none => s
    if a = LANE + 8 ∧ testBit n 0 then forceSafeWrite l false s1 else s1

end Sys2Proof.Machine
end

