-- ==== Sys2Proof/Machine/Access.lean ====
section
/-!
DEFINITION. Accesses that leave a lane (R29, R87 to R90, R107 to R109): where each goes, what a lane-private one does, the pair
comparator, the release of an instance's entries, and reads.
-/

namespace Sys2Proof.Machine

/-- Where an access leaves a lane to (R29, R107, R108). -/
inductive Target
  /-- A proposal to the voter. -/
  | voted
  /-- Handed to the voter, which discards it (R108). -/
  | forbidden
  /-- The lane's own: registers in its view, its lane-private rings and areas. -/
  | own
  /-- A backplane window (R297). -/
  | window
  /-- No effect: RO, RSVD or no register (R16, R36). -/
  | nowhere
deriving DecidableEq, Repr

/-- Is an address a VRW register of the shared blocks (R16): by the register table, a voted ring's or FLD_BASE[n]? -/
def isVrw (a : Nat) : Bool :=
  (match regRow? a with
    | some r => r.access == .vrw
    | none => false) ||
  (RNG + 0x1000 ≤ a && a < RNG + 0x1400 && a % 32 < 0x18) ||
  (FLD + 0x108 ≤ a && a < FLD + 0x408 && (a - FLD) % 16 == 8)

/-- Where a write of a lane goes (R29, R107, R108). -/
def writeTarget (s : State) (l : LaneId) (a : Access) : Target :=
  if inExchange a.addr then
    match areaOf s (offsetOf a.addr) a.data.length with
    | some r => match r.cls with
      | .voted => .voted
      | .engine => .forbidden
      | .lanePrivate m => if m = l then .own else .forbidden
    | none => .forbidden
  else if inRegisters a.addr then
    if isVrw a.addr then .voted else .own
  else if inWindows a.addr then .window
  else .nowhere

/-- A write into the lane's own area: the submission queue of a lane-private ring takes descriptors (R148). -/
def ownMemWrite (a : Access) (s : State) : State :=
  let off := offsetOf a.addr
  match slotAt s off with
  | some (r, _) => writeSlot r off a.data s
  | none =>
    let bytes := (a.data.zipIdx.filter (fun p => a.be.getLsbD p.2)).map (fun p => (off + p.2, p.1))
    { s with mem := memWrites s.mem bytes }

/-- The words of a register access, lower address first (R36). -/
def accessWords (a : Access) : List (Nat × Word) :=
  (List.range (a.data.length / 4)).map (fun i => (a.addr + 4 * i, BitVec.ofNat 32 (leAt a.data (4 * i) 4)))

/-- What a lane-private access does at its target (R29). -/
def ownWrite (l : LaneId) (a : Access) (s : State) : State :=
  if inExchange a.addr then ownMemWrite a s
  else (accessWords a).foldl (fun s p => laneRegWrite l p.1 p.2 s) s

/-- The key an access takes when it is handed to the voter (R109): the instance's next index, or the lane's next runtime
sequence number. -/
def nextKey (l : LaneId) (ctx : Option (Nat × Nat)) (s : State) : PropKey × State :=
  match ctx with
  | some i =>
    let L := s.lane l
    let k := ((L.handCount.find? (fun e => e.1 == i)).map Prod.snd).getD 0
    let rest := L.handCount.filter (fun e => e.1 != i)
    (.task i.1 i.2 k, s.modLane l (fun L => { L with handCount := rest ++ [(i, k + 1)] }))
  | none =>
    let seq := (vget s.vot.lanes l).seq
    (.runtime seq.toNat, s.modVot l (fun v => { v with seq := v.seq + 1 }))

/-- One matched write, descriptor or doorbell leaves the lane for its target (R29, R88, R109). -/
def releaseEntry (l : LaneId) (s : State) (e : QEntry) : State :=
  match writeTarget s l e.acc with
  | .voted | .forbidden =>
    let (k, s1) := nextKey l e.ctx s
    s1.modLane l (fun L => { L with handed := L.handed ++ [⟨k, e.acc⟩] })
  | .own => ownWrite l e.acc s
  | .window | .nowhere => s

/-- The value a lane's matched read returns to both cores (R88): a register in the lane's view, or exchange memory. -/
def readAccess (l : LaneId) (a : Access) (s : State) : State :=
  if inRegisters a.addr then
    let (v0, s1) := laneRegRead l 0 a.addr s
    let v1 := (laneRegRead l 1 a.addr s).1
    (s1.modCore l 0 (fun c => { c with readValue := v0 })).modCore l 1 (fun c => { c with readValue := v1 })
  else if inExchange a.addr then
    let v : Word := BitVec.ofNat 32 (ofLe (memRead s.mem (offsetOf a.addr) 4))
    (s.modCore l 0 (fun c => { c with readValue := v })).modCore l 1 (fun c => { c with readValue := v })
  else s

/-- The task of an entry, for LANE_MISMATCH. -/
def entryTask (e : QEntry) : Nat := (e.ctx.map Prod.fst).getD 0

/-- Entries held for an instance. -/
def heldFor (L : Lane) (i : Nat × Nat) : Nat := (L.release.filter (fun e => e.ctx == some i)).length

/-- A matched entry pair of a task instance enters the release buffer, unless the instance's entries would exceed it: then all
of them are discarded and the class is reported (R88, R90). -/
def holdEntry (l : LaneId) (e : QEntry) (i : Nat × Nat) (s : State) : State :=
  let L := s.lane l
  if L.overflowed.contains i then s
  else if heldFor L i < 2048 then s.modLane l (fun L => { L with release := L.release ++ [e] })
  else repLane 0x1408 l (s.modLane l (fun L => { L with
    release := L.release.filter (fun x => x.ctx != some i), overflowed := L.overflowed ++ [i] }))

/-- The comparison of entry k (R87 to R90): a difference is a proposal mismatch; a matched read goes to its target at once; a
matched entry of an instance is held, one of the lane runtime leaves at once. -/
def compareEntry (l : LaneId) (s : State) : State :=
  let L := s.lane l
  match (vget L.cores 0).queue, (vget L.cores 1).queue with
  | a :: qa, b :: qb =>
    let s1 := s.modLane l (fun L => { L with
      pairIndex := L.pairIndex + 1,
      cores := vmod (vmod L.cores 0 (fun c => { c with queue := qa })) 1 (fun c => { c with queue := qb }) })
    if a.acc = b.acc then
      if a.acc.kind = .read then readAccess l a.acc s1
      else match a.ctx with
        | some i => holdEntry l a i s1
        | none => releaseEntry l s1 a
    else laneFinding l 1 (entryTask a) L.pairIndex a.acc.addr s
  | _, _ => s

/-- The entries a core places in its queue, in program order, with the context they belong to (R87, R89). -/
def Core.issue (c : Core) (new : List Access) : Core :=
  { c with queue := c.queue ++ new.map (fun a => ⟨a, c.ctx.head?⟩) }

/-- PAIR_ENTRY_COMPARE; `newA` and `newB` are the accesses the two cores have issued since. -/
def execPairEntryCompare (lane : LaneId) (newA newB : List Access) (s : State) : Host.Outcome State Fault Refusal :=
  act (fun s => onlyIf (s.lane lane).state.live (fun s =>
    compareEntry lane ((s.modCore lane 0 (fun c => c.issue newA)).modCore lane 1 (fun c => c.issue newB))) s) s

/-- The instance whose digests both cores have ready for a task, with the digests (R92). -/
def readyDigests (L : Lane) (t : TaskId) : Option ((Nat × Nat) × DWord × DWord) :=
  match (vget L.cores 0).digReady.find? (fun e => e.1.1 == t.val) with
  | some (i, a) => ((vget L.cores 1).digReady.find? (fun e => e.1 == i)).map (fun e => (i, a, e.2))
  | none => none

/-- Does a core still queue an entry of an instance that the comparator has not taken? -/
def queuedFor (L : Lane) (i : Nat × Nat) : Bool := L.cores.toList.any (fun c => c.queue.any (fun e => e.ctx == some i))

/-- Is an instance of a lane the one a pair of task and start-tick bits names? -/
def LaneInst.named (x : LaneInst) (i : Nat × Nat) : Bool := x.task == i.1 && instBits x.start == i.2

/-- An instance is over in a lane: it leaves the lane's list and its digests are taken; once released, its retained lines wait
to be mirrored (R197). -/
def endInstance (l : LaneId) (i : Nat × Nat) (released : Bool) (s : State) : State :=
  let mine := (vget s.cyc.insts l).filter (fun x => x.named i)
  let rest := (vget s.cyc.insts l).filter (fun x => !x.named i)
  let s1 := s.modLane l (fun L => { L with
    cores := L.cores.map (fun c => { c with digReady := c.digReady.filter (fun e => e.1 != i) }),
    release := L.release.filter (fun e => e.ctx != some i), overflowed := L.overflowed.filter (fun x => x != i),
    handCount := L.handCount.filter (fun e => e.1 != i),
    mirror := if released then L.mirror ++ mine.map (fun x => (x.retLines, x.start)) else L.mirror })
  { s1 with cyc := { s1.cyc with insts := vset s1.cyc.insts l rest } }

/-- An instance whose entries were discarded is handled like a task fault, with its own class (R90, R193). -/
def discardedInstance (l : LaneId) (t : TaskId) (i : Nat × Nat) (s : State) : State :=
  match (vget s.cyc.insts l).find? (fun x => x.named i) with
  | some x => countFault l 0x0505 t x.start s
  | none => s

/-- Compares the partner's digest of a task with the module's own when both name one instance not yet compared (R456). -/
def crossCheck (t : Nat) (s : State) : State :=
  match tget? s.cls.ownDig t, tget? s.cls.pairDig t with
  | some (a, d), some (b, e) =>
    if a = b ∧ tget? s.cls.compared t ≠ some a ∧ (s.cls.role = .active ∨ s.cls.role = .standby) then
      let s1 := { s with cls := { s.cls with compared := tset s.cls.compared t a, cmpCnt := s.cls.cmpCnt + 1 } }
      if d = e then s1 else rep 0x3C0B { s1 with cls := { s1.cls with divCnt := s1.cls.divCnt + 1 } }
    else s
  | _, _ => s

/-- Notes D[t] of an instance a lane releases (R453, R455, R456). -/
def noteDigest (l : LaneId) (t : TaskId) (start : Nat) (d : DWord) (s : State) : State :=
  let s1 := s.modLane l (fun L => { L with lastDig := tset L.lastDig t.val (start, d) })
  if counted s l then crossCheck t.val { s1 with cls := { s1.cls with ownDig := tset s1.cls.ownDig t.val (start, d) } } else s1

/-- DIGEST_COMPARE (R88, R92): equal digests release the instance's entries in order; unequal ones are a latent divergence. -/
def digestCompare (l : LaneId) (t : TaskId) (s : State) : State :=
  let L := s.lane l
  match readyDigests L t with
  | none => s
  | some (i, a, b) =>
    if queuedFor L i then s
    else
      let n := tgetD L.compared t.val 0 + 1
      let s1 := s.modLane l (fun L => { L with
        digA := a, digB := b, digTask := BitVec.ofNat 4 t.val, digInst := BitVec.ofNat 28 n,
        compared := tset L.compared t.val n })
      if a = b then
        let s1 := noteDigest l t i.2 a s1
        let mine := L.release.filter (fun e => e.ctx == some i)
        let s2 := if L.overflowed.contains i then discardedInstance l t i s1 else mine.foldl (releaseEntry l) s1
        startFinal (endInstance l i (!L.overflowed.contains i) s2)
      else laneFinding l 3 t.val 0 0 s1

/-- DIGEST_COMPARE (R92). -/
def execDigestCompare (lane : LaneId) (task : TaskId) (s : State) : Host.Outcome State Fault Refusal :=
  act (fun s => onlyIf (s.lane lane).state.live (digestCompare lane task) s) s

/-- REGISTER_WRITE (R16, R29, R36): a write both cores of a live lane have issued identically. A VRW field's becomes the lane's
proposal; any other takes effect in the lane's view. -/
def registerWrite (l : LaneId) (a : Nat) (data : List Byte) (s : State) : State :=
  if (s.lane l).state.live then releaseEntry l s ⟨⟨a, .write, data, BitVec.ofNat 32 (2 ^ data.length - 1)⟩, none⟩ else s

/-- REGISTER_WRITE: `data` is one word, or two at a 64-bit-aligned address; `addr` is the lane address. Any other width, a misaligned
address or one outside the register blocks is an access fault in the issuing core (R34, R36). -/
def execRegisterWrite (lane : LaneId) (addr : Nat) (data : List Byte) (s : State) : Host.Outcome State Fault Refusal :=
  if inRegisters addr ∧ ((data.length = 4 ∧ addr % 4 = 0) ∨ (data.length = 8 ∧ addr % 8 = 0)) then act (registerWrite lane addr data) s
  else .fault (.accessFault addr)

end Sys2Proof.Machine
end

