-- ==== Sys2Proof/Machine/Voting.lean ====
section
/-!
DEFINITION. The voter (R107 to R121): arrivals, agreement, commit in index order, dissent, windows, late and absent proposals.
-/

namespace Sys2Proof.Machine

/-- Votes the voter holds at most (R110). -/
def voteCap : Nat := 512

/-- Notes an event of the voter and raises VOTE_EVENT in every lane (R119, R138). -/
def voteEvent (kind : Nat) (l : LaneId) (k : PropKey) (addr : Nat) (s : State) : State :=
  let v := s.vot
  let base : Voter := { v with
    evKind := BitVec.ofNat 3 kind, evLane := BitVec.ofNat 2 l.val, evAddr := BitVec.ofNat 40 addr }
  let vot : Voter := match k with
    | .task t tick i => { base with
        evRt := false, evTask := BitVec.ofNat 4 t, evIndex := BitVec.ofNat 11 i, evKey := BitVec.ofNat 16 tick }
    | .runtime n => { base with evRt := true, evTask := 0, evIndex := 0, evKey := BitVec.ofNat 16 n }
  raiseAll 1 { s with vot := vot }

/-- A lane dissents or is absent: counted, noted, reported and forced to SAFE (R115, R118, R119). -/
def expelLane (kind code : Nat) (l : LaneId) (k : PropKey) (addr : Nat) (s : State) : State :=
  let s1 := s.modVot l (fun v => { v with dissentCnt := v.dissentCnt + 1 })
  rep code (laneSafe l 7 0 0 0 true (voteEvent kind l k addr s1))

/-- A vote ends without majority, which is a module fault (R116, R117, R121). -/
def noMajority (l : LaneId) (k : PropKey) (addr : Nat) (s : State) : State := moduleFault false (voteEvent 4 l k addr s)

/-- The indexes of an instance that count as committed (R113). -/
def doneIndexes (s : State) (i : Nat × Nat) : NatSet := ((s.vot.done.find? (fun e => e.1 == i)).map Prod.snd).getD []

/-- An index of an instance counts as committed (R108, R113). Older instances of the task are dropped. -/
def markDone (k : PropKey) (s : State) : State :=
  match k with
  | .runtime _ => s
  | .task t tick i =>
    let set := nsAdd (doneIndexes s (t, tick)) i
    let keep := s.vot.done.filter (fun e => e.1 != (t, tick))
    let recent := (keep.filter (fun e => e.1.1 == t)).reverse.take 2
    { s with vot := { s.vot with
      done := keep.filter (fun e => e.1.1 != t || recent.contains e) ++ [((t, tick), set)] } }

/-- May a vote with agreed content commit: has every lower index of its instance committed (R113)? -/
def inOrder (s : State) (k : PropKey) : Bool :=
  match k with
  | .runtime _ => true
  | .task t tick i => (List.range i).all (fun j => nsMem (doneIndexes s (t, tick)) j)

/-- What committed content does: a register field is set, exchange memory is written once, a doorbell is delivered (R112). -/
def commitAccess (a : Access) (s : State) : State :=
  if inExchange a.addr then ownMemWrite a s
  else (accessWords a).foldl (fun s p => commitReg p.1 p.2 s) s

/-- The first vote whose agreed content may take effect now. -/
def readyVote (s : State) : Option Vote :=
  s.vot.votes.find? (fun v => v.agreed.isSome && !v.committed && inOrder s v.key)

/-- Has every lane counted for the vote proposed? -/
def complete (s : State) (v : Vote) : Bool :=
  allLanes.all (fun l => !countedFor s l v.key || v.props.any (fun p => p.1 == l.val))

/-- Drops committed votes that every counted lane has joined (R115, R116). -/
def sweepVotes (s : State) : State :=
  { s with vot := { s.vot with votes := s.vot.votes.filter (fun v => !(v.committed && complete s v)) } }

/-- Commits every vote that agreement and order allow, one after another (R112, R113). -/
def commitVotes : Nat → State → State
  | 0, s => s
  | n + 1, s =>
    match readyVote s with
    | none => s
    | some v =>
      let votes := s.vot.votes.map (fun w => if w.key = v.key then { w with committed := true } else w)
      let s1 := markDone v.key { s with vot := { s.vot with votes := votes } }
      match v.agreed with
      | some a => commitVotes n (commitAccess a s1)
      | none => s1

/-- Commits what may commit and tidies the table. -/
def settleVotes (s : State) : State := sweepVotes (commitVotes (s.vot.votes.length + 1) s)

/-- Replaces a vote of the table. -/
def putVote (v : Vote) (s : State) : State :=
  { s with vot := { s.vot with votes := s.vot.votes.map (fun w => if w.key = v.key then v else w) } }

/-- Lanes whose proposals in a vote differ from its agreed content. -/
def dissenters (v : Vote) (a : Access) : List LaneId :=
  (v.props.filter (fun p => p.2 != a)).map (fun p => Fin.ofNat 3 p.1)

/-- An arrival in a vote whose content is agreed (R115, R118). -/
def joinAgreed (l : LaneId) (v : Vote) (a c : Access) (s : State) : State :=
  let s1 := putVote { v with props := v.props ++ [(l.val, a)] } s
  if a = c then
    if v.closed then
      sweepVotes (rep 0x0C01 (voteEvent 1 l v.key c.addr
        (s1.modVot l (fun x => { x with lateCnt := x.lateCnt + 1 }))))
    else sweepVotes s1
  else sweepVotes (expelLane 2 0x0C02 l v.key c.addr s1)

/-- An arrival in a vote without agreed content (R112, R116, R117): agreement commits and outvotes a dissenter; when every
counted lane has proposed without agreement it is a no-majority. -/
def joinOpen (l : LaneId) (v : Vote) (a : Access) (s : State) : State :=
  let v1 := { v with props := v.props ++ [(l.val, a)] }
  if v.props.any (fun p => p.2 == a && p.1 != l.val) then
    let v2 := { v1 with agreed := some a }
    let s1 := settleVotes (putVote v2 s)
    (dissenters v2 a).foldl (fun s d => sweepVotes (expelLane 2 0x0C02 d v.key a.addr s)) s1
  else
    let s1 := putVote v1 s
    if complete s1 v1 then noMajority l v.key a.addr s1 else s1

/-- A proposal that opens a vote (R110, R111); a full table makes the lane stall, reported once per tick. -/
def openVote (l : LaneId) (p : Proposal) (s : State) : State :=
  if s.vot.votes.length < voteCap then
    let votes := s.vot.votes ++ [{ key := p.key, props := [(l.val, p.acc)] }]
    { s with vot := { s.vot with votes := votes, peak := max s.vot.peak votes.length } }
  else
    let s1 := s.modLane l (fun L => { L with handed := p :: L.handed })
    if s1.vot.fullTick then s1 else rep 0x0C07 { s1 with vot := { s1.vot with fullTick := true } }

/-- A write the voter discards (R108): reported, noted, and its index counts as committed. -/
def forbidWrite (l : LaneId) (p : Proposal) (s : State) : State :=
  settleVotes (rep 0x0C06 (voteEvent 5 l p.key p.acc.addr (markDone p.key s)))

/-- A proposal reaches the voter (R107 to R118). In SAFE nothing commits further (R121); a lane that is not counted for the key
does not take part. -/
def arrival (l : LaneId) (p : Proposal) (s : State) : State :=
  if s.vot.mode = .safe then s
  else match writeTarget s l p.acc with
  | .forbidden => forbidWrite l p s
  | .voted =>
    if countedFor s l p.key then
      match s.vot.votes.find? (fun v => v.key == p.key) with
      | none => openVote l p s
      | some v => match v.agreed with
        | some c => joinAgreed l v p.acc c s
        | none => joinOpen l v p.acc s
    else s
  | .own | .window | .nowhere => s

/-- PROPOSAL_ARRIVAL (R112): the oldest proposal a lane has handed over reaches the voter. -/
def execProposalArrival (lane : LaneId) (s : State) : Host.Outcome State Fault Refusal :=
  act (fun s => match (s.lane lane).handed with
    | [] => s
    | p :: rest => arrival lane p (s.modLane lane (fun L => { L with handed := rest }))) s

/-- The window of a vote closes (R116, R117): without agreement it is a no-majority. -/
def closeWindow (k : PropKey) (s : State) : State :=
  match s.vot.votes.find? (fun v => v.key == k) with
  | none => s
  | some v =>
    if v.closed then s
    else if v.agreed.isSome then putVote { v with closed := true } s
    else match v.props.getLast? with
      | some (l, a) => noMajority (Fin.ofNat 3 l) k a.addr s
      | none => s

/-- VOTE_WINDOW_CLOSE (R116). -/
def execVoteWindowClose (key : PropKey) (s : State) : Host.Outcome State Fault Refusal := act (closeWindow key) s

/-- A pending proposal has not arrived in time after the window closed: its lane is absent (R118, R119). -/
def absentLane (k : PropKey) (l : LaneId) (s : State) : State :=
  match s.vot.votes.find? (fun v => v.key == k) with
  | none => s
  | some v =>
    if v.closed && v.agreed.isSome && countedFor s l k && !v.props.any (fun p => p.1 == l.val) then
      sweepVotes (expelLane 3 0x0C03 l k ((v.agreed.map Access.addr).getD 0) s)
    else s

/-- ABSENT_LANE (R118). -/
def execAbsentLane (key : PropKey) (lane : LaneId) (s : State) : Host.Outcome State Fault Refusal :=
  act (absentLane key lane) s

end Sys2Proof.Machine
end

