-- ==== Sys2Proof/Machine/Cyclic.lean ====
section
/-!
DEFINITION. Cyclic program execution (R170 to R204): input items at the swap, release, snapshots and instance starts, program
start with retained data, mirroring, online change, and the side-by-side code swap.
-/

namespace Sys2Proof.Machine

/-! ## Input items -/

/-- STATE of an item (R183). -/
def InItem.quality (c : InItem) (maxAge : Nat) : Quality :=
  if c.held.isNone || c.invalid then .invalid else if maxAge < c.age then .stale else .good

/-- STATE of R182 as bits. -/
def Quality.code : Quality → Nat
  | .good => 0 | .stale => 1 | .invalid => 2

/-- One item at the swap of a tick event (R32, R181). -/
def InItem.swap (c : InItem) : InItem :=
  if c.inBurst then { c with inBurst := false, age := satInc 16 c.age }
  else match c.back with
    | none => { c with age := satInc 16 c.age }
    | some a =>
      if a.valid then { c with back := none, held := some a, age := 0, invalid := false, engBits := a.engBits }
      else { c with back := none, invalid := true, engBits := a.engBits }

/-- An item at the swap with its report: from GOOD to STALE or INVALID once as degraded, back to GOOD as recovered (R184). -/
def swapItem (s : State) (c : InItemCfg) : State :=
  let old := tgetD s.cyc.items c.item {}
  let wasGood := old.quality c.maxAge == .good
  let new := old.swap
  let good := new.quality c.maxAge == .good
  let put (x : InItem) : State := { s with cyc := { s.cyc with items := tset s.cyc.items c.item x } }
  if wasGood && !good then rep 0x0501 (put { new with degraded := true })
  else if good && old.degraded then rep 0x0502 (put { new with degraded := false })
  else put new

/-- The buffer swap of every item (R32, R181, R184). -/
def swapItems (s : State) : State := s.cfg.cyc.inItems.foldl swapItem s

/-- An item as the snapshot copier writes it: the 16-byte header and the payload (R182, R183). -/
def itemBytes (s : State) (periodLog2 : Nat) (c : InItemCfg) : List Byte :=
  let x := tgetD s.cyc.items c.item {}
  let q := x.quality c.maxAge
  let subst := q != .good && c.safe.isSome
  let isNew := x.age < 2 ^ periodLog2 && x.held.isSome
  let held := (x.held.map Arrival.payload).getD []
  let payload := if subst then c.safe.getD [] else held
  let ts := ((x.held.map Arrival.rxTs).getD 0).toNat
  leBytes 2 c.item ++ leBytes 1 (q.code + 4 * bit subst + 8 * bit isNew) ++ leBytes 1 x.engBits.toNat
    ++ leBytes 2 x.age ++ leBytes 2 c.length ++ leBytes 8 ts ++ padTo c.length payload

/-! ## Release -/

/-- The bank of a task that holds the end record of an instance, if one does (R187). -/
def endRecordBank (s : State) (t : TaskCfg) (start : Nat) : Option Nat :=
  [t.voted0, t.voted1].find? (fun b =>
    memRead s.mem (b + t.endOff) 9 == leBytes 8 start ++ leBytes 1 t.task.val)

/-- The output items of a task, in copy order. -/
def taskOutputs (s : State) (t : TaskCfg) : List OutItemCfg :=
  t.outputs.filterMap (fun i => s.cfg.cyc.outItems.find? (fun o => o.item == i))

/-- The start tick of the instance whose release tick this tick is, when one was started (R171, R187). -/
def dueInstance (s : State) (t : TaskCfg) : Option Nat :=
  let start := s.tick - 2 ^ t.periodLog2
  if (vget s.cyc.tasks t.task).open_.contains start ∧ 2 ^ t.periodLog2 ≤ s.tick then some start else none

/-- The output values a task releases at this tick: those of the bank whose end record is found; after a missed release the
safe values of a task with SUBSTITUTE (R187). -/
def taskReleases (s : State) (t : TaskCfg) : List (OutItemCfg × List Byte) :=
  match dueInstance s t with
  | none => []
  | some start =>
    match endRecordBank s t start with
    | some b => (taskOutputs s t).map (fun o => (o, memRead s.mem (b + o.bankOff + 8) o.length))
    | none => if t.substitute then (taskOutputs s t).filterMap (fun o => o.safe.map (fun v => (o, padTo o.length v))) else []

/-- Counts the release of a task's due instance, or its miss (R187). -/
def countRelease (s : State) (t : TaskCfg) : State :=
  match dueInstance s t with
  | none => s
  | some start =>
    let s1 := s.modTask t.task (fun T => { T with open_ := T.open_.filter (fun x => x != start) })
    match endRecordBank s t start with
    | some _ => s1
    | none => rep 0x0503 (s1.modTask t.task (fun T => { T with missCnt := T.missCnt + 1, prevMissed := true }))

/-- A released value becomes the item's (R187, R188). -/
def noteRelease (s : State) (r : OutItemCfg × List Byte) : State :=
  { s with cyc := { s.cyc with outs := tset s.cyc.outs r.1.item { value := some r.2, released := true } } }

/-- From the loading of the settings every output item holds its safe value until a program first releases it (R188). -/
def initOutputs (s : State) : State :=
  s.cfg.cyc.outItems.foldl (fun s o =>
    { s with cyc := { s.cyc with outs := tset s.cyc.outs o.item { value := o.safe, released := false } } }) s

/-- An output item's value reaches the internal items bound to it (R177). -/
def feedInternal (s : State) (r : OutItemCfg × List Byte) : State :=
  (s.cfg.cyc.inItems.filter (fun c => c.fromOut == some r.1.item)).foldl
    (fun s c => arrive c.item ⟨true, 0, s.ts, r.2⟩ s) s

/-! ## Snapshots and instance starts -/

/-- The task header of an instance (R185). -/
def taskHeader (s : State) (t : TaskCfg) (items compl : Nat) : List Byte :=
  let T := vget s.cyc.tasks t.task
  let changed := s.cyc.changes.any (fun p => p.task == t.task.val)
  let flags := bit T.first + 2 * bit s.cyc.warm + 4 * bit T.prevMissed + 8 * bit T.prevFault + 16 * bit T.afterSwap
    + 32 * bit T.skipped + 64 * bit changed
  let mode := s.vot.mode.code + 4 * bit (s.cls.role == .active) + 8 * s.tim.state.code + 64 * bit s.pwr.warn
    + 128 * bit (s.cyc.swap == .trial)
  timeBytes (s.tick * tickUnits) ++ leBytes 8 s.tick ++ leBytes 4 s.trust.actCnt.toNat ++ leBytes 2 T.missCnt.toNat
    ++ leBytes 2 T.fltCnt.toNat ++ leBytes 2 T.skipCnt.toNat ++ leBytes 2 (T.chgGen.toNat + bit changed)
    ++ leBytes 1 flags ++ leBytes 1 mode ++ leBytes 2 items ++ leBytes 4 compl ++ zeros 20

/-- The rings whose completions a lane's instance of a task receives: voted rings and its own (R157, R159). -/
def ownedRings (s : State) (l : LaneId) (t : Nat) : List (Fin 64) :=
  allRings.filter (fun r => (s.ringAt r).enabled && (s.ringAt r).owner == t && (r.val < 32 || ringLane r.val == some l))

/-- An input item in a task's snapshot: the copier's, or for a motion item the lane runtime's (R182, R353). -/
def itemIn (s : State) (t : TaskCfg) (c : InItemCfg) : List Byte :=
  match tget? s.cfg.mot.items c.item with
  | some j => motionItemBytes s t.task c j
  | none => itemBytes s t.periodLog2 c

/-- The snapshot of an instance in one lane: task header, input items, completions (R179, R182, R185). -/
def snapshotBytes (s : State) (l : LaneId) (t : TaskCfg) : List Byte :=
  let items := t.inputs.filterMap (inItem? s)
  let compl := (ownedRings s l t.task.val).flatMap (newCompletions s)
  taskHeader s t items.length (compl.length / 16) ++ items.flatMap (itemIn s t) ++ compl

/-- Task lag (R194): an instance two runs back has not ended in a lane. -/
def laneLags (s : State) (l : LaneId) (t : TaskId) (run : Nat) : Bool :=
  (vget s.cyc.insts l).any (fun i => i.task == t.val && i.run + 2 ≤ run && i.ended != 3)

/-- One lane at the start of an instance: a lagging lane is forced to SAFE; otherwise the snapshot is copied into both images,
scratch is zeroed and the instance becomes ready (R97, R171, R182, R194). -/
def startInLane (t : TaskCfg) (run : Nat) (s : State) (l : LaneId) : State :=
  if !countedFor s l (.task t.task.val 0 0) then s
  else if laneLags s l t.task run then forceSafeWrite l true s
  else
    let bytes := snapshotBytes s l t
    let bank := if run % 2 = 0 then t.bank0 else t.bank1
    let s1 := s.modLane l (fun L => { L with
      cores := L.cores.map (fun c => (c.writeBytes bank bytes).zeroScratch t.task) })
    let insts := vget s1.cyc.insts l ++ [{ task := t.task.val, start := s.tick, run := run }]
    { s1 with cyc := { s1.cyc with insts := vset s1.cyc.insts l insts } }

/-- The owner's rings note CP_LATCH of its start tick (R158). -/
def noteOwnerLatch (t : Nat) (s : State) : State :=
  { s with rng := { s.rng with ring := s.rng.ring.map (fun R => if R.owner = t then { R with ownerLatch := R.cpLatch } else R) } }

/-- An instance of a task starts at this tick (R171, R185, R200). -/
def startInstance (s : State) (t : TaskCfg) : State :=
  let run := (vget s.cyc.tasks t.task).runCount + 1
  let s0 := noteOwnerLatch t.task.val s
  let s1 := allLanes.foldl (startInLane t run) s0
  let changed := s.cyc.changes.any (fun p => p.task == t.task.val)
  let s2 := (openWindows t.task s1).modTask t.task (fun T => { T with
    runCount := run, first := false, afterSwap := false, prevMissed := false, prevFault := false, skipped := false,
    changed := changed, chgGen := if changed then T.chgGen + 1 else T.chgGen, open_ := T.open_ ++ [s.tick] })
  { s2 with cyc := { s2.cyc with changes := s2.cyc.changes.map (fun p => if p.task = t.task.val then { p with due := true } else p) } }

/-- Inserts a task by falling priority: shorter period first, then lower number (R172). -/
def insertTask (t : TaskCfg) : List TaskCfg → List TaskCfg
  | [] => [t]
  | u :: us =>
    if t.periodLog2 < u.periodLog2 ∨ (t.periodLog2 = u.periodLog2 ∧ t.task < u.task) then t :: u :: us
    else u :: insertTask t us

/-- The configured tasks in priority order (R172). -/
def tasksByPriority (s : State) : List TaskCfg := s.cfg.cyc.tasks.foldr insertTask []

/-- The instances that start at this tick, in priority order (R171, R173). -/
def startInstances (s : State) : State :=
  let s0 := noteOwnerLatch 16 s
  if programRuns s0 then
    ((tasksByPriority s0).filter (fun t =>
      s0.tick % 2 ^ t.periodLog2 == 0 && (s0.cls.role != .join || (tget? s0.cls.started t.task.val).isSome))).foldl startInstance s0
  else s0

/-! ## Program start -/

/-- The retained header's bytes, its BUSY bit and CRC included (R196). -/
def retainedHeader (layout : List Byte) (epoch act tick seq busy : Nat) : List Byte :=
  let b := padTo 16 layout ++ leBytes 4 epoch ++ leBytes 4 act ++ leBytes 8 tick ++ leBytes 4 seq ++ leBytes 1 busy ++ zeros 23
  b ++ leBytes 4 (crc32c b)

/-- Offset of the retained header in the retained area (R196). -/
def headerOff : Nat := 0xFF000

/-- The condition of R198 that a lane's retained data fails, in the order of the rule, or none. -/
def retainedFault (s : State) (L : Lane) : Option Nat :=
  let h := memRead L.mram headerOff 64
  if leAt h 60 4 ≠ crc32c (h.take 60) then some 1
  else if byteAt h 36 % 2 = 1 then some 2
  else if h.take 16 ≠ padTo 16 s.image.layout then some 3
  else if leAt h 16 4 ≠ s.cls.epoch.toNat then some 4
  else none

/-- The bytes a carry-over or migration line gives, read from old data (R202, R501). -/
def carryBytes (read : Nat → Nat → List Byte) (c : CarryLine) : List Byte :=
  match c.src with
  | .copy old => read old c.size
  | .widen old n sgn =>
    let v := ofLe (read old n)
    leBytes c.size (if sgn then unsigned (8 * c.size) (signed (8 * n) v) else v)
  | .realWiden old => leBytes 8 (realWiden (ofLe (read old 4)))
  | .initial => padTo c.size c.init
where
  /-- REAL32 to REAL64 (IEEE 754): exact for every value; a NaN keeps its payload's high bits. -/
  realWiden (v : Nat) : Nat :=
    let sign := v / 2 ^ 31 % 2
    let e := v / 2 ^ 23 % 256
    let m := v % 2 ^ 23
    if e = 255 then sign * 2 ^ 63 + 2047 * 2 ^ 52 + m * 2 ^ 29
    else if e = 0 then
      if m = 0 then sign * 2 ^ 63
      else
        let k := m.log2
        sign * 2 ^ 63 + (k + 874) * 2 ^ 52 + (m - 2 ^ k) * 2 ^ (52 - k)
    else sign * 2 ^ 63 + (e + 896) * 2 ^ 52 + m * 2 ^ 29

/-- The migration map of the image for an older layout (R501). -/
def migrationFor (s : State) (layout : List Byte) : Option (List CarryLine) :=
  (s.image.migrations.find? (fun m => padTo 16 m.1 == layout)).map Prod.snd

/-- A lane's retained data of an older layout is converted by a migration map, with the new layout in its header (R501). -/
def migrateRetained (s : State) (L : Lane) : Lane :=
  let h := memRead L.mram headerOff 64
  if leAt h 60 4 ≠ crc32c (h.take 60) ∨ byteAt h 36 % 2 = 1 ∨ h.take 16 = padTo 16 s.image.layout then L
  else match migrationFor s (h.take 16) with
    | none => L
    | some lines =>
      let data := lines.flatMap (fun c =>
        (carryBytes (fun a n => memRead L.mram a n) c).zipIdx.map (fun p => (c.addr + p.2, p.1)))
      let head := retainedHeader s.image.layout (leAt h 16 4) (leAt h 20 4) (leAt h 24 8) (leAt h 32 4) 0
      { L with mram := memWrite (memWrites (memClear L.mram 0 headerOff) data) headerOff head }

/-- The retained area of both images takes given bytes by offset. -/
def Lane.loadRetained (L : Lane) (data : List (Nat × Byte)) : Lane :=
  let put (c : Core) : Core :=
    let old := listedLines (c.img.filter (fun e => retBase ≤ e.1 && e.1 < retHeader))
    let c1 : Core := { c with img := memClear c.img retBase retHeader, dirty := old.foldl nsAdd c.dirty }
    c1.writes data
  { L with cores := L.cores.map put }

/-- A lane runtime's check of its retained data before the program start (R198, R501): accepted data is copied into both
images; data that is not accepted gives way to the initial values and the class is reported with the failed condition. -/
def checkRetained (s : State) (l : LaneId) : State :=
  let L := migrateRetained s (s.lane l)
  let s := if L.mram = (s.lane l).mram then s else rep 0x4407 s
  match retainedFault s L with
  | none =>
    let data := (L.mram.filter (fun e => e.1 < headerOff)).map (fun e => (retBase + e.1, e.2))
    s.modLane l (fun _ => { L.loadRetained data with retDiscarded := false })
  | some n =>
    report 0x0508 (10 + l.val) (leBytes 1 n)
      (s.modLane l (fun _ => { L.loadRetained (s.image.retained.filter (fun e => e.1 < retHeader)) with retDiscarded := true }))

/-- A lane's start record (R175). -/
def startRecordOf (s : State) (l : LaneId) : List Byte :=
  let img := (vget (s.lane l).cores 0).img
  leBytes 4 s.trust.actCnt.toNat ++ leBytes 4 s.cls.epoch.toNat ++ leBytes 8 (crc64 (memRead img retBase 0x100000))
    ++ padTo 16 s.image.layout

/-- The conditions of R175 and R166 on the module, the program being stopped; none starts during a conversion (R203). -/
def startConditions (s : State) : Bool :=
  s.cyc.prog == .stopped && (s.vot.mode == .triple || s.vot.mode == .dual) && (s.tim.state == .locked || s.tim.state == .master) &&
  s.cfg.cyc.rings.all (fun r => (s.ringAt (Fin.ofNat 64 r.ring)).state == .active) && s.cyc.swap != .convert

/-- The program may start: Clasp has called for the start and the maintainer has not stopped it (R175, R443). -/
def canStart (s : State) : Bool :=
  startConditions s && (s.cls.role == .contend || s.cls.role == .active) && !s.cls.advance && !s.cyc.stopByMaint

/-- The longest declared period (R175). -/
def kmax (s : State) : Nat := s.cfg.cyc.tasks.foldl (fun k t => max k t.periodLog2) 0

/-- The first aligned tick at least 8 ticks ahead (R175). -/
def startTickAfter (tick k : Nat) : Nat := (tick + 8 + 2 ^ k - 1) / 2 ^ k * 2 ^ k

/-- The start records of the counted lanes meet at the voter (R175): two that agree commit and outvote a third; without two the
vote is a no-majority. -/
def commitStart (recs : List (LaneId × List Byte)) (s : State) : State :=
  let votes (b : List Byte) : Nat := (recs.filter (fun r => r.2 == b)).length
  match recs.find? (fun r => 2 ≤ votes r.2) with
  | some win =>
    let addr := match taskCfg? s 0 with
      | some t => exchangeBase + t.voted0
      | none => exchangeBase
    let warm := !(s.lane win.1).retDiscarded
    let s1 := (recs.filter (fun r => r.2 != win.2)).foldl
      (fun s r => expelLane 2 0x0C02 r.1 (.runtime (vget s.vot.lanes r.1).seq.toNat) addr s) s
    { s1 with cyc := { s1.cyc with prog := .starting (startTickAfter s.tick (kmax s)), warm := warm } }
  | none => match recs.getLast? with
    | some r => noMajority r.1 (.runtime (vget s.vot.lanes r.1).seq.toNat) exchangeBase s
    | none => s

/-- The parameter areas take the values of the active configuration again (R201). -/
def resetParams (s : State) : State :=
  let isParam (a : Nat) : Bool := s.image.params.any (fun p => inRange (p.addr, p.size) a)
  let init := s.image.idata.filter (fun e => isParam e.1)
  let blank := s.image.params.flatMap (fun p => (List.range p.size).map (fun i => (p.addr + i, (0#8 : Byte))))
  let s1 := s.modLanes (fun L => if L.state = .running then
      { L with cores := L.cores.map (fun c => (c.writes blank).writes init) }
    else L)
  { s1 with cyc := { s1.cyc with params := [], changes := [] } }

/-- The lane runtime writes the stored baselines before each program start, where the configuration asks for it (R506). -/
def applyBaselines (s : State) : State :=
  if s.cfg.trust.baselines then
    (s.trust.ucal.filter (fun e => e.1 / 65536 == 2)).foldl (fun s e => setBase (Fin.ofNat 48 (e.1 % 65536)) (e.2 % 4096) s) s
  else s

/-- The content of a calibration item: the VALUE of APPLICATION entries from an index on, zeros for absent ones (R506). -/
def calItemBytes (s : State) (first : Nat) : List Byte :=
  (List.range 512).flatMap (fun i => leBytes 8 (tgetD s.trust.ucal (ucalKey 3 (first + i)) 0))

/-- One arrival of each calibration item at a program start (R506). -/
def feedCalItems (s : State) : State :=
  match s.cfg.trust.calItems with
  | some (a, b) => arrive b ⟨true, 0, s.ts, calItemBytes s 512⟩ (arrive a ⟨true, 0, s.ts, calItemBytes s 0⟩ s)
  | none => s

/-- A start of the TRIAL bank that reaches program start sets TRIAL_LEFT to 3 again (R498). -/
def noteTrialStart (s : State) : State :=
  let t := s.trust
  { s with trust := { t with started := true, trialLeft := if t.trial = some t.bankB then 3 else t.trialLeft } }

/-- CYCLIC_PROGRAM_START (R175): the retained data is checked in every counted lane, the start records commit and the start tick
is fixed. -/
def programStart (s : State) : State :=
  if canStart s then
    let s1 := (countedLanes s).foldl checkRetained (applyBaselines (resetParams s))
    commitStart ((countedLanes s1).map (fun l => (l, startRecordOf s1 l))) s1
  else s

/-- CYCLIC_PROGRAM_START (R175). -/
def execCyclicProgramStart (s : State) : Host.Outcome State Fault Refusal := act programStart s

/-- The program starts at its start tick (R175): counts and held values begin anew and an ANCHOR is staged (R460). `tick` is the
start tick. -/
def beginProgram (tick : Nat) (s : State) : State :=
  let after := s.cyc.afterSwap
  let s1 := { s with cyc := { s.cyc with
    prog := .running, progTick := tick, afterSwap := false,
    tasks := Vector.replicate 16 { afterSwap := after },
    items := s.cyc.items.map (fun e => (e.1, { ({} : InItem) with back := e.2.back, inBurst := e.2.inBurst })) } }
  requestRecord (anchorRecord s1) (noteTrialStart (feedCalItems (chkProgramStart (motProgramStart s1))))

/-- At a tick event: a program whose start tick has come, or has been crossed, starts (R175). -/
def startAtTick (s : State) : State :=
  match s.cyc.prog with
  | .starting n => if n ≤ s.tick then beginProgram n s else s
  | .stopped | .running => s

/-- Instances whose start ticks a forward step crossed before the last boundary are not run; a release tick crossed without an
event is a missed release; TIMED operations crossed are discarded (R63, R195). `first` is the first boundary crossed. -/
def skipInstances (first : Nat) (s : State) : State :=
  if programRuns s then
    let last := s.tick
    let lo := max first s.cyc.progTick
    let starts (t : TaskCfg) : Nat := ((List.range (last - lo)).filter (fun i => (lo + i) % 2 ^ t.periodLog2 == 0)).length
    s.cfg.cyc.tasks.foldl (fun s t =>
      let n := starts t
      let T := vget s.cyc.tasks t.task
      let crossed := T.open_.filter (fun x => x + 2 ^ t.periodLog2 < last)
      let s1 := s.modTask t.task (fun T => { T with
        skipCnt := T.skipCnt + BitVec.ofNat 16 n, skipped := T.skipped || 0 < n,
        open_ := T.open_.filter (fun x => !crossed.contains x),
        missCnt := T.missCnt + BitVec.ofNat 16 crossed.length, prevMissed := T.prevMissed || !crossed.isEmpty })
      let s2 := crossed.foldl (fun s _ => rep 0x0503 s) s1
      if 0 < n then rep 0x0507 s2 else s2) s
  else s

/-! ## Retained mirror and online change -/

/-- A mirror operation of a lane runtime: the lines, then the header with SEQ incremented and BUSY 0 (R197, R449). -/
def mirrorInto (s : State) (lines : NatSet) (tick : Nat) (L : Lane) : Lane :=
  let img := (vget L.cores 0).img
  let seq := (leAt (memRead L.mram headerOff 64) 32 4 + 1) % 2 ^ 32
  let head := retainedHeader s.image.layout s.cls.epoch.toNat s.trust.actCnt.toNat tick seq 0
  let m := lines.foldl (fun m n => memWrite m (64 * n - retBase) (memRead img (64 * n) 64)) L.mram
  { L with mram := memWrite m headerOff head }

/-- RETAINED_MIRROR (R197): the oldest waiting mirror operation of a lane. -/
def execRetainedMirror (lane : LaneId) (s : State) : Host.Outcome State Fault Refusal :=
  act (fun s => s.modLane lane (fun L => match L.mirror with
    | [] => L
    | (lines, tick) :: rest => { mirrorInto s lines tick L with mirror := rest })) s

/-- ONLINE_CHANGE_APPLY (R200): in the snapshot phase of its start tick the copier writes a task's accepted values into its
parameter area in both images of every lane that runs the task; the class is reported. -/
def applyChanges (t : TaskId) (s : State) : State :=
  let mine := s.cyc.changes.filter (fun p => p.task == t.val && p.due)
  if mine.isEmpty then s
  else
    let data := mine.flatMap (fun p => p.bytes.zipIdx.map (fun b => (p.addr + b.2, b.1)))
    let s1 := allLanes.foldl (fun s l =>
      if countedFor s l (.task t.val 0 0) then
        s.modLane l (fun L => { L with cores := L.cores.map (fun c => c.writes data) })
      else s) s
    rep 0x0509 { s1 with cyc := { s1.cyc with
      changes := s1.cyc.changes.filter (fun p => !(p.task == t.val && p.due)), params := s1.cyc.params ++ mine } }

/-- ONLINE_CHANGE_APPLY (R200). -/
def execOnlineChangeApply (task : TaskId) (s : State) : Host.Outcome State Fault Refusal := act (applyChanges task) s

/-! ## Code swap -/

/-- Program image and instance data exchanged with their shadows in one image (R35, R203). -/
def swapAddr (a : Nat) : Nat :=
  if 0x04000000 ≤ a ∧ a < 0x24000000 then a + 0x3C000000
  else if 0x40000000 ≤ a ∧ a < 0x60000000 then a - 0x3C000000
  else if 0x24000000 ≤ a ∧ a < 0x34000000 then a + 0x3C000000
  else if 0x60000000 ≤ a ∧ a < 0x70000000 then a - 0x3C000000
  else a

/-- Primary and shadow regions exchanged in both images of a lane, with the digest computation of R95 (R203). -/
def exchangeLane (L : Lane) : Lane :=
  { L with cores := L.cores.map (fun c =>
      L.sweepCore { c with img := memWrites [] (c.img.map (fun e => (swapAddr e.1, e.2))) }) }

/-- SWAP_LOAD_COMPLETE (R203): the new program is in the program shadow of both images of every counted lane. -/
def swapLoadComplete (s : State) : State :=
  match s.cyc.swap, s.cyc.swapImage with
  | .loading, some (_, img) =>
    let data := img.program.map (fun e => (swapAddr e.1, e.2))
    let s1 := (countedLanes s).foldl (fun s l =>
      s.modLane l (fun L => { L with cores := L.cores.map (fun c => c.writes data) })) s
    rep 0x050B { s1 with cyc := { s1.cyc with swap := .ready } }
  | _, _ => s

/-- SWAP_LOAD_COMPLETE (R203). -/
def execSwapLoadComplete (s : State) : Host.Outcome State Fault Refusal := act swapLoadComplete s

/-- The new instance data by the carry-over map, written into the instance-data shadow of one core (R202). -/
def convertCore (img : AppImage) (c : Core) : Core :=
  let data := img.carry.flatMap (fun l =>
    (carryBytes (fun a n => memRead c.img a n) l).zipIdx.map (fun p => (swapAddr (l.addr + p.2), p.1)))
  ({ c with img := memClear c.img 0x60000000 0x70000000 } : Core).writes data

/-- A lane whose digest pairs differ after an exchange has a latent divergence (R95). -/
def exchangeCheck (s : State) (l : LaneId) : State :=
  let L := s.lane l
  match firstUnequal (vget L.cores 0).dig (vget L.cores 1).dig with
  | some t => laneFinding l 3 t.val 0 0 s
  | none => s

/-- SWAP_CONVERSION_COMPLETE (R202, R203): regions are exchanged in every counted lane and the new program is to start on
trial. -/
def conversionComplete (s : State) : State :=
  match s.cyc.swap, s.cyc.swapImage with
  | .convert, some (_, img) =>
    let ls := countedLanes s
    let s1 := ls.foldl (fun s l => s.modLane l (fun L =>
      exchangeLane { L with cores := L.cores.map (convertCore img) })) s
    let s2 := { s1 with
      image := img,
      cyc := { s1.cyc with swap := .trial, oldImage := s.image, afterSwap := true } }
    ls.foldl exchangeCheck s2
  | _, _ => s

/-- SWAP_CONVERSION_COMPLETE (R203). -/
def execSwapConversionComplete (s : State) : Host.Outcome State Fault Refusal := act conversionComplete s

/-- SWAP_CONVERSION_TIMEOUT (R203): the shadow is discarded and the old program may start again. -/
def conversionTimeout (s : State) : State :=
  if s.cyc.swap = .convert then
    rep 0x050B ({ s with cyc := { s.cyc with swap := .idle, swapImage := none } }.modLanes discardShadow)
  else s

/-- SWAP_CONVERSION_TIMEOUT (R203). -/
def execSwapConversionTimeout (s : State) : Host.Outcome State Fault Refusal := act conversionTimeout s

/-- At the aligned tick of a swap or a revert the program stops, after the releases of that tick: a swap goes to CONVERT, a
revert exchanges the regions back (R203). -/
def swapAtTick (s : State) : State :=
  match s.cyc.swapAt with
  | none => s
  | some (n, revert) =>
    if s.tick < n then s
    else
      let s1 := stopProgram s
      let s2 := setRole .none { s1 with cls := { s1.cls with outEn := false }, cyc := { s1.cyc with swapAt := none } }
      if revert then
        if s2.cyc.swap = .trial then
          let ls := countedLanes s2
          let s3 := ls.foldl (fun s l => s.modLane l (fun L => discardShadow (exchangeLane L)))
            { s2 with image := s2.cyc.oldImage, cyc := { s2.cyc with swap := .idle, swapImage := none, afterSwap := true } }
          rep 0x050B (ls.foldl exchangeCheck s3)
        else s2
      else if s2.cyc.swap = .ready then { s2 with cyc := { s2.cyc with swap := .convert } }
      else s2

end Sys2Proof.Machine
end

