-- ==== Sys2Proof/Machine/Clasp.lean ====
section
/-!
DEFINITION. The unit pairing (R435 to R458): the claim and the Clasp frame, roles, the pair link, the unit epoch, checkpoint joining,
claim-gated outputs and claim selectors.
-/

namespace Sys2Proof.Machine

/-! ## The claim and the frame -/

/-- Does the module claim in the coming frame (R443, R445)? -/
def claiming (s : State) : Bool := s.cls.role.claims && !s.cls.yielding

/-- The claim word (R436); zero while the module is not claiming. -/
def claimWord (s : State) : BitVec 16 :=
  if claiming s then
    let inc := s.cls.role == .active && s.cls.won && s.cfg.cls.sticky
    BitVec.ofNat 16 (pack [(4, s.cfg.cls.posId), (8, s.cls.score.toNat), (3, s.cfg.cls.base), (1, bit inc)])
  else 0

/-- The role rank of a claim word (R436). -/
def roleRank (claim : Nat) : Nat := claim / 4096 % 16

/-- Is a line failed in a frame (R439)? -/
def LineRead.failed (r : LineRead) (claims : Bool) : Bool := r.stop || (claims && !r.start)

/-- Does a module lose a line: does it read a claim bit dominant that it left recessive (R438)? -/
def LineRead.lost (r : LineRead) (own : BitVec 16) : Bool := r.claim &&& ~~~own != 0

/-- Does a good line let the module win: not lost, or lost with the confirm bit recessive (R439)? -/
def LineRead.wins (r : LineRead) (own : BitVec 16) : Bool := !r.lost own || !r.confirm

/-- The decision of a frame (R439). -/
def frameWon (claims : Bool) (own : BitVec 16) (lines : List LineRead) : Bool :=
  let good := lines.filter (fun r => !r.failed claims)
  claims && !good.isEmpty && good.all (fun r => r.wins own)

/-- One line wins and the other does not (R439). -/
def linesDisagree (claims : Bool) (own : BitVec 16) (lines : List LineRead) : Bool :=
  let good := lines.filter (fun r => !r.failed claims)
  claims && good.any (fun r => r.wins own) && good.any (fun r => !r.wins own)

/-- The Clasp-line class of a failed line, from a claiming module at most once per 8 000 ticks (R439). -/
def reportLine (claims : Bool) (i : Fin 2) (r : LineRead) (s : State) : State :=
  let due := match vget s.cls.lineTick i with
    | some t => decide (t + 8000 ≤ s.tick)
    | none => true
  if claims && r.failed claims && due then
    rep 0x3C02 { s with cls := { s.cls with lineTick := vset s.cls.lineTick i (some s.tick) } }
  else s

/-! ## Roles -/

/-- The module enters LISTEN (R443). -/
def enterListenRole (s : State) : State :=
  setRole .listen { s with cls := { s.cls with outEn := false, waitCnt := 0, once := 0, phase := 0 } }

/-- Is the partner present (R443)? -/
def partnerPresent (s : State) : Bool := s.cls.plUp && s.cls.partner.role != .none && s.cls.partner.role != .withdrawn

/-- Does the partner claim, by its message (R443)? -/
def partnerClaims (m : PairMsg) : Bool := m.role.claims || 1 ≤ roleRank m.claim.toNat

/-- Is the partner of the same configuration and of another position (R443)? -/
def partnerFits (s : State) : Bool :=
  s.cls.partner.digest == cfgDigest s && s.cls.partner.posId.toNat != s.cfg.cls.posId % 16

/-- The actions of a frame that is won (R441, R443, R448, R458). -/
def winFrame (s : State) : State :=
  let us := match s.cls.partnerWon with
    | some t => min 65535 (divFree 15 ((s.tim.now : Int) - t) (1000 * nsUnits)).toNat
    | none => s.cls.lastUs
  let s1 := { s with cls := { s.cls with
    outEn := true, lastUs := us, worstUs := max s.cls.worstUs us, partnerWon := none } }
  let alone := !(s1.cls.plUp && s1.cls.partner.role == .standby)
  match s.cls.role with
  | .contend => setRole .active { s1 with cls := { s1.cls with advance := s1.cls.advance || alone } }
  | .standby => setRole .active { s1 with cls := { s1.cls with advance := s1.cls.advance || alone } }
  | .none | .listen | .join | .active | .withdrawn => s1

/-- The actions of a frame that is lost by a claiming module (R441, R443). -/
def loseFrame (s : State) : State :=
  let s1 := { s with cls := { s.cls with outEn := false, won := false } }
  match s.cls.role with
  | .contend => enterJoin s1
  | .active => setRole .standby s1
  | .none | .listen | .join | .standby | .withdrawn => s1

/-- A LISTEN module whose partner claims in a frame with equal digests begins a checkpoint transfer (R443); after a failed attempt
only once its 10 s have passed (R454). -/
def joinClaimer (winner : Nat) (s : State) : State :=
  if s.cls.role = .listen ∧ 1 ≤ roleRank winner ∧ partnerPresent s ∧ partnerFits s ∧ ¬ s.cls.retryWait then enterJoin s else s

/-- The decision instant of a Clasp frame (R438 to R441). -/
def claspFrame (a b : LineRead) (s : State) : State :=
  let claims := claiming s
  let own := claimWord s
  let lines := [a, b]
  let won := frameWon claims own lines
  let split := linesDisagree claims own lines
  let winner := match lines.find? (fun r => !r.failed claims) with
    | some r => if r.start then r.claim else 0
    | none => s.cls.winner
  let err := lines.any (fun r => r.failed claims) || split
  let s1 := { s with cls := { s.cls with
    own := own, winner := winner, won := won, frameTick := BitVec.ofNat 32 (compactTick s.tick),
    lineOk := BitVec.ofNat 2 (bit (!a.failed claims) + 2 * bit (!b.failed claims)),
    lineErr := if err then s.cls.lineErr + 1 else s.cls.lineErr, yielding := false,
    partnerWon := if !won && winner != 0 then some s.tim.now else s.cls.partnerWon } }
  let s2 := reportLine claims 1 b (reportLine claims 0 a s1)
  let s3 := if split then rep 0x3C03 s2 else s2
  if won then winFrame s3
  else if claims then loseFrame s3
  else joinClaimer winner.toNat { s3 with cls := { s3.cls with outEn := false } }

/-- CLASP_FRAME (R439); the operands are what the module reads on CLASP_A and CLASP_B. -/
def execClaspFrame (lineA lineB : LineRead) (s : State) : Host.Outcome State Fault Refusal := act (claspFrame lineA lineB) s

/-! ## The pair link -/

/-- A class reported once in a stay in LISTEN (R443). -/
def repOnce (i code : Nat) (s : State) : State :=
  if testBit s.cls.once.toNat i then s
  else rep code { s with cls := { s.cls with once := s.cls.once ||| BitVec.ofNat 3 (2 ^ i) } }

/-- The module enters CONTEND and claims (R443). -/
def enterContend (s : State) : State := setRole .contend s

/-- What a status message tells a module in LISTEN (R443). -/
def listenTo (m : PairMsg) (s : State) : State :=
  if s.cls.role ≠ .listen ∨ partnerPresent s = false then s
  else
    let s1 := if m.digest = cfgDigest s then s else repOnce 0 0x3C05 s
    let s2 := if m.posId.toNat = s.cfg.cls.posId % 16 then repOnce 1 0x3C06 s1 else s1
    if ¬ partnerFits s2 ∨ partnerClaims m then s2
    else if m.epoch ≤ s2.cls.epoch then enterContend s2
    else repOnce 2 0x3C07 s2

/-- Both modules won one frame and the own claim is the lower (R442): the frame counts as lost. -/
def dualWin (m : PairMsg) (s : State) : State :=
  if s.cls.won ∧ m.won ∧ m.tick = s.cls.frameTick ∧ s.cls.own < m.claim then rep 0x3C04 (loseFrame s) else s

/-- An ACTIVE module whose partner leaves STANDBY advances its epoch at the next tick event (R448). -/
def partnerLeaves (was : Bool) (m : PairMsg) (s : State) : State :=
  if s.cls.role = .active ∧ was ∧ m.role ≠ .standby then { s with cls := { s.cls with advance := true } } else s

/-- The digest a message reports, kept and compared (R456). -/
def noteXchk (m : PairMsg) (s : State) : State :=
  match m.xchk with
  | some (t, start, d) => crossCheck t { s with cls := { s.cls with pairDig := tset s.cls.pairDig t (start, d) } }
  | none => s

/-- A valid status message arrives (R455). -/
def pairMessage (m : PairMsg) (s : State) : State :=
  let was := s.cls.plUp && s.cls.partner.role == .standby
  let s1 := { s with cls := { s.cls with plUp := true, partner := m } }
  noteXchk m (partnerLeaves was m (dualWin m (listenTo m s1)))

/-- PAIR_LINK_MESSAGE (R455). -/
def execPairLinkMessage (msg : PairMsg) (s : State) : Host.Outcome State Fault Refusal := act (pairMessage msg) s

/-- No valid message for 8 ticks (R448, R455). -/
def pairDown (s : State) : State :=
  if s.cls.plUp then
    let cls := { s.cls with plUp := false, partner := { s.cls.partner with role := .none } }
    { s with cls := { cls with advance := cls.advance || cls.role == .active } }
  else s

/-- PAIR_LINK_DOWN (R455). -/
def execPairLinkDown (s : State) : Host.Outcome State Fault Refusal := act pairDown s

/-- CLASP_LISTEN (R443): an active configuration, the voter in TRIPLE or DUAL and the time base LOCKED or MASTER. -/
def execClaspListen (s : State) : Host.Outcome State Fault Refusal :=
  act (fun s => onlyIf (s.cls.role == .none && cfgActive s && (s.vot.mode == .triple || s.vot.mode == .dual) &&
    (s.tim.state == .locked || s.tim.state == .master) && !s.cyc.stopByMaint) enterListenRole s) s

/-- WAIT_TICKS: 0 acts as 16 000 (R458). -/
def waitTicks (s : State) : Nat := if s.cfg.cls.waitTicks = 0 then 16000 else s.cfg.cls.waitTicks

/-- PARTNER_ABSENT (R443): the module contends alone; its epoch is kept when LAST_ROLE is ACTIVE, otherwise advanced. -/
def partnerAbsent (s : State) : State :=
  if s.cls.role = .listen ∧ waitTicks s ≤ s.cls.waitCnt then
    enterContend { s with cls := { s.cls with advance := s.cls.advance || s.cls.lastRole != some true } }
  else s

/-- PARTNER_ABSENT (R443). -/
def execPartnerAbsent (s : State) : Host.Outcome State Fault Refusal := act partnerAbsent s

/-! ## Yield and resynchronisation -/

/-- YIELD (R445). -/
def execYield (s : State) : Host.Outcome State Fault Refusal := act yieldNow s

/-- RESYNC (R443). -/
def execResync (s : State) : Host.Outcome State Fault Refusal := act resyncNow s

/-! ## Checkpoint transfer -/

/-- Copied bytes of covered lines reach both images of every running lane (R453). -/
def checkpointWrites (writes : List (Nat × Byte)) (s : State) : State :=
  let ws := writes.filter (fun w => lineCovered (w.1 / 64))
  s.modLanes (fun L => if L.state = .running then { L with cores := L.cores.map (fun c => c.writes ws) } else L)

/-- A copy round over the pair link ends (R129 to R131, R453): `began` is the number of marked lines with which it began, `final` the
task whose final round has finished, with the partner's run count. -/
def checkpointRound (writes : List (Nat × Byte)) (began : Nat) (final : Option (TaskId × Nat)) (s : State) : State :=
  if s.cls.role = .join then
    let s1 := checkpointWrites writes s
    let c := s1.cls
    if c.phase = 3 then
      match final with
      | some (t, run) => { s1 with cls := { c with final := tset c.final t.val run } }
      | none => s1
    else
      { s1 with cls := { c with phase := if began ≤ 65536 ∧ c.phase = 2 then 3 else 2, round := min 127 (c.round + 1) } }
  else s

/-- CHECKPOINT_ROUND_END (R453). -/
def execCheckpointRoundEnd (writes : List (Nat × Byte)) (began : Nat) (final : Option (TaskId × Nat)) (s : State) :
    Host.Outcome State Fault Refusal :=
  act (checkpointRound writes began final) s

/-- One task of a joining module at this tick event (R453). -/
def checkpointStart (s : State) (t : TaskCfg) : State :=
  match tget? s.cls.final t.task.val, tget? s.cls.started t.task.val with
  | some run, none =>
    if s.tick % 2 ^ t.periodLog2 = 0 then
      let s1 := if programRuns s then s else beginProgram s.tick s
      let s2 := s1.modTask t.task (fun T => { T with runCount := run, first := false })
      { s2 with cls := { s2.cls with started := tset s2.cls.started t.task.val s.tick } }
    else s
  | _, _ => s

/-- The tasks of a joining module whose final round has finished start at their start boundary with the partner's run counts and
FIRST 0; with the first the program runs (R453). -/
def checkpointStarts (s : State) : State :=
  if s.cls.role = .join then
    s.cfg.cyc.tasks.foldl checkpointStart s
  else s

/-- The digest of a task's first instance in every counted lane equals the partner's (R453). -/
def joinDigestIs (t : TaskId) (d : DWord) (s : State) : Bool :=
  match tget? s.cls.started t.val with
  | none => false
  | some start => (countedLanes s).all (fun l => tget? (s.lane l).lastDig t.val == some (instBits start, d))

/-- A translated reference: the partner's value plus the difference of the raw counts (R453). -/
def translate (ref own partner : BitVec 32) : BitVec 32 := ref + (own - partner)

/-- Monitor state of the partner's code (R375). -/
def monStateOf : Nat → MonState
  | 1 => .armed
  | 2 => .tripped
  | _ => .disarmed

/-- Monitor states, limit sets and mark latches of the partner, translated by the raw counts of this tick event (R453). -/
def takeMotion (p : PairMotion) (s : State) : State :=
  let diff (L : Lane) (j : Nat) (v : BitVec 32) : BitVec 32 := translate v (L.source j).count (p.counts.getD j 0)
  let mon (L : Lane) (m : Fin 16) : MonSt :=
    let M := vget L.mot.mon m
    match p.mons[m.val]? with
    | some (st, set, ref) =>
      let c := monCfg s m
      let src := if c.type = 3 then (pinCfg s c.markIn).markSrc else c.src
      { M with state := monStateOf st, set := set, ref := diff L src ref }
    | none => M
  let mark (L : Lane) (i : Fin 8) : MarkSt :=
    let k := vget L.mot.mark i
    match p.marks[i.val]? with
    | some (latched, count) => { k with latched := latched, count := diff L (pinCfg s i.val).markSrc count }
    | none => k
  s.modLanes (fun L => if L.state = .running then
      { L with mot := { L.mot with mon := Vector.ofFn (mon L), mark := Vector.ofFn (mark L) } }
    else L)

/-- A mirror operation without lines waits in every running lane (R449). -/
def queueHeaders (s : State) : State :=
  s.modLanes (fun L => if L.state = .running then { L with mirror := L.mirror ++ [([], s.tick)] } else L)

/-- Every task has joined (R443): the partner's epoch, the claim, and the checkpoint-complete class. -/
def checkpointComplete (p : PairMotion) (s : State) : State :=
  let s1 := takeMotion p { s with cls := { s.cls with phase := 0, epoch := s.cls.partner.epoch } }
  rep 0x3C09 (setRole .standby s1)

/-- A task joins: its digest is confirmed and its retained range rewritten with the partner's epoch (R453). -/
def checkpointJoin (t : TaskId) (d : DWord) (p : PairMotion) (s : State) : State :=
  if s.cls.role = .join ∧ joinDigestIs t d s ∧ s.cls.joined.getLsbD t.val = false then
    let head (L : Lane) : Lane :=
      mirrorInto { s with cls := { s.cls with epoch := s.cls.partner.epoch } } [] s.tick (mirrorRange t L)
    let s1 := s.modLanes (fun L => if L.state = .running then head L else L)
    let joined := s1.cls.joined ||| BitVec.ofNat 16 (2 ^ t.val)
    let s2 := { s1 with cls := { s1.cls with joined := joined } }
    if allJoined s2 joined then checkpointComplete p s2 else s2
  else s

/-- CHECKPOINT_TASK_JOIN (R453): the partner's digest of the task's first instance, and its motion monitors. -/
def execCheckpointTaskJoin (task : TaskId) (digest : DWord) (motion : PairMotion) (s : State) : Host.Outcome State Fault Refusal :=
  act (checkpointJoin task digest motion) s

/-- Has the attempt failed (R454)? -/
def attemptEnds (why : JoinEnd) (s : State) : Bool :=
  let lost := allLanes.any (fun l => s.cls.joinLive.getLsbD l.val && (s.lane l).state == .safe)
  let partner := s.cls.partner.role
  match why with
  | .timeout | .partnerLane => true
  | .digest t d => (tget? s.cls.started t.val).isSome &&
      (countedLanes s).any (fun l => match tget? s.cls.started t.val, tget? (s.lane l).lastDig t.val with
        | some start, some (i, e) => i == instBits start && e != d
        | _, _ => false)
  | .ownState => lost || !s.cls.plUp || !(partner == .active || partner == .standby)

/-- A checkpoint attempt fails (R443, R454). -/
def checkpointFailed (why : JoinEnd) (s : State) : State :=
  if s.cls.role = .join ∧ attemptEnds why s then
    rep 0x3C0A (enterListenRole { stopProgram s with cls := { s.cls with fails := s.cls.fails + 1, retryWait := true } })
  else s

/-- CHECKPOINT_FAILED (R454). -/
def execCheckpointFailed (why : JoinEnd) (s : State) : Host.Outcome State Fault Refusal := act (checkpointFailed why) s

/-- CHECKPOINT_RETRY (R454): the 10 s in LISTEN have passed. -/
def execCheckpointRetry (s : State) : Host.Outcome State Fault Refusal :=
  act (fun s => onlyIf (s.cls.role == .listen) (fun s => { s with cls := { s.cls with retryWait := false } }) s) s

/-! ## The tick event -/

/-- The unit epoch changes: reported, and every lane runtime rewrites its header (R448, R449). -/
def changeEpoch (e : BitVec 32) (s : State) : State := queueHeaders (rep 0x3C08 { s with cls := { s.cls with epoch := e } })

/-- The epoch of an advance at a tick (R448). -/
def advancedEpoch (epoch tick : Nat) : Nat := max (epoch + 1) (tick / 65536)

/-- The epoch's changes at a tick event (R448). -/
def epochAtTick (s : State) : State :=
  if s.cls.advance then
    changeEpoch (BitVec.ofNat 32 (advancedEpoch s.cls.epoch.toNat s.tick)) { s with cls := { s.cls with advance := false } }
  else if s.cls.role = .standby ∧ s.cls.plUp ∧ s.cls.epoch < s.cls.partner.epoch then changeEpoch s.cls.partner.epoch s
  else s

/-- Ticks in LISTEN with the partner absent (R443). -/
def waitAtTick (s : State) : State :=
  if s.cls.role = .listen then
    { s with cls := { s.cls with waitCnt := if partnerPresent s then 0 else min 65536 (s.cls.waitCnt + 1) } }
  else s

/-- Clasp's part of a tick event: a YIELD reaction, the epoch, the wait and the health score (R437, R443, R448, R568). -/
def claspAtTick (s : State) : State :=
  let s1 := if s.flt.yieldPend then yieldNow { s with flt := { s.flt with yieldPend := false } } else s
  computeHealth (waitAtTick (epochAtTick s1))

/-! ## Claim-gated items -/

/-- The stamp of a release at this tick (R447). -/
def stampBytes (s : State) : List Byte :=
  leBytes 2 s.cls.own.toNat ++ leBytes 4 (compactTick s.tick) ++ leBytes 1 (bit s.cls.won) ++ zeros 1

/-- A released value with the stamp of a STAMP-gated item in its bytes 0 to 7 (R447). -/
def stamped (s : State) (o : OutItemCfg) (v : List Byte) : List Byte :=
  match o.gate with
  | .stamp => stampBytes s ++ v.drop 8
  | .free | .enable => v

/-- A component's arrival since the previous tick event. -/
def component (s : State) (item : Nat) : Option Arrival :=
  let x := tgetD s.cyc.items item {}
  match x.back with
  | some a => if a.valid && !x.inBurst then some a else none
  | none => none

/-- CLAIM of a component's stamp. -/
def stampClaim (a : Arrival) : Nat := leAt a.payload 0 2

/-- Does arrival `b` come before `a` in the choice: a later TICK, or an equal one with a higher CLAIM (R451)? -/
def stampAhead (a b : Arrival) : Bool :=
  let d := sdiff 32 (leAt b.payload 2 4) (leAt a.payload 2 4)
  decide (0 < d) || (d == 0 && stampClaim a < stampClaim b)

/-- One claim selector at a tick event (R451). -/
def evaluateSelector (s : State) (c : SelectorCfg) : State :=
  let a := component s c.itemA
  let b := component s c.itemB
  let ranked (x : Option Arrival) : Option Arrival := x.filter (fun v => 1 ≤ roleRank (stampClaim v))
  let zero (x : Option Arrival) : Bool := x.any (fun v => roleRank (stampClaim v) == 0)
  let bit2 := 4 * bit (zero a || zero b)
  let pick (x : Arrival) (n : Nat) : State := arrive c.item { x with engBits := BitVec.ofNat 8 (n + bit2) } s
  match ranked a, ranked b with
  | some x, some y => if stampAhead x y then pick y 2 else pick x 1
  | some x, none => pick x 1
  | none, some y => pick y 2
  | none, none => s

/-- Every claim selector, after the safe receivers (R451). -/
def evaluateSelectors (s : State) : State := s.cfg.cls.selectors.foldl evaluateSelector s

end Sys2Proof.Machine
end

