-- ==== Sys2Proof/Machine/Release.lean ====
section
/-!
DEFINITION. What a released output value does at its destination (R187, R188, R335, R447), and the safe values held before the first
release.
-/

namespace Sys2Proof.Machine

/-- A value enters the buffer of its destination: commands of the field-I/O engine, a transmit buffer, a publication or a source port. A
route takes it from the item (R308), an internal item at the buffer swap (R177). -/
def deliverValue (d : OutDest) (v : List Byte) (s : State) : State :=
  match d with
  | .field g => setGroup g 0xFF (byteAt v 0) s
  | .vo m => setVo m (byteAt v 0) s
  | .txBuf n => loadTxBuf n v s
  | .pd n => loadPub n v s
  | .mvb a => loadMvb a v s
  | .route _ | .internal => s

/-- One output item is released (R187): stamped, wrapped where it is a safe sender's, noted and delivered. A late wrap leaves the
engine's buffer as it is (R336). -/
def releaseOutput (s : State) (r : OutItemCfg × List Byte) : State :=
  let (w, s1) := wrapRelease s r.1.item (stamped s r.1 r.2)
  match w with
  | some b => deliverValue r.1.dest b (noteRelease s1 (r.1, b))
  | none => s1

/-- Inserts a release in ascending order of its item (R335). -/
def insertRelease (r : OutItemCfg × List Byte) : List (OutItemCfg × List Byte) → List (OutItemCfg × List Byte)
  | [] => [r]
  | x :: xs => if r.1.item < x.1.item then r :: x :: xs else x :: insertRelease r xs

/-- The releases of a tick event, those of the safe senders in ascending item order (R335). -/
def releaseAll (rs : List (OutItemCfg × List Byte)) (s : State) : State := (rs.foldr insertRelease []).foldl releaseOutput s

/-- Does an item take its declared safe value before the first release: it has neither a stamp nor a container then (R188; DEDUCED,
log 14)? -/
def heldSafe (s : State) (o : OutItemCfg) : Bool := o.gate != .stamp && (senderOf s o.item).isNone

/-- The engine of an item holds its declared safe value (R188). -/
def holdSafe (s : State) (o : OutItemCfg) : State :=
  match o.safe with
  | some v => if heldSafe s o then deliverValue o.dest (padTo o.length v) s else s
  | none => s

/-- From the loading of the settings the network engines hold the declared safe values (R188). -/
def deliverSafe (s : State) : State := s.cfg.cyc.outItems.foldl holdSafe s

end Sys2Proof.Machine
end

