-- ==== Sys2Proof/Machine/Startup.lean ====
section
/-!
DEFINITION. Module resets and starts: what survives (R529), the choice of the firmware bank (R497 to R499), the verification and loading of
the active configuration (R491, R494, R500), user calibration (R502, R506) and the software reset of R525.
-/

namespace Sys2Proof.Machine

/-! ## What survives (R529) -/

/-- MRAM and index of the recorder, and its NAND areas; staging is lost. -/
def keptRecorder (d : Recorder) : Recorder :=
  { next := d.next, perm := d.perm, circ := d.circ, circWrap := d.circWrap, flushed := d.flushed, nandNext := d.nandNext, fmt := d.fmt }

/-- What is kept of a lane's voltage loop: its ageing history in MRAM. -/
def keptAvs (a : AvsSt) : AvsSt := { vInit := a.vInit, ageMv := a.ageMv, days := a.days, ageStep := a.ageStep }

/-- Supervisor state in MRAM, the Locket domain, and the levels at the supply pin and the store. -/
def keptPower (p : Power) : Power :=
  { vin := p.vin, vstore := p.vstore, storeOk := p.storeOk, lastMin := p.lastMin, warnCnt := p.warnCnt,
    failCnt := p.failCnt, rstCnt := p.rstCnt, wakeSrc := p.wakeSrc, wakeCnt := p.wakeCnt, cause := p.cause,
    avs := p.avs.map keptAvs, locketSec := p.locketSec, locketAlarm := p.locketAlarm, locketUtcOfs := p.locketUtcOfs,
    locketLeap := p.locketLeap, locketWake := p.locketWake, locketValid := p.locketValid, fabReport := p.fabReport }

/-- NAND, MRAM records and fuses of Signet. -/
def keptTrust (t : Trust) : Trust :=
  { actCnt := t.actCnt, slots := t.slots, images := t.images, running := t.running, banks := t.banks, pref := t.pref, trial := t.trial,
    trialLeft := t.trialLeft, commit := t.commit, bankB := t.bankB, staged := t.staged, factory := t.factory, vendor := t.vendor,
    owner := t.owner, seed := t.seed, secVer := t.secVer, sessions := t.sessions, response := t.response, ucal := t.ucal, ucalFmt := t.ucalFmt }

/-- A lane's hold-out and failed attempts, in MRAM (R136). -/
def keptVotLane (v : VotLane) : VotLane :=
  { fails := v.fails, heldOut := v.heldOut, vstate := if v.heldOut then .heldOut else .absent }

/-- The module with nothing but what every reset keeps, held in reset. -/
def keptState (s : State) : State :=
  { otp := s.otp, rcd := keptRecorder s.rcd, lanes := s.lanes.map (fun L => { ({} : Lane) with mram := L.mram }),
    vot := { lanes := s.vot.lanes.map keptVotLane }, mot := { level := s.mot.level },
    cls := { epoch := s.cls.epoch, lastRole := s.cls.lastRole }, pwr := keptPower s.pwr, trust := keptTrust s.trust,
    draws := s.draws, pending := s.pending }

/-- A reset that holds the module (R525): its cause is kept for the start. -/
def holdReset (cause : Nat) (s : State) : State :=
  let k := keptState s
  { k with pwr := { k.pwr with held := true, cause := BitVec.ofNat 16 cause } }

/-- An external or watchdog reset keeps the recorder's staging, flushed at the start (R529). -/
def warmReset (cause : Nat) (s : State) : State :=
  let k := holdReset cause s
  { k with rcd := { k.rcd with staged := s.rcd.staged } }

/-- A port as a software reset leaves it: state, wrap, equaliser and link delay; its counts begin anew (R529). -/
def Port.softReset (P : Port) : Port :=
  { P with upCnt := 0, cgErr := 0, syncLoss := 0, hcrcErr := 0, fcsErr := 0, reqAt := none, reqCycle := none, rspSent := none }

/-- A channel as a software reset leaves it: the line goes on, the Bezel begins anew. -/
def Chan.softReset (C : Chan) : Chan :=
  { ({} : Chan) with
    port := C.port.map Port.softReset, seen := C.seen, fwdUntil := C.fwdUntil, lastUnwrap := C.lastUnwrap, wrapSeen := C.wrapSeen,
    wrapNow := C.wrapNow, bezel := { oscOk := C.bezel.oscOk } }

/-- A software reset's time base: time, rate and integral go on; HOLDOVER unless UNSET (R529). -/
def Tim.softReset (t : Tim) : Tim :=
  { ({} : Tim) with
    counting := t.counting, now := t.now, cycles := t.cycles, rate := t.rate, integ := t.integ,
    state := match t.state with
      | .unset => .unset
      | .acquiring | .locked | .holdover | .master => .holdover }

/-! ## Firmware (R497 to R499) -/

/-- Blows counter fuses up to a target, in OWNED only, and reports the advance (R499). -/
def advanceSvn (target : Nat) (s : State) : State :=
  if lifecycle s = .owned ∧ s.trust.secVer < target then
    rep 0x4806 { s with trust := { s.trust with secVer := min 255 target } }
  else s

/-- A pending commit is completed (R499). -/
def completeCommit (s : State) : State :=
  match s.trust.commit with
  | none => s
  | some t => advanceSvn t { s with trust := { s.trust with commit := none } }

/-- Does a bank hold firmware that passes R483? -/
def bankOk (s : State) (b : Bool) : Bool :=
  let c := bankCont s b
  !c.isEmpty && contType c == 1 && containerReason s c == 0

/-- The trial ends and PREF is the bank to boot (R498). -/
def endTrial (s : State) : State := rep 0x4805 { s with trust := { s.trust with trial := none, trialLeft := 0 } }

/-- The bank the boot code turns to, with TRIAL_LEFT decremented (R497); a TRIAL_LEFT that reaches 0 ends the trial (R498). -/
def wantedBank (s : State) : Bool × State :=
  match s.trust.trial with
  | none => (s.trust.pref, s)
  | some b =>
    let left := s.trust.trialLeft - 1
    if s.trust.trialLeft = 0 ∨ left = 0 then (s.trust.pref, endTrial s)
    else (b, { s with trust := { s.trust with trialLeft := left } })

/-- Signet's boot code chooses the firmware bank; a bank that fails is passed over, and with both failing the module enters RECOVERY
(R497). -/
def bootFirmware (s : State) : State :=
  let (b, s1) := wantedBank (completeCommit s)
  let run (b : Bool) (s : State) : State := { s with trust := { s.trust with bankB := b } }
  if bankOk s1 b then run b s1
  else
    let s2 := rep 0x4802 s1
    if bankOk s2 (!b) then run (!b) s2 else rep 0x480A { s2 with trust := { s2.trust with recovery := true } }

/-! ## The configuration (R491, R494, R500) -/

/-- The payload a configuration container runs from: its own at RUN_FMT, or its migrated form, derived anew where the kept one has
another tag (R500). With it the migrated form to keep. -/
def runPayload (s : State) (x : CfgSlot) : Option (List Byte × Option (List Byte × Nat × List Byte)) :=
  let run := (formats s).1
  let c := x.cont
  if contFmt c < run then
    let tag := (contDigest c, contVersion (runningFw s))
    let fresh := (Config.migrateCfg (contFmt c) run (contPayload c)).map (fun p => (p, some (tag.1, tag.2, p)))
    match x.migrated with
    | some (d, v, p) => if d = tag.1 ∧ v = tag.2 then some (p, x.migrated) else fresh
    | none => fresh
  else some (contPayload c, none)

/-- Is the running form of a slot's configuration derived anew by this start? -/
def migratesNow (x : CfgSlot) (m : Option (List Byte × Nat × List Byte)) : Bool := m.isSome && m != x.migrated

/-- The image every program start uses: the running image of the slot-state record, or the configuration's start image (R495). -/
def startImage (s : State) (c : List Byte) : Option Nat :=
  match s.trust.running with
  | some i => some i
  | none => imageSlot s (contApp c)

/-- A slot's contents replaced. -/
def setSlot (i : Nat) (x : CfgSlot) (s : State) : State :=
  { s with trust := { s.trust with slots := vset s.trust.slots (Fin.ofNat 8 i) x } }

/-- A configuration that fails at a start: the fault with its cause, and the slot INVALID (R494). -/
def refuseActive (i cause : Nat) (s : State) : State :=
  let s1 := configFault cause s
  setSlot i { cfgSlot s1 i with state := .invalid } s1

/-! ## Calibration (R503 to R506) -/

/-- The factory calibration's payload, where its container passes at the start (R484, R503). -/
def factoryPayload (s : State) : Option (List Byte) :=
  match s.trust.factory with
  | some c => if containerReason s c = 0 ∧ contType c = 4 then some (contPayload c) else none
  | none => none

/-- An analog channel with the user calibration stored for it (R384, R506). -/
def withUserCal (u : Table Nat) (c : Nat) (k : AnaCfg) : AnaCfg :=
  match tget? u (ucalKey 1 c) with
  | some v => { k with userCal := true, gain := field v 0 25, ofs := signed 24 (field v 32 24) }
  | none => { k with userCal := false, gain := 4194304, ofs := 0 }

/-- The settings with the user calibration of the analog channels. -/
def withCals (u : Table Nat) (c : Cfg) : Cfg :=
  { c with ana := { chans := c.ana.chans.map (fun e => (e.1, withUserCal u e.1 e.2)) } }

/-- User calibration of an older format is migrated at first start; an entry that cannot be is dropped and reported (R502). -/
def migrateUcal (s : State) : State :=
  let run := (formats s).1
  if s.trust.ucalFmt < run then
    let moved := s.trust.ucal.map (fun e =>
      (e.1, Config.migrateUcal s.trust.ucalFmt run (e.1 / 65536) (e.1 % 65536) e.2))
    let kept := moved.filterMap (fun e => e.2.map (fun v => (e.1, v)))
    let s1 := { s with trust := { s.trust with ucal := kept, ucalFmt := run } }
    (moved.filter (fun e => e.2.isNone)).foldl (fun s _ => rep 0x4409 s) s1
  else s

/-! ## Loading -/

/-- The voltage loops start at the nominal frequency (R541, R545). -/
def pwrLoad (s : State) : State :=
  { s with pwr := { s.pwr with avs := Vector.ofFn (fun l : Fin 3 => { vget s.pwr.avs l with freq := (avsCfg s l).1 }) } }

/-- The engines load their settings (R261, R302, R334, R346, R378, R403), output items take their safe values (R188) and the node
enters LISTEN (R250). -/
def loadEngines (s : State) : State :=
  let cal := factoryPayload s
  let hasCal (c : Nat) : Bool := match cal with
    | some p => Config.factoryHas p c
    | none => false
  enterListen (deliverSafe (fldLoad (anaLoad hasCal (motLoad (initOutputs (pwrLoad s))))))

/-- The settings of the active configuration and its image take effect. -/
def adopt (c : Cfg) (img : AppImage) (migrated : Bool) (s : State) : State :=
  loadEngines { s with
    cfg := withCals s.trust.ucal c, image := img,
    trust := { s.trust with cfgOk := true, migratedRun := migrated } }

/-- Signet verifies the ACTIVE slot and the image it names, and the engines load their settings (R494, R500, R530 phases 5 and 6). -/
def loadActive (s : State) : State :=
  match slotIn s .active with
  | none => s
  | some i =>
    let x := cfgSlot s i
    let r := containerReason s x.cont
    if r ≠ 0 then refuseActive i 4 (rejectContainer r s)
    else match startImage s x.cont with
      | none => refuseActive i 5 s
      | some k =>
        let ri := containerReason s (imageAt s k)
        if ri ≠ 0 then refuseActive i 5 (rejectContainer ri s)
        else match runPayload s x with
          | none => refuseActive i 6 (rep 0x4406 s)
          | some (p, m) =>
            let s1 := if migratesNow x m then rep 0x4405 (setSlot i { x with migrated := m } s) else s
            match Config.decodeCfg (formats s).1 p, Config.decodeImage (contFmt (imageAt s k)) (contPayload (imageAt s k)) with
            | some c, some img => adopt c img m.isSome s1
            | none, _ => configFault 3 s1
            | some _, none => refuseActive i 5 s1

/-! ## The start (R530) -/

/-- The supervisor's part of a start (R526, R536, R555): the reset is over, the clocks run, the reset is counted, a fabric-clock loss
and a Locket loss are reported. -/
def supervisorStart (s : State) : State :=
  let kaLost := s.pwr.cause.toNat % 256 == 4
  let s1 := { s with
    tim := { s.tim with counting := true },
    stra := { s.stra with chan := s.stra.chan.map (fun C => { C with bezel := { C.bezel with oscOk := true } }) },
    pwr := { s.pwr with held := false, pstate := .operational, rstCnt := s.pwr.rstCnt + 1, fabReport := false },
    cross := { s.cross with fabLost := false, dom := s.cross.dom.map (fun x => { x with clkOk := true }) } }
  let s2 := if s.pwr.fabReport then rep 0x0605 s1 else s1
  if kaLost then rep 0x4C0E s2 else s2

/-- Phases 2 to 5 of a start, and the verification of phase 6. -/
def startUp (s : State) : State :=
  let s1 := bootFirmware (supervisorStart s)
  if s1.trust.recovery then s1 else loadActive (migrateUcal s1)

/-- A software reset with its reason (R525, R526, R529): staging is flushed first; the time and the line go on; the module starts
again. Sub 1 activation, 2 revert, 3 firmware trial, 4 trial end or rollback. -/
def softwareReset (sub : Nat) (s : State) : State :=
  let s0 := flushKept (stageCycle s)
  let k := holdReset (7 + 256 * sub) s0
  startUp { k with
    tim := s0.tim.softReset, stra := { chan := s0.stra.chan.map Chan.softReset, node := { cycle := s0.stra.node.cycle } } }

end Sys2Proof.Machine
end

