-- ==== Sys2Proof/Machine/Power.lean ====
section
/-!
DEFINITION. Supply, resets, low-power states, the Locket domain and the health monitors (R519 to R545).
-/

namespace Sys2Proof.Machine

/-! ## Supply and hold-up (R519 to R524), in units of 10 mV -/

/-- Warning level of V_IN. -/
def warnLevel : Nat := 1350
/-- Recovery level of V_IN. -/
def recoverLevel : Nat := 1600
/-- Lowest V_IN of the continuous range. -/
def continuousLevel : Nat := 1680
/-- V_STORE from which STORE_OK holds. -/
def storeOkLevel : Nat := 4000
/-- Shutdown level of V_STORE. -/
def shutdownLevel : Nat := 2400
/-- Off level of V_STORE. -/
def offLevel : Nat := 1800

/-- A reading of the supply and the store: shown, and entered into the minima (R520, R521, R545). -/
def supplyReading (vin vstore : Nat) (s : State) : State :=
  let p := s.pwr
  { s with pwr := { p with
      vin := vin, vstore := vstore, storeOk := storeOkLevel ≤ vstore, minVin := min p.minVin vin,
      warnVin := if p.warn then min p.warnVin vin else p.warnVin,
      warnStore := if p.warn then min p.warnStore vstore else p.warnStore } }

/-- A power warning (R521): flag, interrupt source, record and flush; the minima of this warning begin. -/
def powerWarning (vin vstore : Nat) (s : State) : State :=
  let s1 := supplyReading vin vstore s
  if s.pwr.warn ∨ s.pwr.shutdown ∨ warnLevel ≤ vin then s1
  else
    let s2 := raiseAll 2 { s1 with
      pwr := { s1.pwr with warn := true, warnVin := vin, warnStore := vstore, warnCnt := s1.pwr.warnCnt + 1 } }
    let s3 := rep 0x4C01 s2
    { s3 with rcd := { s3.rcd with flushPend := true } }

/-- POWER_WARNING (R521): V_IN has been below the warning level for 50 µs. -/
def execPowerWarning (vin : BitVec 12) (vstore : BitVec 13) (s : State) : Host.Outcome State Fault Refusal :=
  actLine (powerWarning vin.toNat vstore.toNat) s

/-- DATA of the power-recovered record (R522; widths log 15). -/
def recoveredData (p : Power) (us : Nat) : List Byte := leBytes 2 p.warnVin ++ leBytes 2 p.warnStore ++ leBytes 4 us

/-- The warning clears (R522): the minima are kept, and the class reported with them and the duration. -/
def powerRecovered (vin vstore us : Nat) (s : State) : State :=
  let s1 := supplyReading vin vstore s
  if s.pwr.warn ∧ ¬ s.pwr.shutdown ∧ recoverLevel ≤ vin ∧ shutdownLevel ≤ vstore then
    report 0x4C02 8 (recoveredData s1.pwr us) { s1 with pwr := { s1.pwr with warn := false, lastMin := s1.pwr.warnVin } }
  else s1

/-- POWER_RECOVERED (R522): V_IN has met the recovery level for 1 ms; `us` is the time since its fall. -/
def execPowerRecovered (vin : BitVec 12) (vstore : BitVec 13) (us : Nat) (s : State) : Host.Outcome State Fault Refusal :=
  actLine (powerRecovered vin.toNat vstore.toNat us) s

/-- Every lane is held in reset. -/
def holdLanes (s : State) : State :=
  s.modLanes (fun L => { ({} : Lane) with keyGen := L.keyGen, mram := L.mram })

/-- The power-fail shutdown begins (R523): claim and enable go, the lanes are held in reset, the transmitters go off, the program ends, a
record and a flush follow, the supervisor writes its MRAM state. -/
def powerFail (s : State) : State :=
  if s.pwr.shutdown then s
  else
    let s1 := holdLanes (stopProgram (withdrawClaim s))
    let s2 := { s1 with pwr := { s1.pwr with
      shutdown := true, failCnt := s1.pwr.failCnt + 1, lastMin := if s1.pwr.warn then s1.pwr.warnVin else s1.pwr.lastMin } }
    let s3 := rep 0x4C03 s2
    { s3 with rcd := { s3.rcd with flushPend := true } }

/-- POWER_FAIL_SHUTDOWN (R523): V_STORE has fallen below the shutdown level. -/
def execPowerFailShutdown (vin : BitVec 12) (vstore : BitVec 13) (s : State) : Host.Outcome State Fault Refusal :=
  actLine (fun s => onlyIf (decide (vstore.toNat < shutdownLevel)) powerFail (supplyReading vin.toNat vstore.toNat s)) s

/-- The converters go off (R523): every flush and Signet write has ended, or V_STORE has reached the off level; the power-on reset is
held. -/
def convertersOff (vstore : Nat) (s : State) : State :=
  let ended := !s.rcd.flushing && !s.rcd.flushPend && s.rcd.staged.isEmpty && s.trust.ucalQueue.isEmpty
  if s.pwr.shutdown ∧ (ended ∨ vstore < offLevel) then holdReset 2 s else s

/-- CONVERTERS_OFF (R523). -/
def execConvertersOff (vstore : BitVec 13) (s : State) : Host.Outcome State Fault Refusal := actAny (convertersOff vstore.toNat) s

/-- OVER_VOLTAGE (R519): the input is disconnected and the module runs from the store. -/
def execOverVoltage (s : State) : Host.Outcome State Fault Refusal :=
  actLine (fun s => onlyIf (!s.pwr.ovp) (fun s => rep 0x4C04 { s with pwr := { s.pwr with ovp := true } }) s) s

/-! ## Resets (R525 to R530) -/

/-- The Locket domain after a loss of both its sources (R536, R537). -/
def loseLocket (p : Power) : Power :=
  { p with locketSec := 0, locketAlarm := 0, locketUtcOfs := 0, locketLeap := 0, locketWake := 0, locketValid := false }

/-- PowerOn as its reset code (R525). -/
def PowerOn.code : PowerOn → Nat
  | .supply => 1 | .shutdownEnd => 2 | .rail => 3 | .kaLoss => 4

/-- A power-on reset is held (R525, R529). -/
def powerOnReset (why : PowerOn) (s : State) : State :=
  let k := holdReset why.code s
  if why = .kaLoss then { k with pwr := loseLocket k.pwr } else k

/-- POWER_ON_RESET (R525). -/
def execPowerOnReset (why : PowerOn) (s : State) : Host.Outcome State Fault Refusal := actAny (powerOnReset why) s

/-- May a held reset be released: phase 1 of R530, or for a fabric-clock loss the clock's return (R555)? `waited` tells that 300 ms have
passed in the continuous range. -/
def mayRelease (vin vstore : Nat) (waited : Bool) (s : State) : Bool :=
  s.pwr.held && s.pwr.pstate != .keepAlive &&
  (s.pwr.cause == 6 || (continuousLevel ≤ vin && (storeOkLevel ≤ vstore || (waited && shutdownLevel ≤ vstore))))

/-- V_INIT is recorded at the first start after manufacture (R542). -/
def recordVInit (vNow : Vector Nat 3) (s : State) : State :=
  { s with pwr := { s.pwr with avs := Vector.ofFn (fun l : Fin 3 =>
      let a := vget s.pwr.avs l
      if a.vInit.isNone then { a with vInit := some (vget vNow l) } else a) } }

/-- Seconds the Locket counter counts on its own (R537). -/
def locketElapse (n : Nat) (p : Power) : Power := { p with locketSec := p.locketSec + BitVec.ofNat 48 n }

/-- The held reset is released and the module starts (R51, R530). -/
def resetRelease (vin vstore : Nat) (waited : Bool) (elapsed : Nat) (vNow : Vector Nat 3) (s : State) : State :=
  if mayRelease vin vstore waited s then
    let s1 := supplyReading vin vstore { s with pwr := locketElapse elapsed s.pwr }
    let s2 := startUp (recordVInit vNow s1)
    if s.pwr.cause ≠ 6 ∧ vstore < storeOkLevel then rep 0x4C05 s2 else s2
  else s

/-- POWER_ON_RESET_RELEASE (R530): `elapsed` are the seconds the Locket domain counted meanwhile, `vNow` the VCORE that holds TARGET at
F_NOM in each lane, for the first start after manufacture. -/
def execPowerOnResetRelease (vin : BitVec 12) (vstore : BitVec 13) (waited : Bool) (elapsed : Nat) (vNow : Vector Nat 3) (s : State) :
    Host.Outcome State Fault Refusal :=
  actAny (resetRelease vin.toNat vstore.toNat waited elapsed vNow) s

/-- EXTERNAL_MODULE_RESET (R525): XRST_N held low for 10 µs. A shutdown once begun runs to its end (R523). -/
def execExternalModuleReset (s : State) : Host.Outcome State Fault Refusal :=
  actLine (fun s => onlyIf (!s.pwr.shutdown) (fun s => startUp (warmReset 5 s)) s) s

/-- SUPERVISOR_WATCHDOG (R528): not served for 8 ms. -/
def execSupervisorWatchdog (s : State) : Host.Outcome State Fault Refusal :=
  actLine (fun s => onlyIf (!s.pwr.shutdown) (fun s => startUp (warmReset 6 s)) s) s

/-! ## Engine resets (R527) -/

/-- The engines a core serves (R23, R140): 0 Strath, 1 Col bridge core, 2 field-I/O, 3 Signet. -/
def coreEngines : Nat → List Nat
  | 0 => [0]
  | 1 => [1, 2, 3]
  | 2 => [4]
  | _ => [7]

/-- A bit of a core mask. -/
def coreBit (c : Fin 4) : BitVec 4 := BitVec.ofNat 4 (2 ^ c.val)

/-- A heartbeat has been missing for 16 ticks (R527): reported, and the core reset where the configuration declares it. -/
def heartbeatLost (c : Fin 4) (s : State) : State :=
  if s.pwr.hbLost.getLsbD c.val then s
  else
    let s1 := rep 0x4C0C { s with pwr := { s.pwr with hbLost := s.pwr.hbLost ||| coreBit c } }
    if s.cfg.pwr.resetEn.getLsbD c.val then
      rep 0x4C0D { s1 with pwr := { s1.pwr with restarting := s1.pwr.restarting ||| coreBit c, engRstCnt := s1.pwr.engRstCnt + 1 } }
    else s1

/-- ENGINE_HEARTBEAT_LOST (R527). -/
def execEngineHeartbeatLost (core : Fin 4) (s : State) : Host.Outcome State Fault Refusal := actLine (heartbeatLost core) s

/-- Every operation running in, or held by, a ring's engine completes with status 16#08 (R527). -/
def failRingOps (r : Fin 64) (s : State) : State :=
  let R := s.ringAt r
  let ds := (R.ops.filter (fun o => decide (o.stage = .running))).map RunOp.desc ++ R.held.map HeldOp.desc
  let s1 := s.modRing r (fun R => { R with ops := R.ops.filter (fun o => decide (o.stage ≠ .running)), held := [] })
  ds.foldl (fun s d => ringComplete r d.tag 8 0 0 (testBit d.flags 1) s) s1

/-- A core's own part of its restart: the Strath node returns to INIT and listens again, running measurements of the field-I/O engine end,
Signet closes an open session (R527, R529). -/
def coreRestart (c : Fin 4) (s : State) : State :=
  match c.val with
  | 0 => enterListen (s.modNode (fun n => { ({} : Node) with
      cycle := n.cycle, silCnt := n.silCnt, coldStarts := n.coldStarts, yields := n.yields, takeovers := n.takeovers }))
  | 1 => s
  | 2 => { s with fld := { s.fld with learn := [] }, mot := { s.mot with cal := none } }
  | _ => { s with trust := { s.trust with session := none } }

/-- A reset core has restarted (R527). -/
def engineRestartEnd (c : Fin 4) (s : State) : State :=
  if s.pwr.restarting.getLsbD c.val then
    let s1 := { s with pwr := { s.pwr with hbLost := s.pwr.hbLost &&& ~~~coreBit c, restarting := s.pwr.restarting &&& ~~~coreBit c } }
    let mine (r : Fin 64) : Bool := (coreEngines c.val).contains (s.ringAt r).engine
    (allRings.filter mine).foldl (fun s r => failRingOps r s) (coreRestart c s1)
  else s

/-- ENGINE_RESTART_END (R527). -/
def execEngineRestartEnd (core : Fin 4) (s : State) : Host.Outcome State Fault Refusal := actLine (engineRestartEnd core) s

/-! ## Supervisor operations (R532, R543) -/

/-- The health item's 96 bytes (R543). -/
def healthBytes (s : State) : List Byte :=
  let p := s.pwr
  let mask (l : List Bool) : Nat := (l.zipIdx.filter Prod.fst).foldl (fun n e => n + 2 ^ e.2) 0
  p.temp.toList.flatMap (fun t => leBytes 2 (unsigned 16 t.value)) ++ p.rail.toList.flatMap (fun r => leBytes 2 r.value)
    ++ p.avs.toList.flatMap (fun a => leBytes 2 a.vcore ++ leBytes 1 a.freq ++ leBytes 1 a.margin ++ leBytes 1 a.state.code
        ++ leBytes 1 (unsigned 8 a.ageMv) ++ zeros 2)
    ++ leBytes 2 (mask (p.temp.toList.map TempSt.warn)) ++ leBytes 2 (mask (p.rail.toList.map (fun r => r.low || r.high)))
    ++ leBytes 2 p.minVin ++ leBytes 1 (bit p.warn + 2 * bit p.storeOk + 4 * bit p.locketValid) ++ zeros 5 ++ leBytes 8 s.ts.toNat

/-- SUP_HEALTH_READ (R543): one arrival of the bound item. -/
def healthReadOp (r : Fin 64) (d : Desc) (s : State) : State :=
  let item := field d.paramA 16 13
  match inItem? s item with
  | some c =>
    if c.src = .health ∧ c.length = 96 ∧ d.length = 96 then opDone r d.tag 0 96 0 (arrive item ⟨true, 0, s.ts, healthBytes s⟩ s)
    else opDone r d.tag 0x83 0 0 s
  | none => opDone r d.tag 0x83 0 0 s

/-- SUP_HEALTH_READ. -/
def execSupHealthRead (ring : Fin 64) (tag : Fin 1024) (s : State) : Host.Outcome State Fault Refusal :=
  act (runOp ring tag 0xB0 (healthReadOp ring)) s

/-- A field of PWR_WAKE_CFG (R545). -/
def wakeCfg (s : State) (lo w : Nat) : Nat := regField s (PWR + 0x14) lo w

/-- Is a wake source enabled for a state (R532, R535)? -/
def wakeEnabled (s : State) (keepAlive : Bool) : Bool :=
  wakeCfg s 0 1 == 1 || wakeCfg s 4 1 == 1 || (!keepAlive && (wakeCfg s 2 1 == 1 || wakeCfg s 3 1 == 1))

/-- SUP_STATE_REQ (R532, R533): refused, or accepted for the tick 16 ticks ahead. -/
def stateReqOp (r : Fin 64) (d : Desc) (s : State) : State :=
  let ka := field d.paramA 0 2 == 2
  if s.cls.outEn then opDone r d.tag 0x80 0 0 s
  else if !wakeEnabled s ka then opDone r d.tag 0x81 0 0 s
  else if s.pwr.req.isSome then opDone r d.tag 0x82 0 0 s
  else
    let alarm := if d.paramB = 0 then 0 else (s.pwr.locketSec.toNat + d.paramB) % 2 ^ 32
    opDone r d.tag 0 (compactTick (s.tick + 16)) alarm { s with pwr := { s.pwr with
      pstate := .entering, req := some ⟨ka, s.tick + 16⟩, locketAlarm := BitVec.ofNat 32 alarm } }

/-- SUP_STATE_REQ. -/
def execSupStateReq (ring : Fin 64) (tag : Fin 1024) (s : State) : Host.Outcome State Fault Refusal :=
  act (runOp ring tag 0xB1 (stateReqOp ring)) s

/-! ## Low-power states (R531 to R535) -/

/-- The mirror operations that wait are carried out (R533). -/
def finishMirrors (s : State) : State :=
  s.modLanes (fun L => { L.mirror.foldl (fun L m => mirrorInto s m.1 m.2 L) L with mirror := [] })

/-- What every entry does (R533): program, role, records, flush and mirror operations. -/
def quiesce (s : State) : State :=
  let s1 := stopProgram s
  let s2 := setRole .none { s1 with cls := { s1.cls with outEn := false } }
  flushKept (stageCycle (finishMirrors (rep 0x4C0F (requestRecord (anchorRecord s2) s2))))

/-- The register words Parked keeps: TIM, STRA, STRB and PWR (R529). -/
def parkedRegs (s : State) : Table Word :=
  s.regs.filter (fun e => (TIM ≤ e.1 && e.1 < VOT) || (STR 0 ≤ e.1 && e.1 < ETH) || PWR ≤ e.1)

/-- Parked (R529, R534): time, line and supervisor go on, the node is SILENT with cause 5, everything else is off. -/
def enterParked (s : State) : State :=
  let s1 := silence 5 s
  { keptState s1 with
    tim := s1.tim, stra := s1.stra, cfg := s1.cfg, regs := parkedRegs s1, flt := s1.flt, cross := s1.cross,
    pwr := { s1.pwr with pstate := .parked, req := none, held := false } }

/-- Keep-alive (R529, R533): only the Locket domain is powered, with its wake enables. -/
def enterKeepAlive (s : State) : State :=
  let k := keptState s
  { k with pwr := { k.pwr with held := true, pstate := .keepAlive, locketWake := BitVec.ofNat 5 (wakeCfg s 0 5) } }

/-- An accepted request enters its state at its tick (R533). -/
def lowPowerEntry (s : State) : State :=
  match s.pwr.req with
  | some q =>
    if q.tick ≤ s.tick then (if q.keepAlive then enterKeepAlive (quiesce s) else enterParked (quiesce s)) else s
  | none => s

/-- LOW_POWER_ENTRY (R533). -/
def execLowPowerEntry (s : State) : Host.Outcome State Fault Refusal := act lowPowerEntry s

/-- WakeSrc as SRC (R535). -/
def WakeSrc.code : WakeSrc → Nat
  | .pin _ => 1 | .refMode _ => 2 | .servicePort => 3 | .alarm => 4 | .supply => 5

/-- Does a source end Parked (R535)? -/
def wakesParked (s : State) (w : WakeSrc) : Bool :=
  match w with
  | .pin f => wakeCfg s 0 1 == 1 && wakeCfg s 1 1 == bit f
  | .refMode m => wakeCfg s 2 1 == 1 && testBit (wakeCfg s 8 8) m.val && (match s.stra.node.lastRef with
    | some (a, _) => a == m.val
    | none => false)
  | .servicePort => wakeCfg s 3 1 == 1
  | .alarm => wakeCfg s 4 1 == 1 && s.pwr.locketAlarm != 0 && s.pwr.locketSec.toNat % 2 ^ 32 == s.pwr.locketAlarm.toNat
  | .supply => false

/-- Does a source end keep-alive (R535)? -/
def wakesKeepAlive (p : Power) (w : WakeSrc) : Bool :=
  match w with
  | .pin f => p.locketWake.getLsbD 0 && p.locketWake.getLsbD 1 == f
  | .alarm => p.locketWake.getLsbD 4 && p.locketAlarm != 0 && p.locketSec.toNat % 2 ^ 32 == p.locketAlarm.toNat
  | .supply => true
  | .refMode _ | .servicePort => false

/-- A wake is counted, noted and reported (R526, R535). -/
def noteWake (code : Nat) (w : WakeSrc) (s : State) : State :=
  rep 0x4C10 { s with pwr := { s.pwr with
    wakeSrc := BitVec.ofNat 3 w.code, wakeCnt := s.pwr.wakeCnt + 1, cause := BitVec.ofNat 16 (code + 256 * w.code) } }

/-- The wake from Parked: lanes and engines restart from phase 4 (R535). -/
def wakeParked (w : WakeSrc) (s : State) : State :=
  let flt := { ({} : FaultRep) with held := s.flt.held, heldLost := s.flt.heldLost }
  let s1 := { s with
    stra := { s.stra with tx := [], binds := [] }, cfg := {}, flt := flt,
    cross := { ({} : Cross) with dom := Vector.replicate 16 { clkOk := true } },
    pwr := { s.pwr with pstate := .operational } }
  loadActive (noteWake 9 w s1)

/-- The wake from keep-alive: a power-on sequence from phase 1 (R535). -/
def wakeKeepAlive (w : WakeSrc) (s : State) : State :=
  noteWake 8 w { s with pwr := { s.pwr with pstate := .operational } }

/-- WAKE (R535). -/
def wake (w : WakeSrc) (elapsed : Nat) (s : State) : State :=
  match s.pwr.pstate with
  | .parked => if wakesParked s w then wakeParked w s else s
  | .keepAlive =>
    let s1 := { s with pwr := locketElapse elapsed s.pwr }
    if wakesKeepAlive s1.pwr w then wakeKeepAlive w s1 else s1
  | .operational | .entering => s

/-- WAKE; `elapsed` are the seconds the Locket domain has counted in keep-alive. -/
def execWake (source : WakeSrc) (elapsed : Nat) (s : State) : Host.Outcome State Fault Refusal := actAny (wake source elapsed) s

/-! ## Monitors (R539, R540) -/

/-- A rail changed. -/
def modRail (r : Fin 14) (f : RailSt → RailSt) (s : State) : State := { s with pwr := { s.pwr with rail := vmod s.pwr.rail r f } }

/-- A sensor changed. -/
def modTemp (i : Fin 12) (f : TempSt → TempSt) (s : State) : State := { s with pwr := { s.pwr with temp := vmod s.pwr.temp i f } }

/-- The window of a rail (R539), a lane's core rail about its set point. -/
def railWindow (s : State) (r : Fin 14) : Nat × Nat :=
  match r.val with
  | 0 => (1680, 3000)
  | 1 => (4000, 4700)
  | 8 => (760, 840)
  | 9 => (1710, 1890)
  | 10 => (3135, 3465)
  | 11 => (4850, 5150)
  | 12 => (4750, 5250)
  | 13 => (1140, 1260)
  | n =>
    if n < 5 then
      let v := (vget s.pwr.avs (Fin.ofNat 3 (n - 2))).vcore
      ((97 * v + 99) / 100, 103 * v / 100)
    else (1045, 1155)

/-- A rail has been outside its window for 10 µs (R539). -/
def railOut (r : Fin 14) (v : Nat) (s : State) : State :=
  let (lo, hi) := railWindow s r
  let low := v < lo
  let high := hi < v
  let R := vget s.pwr.rail r
  let s1 := modRail r (fun R => { R with value := v, low := low, high := high }) s
  if (low ∨ high) ∧ ¬(R.low = low ∧ R.high = high) then rep 0x4C06 (modRail r (fun R => { R with cnt := R.cnt + 1 }) s1) else s1

/-- RAIL_OUT_OF_WINDOW (R539): `value` is the reading in the rail's unit. -/
def execRailOutOfWindow (rail : Fin 14) (value : BitVec 16) (s : State) : Host.Outcome State Fault Refusal :=
  actLine (railOut rail value.toNat) s

/-- WARN_LIM of a sensor, in units of 0.125 °C (R540, R545). -/
def warnLimit (s : State) (i : Fin 12) : Int := 8 * signed 8 (regField s (PWR + 0x100 + 4 * i.val) 16 8)

/-- Rated limit of a sensor, in units of 0.125 °C (R540). -/
def ratedLimit (i : Fin 12) : Int :=
  if i.val = 5 ∨ i.val = 6 ∨ i.val = 8 ∨ i.val = 11 then 8 * 85 + (if i.val = 5 ∨ i.val = 6 then 80 else 0)
  else if i.val = 9 ∨ i.val = 10 then 8 * 140 else 8 * 125

/-- A sensor's reading: its value and peak, and each flag cleared 3 °C below its limit (R540). -/
def tempReading (i : Fin 12) (v : Int) (s : State) : State :=
  let warn := warnLimit s i
  modTemp i (fun t => { t with
    value := v, peak := some (max v (t.peak.getD v)), warn := t.warn && decide (warn - 24 < v),
    hot := t.hot && decide (ratedLimit i - 24 < v) }) s

/-- A reading above WARN_LIM (R540). -/
def tempWarning (i : Fin 12) (v : Int) (s : State) : State :=
  let s1 := tempReading i v s
  if warnLimit s i < v ∧ ¬(vget s1.pwr.temp i).warn then rep 0x4C07 (modTemp i (fun t => { t with warn := true }) s1) else s1

/-- TEMPERATURE_WARNING (R540): `value` in units of 0.125 °C. -/
def execTemperatureWarning (sensor : Fin 12) (value : Int) (s : State) : Host.Outcome State Fault Refusal :=
  actLine (tempWarning sensor value) s

/-- A reading above the rated limit (R540). -/
def overTemperature (i : Fin 12) (v : Int) (s : State) : State :=
  let s1 := tempReading i v s
  if ratedLimit i < v ∧ ¬(vget s1.pwr.temp i).hot then rep 0x4C08 (modTemp i (fun t => { t with hot := true }) s1) else s1

/-- OVER_TEMPERATURE (R540). -/
def execOverTemperature (sensor : Fin 12) (value : Int) (s : State) : Host.Outcome State Fault Refusal :=
  actLine (overTemperature sensor value) s

/-! ## Voltage loop and ageing (R541, R542) -/

/-- A lane's voltage loop changed. -/
def modAvs (l : LaneId) (f : AvsSt → AvsSt) (s : State) : State := { s with pwr := { s.pwr with avs := vmod s.pwr.avs l f } }

/-- One step of a lane's loop: the first rule of R541 that holds. Frequencies are in units of 25 MHz. -/
def avsRule (fNom fMin target : Nat) (a : AvsSt) : AvsSt :=
  let a := if a.state = .off then { a with state := .track } else a
  if a.margin < target then
    if a.vcore < 900 then { a with vcore := a.vcore + 5 }
    else if fMin < a.freq then { a with freq := a.freq - 2, state := .freqReduced }
    else { a with state := .atLimit }
  else if target + 16 < a.margin ∧ a.freq < fNom then
    { a with freq := a.freq + 2, state := if fNom ≤ a.freq + 2 then .track else .freqReduced }
  else if target + 8 < a.margin ∧ a.freq = fNom ∧ 700 < a.vcore then { a with vcore := a.vcore - 5, state := .track }
  else a

/-- AVS_STEP (R541): the smallest margin of the last 8 000 ticks decides. -/
def avsStep (l : LaneId) (s : State) : State :=
  if (s.lane l).state = .off then s
  else
    let (fNom, fMin, target) := avsCfg s l
    let a := vget s.pwr.avs l
    let b := { a with margin := a.least.getD a.margin, least := none }
    let c := avsRule fNom fMin target b
    let s1 := modAvs l (fun _ => c) s
    if c.freq < b.freq then repLane 0x4C09 l s1
    else if c.state = .atLimit ∧ a.state ≠ .atLimit then repLane 0x4C0A l s1
    else s1

/-- AVS_STEP. -/
def execAvsStep (lane : LaneId) (s : State) : Host.Outcome State Fault Refusal := act (avsStep lane) s

/-- The margins of a tick (R541): shown, the smallest kept, and a margin below TARGET / 2 raises VCORE at the next tick, at most once per
8 ticks. -/
def avsAtTick (margins : LaneId → List Nat) (s : State) : State :=
  allLanes.foldl (fun s l =>
    let (_, _, target) := avsCfg s l
    let pm := margins l
    let a := vget s.pwr.avs l
    let raised := a.fastPend && a.vcore < 900
    let a1 := if raised then { a with vcore := a.vcore + 5, fastTick := some s.tick } else a
    let low := pm.foldl min (pm.headD 255)
    let due := match a1.fastTick with
      | some t => t + 8 ≤ s.tick + 1
      | none => true
    if pm.isEmpty ∨ (s.lane l).state = .off then modAvs l (fun _ => { a1 with fastPend := false }) s
    else modAvs l (fun _ => { a1 with
      pm := pm, least := some (min low (a1.least.getD low)), fastPend := 2 * low < target && due }) s) s

/-- AGEING_STEP (R542): the quantity of V_INIT measured now; each rise of 5 mV is reported with the lane, AGE_MV and DAYS (widths log
15). -/
def ageingStep (l : LaneId) (vNow : Nat) (s : State) : State :=
  let a := vget s.pwr.avs l
  match a.vInit with
  | none => s
  | some v0 =>
    let age : Int := (vNow : Int) - v0
    let steps := ((age - a.ageStep) / 5).toNat
    let days := min 16383 (a.days + 1)
    let s1 := modAvs l (fun a => { a with ageMv := age, days := days, ageStep := a.ageStep + 5 * steps }) s
    (List.range steps).foldl (fun s _ =>
      report 0x4C0B (10 + l.val) (leBytes 1 l.val ++ leBytes 1 (unsigned 8 age) ++ leBytes 2 days) s) s1

/-- AGEING_STEP. -/
def execAgeingStep (lane : LaneId) (vNow : Nat) (s : State) : Host.Outcome State Fault Refusal := act (ageingStep lane vNow) s

/-! ## The Locket domain at a tick (R537, R538) -/

/-- At every 8 000th tick: SEC and the UTC fields are written while LOCKED or MASTER; otherwise the counter counts on (log 13). -/
def locketAtTick (s : State) : State :=
  if s.tick % 8000 ≠ 0 then s
  else if s.tim.state = .locked ∨ s.tim.state = .master then
    let p := { s.pwr with locketSec := BitVec.ofNat 48 (s.tim.now / secUnits), locketValid := true }
    let q := if s.tim.utcValid then
        { p with locketUtcOfs := s.tim.utcOfs, locketLeap := BitVec.ofNat 3 (bit s.tim.leapPos + 2 * bit s.tim.leapNeg + 4) }
      else p
    { s with pwr := q }
  else { s with pwr := locketElapse 1 s.pwr }

end Sys2Proof.Machine
end

