-- ==== Sys2Proof/Machine/Crossing.lean ====
section
/-!
DEFINITION. Clock domains that stop and the crossings of a stalled domain (R546 to R560).
-/

namespace Sys2Proof.Machine

/-- A domain's crossings changed. -/
def modDom (d : Fin 16) (f : XDom → XDom) (s : State) : State := { s with cross := { s.cross with dom := vmod s.cross.dom d f } }

/-- A report of the crossings: its record carries d (R560). -/
def repDom (code : Nat) (d : Fin 16) (s : State) : State := report code 8 (leBytes 1 d.val) s

/-- Is a domain's clock monitored now (R546): a receive domain only while its line carries a signal? -/
def monitored (s : State) (d : Fin 16) : Bool :=
  match d.val with
  | 0 => false
  | 4 => !(s.port 0 0).los
  | 5 => !(s.port 0 1).los
  | 6 => !(s.port 1 0).los
  | 7 => !(s.port 1 1).los
  | 9 => (s.ethPort 0).link
  | 10 => (s.ethPort 1).link
  | 12 => s.cls.plUp
  | _ => true

/-- Both Bezels changed. -/
def modBezels (f : Bezel → Bezel) (s : State) : State := (s.modBezel 0 f).modBezel 1 f

/-- The oldest posted write ends at the loss of the backplane clock (R314, R559). -/
def failOldest (s : State) : State :=
  match s.col.posted with
  | [] => s
  | p :: rest => postedError p true p.off 0 3 (s.modCol (fun C => { C with posted := rest }))

/-- The consequences of a lost clock (R559): Bezel blocks every own frame; a transaction on the backplane ends as a data-phase timeout. -/
def clockLostEffect (d : Fin 16) (onBus : Option (Fin 64 × Fin 1024 × Nat)) (posted : Bool) (s : State) : State :=
  match d.val with
  | 8 => modBezels (fun B => { B with oscOk := false, aligned := false, blocked := true }) s
  | 13 =>
    let s1 := endOnBus onBus 3 (fun _ => 0x86) s
    if posted then failOldest s1 else s1
  | _ => s

/-- A monitored clock is lost (R554, R559). -/
def clockLost (d : Fin 16) (onBus : Option (Fin 64 × Fin 1024 × Nat)) (posted : Bool) (s : State) : State :=
  if monitored s d && clockGood s d then
    clockLostEffect d onBus posted (repDom 0x0601 d (modDom d (fun x => { x with clkOk := false, clkLost := true }) s))
  else s

/-- DOMAIN_CLOCK_LOST (R554); for the backplane the operation on the bus with its phase, or whether the oldest posted write was there. -/
def execDomainClockLost (domain : Fin 16) (onBus : Option (Fin 64 × Fin 1024 × Nat)) (posted : Bool) (s : State) :
    Host.Outcome State Fault Refusal :=
  actLine (clockLost domain onBus posted) s

/-- The reset crossings of a restored domain (R558): ACC is delivered as one count, STALL clears. -/
def XDom.restore (x : XDom) : XDom :=
  { x with
    clkOk := true, stall := false, acc := 0, merged := x.merged || 1 < x.acc, accPeak := max x.accPeak x.acc }

/-- A lost clock is good for 10 windows (R554, R558). -/
def clockRestored (d : Fin 16) (s : State) : State :=
  if monitored s d && !clockGood s d then
    let s1 := repDom 0x0602 d (modDom d XDom.restore s)
    if d = 8 then modBezels (fun B => { B with oscOk := true }) s1 else s1
  else s

/-- DOMAIN_CLOCK_RESTORED (R558). -/
def execDomainClockRestored (domain : Fin 16) (s : State) : Host.Outcome State Fault Refusal := actLine (clockRestored domain) s

/-- FABRIC_CLOCK_LOST (R555): claim and enable go, SYS_FAULT is asserted, FAB_LOST latched, and the module held in reset. -/
def fabricClockLost (s : State) : State :=
  let k := warmReset 6 s
  { k with cross := { k.cross with fabLost := true }, pwr := { k.pwr with fabReport := true } }

/-- FABRIC_CLOCK_LOST (R555). -/
def execFabricClockLost (s : State) : Host.Outcome State Fault Refusal := actLine fabricClockLost s

/-- The crossings of a stalled domain go on gathering (R550, R551, R557): further events merge into the pending one, counts accumulate up
to 255 and are lost beyond. -/
def XDom.gather (x : XDom) (events counts : Nat) : XDom :=
  let acc := min 255 (x.acc + counts)
  let lost := x.acc + counts - acc
  { x with
    merged := x.merged || 1 < events, mergeCnt := min 255 (x.mergeCnt + (events - 1)), acc := acc,
    lost := x.lost || 0 < lost, lostCnt := x.lostCnt + BitVec.ofNat 16 lost }

/-- A crossing of a domain stalls, or a stalled one goes on (R557, R560). -/
def crossingStalled (d : Fin 16) (events counts : Nat) (s : State) : State :=
  if d = 0 then s
  else
    let x := vget s.cross.dom d
    let s1 := if x.stall then s else repDom 0x0603 d (modDom d (fun x => { x with stall := true, stallCnt := x.stallCnt + 1 }) s)
    let s2 := modDom d (fun x => x.gather events counts) s1
    if x.acc + counts ≤ 255 ∨ x.lostTick = some s.tick then s2
    else repDom 0x0604 d (modDom d (fun x => { x with lostTick := some s.tick }) s2)

/-- CROSSING_STALLED (R557); `events` are the events waiting at an event crossing of the domain, `counts` the happenings at a counted
one. -/
def execCrossingStalled (domain : Fin 16) (events counts : Nat) (s : State) : Host.Outcome State Fault Refusal :=
  actLine (crossingStalled domain events counts) s

/-- REFERENCE_DRIFT (R556): only reported. -/
def execReferenceDrift (s : State) : Host.Outcome State Fault Refusal := actLine (rep 0x0606) s

end Sys2Proof.Machine
end

