-- ==== Sys2Proof/Machine/Serve.lean ====
section
/-!
DEFINITION. Serving the rings (R152, R162): the choice of the ring, reading a descriptor, the five checks in their order, and the start of
the operation or its completion with an error. The opcode index is R165's; the fields and ranges of each opcode are those of the table of
its chapter.
-/

namespace Sys2Proof.Machine

/-! ## The opcode index (R165) -/

/-- A row of the opcode index: its engine (9 for any), the ring classes that may carry it (1 voted, 2 lane-private, 4 supervisor), whether
TIMED is allowed, the used bits of PARAM_A, and the other fields it uses (1 ADDR, 2 LENGTH, 4 PARAM_B, 8 PARAM_C). -/
structure OpRow where
  opcode : Nat
  engine : Nat
  classes : Nat
  timed : Bool
  maskA : Nat
  uses : Nat
deriving DecidableEq, Repr

/-- Opcodes of any engine and of engines 0 to 2. -/
def opRows1 : List OpRow :=
  [⟨0x00, 9, 7, false, 0, 0⟩, ⟨0x01, 9, 7, false, 0xFFFFFFFF, 1⟩,
   ⟨0x10, 0, 1, true, 0x1FF, 3⟩, ⟨0x11, 0, 1, false, 0x1FFF1FFF, 6⟩, ⟨0x12, 0, 1, false, 7, 0⟩, ⟨0x13, 0, 1, false, 3, 0⟩,
   ⟨0x20, 1, 1, true, 3, 7⟩, ⟨0x21, 1, 1, true, 0x1FF, 3⟩, ⟨0x22, 1, 1, false, 0x11FFF, 15⟩, ⟨0x23, 1, 1, false, 7, 15⟩,
   ⟨0x24, 1, 1, false, 0, 7⟩, ⟨0x25, 1, 1, false, 1, 0⟩,
   ⟨0x30, 2, 1, true, 0xFFF, 3⟩, ⟨0x31, 2, 1, false, 0x1FFF0FFF, 2⟩, ⟨0x32, 2, 1, false, 0xFFF, 3⟩]

/-- Opcodes of engines 3 and 4. -/
def opRows2 : List OpRow :=
  [⟨0x40, 3, 1, false, 0x3FFF, 7⟩, ⟨0x41, 3, 1, true, 0x3FFF, 7⟩, ⟨0x42, 3, 1, true, 0x3FFF, 7⟩, ⟨0x43, 3, 1, false, 0x1FFF00FF, 2⟩,
   ⟨0x50, 4, 1, true, 0xFFFF07, 0⟩, ⟨0x51, 4, 1, true, 0xFFFF, 0⟩, ⟨0x52, 4, 1, false, 7, 3⟩, ⟨0x53, 4, 1, false, 0xFF07, 4⟩,
   ⟨0x54, 4, 1, true, 0xFFFFFFFF, 4⟩, ⟨0x60, 4, 1, true, 0, 0⟩, ⟨0x61, 4, 1, true, 7, 0⟩, ⟨0x62, 4, 1, false, 0xFFFF, 3⟩,
   ⟨0x70, 4, 1, false, 0x1FF, 12⟩]

/-- Opcodes of engines 5 to 8. -/
def opRows3 : List OpRow :=
  [⟨0x80, 5, 3, false, 0xFFFFFF1F, 15⟩, ⟨0x81, 5, 3, false, 0xFFFFFF1F, 15⟩, ⟨0x82, 5, 3, false, 0xFFFFFF1F, 15⟩,
   ⟨0x90, 6, 7, false, 0xFFFF, 3⟩, ⟨0x91, 6, 5, false, 0x1FFF007F, 15⟩,
   ⟨0xA0, 7, 3, false, 0xFFFFFFFF, 3⟩, ⟨0xA1, 7, 1, false, 0x1FFF0000, 2⟩, ⟨0xA2, 7, 1, false, 0x1FFF0000, 3⟩,
   ⟨0xA3, 7, 4, false, 7, 3⟩, ⟨0xB0, 8, 1, false, 0x1FFF0000, 2⟩, ⟨0xB1, 8, 1, false, 3, 4⟩]

/-- The opcode index. -/
def opRow? (opcode : Nat) : Option OpRow := (opRows1 ++ opRows2 ++ opRows3).find? (fun x => x.opcode == opcode)

/-- The class bit of a ring (R139, R165). -/
def ringClass (r : Nat) : Nat := if r < 32 then 1 else if r < 62 then 2 else 4

/-! ## Reading a descriptor -/

/-- The fields of a descriptor's 32 bytes (R144). -/
def readDesc (b : List Byte) : Desc :=
  { opcode := byteAt b 0, flags := byteAt b 1, tag := leAt b 2 2 % 1024, paramA := leAt b 4 4, addr := leAt b 8 8 % 2 ^ 40,
    length := leAt b 16 4, paramB := leAt b 20 4, paramC := leAt b 24 4 }

/-- Does CHECK match: the CRC-32C over ring, submission index and bytes 0 to 27 (R146)? -/
def descCheckOk (r idx : Nat) (b : List Byte) : Bool := crc32c (leBytes 2 r ++ leBytes 2 idx ++ b.take 28) == leAt b 28 4

/-- Are the zero bits of a descriptor zero: FLAGS 3 to 7, bytes 2–3 [15:10], bytes 8–15 [63:40] (R144, R145)? -/
def zeroBits (b : List Byte) : Bool := byteAt b 1 < 8 && leAt b 2 2 < 1024 && leAt b 8 8 < 2 ^ 40

/-- Are the fields an opcode does not use zero, and TIMED only where allowed (R144, R145)? -/
def OpRow.fieldsOk (x : OpRow) (d : Desc) : Bool :=
  Nat.land d.paramA (0xFFFFFFFF - x.maskA) == 0 && (testBit x.uses 0 || d.addr == 0) && (testBit x.uses 1 || d.length == 0) &&
  (testBit x.uses 2 || d.paramB == 0) && (testBit x.uses 3 || testBit d.flags 2 || d.paramC == 0) && (x.timed || !testBit d.flags 2)

/-! ## Values (R152 order 3) -/

/-- Engines 0 to 2 (R268, R291). -/
def values012 (s : State) (d : Desc) : Bool :=
  let n := d.length
  match d.opcode with
  | 0x10 => tget? s.cfg.stra.txLen (field d.paramA 0 9) == some n
  | 0x11 =>
    let a := field d.paramB 0 7
    let b := field d.paramB 8 7
    1 ≤ a && a ≤ 126 && b ≤ 126 && Nat.land d.paramB 0xFFFF8080 == 0
  | 0x20 =>
    let stamp := testBit d.paramA 1
    let tagged := (readBuffer s d.addr n).drop 12 |>.take 2 |> (fun x => x == [0x81#8, 0x00#8])
    60 ≤ n && (n ≤ 1514 || (tagged && n ≤ 1518)) && (if stamp then d.paramB < 0x8000 && !testBit d.flags 2 else d.paramB == 0)
  | 0x21 => (tget? s.cfg.eth.pubs (field d.paramA 0 9)).map PubCfg.length == some n
  | 0x22 => n ≤ 1432 && d.addr < 2 ^ 32
  | 0x23 => field d.paramA 1 2 ≤ 2 && n ≤ 16384
  | 0x24 => 64 ≤ n && n ≤ 16384
  | 0x30 => tget? s.cfg.mvb.src (field d.paramA 0 12) == some n
  | 0x31 => match tget? s.cfg.mvb.sink (field d.paramA 0 12) with
    | some size => n == size
    | none => true
  | 0x32 => 1 ≤ n && n ≤ 24
  | _ => true

/-- Engines 3 and 4 (R311, R372, R398, R429). -/
def values34 (d : Desc) : Bool :=
  let n := d.length
  match d.opcode with
  | 0x40 | 0x41 | 0x42 => d.paramB < 2 ^ 28 && 1 ≤ n && n ≤ 4096
  | 0x50 => field d.paramA 0 3 < 6
  | 0x52 => field d.paramA 0 3 < 6 && n == 64
  | 0x53 => field d.paramA 0 3 < 6 && 8 ≤ d.paramB && d.paramB < 65536
  | 0x62 => d.paramA != 0 && n == 32
  | 0x70 => 1000000 ≤ d.paramB && 1 ≤ d.paramC
  | _ => true

/-- A check-value operation (R328, R329): feed, width, destination, fold and the number of data bytes. -/
def valuesCheck (d : Desc) : Bool :=
  let p := chkParams d
  let w := feedWidth p.feed
  let c := if d.opcode = 0x81 then checkLen p.alg else 0
  let n := d.length - c
  p.feed < 3 && d.addr % w == 0 && n % w == 0 && c < d.length && n ≤ 16384 && p.dest % 8 == 0 &&
  (d.opcode != 0x82 || p.dest == 0) && (!p.noFold || (p.foldId == 0 && p.foldSeq == 0))

/-- Engines 5 to 8 (R328, R472, R514, R532, R543). -/
def values5678 (r : Nat) (d : Desc) : Bool :=
  let n := d.length
  match d.opcode with
  | 0x80 | 0x81 | 0x82 => valuesCheck d
  | 0x90 => 1 ≤ n && n ≤ 48
  | 0x91 =>
    let count := field d.paramA 0 7
    1 ≤ count && count ≤ 64 && n == 64 * count && (if r < 32 then d.addr == 0 else field d.paramA 16 13 == 0)
  | 0xA0 =>
    let k := field d.paramA 0 7
    let dest := field d.paramA 8 24
    1 ≤ k && k ≤ 64 && 1 ≤ n && n ≤ 1048576 && dest % 8 == 0 && (testBit d.paramA 7 || dest == 0)
  | 0xA1 => 8 ≤ n && n ≤ 256 && n % 8 == 0
  | 0xA2 => n == 32
  | 0xA3 => let t := field d.paramA 0 3; 1 ≤ t && t ≤ 4
  | 0xB1 => d.paramA == 1 || d.paramA == 2
  | _ => true

/-- Do a descriptor's values lie in its opcode's ranges? -/
def valuesOk (s : State) (r : Nat) (d : Desc) : Bool :=
  if d.opcode < 0x40 then values012 s d else if d.opcode < 0x80 then values34 d else values5678 r d

/-! ## Buffers (R152 order 5) -/

/-- Does a range of exchange memory lie in an engine-class area? -/
def inEngineArea (s : State) (off len : Nat) : Bool := match areaOf s off len with
  | some a => a.cls == .engine
  | none => false

/-- A buffer that has to lie in an engine-class area. -/
def engineBuffer (s : State) (d : Desc) : Bool :=
  inExchange d.addr && d.addr + d.length ≤ exchangeBase + exchangeSize && inEngineArea s (offsetOf d.addr) d.length

/-- Does a descriptor's buffer, and its destination, lie in areas the ring may use (R291, R311, R329, R398, R429, R472, R514)? -/
def buffersOk (s : State) (r : Nat) (d : Desc) : Bool :=
  match d.opcode with
  | 0x10 | 0x20 | 0x21 | 0x23 | 0x30 | 0x32 | 0x41 | 0x42 | 0x82 | 0x90 | 0xA2 => bufferOk s r d.addr d.length
  | 0x24 | 0x40 | 0x52 | 0x62 | 0xA3 => engineBuffer s d
  | 0x80 =>
    let p := chkParams d
    bufferOk s r d.addr d.length && inEngineArea s p.dest (d.length + checkLen p.alg)
  | 0x81 =>
    let p := chkParams d
    bufferOk s r d.addr d.length && inEngineArea s p.dest (d.length - checkLen p.alg)
  | 0x91 => r < 32 || engineBuffer s d
  | 0xA0 =>
    bufferOk s r d.addr d.length && (!testBit d.paramA 7 || inEngineArea s (field d.paramA 8 24) (field d.paramA 0 7))
  | _ => true

/-! ## Fetching -/

/-- The status of the first check a descriptor fails and the offset of its class, or none where it passes every check (R152). -/
def fetchError (s : State) (r : Fin 64) (idx : Nat) (b : List Byte) : Option (Nat × Nat) :=
  let R := s.ringAt r
  let d := readDesc b
  if !descCheckOk r.val idx b then some (3, 1)
  else match opRow? d.opcode with
    | none => some (1, 2)
    | some x =>
      if !((x.engine == 9 || x.engine == R.engine) && Nat.land x.classes (ringClass r.val) != 0) then some (1, 2)
      else if !(zeroBits b && x.fieldsOk d && valuesOk s r.val d) then some (2, 3)
      else if !(R.tagBase ≤ d.tag && d.tag < R.tagBase + R.tagCount && (tget? R.busy d.tag).isNone) then some (5, 4)
      else if !buffersOk s r.val d then some (4, 5)
      else none

/-- The tag of a failed descriptor is busy until its entry is consumed, unless it names no tag of the ring or a busy one (R156, R158). -/
def failTag (r : Fin 64) (tag status : Nat) (notify : Bool) (s : State) : State :=
  let R := s.ringAt r
  let own := R.tagBase ≤ tag && tag < R.tagBase + R.tagCount && (tget? R.busy tag).isNone && status != 3
  if own then ringComplete r tag status 0 0 notify (s.modRing r (fun R => { R with busy := tset R.busy tag none }))
  else (ringComplete r tag status 0 0 notify s).modRing r (fun R' => { R' with busy := R.busy })

/-- A descriptor that fails a check: RNG_ERR, its completion and the report (R152, R167). -/
def fetchFailed (r : Fin 64) (idx : Nat) (d : Desc) (status offset : Nat) (s : State) : State :=
  let s1 := { s with rng := { s.rng with
    errRing := BitVec.ofNat 6 r.val, errStatus := BitVec.ofNat 8 status, errIndex := BitVec.ofNat 16 idx, errCnt := s.rng.errCnt + 1 } }
  repRing (0x1000 + offset) (s.ringAt r).engine (failTag r d.tag status (testBit d.flags 1) s1)

/-- What an engine takes with a descriptor at its fetch: the payload of STR_SLOT_WRITE and of a backplane write, and the route sequence
number of a backplane operation (R268, R312). -/
def captured (d : Desc) (s : State) : Desc × State :=
  let d1 := if d.opcode = 0x10 ∨ d.opcode = 0x41 ∨ d.opcode = 0x42 then d.withData s else d
  if 0x40 ≤ d.opcode ∧ d.opcode ≤ 0x42 then
    let (q, s1) := takeSeq s
    ({ d1 with seq := q }, s1)
  else (d1, s)

/-- A descriptor that passes every check starts; its tag is busy (R152, R158). -/
def startOp (r : Fin 64) (d : Desc) (s : State) : State :=
  let (d1, s1) := captured d s
  let s2 := s1.modRing r (fun R => { R with ops := R.ops ++ [{ desc := { d1 with order := s1.rng.fetches } }], busy := tset R.busy d.tag none })
  { s2 with rng := { s2.rng with peak := max s2.rng.peak (inFlight s2), fetches := s2.rng.fetches + 1 } }

/-- Fetches the next descriptor of a ring: CONS advances, the pending bit is cleared and the credit falls, whatever the outcome
(R148, R152, R162). -/
def fetchFrom (r : Fin 64) (s : State) : State :=
  let R := s.ringAt r
  let slot := R.cons.toNat % R.entries
  let b := memRead s.mem (R.sqBase + 32 * slot) 32
  let s1 := s.modRing r (fun R => { R with cons := R.cons + 1, pending := nsDel R.pending slot, credit := R.credit - 1 })
  match fetchError s r R.cons.toNat b with
  | some (status, offset) => fetchFailed r R.cons.toNat (readDesc b) status offset s1
  | none => startOp r (readDesc b) s1

/-- Can an engine fetch from a ring now (R151, R162)? -/
def servable (s : State) (e : Fin 9) (r : Fin 64) : Bool := (s.ringAt r).engine == e.val && (s.ringAt r).fetchable

/-- The next ring of an engine's rounds and its place in the visiting order: the first servable one from where the round stands, or from
the beginning of the next round (R162). -/
def nextRing (s : State) (e : Fin 9) : Option (Fin 64 × Nat) :=
  let pos := (vget s.rng.eng e).pos
  let all := visitOrder.zipIdx
  match (all.drop pos).find? (fun p => servable s e p.1) with
  | some p => some p
  | none => all.find? (fun p => servable s e p.1)

/-- An engine fetches one descriptor (R152, R162). -/
def descriptorFetch (e : Fin 9) (s : State) : State :=
  match nextRing s e with
  | none => s
  | some (r, i) =>
    fetchFrom r { s with rng := { s.rng with eng := vmod s.rng.eng e (fun x => { x with pos := i + 1 }) } }

/-- DESCRIPTOR_FETCH (R152). -/
def execDescriptorFetch (engine : Fin 9) (s : State) : Host.Outcome State Fault Refusal := act (descriptorFetch engine) s

end Sys2Proof.Machine
end

