-- ==== Sys2Proof/Machine/Signet.lean ====
section
/-!
DEFINITION. Signet's operations (R514 to R516), the attestation record (R515), the random source (R481) and the writes of user
calibration (R505).
-/

namespace Sys2Proof.Machine

/-! ## Attestation -/

/-- The image a program start uses, or has used: its container, where an active configuration names one (R495, R515). -/
def runningImage (s : State) : Option (List Byte) :=
  match activeCont s with
  | some c => if cfgActive s then (startImage s c).map (imageAt s) else none
  | none => none

/-- Bytes 0 to 191 of the attestation record (R515). -/
def attestPayload (nonce : List Byte) (s : State) : List Byte :=
  let T := s.trust
  padTo 32 nonce ++ leBytes 5 s.otp.serial.toNat ++ leBytes 1 s.otp.lifeN.toNat ++ leBytes 1 T.secVer
    ++ leBytes 1 (bit T.bankB + 2 * bit (T.trial == some T.bankB) + 4 * bit (stationRole s))
    ++ (contDigest (runningFw s)).take 32 ++ cfgDigest s
    ++ (match runningImage s with
        | some b => (contDigest b).take 32
        | none => zeros 32)
    ++ leBytes 4 T.actCnt.toNat ++ leBytes 4 s.cls.epoch.toNat ++ timeBytes s.tim.now ++ leBytes 8 s.rcd.next ++ zeros 24

/-- The attestation record with its signature, made with the identity key and 32 fresh random bytes (R478, R515). -/
def attestation (seed nonce : List Byte) (s : State) : List Byte × State :=
  let (rnd, s1) := drawRandom 32 s
  let body := attestPayload nonce s
  (padTo 3504 (body ++ padTo 3309 (Config.mldsaSign seed rnd (withContext "ZWD3100-ATT" body))), s1)

/-- The identity seed, where the module has an identity key and its lifecycle lets it sign (R485, R516). -/
def identitySeed (s : State) : Option (List Byte) :=
  match lifecycle s with
  | .blank | .retired => none
  | .provisioned | .owned | .returned => s.trust.seed

/-! ## Operations -/

/-- SIG_HASH (R514, R516). -/
def sigHashOp (r : Fin 64) (d : Desc) (s : State) : State :=
  let n := field d.paramA 0 7
  let digest := Config.shake256 n (readBuffer s d.addr d.length)
  let s1 := if testBit d.paramA 7 then { s with mem := memWrite s.mem (field d.paramA 8 24) (padTo n digest) } else s
  opDone r d.tag 0 (leAt (padTo n digest) 0 4) (leAt (padTo n digest) 4 8) s1

/-- SIG_HASH: carries out the started operation of a ring. -/
def execSigHash (ring : Fin 64) (tag : Fin 1024) (s : State) : Host.Outcome State Fault Refusal :=
  act (runOp ring tag 0xA0 (sigHashOp ring)) s

/-- Is an item bound to Signet with a length (R514)? -/
def signetItem (s : State) (item len : Nat) : Bool := match inItem? s item with
  | some c => c.src == .attest && c.length == len
  | none => false

/-- SIG_RANDOM (R514, R516): random bytes as one arrival of the named item. -/
def sigRandomOp (r : Fin 64) (d : Desc) (s : State) : State :=
  let item := field d.paramA 16 13
  if !s.trust.rngOk then opDone r d.tag 0x80 0 0 s
  else if !signetItem s item d.length then opDone r d.tag 0x81 0 0 s
  else
    let (bs, s1) := drawRandom d.length s
    opDone r d.tag 0 d.length 0 (arrive item ⟨true, 0, s1.ts, bs⟩ s1)

/-- SIG_RANDOM: carries out the started operation of a ring. -/
def execSigRandom (ring : Fin 64) (tag : Fin 1024) (s : State) : Host.Outcome State Fault Refusal :=
  act (runOp ring tag 0xA1 (sigRandomOp ring)) s

/-- SIG_ATTEST (R514 to R516): the attestation for a nonce as one arrival of the named item. -/
def sigAttestOp (r : Fin 64) (d : Desc) (s : State) : State :=
  let item := field d.paramA 16 13
  if !s.trust.rngOk then opDone r d.tag 0x80 0 0 s
  else if !signetItem s item 3504 then opDone r d.tag 0x81 0 0 s
  else match identitySeed s with
    | none => opDone r d.tag 0x83 0 0 s
    | some seed =>
      let (bs, s1) := attestation seed (readBuffer s d.addr 32) s
      opDone r d.tag 0 3501 s1.trust.actCnt.toNat (arrive item ⟨true, 0, s1.ts, bs⟩ s1)

/-- SIG_ATTEST: carries out the started operation of a ring. -/
def execSigAttest (ring : Fin 64) (tag : Fin 1024) (s : State) : Host.Outcome State Fault Refusal :=
  act (runOp ring tag 0xA2 (sigAttestOp ring)) s

/-- SIG_VERIFY (R483, R514, R516): a container of another type than the expected one fails as its format. -/
def sigVerifyOp (r : Fin 64) (d : Desc) (s : State) : State :=
  let c := readBuffer s d.addr d.length
  let reason := if contType c = field d.paramA 0 3 then containerReason s c else 1
  if reason = 0 then opDone r d.tag 0 (contVersion c) (contSvn c + 256 * contFmt c) s
  else opDone r d.tag 0x82 reason 0 (rejectContainer reason s)

/-- SIG_VERIFY: carries out the started operation of a ring. -/
def execSigVerify (ring : Fin 64) (tag : Fin 1024) (s : State) : Host.Outcome State Fault Refusal :=
  act (runOp ring tag 0xA3 (sigVerifyOp ring)) s

/-! ## The random source -/

/-- RANDOM_SOURCE_FAILED (R481): a health test fails; the source gives nothing more until the next module reset. -/
def execRandomSourceFailed (s : State) : Host.Outcome State Fault Refusal :=
  act (fun s => onlyIf s.trust.rngOk (fun s => rep 0x4809 { s with trust := { s.trust with rngOk := false } }) s) s

/-! ## Writes of user calibration -/

/-- The store with a write performed (R504). -/
def ucalStore (u : Table Nat) (w : UcalWrite) : Table Nat :=
  match w.value with
  | some v => tset u (ucalKey w.kind w.index) v
  | none => terase u (ucalKey w.kind w.index)

/-- Signet finishes the oldest write: the entry is stored or erased and reported, or refused where it finds the store full (R505). -/
def ucalDone (s : State) : State :=
  match s.trust.ucalQueue with
  | [] => s
  | w :: rest =>
    let s1 := { s with trust := { s.trust with ucalQueue := rest } }
    if ucalKeyOk w.kind w.index && ucalFits s w.kind w.index w.value then
      rep 0x4408 { s1 with trust := { s1.trust with ucal := ucalStore s.trust.ucal w, ucalLast := 1 } }
    else ucalRefused s1

/-- UCAL_WRITE_DONE (R505). -/
def execUcalWriteDone (s : State) : Host.Outcome State Fault Refusal := act ucalDone s

end Sys2Proof.Machine
end

