-- ==== Sys2Proof/Machine/Utmus.lean ====
section
/-!
DEFINITION. Utmus (R508 to R513): the checks of a request, its response, sessions and transfers, and the commands of R512 that do not
concern the configuration, the firmware or the program.
-/

namespace Sys2Proof.Machine

/-! ## Requests and responses -/

/-- What a command comes to: STATUS, the rest of the response body, and the state (R509). -/
structure Reply where
  status : Nat
  body : List Byte := []
  st : State

/-- A refusal with a status. -/
def refuse (status : Nat) (s : State) : Reply := ⟨status, [], s⟩

/-- A container rejected with its reason: counted and reported (R483, R509). -/
def refuseContainer (reason : Nat) (s : State) : Reply := ⟨6, leBytes 1 reason, rejectContainer reason s⟩

/-- Message bytes 0 to 19 of a request (R509). -/
def UtmusReq.header (q : UtmusReq) (cmd : Nat) : List Byte :=
  leBytes 2 q.magic.toNat ++ [q.ver] ++ leBytes 1 cmd ++ leBytes 4 q.session.toNat ++ leBytes 4 q.seq.toNat
    ++ leBytes 4 q.bodyLen.toNat ++ [q.keyClass, q.keyIndex] ++ leBytes 2 q.zero.toNat

/-- Is a request laid out as R509 says? -/
def UtmusReq.formatOk (q : UtmusReq) : Bool :=
  q.magic == 0x5455 && q.ver == 1 && q.zero == 0 && decide (q.bodyLen.toNat ≤ 65536) && q.body.length == q.bodyLen.toNat

/-- The numbers of a request's body. -/
def UtmusReq.params (q : UtmusReq) (cmd : Nat) : List Nat := Config.utmusParams cmd q.body

/-- The first number of a request's body. -/
def UtmusReq.param (q : UtmusReq) (cmd : Nat) : Nat := (q.params cmd).headD 0

/-- Sends the response of a command; every refusal is counted and reported (R509, R510). -/
def respond (cmd : Nat) (q : UtmusReq) (session : BitVec 32) (r : Reply) : State :=
  let body := leBytes 1 r.status ++ r.body
  let msg := leBytes 2 0x5455 ++ leBytes 1 1 ++ leBytes 1 (cmd + 0x80) ++ leBytes 4 session.toNat ++ leBytes 4 q.seq.toNat
    ++ leBytes 4 body.length ++ zeros 4 ++ body
  let s1 := { r.st with trust := { r.st.trust with response := msg } }
  if r.status = 0 then s1
  else rep 0x4808 { s1 with trust := { s1.trust with utmusRej := s1.trust.utmusRej + 1 } }

/-! ## Keys and permissions -/

/-- The digest of the key a request names (R485, R511). -/
def UtmusReq.keyDigest (q : UtmusReq) (s : State) : Option (List Byte) :=
  match q.keyClass.toNat with
  | 0 => vendorKey s q.keyIndex.toNat
  | 1 => ownerKey s q.keyIndex.toNat
  | 2 => if cfgActive s then (s.cfg.trust.keys[q.keyIndex.toNat]?).map MaintKey.digest else none
  | _ => none

/-- Does the signature verify over serial number, nonce, header and body with the key named (R510)? -/
def UtmusReq.signed (q : UtmusReq) (cmd : Nat) (nonce : List Byte) (s : State) : Bool :=
  let m := leBytes 5 s.otp.serial.toNat ++ nonce ++ q.header cmd ++ q.body
  q.keyDigest s == some (digest32 q.pk) && Config.mldsaVerify q.pk (withContext "ZWD3100-UTM" m) q.sig

/-- The permission mask of the key a request names (R511). -/
def UtmusReq.perms (q : UtmusReq) (s : State) : Nat :=
  match q.keyClass.toNat, lifecycle s with
  | 0, .provisioned | 0, .returned => 47
  | 0, .owned => 40
  | 1, .owned => if q.keyIndex.toNat = ownerSlot s then 31 else 0
  | 2, .owned | 2, .provisioned | 2, .returned => ((s.cfg.trust.keys[q.keyIndex.toNat]?).map MaintKey.perms).getD 0
  | _, _ => 0

/-- May the key a request names give a command? The lifecycle commands name their signers themselves (R486, R487, R511, R512). -/
def UtmusReq.allowed (q : UtmusReq) (cmd perm : Nat) (s : State) : Bool :=
  let vendor := q.keyClass == 0
  let owner := q.keyClass == 1 && q.keyIndex.toNat == ownerSlot s
  match cmd with
  | 0x51 => owner && lifecycle s == .owned
  | 0x52 => if lifecycle s = .owned then owner else vendor && (lifecycle s == .provisioned || lifecycle s == .returned)
  | 0x60 => vendor && lifecycle s != .retired
  | 0x61 => (vendor && (lifecycle s == .provisioned || lifecycle s == .returned)) || (owner && lifecycle s == .returned)
  | 0x62 => vendor && testBit (q.perms s) 5
  | _ => testBit (q.perms s) perm

/-- The commands RECOVERY accepts (R497). -/
def recoveryTakes (cmd : Nat) (type : Nat) : Bool :=
  [0x01, 0x02, 0x03, 0x11, 0x30, 0x31].contains cmd || ((cmd == 0x10 || cmd == 0x12) && type == 1)

/-! ## The checks -/

/-- The session with a request's REQ_SEQ taken. -/
def noteSeq (q : UtmusReq) (S : UtmusSession) (s : State) : State :=
  { s with trust := { s.trust with session := some { S with seq := q.seq } } }

/-- A request inside its session (R509 to R511): format, session, REQ_SEQ, signature, permission, and the command. `perm` is none for an
unsigned request; `type` is the container type a loading command concerns. -/
def checked (cmd : Nat) (perm : Option Nat) (type : Nat) (q : UtmusReq) (f : State → Reply) (s : State) : Reply :=
  if !q.formatOk then refuse 1 s
  else match s.trust.session with
    | none => refuse 4 s
    | some S =>
      if q.session ≠ S.number then refuse 4 s
      else if q.seq ≠ S.seq + 1 then refuse 7 s
      else
        let s1 := noteSeq q S s
        let signed := perm.isNone || q.signed cmd S.nonce s1
        if !signed then refuse 2 s1
        else if !(perm.isNone || q.allowed cmd (perm.getD 0) s1) then refuse 3 s1
        else if s1.trust.recovery && !recoveryTakes cmd type then refuse 4 s1
        else f s1

/-- A command of an open session with its checks and its response. -/
def utmus (cmd : Nat) (perm : Option Nat) (q : UtmusReq) (f : State → Reply) (s : State) : State :=
  respond cmd q q.session (checked cmd perm 0 q f s)

/-! ## Sessions and reading -/

/-- HELLO (R510, R512): opens a session, in the place of one that is open; refused while the random source has failed. -/
def hello (q : UtmusReq) (s : State) : State :=
  if !q.formatOk then respond 1 q q.session (refuse 1 s)
  else if !s.trust.rngOk then respond 1 q q.session (refuse 4 s)
  else
    let (nonce, s1) := drawRandom 32 s
    let number := Config.utmusSession s1.trust.sessions
    let s2 := { s1 with trust := { s1.trust with
      sessions := s1.trust.sessions + 1, session := some { number := number, nonce := nonce } } }
    let body := leBytes 4 number.toNat ++ nonce ++ leBytes 5 s.otp.serial.toNat ++ leBytes 1 s.otp.lifeN.toNat
    respond 1 q number ⟨0, body, s2⟩

/-- HELLO (R512). -/
def execHello (req : UtmusReq) (s : State) : Host.Outcome State Fault Refusal := act (hello req) s

/-- Identity data, MAC addresses, identity public key and certificate (R6, R274, R512). -/
def identityBytes (s : State) : List Byte :=
  ascii "ZWD-3100" ++ leBytes 1 s.otp.issue.toNat ++ leBytes 5 s.otp.serial.toNat ++ leBytes 2 s.otp.week.toNat ++ padTo 32 s.otp.idKey
    ++ leBytes 1 s.otp.lifeN.toNat ++ s.otp.mac.toList.flatMap (fun m => leBytes 6 m.toNat)
    ++ (match s.trust.seed with
        | some seed => padTo 1952 (Config.identityKey seed)
        | none => zeros 1952)
    ++ (match factoryPayload s with
        | some p => Config.factoryCert p
        | none => [])

/-- IDENTIFY (R512): unsigned; outside a session it needs none. -/
def identify (q : UtmusReq) (s : State) : State :=
  let answer (s : State) : Reply := ⟨0, identityBytes s, s⟩
  match s.trust.session with
  | some _ => utmus 2 none q answer s
  | none => respond 2 q q.session (if q.formatOk then answer s else refuse 1 s)

/-- IDENTIFY (R512). -/
def execIdentify (req : UtmusReq) (s : State) : Host.Outcome State Fault Refusal := act (identify req) s

/-- STATUS (R512): the status words of CFG, SIG, VOT, CLS and PWR. -/
def execStatus (req : UtmusReq) (s : State) : Host.Outcome State Fault Refusal :=
  act (utmus 3 (some 0) req (fun s =>
    ⟨0, [cfgRead s 0, sigRead s 0, votRead s 0, clsRead s 0, pwrRead s 0].flatMap (fun w => leBytes 4 w.toNat), s⟩)) s

/-- Reads records for the maintainer through a supervisor ring's buffer (R474). -/
def utmusRecords (q : UtmusReq) (bad : List Nat) (s : State) : Reply :=
  match q.params 4 with
  | [want, count] =>
    if count = 0 then refuse 5 s
    else
      let rs := recordsFrom s want count bad
      ⟨0, rs.flatMap Record.bytes, reportUnreadable rs s⟩
  | _ => refuse 5 s

/-- UTMUS_REC_READ (R474, R512); `bad` are the numbers the NAND controller cannot read back. -/
def execUtmusRecRead (req : UtmusReq) (bad : List Nat) (s : State) : Host.Outcome State Fault Refusal :=
  act (utmus 4 (some 0) req (utmusRecords req bad)) s

/-- The attestation for the nonce in the body (R512, R515); with the random source failed there are no fresh random bytes for it (R478). -/
def utmusAttest (q : UtmusReq) (s : State) : Reply :=
  match identitySeed s with
  | none => refuse 4 s
  | some seed =>
    if !s.trust.rngOk then refuse 4 s
    else if (Config.utmusData 5 q.body).length ≠ 32 then refuse 5 s
    else
      let (bs, s1) := attestation seed (Config.utmusData 5 q.body) s
      ⟨0, bs, s1⟩

/-- ATTEST (R512). -/
def execAttest (req : UtmusReq) (s : State) : Host.Outcome State Fault Refusal := act (utmus 5 (some 0) req (utmusAttest req)) s

/-- The open session ends, and with it its transfer (R510). -/
def endSession (s : State) : State := { s with trust := { s.trust with session := none } }

/-- SESSION_TIMEOUT (R510): 300 s without a request. -/
def execSessionTimeout (s : State) : Host.Outcome State Fault Refusal := act endSession s

/-- CONNECTION_CLOSED (R510). -/
def execConnectionClosed (s : State) : Host.Outcome State Fault Refusal := act endSession s

/-! ## Transfers -/

/-- The permission that loading a container type takes (R512). -/
def loadPerm : Nat → Nat
  | 1 => 3
  | 2 | 3 => 2
  | _ => 5

/-- The session with its transfer replaced. -/
def setTransfer (t : Option Transfer) (s : State) : State :=
  { s with trust := { s.trust with session := s.trust.session.map (fun S => { S with transfer := t }) } }

/-- The open transfer. -/
def openTransfer (s : State) : Option Transfer := match s.trust.session with
  | some S => S.transfer
  | none => none

/-- Opens a transfer of the stated type, slot and length (R512). -/
def loadBegin (q : UtmusReq) (s : State) : Reply :=
  match q.params 0x10 with
  | [type, slot, length] =>
    if type < 1 ∨ 4 < type ∨ 8 ≤ slot then refuse 5 s
    else if (openTransfer s).isSome then refuse 4 s
    else ⟨0, [], setTransfer (some ⟨type, slot, length, []⟩) s⟩
  | _ => refuse 5 s

/-- LOAD_BEGIN (R512). -/
def execLoadBegin (req : UtmusReq) (s : State) : Host.Outcome State Fault Refusal :=
  act (fun s =>
    let type := req.param 0x10
    respond 0x10 req req.session (checked 0x10 (some (loadPerm type)) type req (loadBegin req) s)) s

/-- The next part of the open transfer, at the next offset (R510). -/
def chunk (q : UtmusReq) (s : State) : Reply :=
  match openTransfer s with
  | none => refuse 4 s
  | some t =>
    let data := Config.utmusData 0x11 q.body
    if q.params 0x11 ≠ [t.data.length] ∨ t.length < t.data.length + data.length then refuse 5 s
    else ⟨0, [], setTransfer (some { t with data := t.data ++ data }) s⟩

/-- CHUNK (R510, R512). -/
def execChunk (req : UtmusReq) (s : State) : Host.Outcome State Fault Refusal := act (utmus 0x11 none req (chunk req)) s

/-- The image digests a configuration slot names: its start image and its swap images (R482, R495). -/
def namedImages (s : State) (x : CfgSlot) : List (List Byte) :=
  let swaps := match runPayload s x with
    | some (p, _) => match Config.decodeCfg (formats s).1 p with
      | some c => c.trust.swapImages
      | none => []
    | none => []
  contApp x.cont :: swaps

/-- Is an image slot free: does it hold no image that the ACTIVE or PREVIOUS configuration names (R495)? -/
def imageFree (s : State) (i : Nat) : Bool :=
  let named := (s.trust.slots.toList.filter (fun x => x.state == .active || x.state == .previous)).flatMap (namedImages s)
  match (s.trust.images.toList[i]?).getD none with
  | none => true
  | some b => !named.contains ((contDigest b).take 32)

/-- Stores a verified container by its type (R490, R495, R503, R512). -/
def storeContainer (slot : Nat) (c : List Byte) (s : State) : Reply :=
  match contType c with
  | 1 => ⟨0, [], { s with trust := { s.trust with staged := some c } }⟩
  | 2 => match (List.range 8).find? (imageFree s) with
    | some i => ⟨0, [], { s with trust := { s.trust with images := vset s.trust.images (Fin.ofNat 8 i) (some c) } }⟩
    | none => refuse 4 s
  | 3 =>
    let st := (cfgSlot s slot).state
    if st = .active ∨ st = .previous then refuse 4 s
    else ⟨0, [], setSlot slot { state := .loaded, cont := c } s⟩
  | _ => ⟨0, [], { s with trust := { s.trust with factory := some c } }⟩

/-- Verifies the transferred container and stores it; the transfer is closed (R484, R512). -/
def loadEndCommand (s : State) : Reply :=
  match openTransfer s with
  | none => refuse 4 s
  | some t =>
    if t.data.length ≠ t.length then refuse 4 s
    else
      let s1 := setTransfer none s
      let r := containerReason s1 t.data
      if r ≠ 0 then refuseContainer r s1
      else if contType t.data ≠ t.type then refuse 5 s1
      else storeContainer t.slot t.data s1

/-- LOAD_END_COMMAND (R512). -/
def execLoadEndCommand (req : UtmusReq) (s : State) : Host.Outcome State Fault Refusal :=
  act (fun s =>
    let type := ((openTransfer s).map Transfer.type).getD 0
    respond 0x12 req req.session (checked 0x12 (some (loadPerm type)) type req loadEndCommand s)) s

/-! ## Lifecycle -/

/-- The lifecycle count takes a new value and the change is reported (R486, R487). -/
def setLife (n : Nat) (s : State) : State := rep 0x4807 { s with otp := { s.otp with lifeN := BitVec.ofNat 5 n } }

/-- A stop of the program other than by a fault: the claim and the enable go with it (R176, R443). -/
def haltProgram (s : State) : State :=
  if s.cls.role = .withdrawn then stopProgram s
  else setRole .none (let s1 := stopProgram s; { s1 with cls := { s1.cls with outEn := false } })

/-- The configuration store, the image slots, the user calibration and the MRAM retained areas are erased; no configuration is active
any more (R3, R487). -/
def eraseOwner (s : State) : State :=
  let s1 := haltProgram s
  { s1 with
    lanes := s1.lanes.map (fun L => { L with mram := [], mirror := [] }),
    trust := { s1.trust with
      slots := Vector.replicate 8 {}, images := Vector.replicate 8 none, running := none, ucal := [], ucalQueue := [],
      cfgOk := false, migratedRun := false } }

/-- PROVISION (R487): the seed is drawn and sealed, and the identity key's digest written. -/
def provision (s : State) : Reply :=
  if lifecycle s ≠ .blank ∨ !s.trust.rngOk then refuse 4 s
  else
    let (seed, s1) := drawRandom 32 s
    ⟨0, [], setLife 1 { s1 with
      otp := { s1.otp with idKey := digest32 (Config.identityKey seed) }, trust := { s1.trust with seed := some seed } }⟩

/-- PROVISION (R512). -/
def execProvision (req : UtmusReq) (s : State) : Host.Outcome State Fault Refusal := act (utmus 0x60 (some 5) req provision) s

/-- ENROL (R487): the digest of the new owner key goes to the next owner slot. -/
def enrol (q : UtmusReq) (s : State) : Reply :=
  let n := s.otp.lifeN.toNat
  let key := Config.utmusData 0x61 q.body
  if lifecycle s ≠ .provisioned ∧ lifecycle s ≠ .returned then refuse 4 s
  else if key.length ≠ 32 then refuse 5 s
  else
    let s1 := eraseOwner s
    ⟨0, [], setLife (n + 1) { s1 with trust := { s1.trust with
      owner := vset s1.trust.owner (Fin.ofNat 7 (ownerSlotOf (n + 1))) (some key) } }⟩

/-- ENROL (R512). -/
def execEnrol (req : UtmusReq) (s : State) : Host.Outcome State Fault Refusal := act (utmus 0x61 (some 5) req (enrol req)) s

/-- RELINQUISH (R487): OWNED with owner slot 0 to 5 goes to RETURNED. -/
def relinquish (s : State) : Reply :=
  if lifecycle s ≠ .owned ∨ 5 < ownerSlot s then refuse 4 s
  else ⟨0, [], setLife (s.otp.lifeN.toNat + 1) (eraseOwner s)⟩

/-- RELINQUISH (R512). -/
def execRelinquish (req : UtmusReq) (s : State) : Host.Outcome State Fault Refusal := act (utmus 0x51 (some 4) req relinquish) s

/-- RETIRE (R487): every fuse of the row and the seal fuse are blown, and the seed can never be unsealed again. -/
def retire (s : State) : Reply := ⟨0, [], setLife 16 { s with trust := { s.trust with seed := none } }⟩

/-- RETIRE (R512). -/
def execRetire (req : UtmusReq) (s : State) : Host.Outcome State Fault Refusal := act (utmus 0x52 (some 4) req retire) s

/-- VENDOR_REVOKE (R485): signed with a different unrevoked vendor slot, so the last one is never revoked. -/
def vendorRevoke (q : UtmusReq) (s : State) : Reply :=
  let i := q.param 0x62
  if (vendorKey s i).isNone then refuse 5 s
  else if q.keyIndex.toNat = i then refuse 4 s
  else ⟨0, [], { s with trust := { s.trust with
    vendor := vmod s.trust.vendor (Fin.ofNat 4 i) (fun v => { v with revoked := true }) } }⟩

/-- VENDOR_REVOKE (R512). -/
def execVendorRevoke (req : UtmusReq) (s : State) : Host.Outcome State Fault Refusal :=
  act (utmus 0x62 (some 5) req (vendorRevoke req)) s

/-- REC_FORMAT (R471, R512). -/
def execRecFormat (req : UtmusReq) (s : State) : Host.Outcome State Fault Refusal :=
  act (utmus 0x50 (some 4) req (fun s => ⟨0, [], formatRecorder s⟩)) s

end Sys2Proof.Machine
end

