-- ==== Sys2Proof/Machine/Tick.lean ====
section
/-!
DEFINITION. The tick event (R50, R51): every receiver's part, in one fabric cycle, and steps of module time (R61, R63, R596). What happened
before the tick event is seen by it; what a receiver does in its fabric cycle is seen by the next (R83, R157, R567).
-/

namespace Sys2Proof.Machine

/-! ## Reporting at the tick (R565, R567) -/

/-- An entry of the fault item (R567). -/
def FaultEntry.bytes (e : FaultEntry) : List Byte :=
  leBytes 2 e.code ++ leBytes 1 e.origin ++ zeros 1 ++ leBytes 2 e.count ++ zeros 2 ++ leBytes 8 e.seq

/-- The fault item's payload (R567). -/
def faultItemBytes (s : State) : List Byte :=
  let f := s.flt
  padTo 256 (leBytes 4 (compactTick s.tick) ++ leBytes 2 f.itemReports ++ leBytes 1 f.itemEntries.length ++ leBytes 1 (bit f.itemOverflow)
    ++ leBytes 8 f.itemFirstSeq ++ f.itemEntries.flatMap FaultEntry.bytes)

/-- The arrival of the fault item that this tick event makes, if it makes one (R567). -/
def faultArrival (s : State) : Option (Nat × Arrival) :=
  match s.cfg.flt.faultItem with
  | some (item, k) =>
    if s.tick % 2 ^ k = 0 then some (item, ⟨true, BitVec.ofNat 8 (bit (faultPin s)), s.ts, faultItemBytes s⟩) else none
  | none => none

/-- The running period of the fault item begins anew where an arrival was made (R567). -/
def restartFaultItem (made : Bool) (s : State) : State :=
  if made then { s with flt := { s.flt with itemReports := 0, itemEntries := [], itemOverflow := false, itemFirstSeq := 0 } } else s

/-- A new tick for the classes limited per tick, and one report for each class suppressed in the tick before (R476, R565). -/
def summariseReports (s : State) : State :=
  let supp := s.flt.tickSupp
  let s1 := { s with
    flt := { s.flt with tickRecs := [], tickSupp := [] }, rcd := { s.rcd with refusedTick := false },
    vot := { s.vot with fullTick := false } }
  supp.foldl (fun s e => report 0x0401 8 (leBytes 2 e.1 ++ leBytes 4 e.2) s) s1

/-! ## TIMED operations (R161, R409) -/

/-- Inserts a held operation by the order of the fetches. -/
def insertHeld (h : Fin 64 × Desc) : List (Fin 64 × Desc) → List (Fin 64 × Desc)
  | [] => [h]
  | x :: xs => if h.2.order < x.2.order then h :: x :: xs else x :: insertHeld h xs

/-- The held operations of this tick, in fetch order (R409). -/
def dueHeld (s : State) : List (Fin 64 × Desc) :=
  (allRings.flatMap (fun r => ((s.ringAt r).held.filter (fun h => h.tick == s.tick)).map (fun h => (r, h.desc)))).foldr insertHeld []

/-- A held operation takes effect (R161). -/
def releaseHeld (s : State) (h : Fin 64 × Desc) : State :=
  let d := h.2
  match d.opcode with
  | 0x10 => loadTxBuf (field d.paramA 0 9) d.data s
  | 0x20 =>
    let q : EthId := Fin.ofNat 2 d.paramA
    if ethReady s q then ethFrameOut q d.data s else s
  | 0x21 => loadPub (field d.paramA 0 9) d.data s
  | 0x30 => loadMvb (field d.paramA 0 12) d.data s
  | 0x41 | 0x42 => releaseColWrite h.1 d s
  | 0x60 | 0x61 => anaRelease d s
  | _ => fieldRelease d s

/-- The TIMED operations of the tick take effect; those whose tick was crossed without a tick event are discarded (R161, R195). -/
def timedReleases (s : State) : State :=
  let s1 := { s with rng := { s.rng with ring := s.rng.ring.map (fun R => { R with held := R.held.filter (fun h => s.tick < h.tick) }) } }
  (dueHeld s).foldl releaseHeld s1

/-! ## The scrub (R96) -/

/-- Bytes of DRAM that change without being written: no line becomes dirty (R96). -/
def upsetBytes (us : List (LaneId × CoreId × Nat × Byte)) (s : State) : State :=
  us.foldl (fun s u => s.modCore u.1 u.2.1 (fun c => { c with img := memSet c.img u.2.2.1 u.2.2.2 })) s

/-- Is a covered line clean in an image, and does its content differ from its signature? -/
def Core.scrubBad (c : Core) (n : Nat) : Bool := !nsMem c.dirty n && c.hashLine n != c.lineSig n

/-- Scrubs lines from an index on until enough clean ones have been seen, in address order and round again: the index to go on from and
the first line found bad (R96). A line counts when it is clean in an image. -/
def scrubWalk (a b : Core) : Nat → Nat → Nat → Nat × Option Nat
  | 0, _, i => (i, none)
  | fuel + 1, left, i =>
    if left = 0 then (i, none)
    else
      let n := lineOfIndex i
      let next := (i + 1) % coveredLines
      if a.scrubBad n || b.scrubBad n then (next, some n)
      else scrubWalk a b fuel (if nsMem a.dirty n && nsMem b.dirty n then left else left - 1) next

/-- One lane's scrub of a tick, while its digest unit works and SCRUB_EN is 1 (R95, R96). -/
def scrubLane (s : State) (l : LaneId) : State :=
  let L := s.lane l
  if L.regField (LANE + 8) 1 1 = 1 ∧ (L.state = .ready ∨ L.state = .running) then
    let a := vget L.cores 0
    let b := vget L.cores 1
    let rate := max 1 (L.regField (LANE + 0x38) 0 8)
    let (pos, bad) := scrubWalk a b (rate + a.dirty.length + b.dirty.length) rate L.scrubPos
    let s1 := s.modLane l (fun L => { L with scrubPos := pos })
    match bad with
    | some n => laneFinding l 4 0 0 (64 * n) s1
    | none => s1
  else s

/-! ## The tick event -/

/-- An ANCHOR record at every 8 000th tick (R460). -/
def anchorAtTick (s : State) : State := if s.tick % 8000 = 0 then requestRecord (anchorRecord s) s else s

/-- The part of a tick event before the buffer swap: interrupt snapshots, latches, program starts and releases (R83, R157, R175, R187,
R409). -/
def tickReleases (inp : TickInputs) (s : State) : State × List (OutItemCfg × List Byte) :=
  let s1 := latchRings (engineBudgets (fun e => inp.busyUs.getD e.val 0) (irqSnapshots s))
  let s2 := checkpointStarts (startAtTick s1)
  let rels := s2.cfg.cyc.tasks.flatMap (taskReleases s2)
  (swapAtTick (timedReleases (releaseAll rels (s2.cfg.cyc.tasks.foldl countRelease s2))), rels)

/-- The input side: safe receivers, claim selectors, the swap, and what enters the next one (R32, R177, R340, R451, R567). -/
def tickInputs (rels : List (OutItemCfg × List Byte)) (fault : Option (Nat × Arrival)) (s : State) : State :=
  let s1 := rels.foldl feedInternal (swapItems (evaluateSelectors (evaluateReceivers s)))
  match fault with
  | some (item, a) => arrive item a s1
  | none => s1

/-- The module's tick event (R50). -/
def tickEvent (inp : TickInputs) (s : State) : State :=
  let fault := faultArrival s
  let (s1, rels) := tickReleases inp (summariseReports (restartFaultItem fault.isSome s))
  let s2 := startInstances (motionAtTick (joinTasks (tickInputs rels fault s1)))
  let s3 := claspAtTick (allLanes.foldl scrubLane (upsetBytes inp.upsets s2))
  let s4 := avsAtTick (fun l => inp.margins.getD l.val [])
    (fieldAtTick inp.currents inp.supplies inp.voCurrents inp.low inp.high s3)
  cycleTurn (colAtTick (ethAtTick (ptpFollowTime (anchorAtTick (locketAtTick s4)))))

/-- The tick event in Parked: time, the line and the Locket domain go on (R534). -/
def parkedTick (s : State) : State := cycleTurn (locketAtTick s)

/-- The tick event in the present power state. -/
def tickHere (inp : TickInputs) (s : State) : State := if s.pwr.pstate = .parked then parkedTick s else tickEvent inp s

/-- Module time counts to the first fabric cycle at or after the next boundary (R50, R54). -/
def countToBoundary (s : State) : State :=
  let inc := (5 * (nsUnits : Int) + 5 * s.tim.rate).toNat
  let n := ((s.tick + 1) * tickUnits - s.tim.now + inc - 1) / inc
  { s with tim := { s.tim with now := s.tim.now + n * inc, cycles := s.tim.cycles + n } }

/-- TICK_EVENT (R50). -/
def execTickEvent (inp : TickInputs) (s : State) : Host.Outcome State Fault Refusal :=
  actLine (fun s => if s.tim.counting then tickHere inp (countToBoundary s) else s) s

/-! ## Steps of module time -/

/-- What follows a step from an earlier time: a forward step across boundaries has one tick event, for the last of them, and the others
are skipped; a backward step has none (R63, R195, R393, R596). -/
def afterStep (before : State) (inp : TickInputs) (s : State) : State :=
  let s1 := if s.pwr.pstate = .parked then s else anaStep before.tim.now s.tim.now s
  if before.tick < s1.tick then
    let s2 := { s1 with tim := { s1.tim with skip := s1.tim.skip + BitVec.ofNat 32 (s1.tick - before.tick - 1) } }
    tickHere inp (skipInstances (before.tick + 1) s2)
  else cycleTurn s1

/-- REFERENCE_MEASUREMENT (R55 to R64): the servo measurement of the basic cycle; `inp` is what a tick event finds that a step makes. -/
def execReferenceMeasurement (inp : TickInputs) (s : State) : Host.Outcome State Fault Refusal :=
  actLine (fun s =>
    let (s1, stepped) := refMeasurement s
    if stepped then afterStep s inp s1 else s1) s

/-- COLDSTART_COMPLETE (R250): sixteen COLD frames sent unanswered; from UNSET the time steps to the Locket domain's (R57). -/
def execColdstartComplete (inp : TickInputs) (s : State) : Host.Outcome State Fault Refusal :=
  actLine (fun s =>
    let s1 := coldstartComplete s
    if s1.tim.now = s.tim.now then s1 else afterStep s inp s1) s

/-! ## An idle fabric cycle -/

/-- A fabric cycle in which no command waits: module time counts, up to the cycle of the next tick event, which TICK_EVENT makes (log
7). -/
def idleCycle (s : State) : State :=
  if s.tim.counting ∧ s.pwr.held = false ∧ (countCycle s).tick = s.tick then countCycle s else s

end Sys2Proof.Machine
end

