-- ==== Sys2Proof/Machine/Update.lean ====
section
/-!
DEFINITION. The Utmus commands that change the module: activation and revert (R490 to R493), code swap (R203), firmware (R498, R499),
program control (R175, R176), lane release (R136), online change (R199) and user calibration (R505, R507).
-/

namespace Sys2Proof.Machine

/-- Is the output enable up, CLS_STATUS.OUT_EN? -/
def outputsOn (s : State) : Bool := s.cls.outEn

/-! ## Activation and revert -/

/-- The slots after a slot has become ACTIVE: the old ACTIVE one is PREVIOUS, the old PREVIOUS one LOADED (R491). -/
def promote (i : Nat) (x : CfgSlot) (slots : Vector CfgSlot 8) : Vector CfgSlot 8 :=
  let demoted := slots.map (fun y => match y.state with
    | .active => { y with state := SlotState.previous }
    | .previous => { y with state := SlotState.loaded }
    | .empty | .loaded | .invalid => y)
  vset demoted (Fin.ofNat 8 i) { x with state := .active }

/-- A failure before the commit, once the program has been stopped: reported, and the program stays stopped (R491). -/
def activationFailed (r : Reply) : Reply :=
  { r with st := rep 0x4404 { r.st with cyc := { r.st.cyc with stopByMaint := true } } }

/-- The CVER rule: a slot is activated only with a CVER above the ACTIVE one's (R490). -/
def cverOk (s : State) (c : List Byte) : Bool := match activeCont s with
  | some a => contVersion a < contVersion c
  | none => true

/-- Steps 2 to 6 of an activation (R491, R493): the program is stopped, container and image are verified, an older format is migrated,
and the slot-state record with its raised counter is the commit; a software reset follows. -/
def activateSlot (i : Nat) (revert : Bool) (s : State) : Reply :=
  let s1 := haltProgram s
  let x := cfgSlot s1 i
  let r := containerReason s1 x.cont
  if r ≠ 0 then activationFailed (refuseContainer r s1)
  else if !revert && !cverOk s1 x.cont then activationFailed (refuseContainer 8 s1)
  else match imageSlot s1 (contApp x.cont) with
    | none => activationFailed (refuse 4 s1)
    | some k =>
      let ri := containerReason s1 (imageAt s1 k)
      if ri ≠ 0 then activationFailed (refuseContainer ri s1)
      else match runPayload s1 x with
        | none => activationFailed (refuse 4 (rep 0x4406 s1))
        | some (_, m) =>
          if s1.trust.actCnt = BitVec.allOnes 32 then
            activationFailed (refuse 4 { s1 with trust := { s1.trust with faultCause := 7, faultSlot := BitVec.ofNat 3 i } })
          else
            let s2 := if migratesNow x m then rep 0x4405 s1 else s1
            let s3 := rep (if revert then 0x4403 else 0x4402) { s2 with trust := { s2.trust with
              slots := promote i { x with migrated := m } s2.trust.slots, actCnt := s2.trust.actCnt + 1, running := none } }
            ⟨0, [], softwareReset (if revert then 2 else 1) s3⟩

/-- Step 1 of R491: refused while the outputs are enabled or a code swap runs. -/
def mayActivate (s : State) : Bool := !outputsOn s && s.cyc.swap == .idle

/-- ACTIVATE of the stated slot (R490, R491). -/
def activate (q : UtmusReq) (s : State) : Reply :=
  let i := q.param 0x20
  if 8 ≤ i then refuse 5 s
  else if !mayActivate s || (cfgSlot s i).state != .loaded then refuse 4 (rep 0x4404 s)
  else activateSlot i false s

/-- ACTIVATE (R491). -/
def execActivate (req : UtmusReq) (s : State) : Host.Outcome State Fault Refusal := act (utmus 0x20 (some 2) req (activate req)) s

/-- REVERT (R493). -/
def revert (s : State) : Reply :=
  match slotIn s .previous with
  | some i => if mayActivate s then activateSlot i true s else refuse 4 (rep 0x4404 s)
  | none => refuse 4 (rep 0x4404 s)

/-- REVERT (R493). -/
def execRevert (req : UtmusReq) (s : State) : Host.Outcome State Fault Refusal := act (utmus 0x21 (some 2) req revert) s

/-- SLOT_ERASE (R512). -/
def slotErase (q : UtmusReq) (s : State) : Reply :=
  let i := q.param 0x22
  if 8 ≤ i then refuse 5 s
  else if (cfgSlot s i).state = .active ∨ (cfgSlot s i).state = .previous then refuse 4 s
  else ⟨0, [], setSlot i {} s⟩

/-- SLOT_ERASE (R512). -/
def execSlotErase (req : UtmusReq) (s : State) : Host.Outcome State Fault Refusal := act (utmus 0x22 (some 2) req (slotErase req)) s

/-! ## Code swap -/

/-- SWAP_LOAD of an image slot: a swap image that the active configuration names and Signet accepts (R203, R495). -/
def swapLoad (q : UtmusReq) (s : State) : Reply :=
  let i := q.param 0x28
  let c := imageAt s i
  if s.cyc.swap ≠ .idle ∨ ¬ cfgActive s then refuse 4 s
  else if c.isEmpty ∨ contType c ≠ 2 ∨ ¬ s.cfg.trust.swapImages.contains ((contDigest c).take 32) then refuse 5 s
  else
    let r := containerReason s c
    if r ≠ 0 then refuseContainer r s
    else match Config.decodeImage (contFmt c) (contPayload c) with
      | none => refuse 5 s
      | some img => ⟨0, [], { s with cyc := { s.cyc with swap := .loading, swapImage := some (i, img) } }⟩

/-- SWAP_LOAD (R203). -/
def execSwapLoad (req : UtmusReq) (s : State) : Host.Outcome State Fault Refusal := act (utmus 0x28 (some 2) req (swapLoad req)) s

/-- The next tick N with N mod 2^kmax = 0 (R203). -/
def nextAligned (s : State) : Nat := (s.tick / 2 ^ kmax s + 1) * 2 ^ kmax s

/-- SWAP: at the next aligned tick the program is to stop for the conversion; refused and reported while the module is active with its
outputs enabled (R203). -/
def swapCommand (s : State) : Reply :=
  if s.cyc.swap ≠ .ready then refuse 4 s
  else if s.cls.role = .active ∧ s.cls.outEn then refuse 4 (rep 0x050B s)
  else ⟨0, [], { s with cyc := { s.cyc with swapAt := some (nextAligned s, false) } }⟩

/-- SWAP (R203). -/
def execSwap (req : UtmusReq) (s : State) : Host.Outcome State Fault Refusal := act (utmus 0x29 (some 2) req swapCommand) s

/-- The trial code is committed: the old code and data in the shadow are discarded and the slot-state record names the image (R203,
R495). -/
def swapCommitted (s : State) : State :=
  rep 0x050B ({ s with
    trust := { s.trust with running := s.cyc.swapImage.map Prod.fst },
    cyc := { s.cyc with swap := .idle, swapImage := none, swapAt := none } }.modLanes discardShadow)

/-- SWAP_COMMIT (R203). -/
def execSwapCommit (req : UtmusReq) (s : State) : Host.Outcome State Fault Refusal :=
  act (utmus 0x2A (some 2) req (fun s => if s.cyc.swap = .trial then ⟨0, [], swapCommitted s⟩ else refuse 4 s)) s

/-- SWAP_REVERT: at the next aligned tick the program stops and the regions are exchanged back (R203). -/
def execSwapRevert (req : UtmusReq) (s : State) : Host.Outcome State Fault Refusal :=
  act (utmus 0x2B (some 2) req (fun s =>
    if s.cyc.swap = .trial then ⟨0, [], { s with cyc := { s.cyc with swapAt := some (nextAligned s, true) } }⟩ else refuse 4 s)) s

/-- Has the trial time that the configuration declares elapsed since the program's start on trial (R203)? -/
def trialOver (s : State) : Bool :=
  s.cyc.swap == .trial && programRuns s && decide (s.cyc.progTick + s.cfg.cyc.trialTicks ≤ s.tick)

/-- SWAP_TRIAL_TIMEOUT (R203). -/
def execSwapTrialTimeout (s : State) : Host.Outcome State Fault Refusal := act (fun s => onlyIf (trialOver s) swapCommitted s) s

/-! ## Firmware -/

/-- Is a bank the one that runs? In RECOVERY none does. -/
def runsBank (s : State) (b : Bool) : Bool := !s.trust.recovery && s.trust.bankB == b

/-- FW_INSTALL: the staged container, verified again, goes into a bank that neither runs nor is on trial (R484, R498). -/
def fwInstall (q : UtmusReq) (s : State) : Reply :=
  let n := q.param 0x30
  let b := n == 1
  if 2 ≤ n then refuse 5 s
  else match s.trust.staged with
    | none => refuse 4 s
    | some c =>
      if runsBank s b || s.trust.trial == some b then refuse 4 s
      else
        let r := containerReason s c
        if r ≠ 0 then refuseContainer r s
        else ⟨0, [], { s with trust := { s.trust with banks := vset s.trust.banks (Fin.ofNat 2 n) (some c) } }⟩

/-- FW_INSTALL (R498). -/
def execFwInstall (req : UtmusReq) (s : State) : Host.Outcome State Fault Refusal := act (utmus 0x30 (some 3) req (fwInstall req)) s

/-- The installed bank that a trial would boot: the one that does not run, or in RECOVERY one that passes (R497, R498). -/
def trialBank (s : State) : Option Bool := [false, true].find? (fun b => !runsBank s b && bankOk s b)

/-- FW_TRIAL: TRIAL is the installed bank with TRIAL_LEFT 3, and a software reset follows (R498). -/
def fwTrial (s : State) : Reply :=
  if outputsOn s then refuse 4 s
  else match trialBank s with
    | none => refuse 4 s
    | some b => ⟨0, [], softwareReset 3 (rep 0x4803 { s with trust := { s.trust with trial := some b, trialLeft := 3 } })⟩

/-- FW_TRIAL (R498). -/
def execFwTrial (req : UtmusReq) (s : State) : Host.Outcome State Fault Refusal := act (utmus 0x31 (some 3) req fwTrial) s

/-- FW_COMMIT: accepted only while the TRIAL bank runs and has reached program start; the counter then advances to its SVN (R499). -/
def fwCommit (s : State) : Reply :=
  let b := s.trust.bankB
  if s.trust.trial ≠ some b ∨ ¬ s.trust.started ∨ s.trust.recovery then refuse 4 s
  else ⟨0, [], completeCommit (rep 0x4804 { s with trust := { s.trust with
    pref := b, trial := none, trialLeft := 0, commit := some (contSvn (bankCont s b)) } })⟩

/-- FW_COMMIT (R499). -/
def execFwCommit (req : UtmusReq) (s : State) : Host.Outcome State Fault Refusal := act (utmus 0x32 (some 3) req fwCommit) s

/-- FW_ROLLBACK: ends a trial as its exhaustion does, under the condition of FW_TRIAL; PREF boots (R498). -/
def fwRollback (s : State) : Reply :=
  if outputsOn s ∨ s.trust.trial.isNone then refuse 4 s else ⟨0, [], softwareReset 4 (endTrial s)⟩

/-- FW_ROLLBACK (R498). -/
def execFwRollback (req : UtmusReq) (s : State) : Host.Outcome State Fault Refusal := act (utmus 0x33 (some 3) req fwRollback) s

/-! ## Program and lanes -/

/-- PROGRAM_STOP (R176, R443): the program stays stopped until PROGRAM_START. -/
def execProgramStop (req : UtmusReq) (s : State) : Host.Outcome State Fault Refusal :=
  act (utmus 0x40 (some 1) req (fun s =>
    let s1 := haltProgram s
    ⟨0, [], { s1 with cyc := { s1.cyc with stopByMaint := true } }⟩)) s

/-- PROGRAM_START (R175): under its conditions the program may start again. -/
def execProgramStart (req : UtmusReq) (s : State) : Host.Outcome State Fault Refusal :=
  act (utmus 0x41 (some 1) req (fun s =>
    if startConditions s && cfgActive s then ⟨0, [], { s with cyc := { s.cyc with stopByMaint := false } }⟩ else refuse 4 s)) s

/-- LANE_RELEASE: ends a lane's hold-out and clears its failed attempts (R136). -/
def laneRelease (q : UtmusReq) (s : State) : Reply :=
  let n := q.param 0x42
  let l : LaneId := Fin.ofNat 3 n
  if 3 ≤ n then refuse 5 s
  else if !(vget s.vot.lanes l).heldOut then refuse 4 s
  else ⟨0, [], s.modVot l (fun v => { v with heldOut := false, fails := [], vstate := .absent, since := s.tim.now })⟩

/-- LANE_RELEASE (R136). -/
def execLaneRelease (req : UtmusReq) (s : State) : Host.Outcome State Fault Refusal := act (utmus 0x42 (some 1) req (laneRelease req)) s

/-- Cuts a list of numbers into groups of four; an incomplete group makes the whole unreadable. -/
def quads : List Nat → Option (List (Nat × Nat × Nat × Nat))
  | [] => some []
  | a :: b :: c :: d :: rest => (quads rest).map (fun q => (a, b, c, d) :: q)
  | _ => none

/-- One value of an online change: the parameter is declared, of the declared size of at most 8 bytes, and the value, read as a signed
number where its lower limit is negative, lies within the limits (R199). -/
def changeWrite (s : State) (v : Nat × Nat × Nat × Nat) : Option ParamWrite :=
  let (task, addr, size, value) := v
  match s.image.params.find? (fun p => p.task.val == task && p.addr == addr) with
  | none => none
  | some p =>
    let x : Int := if p.lo < 0 then signed (8 * size) value else (value : Int)
    if p.size = size ∧ size ≤ 8 ∧ value < 2 ^ (8 * size) ∧ p.lo ≤ x ∧ x ≤ p.hi then some ⟨task, addr, leBytes size value, false⟩ else none

/-- Every value of an online change, or none where one fails a condition (R199). -/
def changeWrites (s : State) (vs : List (Nat × Nat × Nat × Nat)) : Option (List ParamWrite) :=
  vs.foldr (fun v acc => match changeWrite s v, acc with
    | some w, some ws => some (w :: ws)
    | _, _ => none) (some [])

/-- ONLINE_CHANGE: 1 to 16 values, accepted or refused as a whole (R199). -/
def onlineChange (q : UtmusReq) (s : State) : Reply :=
  let refused (st : Nat) : Reply := refuse st (rep 0x050A s)
  if s.cyc.swap = .convert ∨ ¬ cfgActive s then refused 4
  else match quads (q.params 0x43) with
    | none => refused 5
    | some vs =>
      if vs.isEmpty ∨ 16 < vs.length then refused 5
      else match changeWrites s vs with
        | none => refused 5
        | some ws => ⟨0, [], { s with cyc := { s.cyc with changes := s.cyc.changes ++ ws } }⟩

/-- ONLINE_CHANGE (R199). -/
def execOnlineChange (req : UtmusReq) (s : State) : Host.Outcome State Fault Refusal := act (utmus 0x43 (some 1) req (onlineChange req)) s

/-! ## User calibration -/

/-- UCAL_WRITE: stores (1) or erases (2) 1 to 64 entries, which wait for Signet (R505). -/
def ucalWrite (q : UtmusReq) (s : State) : Reply :=
  match quads (q.params 0x44) with
  | none => refuse 5 s
  | some es =>
    if es.isEmpty ∨ 64 < es.length ∨ es.any (fun e => e.2.2.1 != 1 && e.2.2.1 != 2) then refuse 5 s
    else if es.any (fun e => !ucalKeyOk e.1 e.2.1) then refuse 5 (ucalRefused s)
    else
      let ws : List UcalWrite := es.map (fun e => ⟨e.1, e.2.1, if e.2.2.1 = 1 then some e.2.2.2 else none, false⟩)
      ⟨0, [], { s with trust := { s.trust with ucalQueue := s.trust.ucalQueue ++ ws } }⟩

/-- UCAL_WRITE (R505). -/
def execUcalWrite (req : UtmusReq) (s : State) : Host.Outcome State Fault Refusal := act (utmus 0x44 (some 1) req (ucalWrite req)) s

/-- RESTORE_FACTORY: the writes that wait end first, then the user calibration is erased (R507). -/
def restoreFactory (s : State) : Reply :=
  if outputsOn s then refuse 4 s
  else
    let s1 := s.trust.ucalQueue.foldl (fun s _ => ucalDone s) s
    ⟨0, [], rep 0x440A { s1 with trust := { s1.trust with ucal := [] } }⟩

/-- RESTORE_FACTORY (R507). -/
def execRestoreFactory (req : UtmusReq) (s : State) : Host.Outcome State Fault Refusal := act (utmus 0x45 (some 1) req restoreFactory) s

end Sys2Proof.Machine
end

