-- ==== Sys2Proof/Machine/Dispatch.lean ====
section
/-!
DEFINITION. The dispatch: one arm for every command, each one direct call of its meaning.
-/

namespace Sys2Proof.Machine

/-- The effect of a command on everything but the queue. -/
def exec (i : Instr) (s : State) : Host.Outcome State Fault Refusal :=
  match i with
  | .tickEvent inp => Sys2Proof.Machine.execTickEvent inp s
  | .referenceMeasurement inp => Sys2Proof.Machine.execReferenceMeasurement inp s
  | .timeLocked => Sys2Proof.Machine.execTimeLocked s
  | .holdoverEntered => Sys2Proof.Machine.execHoldoverEntered s
  | .acceptStepWrite value => Sys2Proof.Machine.execAcceptStepWrite value s
  | .timNowLatch lane => Sys2Proof.Machine.execTimNowLatch lane s
  | .timTickLatch lane => Sys2Proof.Machine.execTimTickLatch lane s
  | .sysProgLatch lane => Sys2Proof.Machine.execSysProgLatch lane s
  | .recSeqLatch lane reg => Sys2Proof.Machine.execRecSeqLatch lane reg s
  | .timeDistributionError => Sys2Proof.Machine.execTimeDistributionError s
  | .taskStartMark lane core task => Sys2Proof.Machine.execTaskStartMark lane core task s
  | .taskEndMark lane core writes => Sys2Proof.Machine.execTaskEndMark lane core writes s
  | .digestCompare lane task => Sys2Proof.Machine.execDigestCompare lane task s
  | .pairEntryCompare lane newA newB => Sys2Proof.Machine.execPairEntryCompare lane newA newB s
  | .proposalTimeout lane => Sys2Proof.Machine.execProposalTimeout lane s
  | .forceSafe lane lag => Sys2Proof.Machine.execForceSafe lane lag s
  | .laneIrqAck lane core => Sys2Proof.Machine.execLaneIrqAck lane core s
  | .tsuRecordRemove lane input => Sys2Proof.Machine.execTsuRecordRemove lane input s
  | .eccUncorrectable lane core line scrub => Sys2Proof.Machine.execEccUncorrectable lane core line scrub s
  | .eccCorrected lane => Sys2Proof.Machine.execEccCorrected lane s
  | .taskFault lane core writes => Sys2Proof.Machine.execTaskFault lane core writes s
  | .laneResetRelease lane => Sys2Proof.Machine.execLaneResetRelease lane s
  | .imagesLoaded lane damageA damageB => Sys2Proof.Machine.execImagesLoaded lane damageA damageB s
  | .sweepComplete lane => Sys2Proof.Machine.execSweepComplete lane s
  | .proposalArrival lane => Sys2Proof.Machine.execProposalArrival lane s
  | .voteWindowClose key => Sys2Proof.Machine.execVoteWindowClose key s
  | .absentLane key lane => Sys2Proof.Machine.execAbsentLane key lane s
  | .pairSelfTest lane found timeout => Sys2Proof.Machine.execPairSelfTest lane found timeout s
  | .voterSelfTest ok => Sys2Proof.Machine.execVoterSelfTest ok s
  | .startupWaitExpiry => Sys2Proof.Machine.execStartupWaitExpiry s
  | .laneAdmission => Sys2Proof.Machine.execLaneAdmission s
  | .reintStart lane => Sys2Proof.Machine.execReintStart lane s
  | .reintResetDone => Sys2Proof.Machine.execReintResetDone s
  | .copyRoundEnd => Sys2Proof.Machine.execCopyRoundEnd s
  | .codeCopyEnd => Sys2Proof.Machine.execCodeCopyEnd s
  | .loadEnd => Sys2Proof.Machine.execLoadEnd s
  | .finalRoundEnd task => Sys2Proof.Machine.execFinalRoundEnd task s
  | .finalRoundAbandoned task => Sys2Proof.Machine.execFinalRoundAbandoned task s
  | .reintFailed lane timeout => Sys2Proof.Machine.execReintFailed lane timeout s
  | .ringEnable ring => Sys2Proof.Machine.execRingEnable ring s
  | .ringDrain ring => Sys2Proof.Machine.execRingDrain ring s
  | .ringDrainComplete ring => Sys2Proof.Machine.execRingDrainComplete ring s
  | .descriptorWrite off bytes => Sys2Proof.Machine.execDescriptorWrite off bytes s
  | .doorbell ring prod => Sys2Proof.Machine.execDoorbell ring prod s
  | .descriptorFetch engine => Sys2Proof.Machine.execDescriptorFetch engine s
  | .ringStalled ring => Sys2Proof.Machine.execRingStalled ring s
  | .completionHeadWrite ring head => Sys2Proof.Machine.execCompletionHeadWrite ring head s
  | .operationComplete ring tag => Sys2Proof.Machine.execOperationComplete ring tag s
  | .nop ring tag => Sys2Proof.Machine.execNop ring tag s
  | .echo ring tag => Sys2Proof.Machine.execEcho ring tag s
  | .cyclicProgramStart => Sys2Proof.Machine.execCyclicProgramStart s
  | .retainedMirror lane => Sys2Proof.Machine.execRetainedMirror lane s
  | .onlineChangeApply task => Sys2Proof.Machine.execOnlineChangeApply task s
  | .swapLoadComplete => Sys2Proof.Machine.execSwapLoadComplete s
  | .swapConversionComplete => Sys2Proof.Machine.execSwapConversionComplete s
  | .swapConversionTimeout => Sys2Proof.Machine.execSwapConversionTimeout s
  | .swapTrialTimeout => Sys2Proof.Machine.execSwapTrialTimeout s
  | .signalDetected chan port => Sys2Proof.Machine.execSignalDetected chan port s
  | .codeGroupSync chan port => Sys2Proof.Machine.execCodeGroupSync chan port s
  | .trainTimeout chan port => Sys2Proof.Machine.execTrainTimeout chan port s
  | .portUp chan port => Sys2Proof.Machine.execPortUp chan port s
  | .portFailed chan port cause heal => Sys2Proof.Machine.execPortFailed chan port cause heal s
  | .portRecovered chan port => Sys2Proof.Machine.execPortRecovered chan port s
  | .equaliserFreezeExpiry chan port => Sys2Proof.Machine.execEqualiserFreezeExpiry chan port s
  | .eyeMonitor chan port height width boost taps => Sys2Proof.Machine.execEyeMonitor chan port height width boost taps s
  | .rfiReceived chan port consecutive => Sys2Proof.Machine.execRfiReceived chan port consecutive s
  | .frameReceived chan port phase header payload fcs badGroups eof => Sys2Proof.Machine.execFrameReceived chan port phase header payload fcs badGroups eof s
  | .dlyReqSend chan port phase => Sys2Proof.Machine.execDlyReqSend chan port phase s
  | .dlyReqReceived chan port turnaround => Sys2Proof.Machine.execDlyReqReceived chan port turnaround s
  | .dlyRspReceived chan port phase turnaround => Sys2Proof.Machine.execDlyRspReceived chan port phase turnaround s
  | .dlyRspTimeout chan port => Sys2Proof.Machine.execDlyRspTimeout chan port s
  | .closeReceived chan port proposal => Sys2Proof.Machine.execCloseReceived chan port proposal s
  | .timedUnwrap chan port => Sys2Proof.Machine.execTimedUnwrap chan port s
  | .closeNowReceived chan port consecutive => Sys2Proof.Machine.execCloseNowReceived chan port consecutive s
  | .portEnWrite chan port value => Sys2Proof.Machine.execPortEnWrite chan port value s
  | .forceWrapWrite chan port value => Sys2Proof.Machine.execForceWrapWrite chan port value s
  | .strLinkRead ring tag => Sys2Proof.Machine.execStrLinkRead ring tag s
  | .ownSlotSend chan slot phase bz since => Sys2Proof.Machine.execOwnSlotSend chan slot phase bz since s
  | .bezelTruncation chan => Sys2Proof.Machine.execBezelTruncation chan s
  | .bezelUnaligned chan => Sys2Proof.Machine.execBezelUnaligned chan s
  | .unlatch chan => Sys2Proof.Machine.execUnlatch chan s
  | .refReceived chan => Sys2Proof.Machine.execRefReceived chan s
  | .coldReceived chan => Sys2Proof.Machine.execColdReceived chan s
  | .modeFrameReceived => Sys2Proof.Machine.execModeFrameReceived s
  | .listenTimerExpiry => Sys2Proof.Machine.execListenTimerExpiry s
  | .coldstartComplete inp => Sys2Proof.Machine.execColdstartComplete inp s
  | .integrationSlow => Sys2Proof.Machine.execIntegrationSlow s
  | .masterTakeover => Sys2Proof.Machine.execMasterTakeover s
  | .modeSwitch => Sys2Proof.Machine.execModeSwitch s
  | .syncMonitorTrip => Sys2Proof.Machine.execSyncMonitorTrip s
  | .txEnWrite value => Sys2Proof.Machine.execTxEnWrite value s
  | .nodeResume => Sys2Proof.Machine.execNodeResume s
  | .strSlotWrite ring tag => Sys2Proof.Machine.execStrSlotWrite ring tag s
  | .strSlotBind ring tag => Sys2Proof.Machine.execStrSlotBind ring tag s
  | .strModeReq ring tag => Sys2Proof.Machine.execStrModeReq ring tag s
  | .modeReqAnswer => Sys2Proof.Machine.execModeReqAnswer s
  | .ethFrameReceived port phase full frame => Sys2Proof.Machine.execEthFrameReceived port phase full frame s
  | .pdPublicationSend pub => Sys2Proof.Machine.execPdPublicationSend pub s
  | .mdReplyTimeout handle => Sys2Proof.Machine.execMdReplyTimeout handle s
  | .ptpMessageReceived port phase domain msg => Sys2Proof.Machine.execPtpMessageReceived port phase domain msg s
  | .ptpMessageSend port phase what => Sys2Proof.Machine.execPtpMessageSend port phase what s
  | .ethLinkUp port speed => Sys2Proof.Machine.execEthLinkUp port speed s
  | .ethLinkDown port => Sys2Proof.Machine.execEthLinkDown port s
  | .ethSend ring tag phase => Sys2Proof.Machine.execEthSend ring tag phase s
  | .trdpPdPub ring tag => Sys2Proof.Machine.execTrdpPdPub ring tag s
  | .trdpPdSub ring tag => Sys2Proof.Machine.execTrdpPdSub ring tag s
  | .trdpMdSend ring tag => Sys2Proof.Machine.execTrdpMdSend ring tag s
  | .trdpMdPost ring tag => Sys2Proof.Machine.execTrdpMdPost ring tag s
  | .ptpRead ring tag => Sys2Proof.Machine.execPtpRead ring tag s
  | .mvbMasterFrame addr => Sys2Proof.Machine.execMvbMasterFrame addr s
  | .mvbSlaveFrame lineB phase frame => Sys2Proof.Machine.execMvbSlaveFrame lineB phase frame s
  | .mvbBasicPeriod msgSlot => Sys2Proof.Machine.execMvbBasicPeriod msgSlot s
  | .mvbLineFailed lineB => Sys2Proof.Machine.execMvbLineFailed lineB s
  | .mvbLineRestored lineB => Sys2Proof.Machine.execMvbLineRestored lineB s
  | .mastershipGained => Sys2Proof.Machine.execMastershipGained s
  | .mastershipLost addr => Sys2Proof.Machine.execMastershipLost addr s
  | .mvbPortWrite ring tag => Sys2Proof.Machine.execMvbPortWrite ring tag s
  | .mvbPortBind ring tag => Sys2Proof.Machine.execMvbPortBind ring tag s
  | .mvbMsgSend ring tag => Sys2Proof.Machine.execMvbMsgSend ring tag s
  | .directAccess lane core addr => Sys2Proof.Machine.execDirectAccess lane core addr s
  | .windowSettingApply window => Sys2Proof.Machine.execWindowSettingApply window s
  | .colRead ring tag answers => Sys2Proof.Machine.execColRead ring tag answers s
  | .colWrite ring tag => Sys2Proof.Machine.execColWrite ring tag s
  | .colWriteNp ring tag answers => Sys2Proof.Machine.execColWriteNp ring tag answers s
  | .colLvBind ring tag => Sys2Proof.Machine.execColLvBind ring tag s
  | .postedWriteIssue answers => Sys2Proof.Machine.execPostedWriteIssue answers s
  | .latestValueRead route answers => Sys2Proof.Machine.execLatestValueRead route answers s
  | .latestValueWrite route answers => Sys2Proof.Machine.execLatestValueWrite route answers s
  | .inboundWrite addr data crossing => Sys2Proof.Machine.execInboundWrite addr data crossing s
  | .holdTimeout op => Sys2Proof.Machine.execHoldTimeout op s
  | .privilegedOverrun route answers => Sys2Proof.Machine.execPrivilegedOverrun route answers s
  | .bpRst onBus => Sys2Proof.Machine.execBpRst onBus s
  | .chkAppend ring tag unit => Sys2Proof.Machine.execChkAppend ring tag unit s
  | .chkCheckStrip ring tag unit => Sys2Proof.Machine.execChkCheckStrip ring tag unit s
  | .chkCompute ring tag unit => Sys2Proof.Machine.execChkCompute ring tag unit s
  | .unitSelfTest unit ok => Sys2Proof.Machine.execUnitSelfTest unit ok s
  | .itemArrival role item valid engBits rxTs payload crossing => Sys2Proof.Machine.execItemArrival role item valid engBits rxTs payload crossing s
  | .pulseEdge lane edges => Sys2Proof.Machine.execPulseEdge lane edges s
  | .markEdge lane input phase others => Sys2Proof.Machine.execMarkEdge lane input phase others s
  | .standstillTimeout lane source => Sys2Proof.Machine.execStandstillTimeout lane source s
  | .edgeMerge input => Sys2Proof.Machine.execEdgeMerge input s
  | .pulseInputFault input begins => Sys2Proof.Machine.execPulseInputFault input begins s
  | .motCmd lane mon op set => Sys2Proof.Machine.execMotCmd lane mon op set s
  | .motCalRun ring tag => Sys2Proof.Machine.execMotCalRun ring tag s
  | .analogBlockWrite chan first raws => Sys2Proof.Machine.execAnalogBlockWrite chan first raws s
  | .syncPinEdge rise phase => Sys2Proof.Machine.execSyncPinEdge rise phase s
  | .modulatorFault chan begins => Sys2Proof.Machine.execModulatorFault chan begins s
  | .coarseLimit chan value => Sys2Proof.Machine.execCoarseLimit chan value s
  | .anaSync ring tag => Sys2Proof.Machine.execAnaSync ring tag s
  | .anaAuxSel ring tag => Sys2Proof.Machine.execAnaAuxSel ring tag s
  | .anaCoarseRead ring tag values => Sys2Proof.Machine.execAnaCoarseRead ring tag values s
  | .fieldSampleInstant sense => Sys2Proof.Machine.execFieldSampleInstant sense s
  | .overload chan begins => Sys2Proof.Machine.execOverload chan begins s
  | .overTemperatureSwitch chan hot => Sys2Proof.Machine.execOverTemperatureSwitch chan hot s
  | .openWire chan onState reading => Sys2Proof.Machine.execOpenWire chan onState reading s
  | .externallyDriven chan reading => Sys2Proof.Machine.execExternallyDriven chan reading s
  | .baselineTrack chan mean => Sys2Proof.Machine.execBaselineTrack chan mean s
  | .groupOverload group begins => Sys2Proof.Machine.execGroupOverload group begins s
  | .groupSupplyLow group => Sys2Proof.Machine.execGroupSupplyLow group s
  | .voColumnTest vo lane closedShown openShown current => Sys2Proof.Machine.execVoColumnTest vo lane closedShown openShown current s
  | .voReadbackFault vo sense => Sys2Proof.Machine.execVoReadbackFault vo sense s
  | .fldVoClr mask => Sys2Proof.Machine.execFldVoClr mask s
  | .fldBaseWrite chan base => Sys2Proof.Machine.execFldBaseWrite chan base s
  | .fldOutSet ring tag => Sys2Proof.Machine.execFldOutSet ring tag s
  | .voSet ring tag => Sys2Proof.Machine.execVoSet ring tag s
  | .fldDiagRead ring tag readings start => Sys2Proof.Machine.execFldDiagRead ring tag readings start s
  | .fldBaselineLearn ring tag => Sys2Proof.Machine.execFldBaselineLearn ring tag s
  | .cfmSet ring tag => Sys2Proof.Machine.execCfmSet ring tag s
  | .claspFrame lineA lineB => Sys2Proof.Machine.execClaspFrame lineA lineB s
  | .pairLinkMessage msg => Sys2Proof.Machine.execPairLinkMessage msg s
  | .pairLinkDown => Sys2Proof.Machine.execPairLinkDown s
  | .claspListen => Sys2Proof.Machine.execClaspListen s
  | .partnerAbsent => Sys2Proof.Machine.execPartnerAbsent s
  | .checkpointRoundEnd writes began final => Sys2Proof.Machine.execCheckpointRoundEnd writes began final s
  | .checkpointTaskJoin task digest motion => Sys2Proof.Machine.execCheckpointTaskJoin task digest motion s
  | .checkpointFailed why => Sys2Proof.Machine.execCheckpointFailed why s
  | .checkpointRetry => Sys2Proof.Machine.execCheckpointRetry s
  | .yield => Sys2Proof.Machine.execYield s
  | .resync => Sys2Proof.Machine.execResync s
  | .flush => Sys2Proof.Machine.execFlush s
  | .flushEnd ok => Sys2Proof.Machine.execFlushEnd ok s
  | .recFlushWrite => Sys2Proof.Machine.execRecFlushWrite s
  | .recorderStart => Sys2Proof.Machine.execRecorderStart s
  | .recWrite ring tag => Sys2Proof.Machine.execRecWrite ring tag s
  | .recRead ring tag bad => Sys2Proof.Machine.execRecRead ring tag bad s
  | .hello req => Sys2Proof.Machine.execHello req s
  | .identify req => Sys2Proof.Machine.execIdentify req s
  | .status req => Sys2Proof.Machine.execStatus req s
  | .utmusRecRead req bad => Sys2Proof.Machine.execUtmusRecRead req bad s
  | .attest req => Sys2Proof.Machine.execAttest req s
  | .loadBegin req => Sys2Proof.Machine.execLoadBegin req s
  | .chunk req => Sys2Proof.Machine.execChunk req s
  | .activate req => Sys2Proof.Machine.execActivate req s
  | .revert req => Sys2Proof.Machine.execRevert req s
  | .slotErase req => Sys2Proof.Machine.execSlotErase req s
  | .swapLoad req => Sys2Proof.Machine.execSwapLoad req s
  | .swap req => Sys2Proof.Machine.execSwap req s
  | .swapCommit req => Sys2Proof.Machine.execSwapCommit req s
  | .swapRevert req => Sys2Proof.Machine.execSwapRevert req s
  | .fwInstall req => Sys2Proof.Machine.execFwInstall req s
  | .fwTrial req => Sys2Proof.Machine.execFwTrial req s
  | .fwCommit req => Sys2Proof.Machine.execFwCommit req s
  | .fwRollback req => Sys2Proof.Machine.execFwRollback req s
  | .programStop req => Sys2Proof.Machine.execProgramStop req s
  | .programStart req => Sys2Proof.Machine.execProgramStart req s
  | .laneRelease req => Sys2Proof.Machine.execLaneRelease req s
  | .onlineChange req => Sys2Proof.Machine.execOnlineChange req s
  | .ucalWrite req => Sys2Proof.Machine.execUcalWrite req s
  | .restoreFactory req => Sys2Proof.Machine.execRestoreFactory req s
  | .recFormat req => Sys2Proof.Machine.execRecFormat req s
  | .relinquish req => Sys2Proof.Machine.execRelinquish req s
  | .retire req => Sys2Proof.Machine.execRetire req s
  | .provision req => Sys2Proof.Machine.execProvision req s
  | .enrol req => Sys2Proof.Machine.execEnrol req s
  | .vendorRevoke req => Sys2Proof.Machine.execVendorRevoke req s
  | .sessionTimeout => Sys2Proof.Machine.execSessionTimeout s
  | .ucalStore => Sys2Proof.Machine.execUcalStore s
  | .ucalErase => Sys2Proof.Machine.execUcalErase s
  | .ucalWriteDone => Sys2Proof.Machine.execUcalWriteDone s
  | .sigHash ring tag => Sys2Proof.Machine.execSigHash ring tag s
  | .sigRandom ring tag => Sys2Proof.Machine.execSigRandom ring tag s
  | .sigAttest ring tag => Sys2Proof.Machine.execSigAttest ring tag s
  | .sigVerify ring tag => Sys2Proof.Machine.execSigVerify ring tag s
  | .randomSourceFailed => Sys2Proof.Machine.execRandomSourceFailed s
  | .powerWarning vin vstore => Sys2Proof.Machine.execPowerWarning vin vstore s
  | .powerRecovered vin vstore us => Sys2Proof.Machine.execPowerRecovered vin vstore us s
  | .powerFailShutdown vin vstore => Sys2Proof.Machine.execPowerFailShutdown vin vstore s
  | .convertersOff vstore => Sys2Proof.Machine.execConvertersOff vstore s
  | .overVoltage => Sys2Proof.Machine.execOverVoltage s
  | .powerOnReset why => Sys2Proof.Machine.execPowerOnReset why s
  | .powerOnResetRelease vin vstore waited elapsed vNow => Sys2Proof.Machine.execPowerOnResetRelease vin vstore waited elapsed vNow s
  | .externalModuleReset => Sys2Proof.Machine.execExternalModuleReset s
  | .supervisorWatchdog => Sys2Proof.Machine.execSupervisorWatchdog s
  | .engineHeartbeatLost core => Sys2Proof.Machine.execEngineHeartbeatLost core s
  | .engineRestartEnd core => Sys2Proof.Machine.execEngineRestartEnd core s
  | .supHealthRead ring tag => Sys2Proof.Machine.execSupHealthRead ring tag s
  | .supStateReq ring tag => Sys2Proof.Machine.execSupStateReq ring tag s
  | .lowPowerEntry => Sys2Proof.Machine.execLowPowerEntry s
  | .wake source elapsed => Sys2Proof.Machine.execWake source elapsed s
  | .railOutOfWindow rail value => Sys2Proof.Machine.execRailOutOfWindow rail value s
  | .temperatureWarning sensor value => Sys2Proof.Machine.execTemperatureWarning sensor value s
  | .overTemperature sensor value => Sys2Proof.Machine.execOverTemperature sensor value s
  | .avsStep lane => Sys2Proof.Machine.execAvsStep lane s
  | .ageingStep lane vNow => Sys2Proof.Machine.execAgeingStep lane vNow s
  | .domainClockLost domain onBus posted => Sys2Proof.Machine.execDomainClockLost domain onBus posted s
  | .domainClockRestored domain => Sys2Proof.Machine.execDomainClockRestored domain s
  | .fabricClockLost => Sys2Proof.Machine.execFabricClockLost s
  | .crossingStalled domain events counts => Sys2Proof.Machine.execCrossingStalled domain events counts s
  | .referenceDrift => Sys2Proof.Machine.execReferenceDrift s
  | .sysXclr mask => Sys2Proof.Machine.execSysXclr mask s
  | .pinClr => Sys2Proof.Machine.execPinClr s
  | .registerWrite lane addr data => Sys2Proof.Machine.execRegisterWrite lane addr data s
  | .loadEndCommand req => Sys2Proof.Machine.execLoadEndCommand req s
  | .zeroTagError lane task => Sys2Proof.Machine.execZeroTagError lane task s
  | .codeGroupSyncLost chan port => Sys2Proof.Machine.execCodeGroupSyncLost chan port s
  | .bpRstEnd => Sys2Proof.Machine.execBpRstEnd s
  | .fieldInputLevelChange chan level => Sys2Proof.Machine.execFieldInputLevelChange chan level s
  | .connectionClosed => Sys2Proof.Machine.execConnectionClosed s
  | .groupSupplyRestored group => Sys2Proof.Machine.execGroupSupplyRestored group s

end Sys2Proof.Machine
end

