-- ==== Sys2Proof/Safety.lean ====
section
/-!
DEFINITION. The words in which statements about the module are made: when it acts on a command, what it means that a command completes, the
parts of the state a command may leave alone, and the invariants.
-/

namespace Sys2Proof.Machine

/-! ## When the module acts -/

/-- The module acts on the commands of its chapters: it is neither held in a reset nor in a low-power state (R525, R531). -/
def Operational (s : State) : Prop := s.pwr.held = false ∧ (s.pwr.pstate = .operational ∨ s.pwr.pstate = .entering)

/-- The module acts on the commands of the Strath line, the node and the time base, which go on in Parked (R534). -/
def LineRuns (s : State) : Prop := s.pwr.held = false ∧ s.pwr.pstate ≠ .keepAlive

/-- A command completes: it answers the state its own effect leaves, taken to the end of its fabric cycle. -/
def Completes (i : Instr) (s : State) (P : State → Prop) : Prop := ∃ u, exec i s = .next (endCycle u) ∧ P u

/-! ## Parts of the state -/

/-- A lane without its pending interrupt sources (R85). -/
def Lane.body (L : Lane) : Lane := { L with irqPend := 0 }

/-- The groups of registers and memories of the module; the lanes' pending interrupt sources are a part of their own. -/
inductive Part
  | otp | mem | tim | rcd | flt | irq | lanes | vot | rng | cyc | stra | eth | mvb | col | chk | mot | ana | fld | cls | pwr | trust
  | cross | cfg | image | regs | draws | pending
deriving DecidableEq, Repr

/-- Is a part the same in two states? -/
def Part.same (p : Part) (s u : State) : Prop :=
  match p with
  | .otp => u.otp = s.otp
  | .mem => u.mem = s.mem
  | .tim => u.tim = s.tim
  | .rcd => u.rcd = s.rcd
  | .flt => u.flt = s.flt
  | .irq => ∀ l, (u.lane l).irqPend = (s.lane l).irqPend
  | .lanes => u.lanes.map Lane.body = s.lanes.map Lane.body
  | .vot => u.vot = s.vot
  | .rng => u.rng = s.rng
  | .cyc => u.cyc = s.cyc
  | .stra => u.stra = s.stra
  | .eth => u.eth = s.eth
  | .mvb => u.mvb = s.mvb
  | .col => u.col = s.col
  | .chk => u.chk = s.chk
  | .mot => u.mot = s.mot
  | .ana => u.ana = s.ana
  | .fld => u.fld = s.fld
  | .cls => u.cls = s.cls
  | .pwr => u.pwr = s.pwr
  | .trust => u.trust = s.trust
  | .cross => u.cross = s.cross
  | .cfg => u.cfg = s.cfg
  | .image => u.image = s.image
  | .regs => u.regs = s.regs
  | .draws => u.draws = s.draws
  | .pending => u.pending = s.pending

/-- Every part but those listed is the same in two states. -/
def SameBut (ps : List Part) (s u : State) : Prop := ∀ p, p ∉ ps → p.same s u

/-- What every report may change: the recorder's requests, the reporting counters and the lanes' pending FAULT source (R563). -/
def reportParts : List Part := [.rcd, .flt, .irq]

/-- A command leaves every part but those listed as it is: it changes nothing at all, or its own effect, before the end of its fabric
cycle, keeps them. -/
def Frames (i : Instr) (s : State) (ps : List Part) : Prop :=
  ∀ t, exec i s = .next t → t = s ∨ ∃ u, t = endCycle u ∧ SameBut ps s u

/-! ## Results -/

/-- A fault class has been reported once more: its count of SYS_FLT_CLS has advanced by one (R563). -/
def Reported (code : Nat) (s u : State) : Prop := tgetD u.flt.cls code 0 = tgetD s.flt.cls code 0 + 1

/-- A record of a kind other than FAULT has been requested in this fabric cycle, behind those requested before (R461). -/
def Requested (r : RecReq) (s u : State) : Prop := u.rcd.cycle = s.rcd.cycle ++ [r]

/-- A started operation of a ring has come to a status and its results (R153). -/
def Concluded (u : State) (r : Fin 64) (d : Desc) (status resultA resultB : Nat) : Prop :=
  { desc := d, stage := .done status resultA resultB : RunOp } ∈ (u.ringAt r).ops

/-! ## Strath -/

/-- Nothing but one port of one channel has changed. -/
def PortOnly (ch : ChanId) (p : PortId) (s u : State) : Prop :=
  SameBut [.stra] s u ∧ u.stra.node = s.stra.node ∧ u.stra.tx = s.stra.tx ∧ u.stra.binds = s.stra.binds ∧
  (∀ c q, (c ≠ ch ∨ q ≠ p) → u.port c q = s.port c q) ∧ ∀ c, { u.chan c with port := (s.chan c).port } = s.chan c

/-- Nothing but one channel and its reports has changed. -/
def ChanOnly (ch : ChanId) (s u : State) : Prop :=
  SameBut (.stra :: reportParts) s u ∧ u.stra.node = s.stra.node ∧ u.stra.tx = s.stra.tx ∧ u.stra.binds = s.stra.binds ∧
  ∀ c, c ≠ ch → u.chan c = s.chan c

/-- Nothing but the node's own state and the reports has changed. -/
def NodeOnly (s u : State) : Prop :=
  SameBut (.stra :: reportParts) s u ∧ u.stra.chan = s.stra.chan ∧ u.stra.tx = s.stra.tx ∧ u.stra.binds = s.stra.binds

/-! ## Utmus -/

/-- The state with a request's REQ_SEQ taken in the open session (R510). -/
def seqTaken (q : UtmusReq) (s : State) : State :=
  { s with trust := { s.trust with session := s.trust.session.map (fun S => { S with seq := q.seq }) } }

/-- A request of an operational module passes every check before its command's own (R509 to R511): it is laid out as stated, belongs to the
open session, carries the next REQ_SEQ, is signed by a key with the permission (where the command asks for one), and is one RECOVERY accepts
(where the module is in RECOVERY). -/
def Accepted (cmd : Nat) (perm : Option Nat) (type : Nat) (q : UtmusReq) (s : State) : Prop :=
  Operational s ∧ q.formatOk = true ∧
  ∃ S, s.trust.session = some S ∧ q.session = S.number ∧ q.seq = S.seq + 1 ∧
    (perm = none ∨ (q.signed cmd S.nonce (seqTaken q s) = true ∧ q.allowed cmd (perm.getD 0) (seqTaken q s) = true)) ∧
    (s.trust.recovery = false ∨ recoveryTakes cmd type = true)

/-- The response sent last answers a request of a command with a status (R509). -/
def Answered (u : State) (cmd : Nat) (q : UtmusReq) (status : Nat) (body : List Byte) : Prop :=
  u.trust.response = leBytes 2 0x5455 ++ leBytes 1 1 ++ leBytes 1 (cmd + 0x80) ++ leBytes 4 q.session.toNat ++ leBytes 4 q.seq.toNat
    ++ leBytes 4 (body.length + 1) ++ zeros 4 ++ (leBytes 1 status ++ body)

/-! ## Invariants -/

/-- The write enable of the backplane follows the output enable of the pair (R320). -/
def WriteEnableFollows (s : State) : Prop := s.col.wrEn = s.cls.outEn

end Sys2Proof.Machine
end

