-- ==== Sys2Proof/Certificates/Slice0/Obligations.lean ====
section
/-!
DEFINITION. The statements for the provers.
-/

section

open Sys2Proof Sys2Proof.Machine

/-- R50, R54: a tick event takes module time to the first fabric cycle at or after the next boundary, and leaves the rest of the time base. -/
def Obligations.TickEventReachesBoundary : Prop :=
  ∀ (s : State) (inp : TickInputs), LineRuns s → s.tim.counting = true → s.tim.rate.natAbs ≤ 109951163 →
    ∃ t n, exec (.tickEvent inp) s = .next t ∧
      t.tim.now = s.tim.now + n * (5 * 2 ^ 40 + 5 * s.tim.rate).toNat ∧
      (s.tick + 1) * 125000 * 2 ^ 40 ≤ t.tim.now ∧
      t.tim.now < (s.tick + 1) * 125000 * 2 ^ 40 + (5 * 2 ^ 40 + 5 * s.tim.rate).toNat ∧
      t.tick = s.tick + 1 ∧
      t.tim.state = s.tim.state ∧ t.tim.rate = s.tim.rate ∧ t.tim.integ = s.tim.integ ∧
      t.otp = s.otp ∧ t.cross = s.cross ∧ t.regs = s.regs ∧ t.draws = s.draws ∧ t.cfg = s.cfg

/-- R55 to R60, R64: what one measurement of a basic cycle does, by the state of the time base. -/
def Obligations.ServoMeasurement : Prop :=
  (∀ (s : State) (inp : TickInputs) (theta : Int), LineRuns s → s.stra.node.measured = false →
    (s.tim.state = .acquiring ∨ s.tim.state = .locked ∨ s.tim.state = .holdover) →
    (s.chan 0).curRef = some theta → theta.natAbs ≤ jumpThr s * 65536 →
    Completes (.referenceMeasurement inp) s (fun u =>
      let lim : Int := (rateLim s * 2 ^ 31 : Nat)
      let integ := max (-lim) (min lim (s.tim.integ + theta * (2 ^ (15 - regField s (TIM + 0xC) 4 4) : Nat)))
      u.tim.integ = integ ∧
      u.tim.rate = rateOf (max (-lim) (min lim (integ + theta * (2 ^ (15 - regField s (TIM + 0xC) 0 4) : Nat)))) ∧
      u.tim.rate.natAbs ≤ 109951163 ∧ u.tim.refusing = false ∧ u.tim.srcCh = 0 ∧ u.tim.now = s.tim.now ∧
      u.tim.state = (if s.tim.state = .holdover then .acquiring else s.tim.state) ∧ SameBut [.tim, .stra, .irq] s u)) ∧
  (∀ (s : State) (inp : TickInputs) (theta : Int), LineRuns s → s.stra.node.measured = false →
    (s.tim.state = .acquiring ∨ s.tim.state = .locked ∨ s.tim.state = .holdover) →
    (s.chan 0).curRef = none → (s.chan 1).curRef = some theta → theta.natAbs ≤ jumpThr s * 65536 →
    Completes (.referenceMeasurement inp) s (fun u =>
      u.tim.srcCh = 1 ∧ u.tim.refusing = false ∧ SameBut [.tim, .stra, .irq] s u)) ∧
  (∀ (s : State) (inp : TickInputs) (theta : Int), LineRuns s → s.stra.node.measured = false →
    (s.tim.state = .acquiring ∨ s.tim.state = .locked ∨ s.tim.state = .holdover) →
    (s.chan 0).curRef = some theta → jumpThr s * 65536 < theta.natAbs → regField s (TIM + 0x4) 0 1 = 0 →
    Completes (.referenceMeasurement inp) s (fun u =>
      u.tim.refuseCnt = s.tim.refuseCnt + 1 ∧ u.tim.refusing = true ∧ u.tim.refusedOfs = sixteenths theta ∧ Reported 0x0801 s u ∧
      u.tim.now = s.tim.now ∧ u.tim.rate = s.tim.rate ∧ u.tim.integ = s.tim.integ ∧ u.tim.state = s.tim.state ∧
      SameBut ([.tim, .stra] ++ reportParts) s u)) ∧
  (∀ (s : State) (inp : TickInputs), LineRuns s → s.stra.node.measured = false → s.tim.state ≠ .master →
    (s.chan 0).curRef = none → (s.chan 1).curRef = none →
    Completes (.referenceMeasurement inp) s (fun u =>
      u.tim.missCnt = s.tim.missCnt + 1 ∧ u.tim.now = s.tim.now ∧ u.tim.rate = s.tim.rate ∧ u.tim.integ = s.tim.integ ∧
      u.tim.state = s.tim.state ∧ SameBut [.tim, .stra] s u)) ∧
  (∀ (s : State) (inp : TickInputs) (theta : Int), LineRuns s → s.stra.node.measured = false → s.tim.state = .unset →
    (s.chan 0).curRef = some theta → 0 ≤ (s.tim.now : Int) + theta * 2 ^ 24 →
    Completes (.referenceMeasurement inp) s (fun u =>
      (u.tim.now : Int) = s.tim.now + theta * 2 ^ 24 ∧ u.tim.state = .acquiring ∧ u.tim.integ = 0)) ∧
  (∀ (s : State) (inp : TickInputs), LineRuns s → s.tim.state = .master →
    Completes (.referenceMeasurement inp) s (fun u => u = s))

/-- R61, R62: what ACCEPT_STEP does to refused measurements. -/
def Obligations.StepsAreArmedHeldOrApplied : Prop :=
  (∀ (s : State) (v : Bool), Operational s → Completes (.acceptStepWrite v) s (fun u =>
    regField u (TIM + 0x4) 0 1 = (if v then 1 else 0) ∧ u.tim.stepHeld = (v && s.tim.stepHeld) ∧ SameBut [.tim, .regs] s u)) ∧
  (∀ (s : State) (inp : TickInputs) (theta : Int), LineRuns s → s.stra.node.measured = false →
    (s.tim.state = .acquiring ∨ s.tim.state = .locked ∨ s.tim.state = .holdover) →
    (s.chan 0).curRef = some theta → jumpThr s * 65536 < theta.natAbs → regField s (TIM + 0x4) 0 1 = 1 →
    theta < 0 → s.cyc.prog = .running →
    Completes (.referenceMeasurement inp) s (fun u =>
      u.tim.stepHeld = true ∧ regField u (TIM + 0x4) 0 1 = 1 ∧ u.tim.now = s.tim.now ∧ u.tim.rate = s.tim.rate ∧
      u.tim.integ = s.tim.integ ∧ u.tim.state = s.tim.state ∧ (s.tim.stepHeld = false → Reported 0x0804 s u))) ∧
  (∀ (s : State) (inp : TickInputs) (theta : Int), LineRuns s → s.stra.node.measured = false →
    (s.tim.state = .acquiring ∨ s.tim.state = .locked ∨ s.tim.state = .holdover) →
    (s.chan 0).curRef = some theta → jumpThr s * 65536 < theta.natAbs → regField s (TIM + 0x4) 0 1 = 1 →
    (0 < theta ∨ s.cyc.prog ≠ .running) → 0 ≤ (s.tim.now : Int) + theta * 2 ^ 24 →
    Completes (.referenceMeasurement inp) s (fun u =>
      (u.tim.now : Int) = s.tim.now + theta * 2 ^ 24 ∧ u.tim.state = .acquiring ∧ u.tim.integ = s.tim.integ ∧ u.tim.stepHeld = false))

/-- R39, R57, R66, R75: states of the time base, latches of running values, and the parity error of the time distribution. -/
def Obligations.TimeStatesAndLatches : Prop :=
  (∀ s : State, LineRuns s → s.tim.state = .acquiring → lockCyc s ≤ s.tim.lockRun →
    Completes .timeLocked s (fun u => u.tim.state = .locked ∧ u.tim.now = s.tim.now ∧ u.tim.rate = s.tim.rate ∧ SameBut [.tim, .irq] s u)) ∧
  (∀ s : State, LineRuns s → (s.tim.state = .acquiring ∨ s.tim.state = .locked) → holdCyc s ≤ s.tim.holdRun →
    Completes .holdoverEntered s (fun u => u.tim.state = .holdover ∧ u.tim.rate = rateOf s.tim.integ ∧ u.tim.now = s.tim.now ∧
      Reported 0x0802 s u ∧ SameBut ([.tim] ++ reportParts) s u)) ∧
  (∀ (s : State) (l : LaneId), Operational s → Completes (.timNowLatch l) s (fun u =>
    (u.lane l).latch.timNs.toNat = s.tim.now / nsUnits % 1000000000 ∧
    (u.lane l).latch.timSecLo.toNat + 2 ^ 32 * (u.lane l).latch.timSecHi.toNat = s.tim.now / secUnits % 2 ^ 48 ∧
    (∀ m, m ≠ l → u.lane m = s.lane m) ∧ SameBut [.lanes] s u)) ∧
  (∀ (s : State) (l : LaneId), Operational s → Completes (.timTickLatch l) s (fun u =>
    (u.lane l).latch.timTickHi.toNat = s.tick / 2 ^ 32 % 2 ^ 32 ∧ (∀ m, m ≠ l → u.lane m = s.lane m) ∧ SameBut [.lanes] s u)) ∧
  (∀ (s : State) (l : LaneId), Operational s → Completes (.sysProgLatch l) s (fun u =>
    (u.lane l).latch.sysProgHi.toNat = s.cyc.progTick / 2 ^ 32 % 2 ^ 32 ∧ (∀ m, m ≠ l → u.lane m = s.lane m) ∧ SameBut [.lanes] s u)) ∧
  (∀ s : State, Operational s → Completes .timeDistributionError s (fun u =>
    captureValid u = false ∧ Reported 0x0807 s u ∧ SameBut ([.tim] ++ reportParts) s u))

/-- R466, R467, R469, R470, R477: what triggers, begins and ends a flush. -/
def Obligations.FlushesWriteStagedRecords : Prop :=
  (∀ s : State, Operational s → Completes .recFlushWrite s (fun u =>
    regField u (REC + 0x4) 0 1 = 1 ∧ u.rcd.flushPend = true ∧ u.rcd.staged = s.rcd.staged ∧ SameBut [.rcd, .regs] s u)) ∧
  (∀ s : State, LineRuns s → s.rcd.running = true → s.rcd.flushPend = true → s.rcd.flushing = false → s.rcd.staged ≠ [] →
    Completes .flush s (fun u =>
      u.rcd.flushing = true ∧ u.rcd.flushCount = s.rcd.staged.length ∧ u.rcd.flushPend = false ∧ u.rcd.flushCnt = s.rcd.flushCnt + 1 ∧
      regField u (REC + 0x4) 0 1 = 0 ∧ u.rcd.staged = s.rcd.staged ∧ SameBut [.rcd, .regs] s u)) ∧
  (∀ s : State, LineRuns s → s.rcd.running = true → s.rcd.flushPend = true → s.rcd.flushing = false → s.rcd.staged = [] →
    Completes .flush s (fun u =>
      u.rcd.flushing = false ∧ u.rcd.flushCnt = s.rcd.flushCnt ∧ u.rcd.flushPend = false ∧ regField u (REC + 0x4) 0 1 = 0 ∧
      SameBut [.rcd, .regs] s u)) ∧
  (∀ s : State, LineRuns s → s.rcd.flushing = true → s.rcd.losing = false → s.rcd.flushPend = false →
    s.rcd.perm.length + s.rcd.flushCount ≤ 65536 →
    Completes (.flushEnd true) s (fun u =>
      u.rcd.perm = s.rcd.perm ++ s.rcd.staged.take s.rcd.flushCount ∧ u.rcd.circ = s.rcd.circ ∧
      u.rcd.staged = s.rcd.staged.drop s.rcd.flushCount ∧ u.rcd.flushing = false ∧ u.rcd.next = s.rcd.next ∧ SameBut [.rcd] s u)) ∧
  (∀ s : State, LineRuns s → s.rcd.flushing = true → s.rcd.losing = false → s.rcd.flushPend = false →
    Completes (.flushEnd false) s (fun u =>
      u.rcd.staged = s.rcd.staged ∧ u.rcd.perm = s.rcd.perm ∧ u.rcd.circ = s.rcd.circ ∧ u.rcd.nandErr = s.rcd.nandErr + 1 ∧
      Reported 0x4003 s u)) ∧
  (∀ (s : State) (l : LaneId), Operational s → Completes (.recSeqLatch l .next) s (fun u =>
    (u.lane l).latch.recNextHi.toNat = s.rcd.next / 2 ^ 32 % 2 ^ 32 ∧ (∀ m, m ≠ l → u.lane m = s.lane m) ∧ SameBut [.lanes] s u))

/-- R460, R468, R529: the recorder engine's start. -/
def Obligations.RecorderStartsWithStartRecord : Prop :=
  (∀ s : State, LineRuns s → s.rcd.running = false → s.flt.held = [] → s.flt.heldLost = 0 → s.rcd.cycle = [] → s.rcd.staged = [] →
    s.rcd.next ≤ s.rcd.nandNext →
    Completes .recorderStart s (fun u =>
      u.rcd.running = true ∧ u.rcd.staged = [⟨s.rcd.next, startRecord s.pwr.cause.toNat s⟩] ∧ u.rcd.next = s.rcd.next + 1 ∧
      u.rcd.perm = s.rcd.perm ∧ u.rcd.circ = s.rcd.circ)) ∧
  (∀ s : State, LineRuns s → s.rcd.running = false → s.flt.held = [] → s.flt.heldLost = 0 → s.rcd.cycle = [] → s.rcd.staged = [] →
    s.rcd.nandNext < s.rcd.next →
    Completes .recorderStart s (fun u => u.rcd.running = true ∧ Reported 0x4002 s u)) ∧
  (∀ s : State, LineRuns s → s.rcd.running = false → s.flt.held = [] → s.flt.heldLost = 0 → s.rcd.cycle = [] →
    s.rcd.perm.length + s.rcd.staged.length ≤ 65536 →
    Completes .recorderStart s (fun u => u.rcd.perm = s.rcd.perm ++ s.rcd.staged ∧ u.rcd.circ = s.rcd.circ ∧ u.rcd.running = true))

/-- R465, R472 to R475: writing and reading records through rings. -/
def Obligations.RecorderRingOperations : Prop :=
  (∀ (s : State) (r : Fin 64) (t : Fin 1024) (d : Desc), Operational s → startedOp s r t.val 0x90 = some d →
    s.rcd.staged.length + s.rcd.cycle.length < 3840 →
    Completes (.recWrite r t) s (fun u =>
      (∃ q : RecReq, Requested q s u ∧ q.kind = .app ∧ q.code = d.paramA % 65536 ∧ q.data = readBuffer s d.addr d.length ∧
        q.origin = (match ringLane r.val with | some l => 10 + l.val | none => if r.val < 32 then 9 else 8) ∧
        q.wait = some (r.val, d.tag)) ∧ SameBut [.rcd] s u)) ∧
  (∀ (s : State) (r : Fin 64) (t : Fin 1024) (d : Desc), Operational s → startedOp s r t.val 0x90 = some d →
    3840 ≤ s.rcd.staged.length + s.rcd.cycle.length →
    Completes (.recWrite r t) s (fun u =>
      Concluded u r d 0x80 0 0 ∧ u.rcd.appRefused = s.rcd.appRefused + 1 ∧ u.rcd.staged = s.rcd.staged ∧
      (s.rcd.refusedTick = false → Reported 0x4005 s u) ∧ SameBut ([.rng] ++ reportParts) s u)) ∧
  (∀ (s : State) (r : Fin 64) (t : Fin 1024) (d : Desc) (rs : List Record) (x : Record), Operational s → startedOp s r t.val 0x91 = some d →
    32 ≤ r.val → rs = (s.rcd.all.filter (fun y => d.paramB + 2 ^ 32 * d.paramC ≤ y.seq)).take (field d.paramA 0 7) → rs.head? = some x →
    (∀ y ∈ rs, y.body.kind ≠ .unreadable) →
    Completes (.recRead r t []) s (fun u =>
      Concluded u r d 0 rs.length x.seq ∧
      u.mem = memWrite s.mem (offsetOf d.addr) (padTo (64 * field d.paramA 0 7) (rs.flatMap Record.bytes)) ∧ SameBut [.rng, .mem] s u)) ∧
  (∀ (s : State) (r : Fin 64) (t : Fin 1024) (d : Desc) (bad : List Nat), Operational s → startedOp s r t.val 0x91 = some d → 32 ≤ r.val →
    (s.rcd.all.filter (fun y => d.paramB + 2 ^ 32 * d.paramC ≤ y.seq)).take (field d.paramA 0 7) = [] →
    Completes (.recRead r t bad) s (fun u => Concluded u r d 0x81 0 s.rcd.next ∧ SameBut [.rng] s u)) ∧
  (∀ (s : State) (r : Fin 64) (t : Fin 1024) (d : Desc) (bad : List Nat), Operational s → startedOp s r t.val 0x91 = some d → r.val < 32 →
    (∀ c, inItem? s (field d.paramA 16 13) = some c → c.src ≠ .recorder ∨ c.length ≠ 64 * field d.paramA 0 7) →
    Completes (.recRead r t bad) s (fun u => Concluded u r d 0x82 0 0 ∧ SameBut [.rng] s u))

/-- R9, R86 to R106: the events of a lane's memory, its findings and the end of its start. -/
def Obligations.LaneErrorsAndFindings : Prop :=
  ∀ (s : State) (l : LaneId) (c : CoreId) (line : Nat), Operational s →
    (∀ scrub, (scrub && lineCovered line) = false → Completes (.eccUncorrectable l c line scrub) s (fun u =>
      (u.lane l).eccUncorr = (s.lane l).eccUncorr + 1 ∧ (u.lane l).state = (s.lane l).state ∧ (vget (u.lane l).cores c).bad = nsAdd (vget (s.lane l).cores c).bad line ∧
      Reported 0x1409 s u ∧ SameBut (.lanes :: reportParts) s u)) ∧
    (lineCovered line = true → (s.lane l).state.live = true → Completes (.eccUncorrectable l c line true) s (fun u =>
      (u.lane l).state = .safe ∧ Reported 0x1404 s u)) ∧
    Completes (.eccCorrected l) s (fun u => (u.lane l).eccCorr = (s.lane l).eccCorr + 1 ∧ (u.lane l).irqPend.getLsbD 7 = true ∧
      Reported 0x140A s u ∧ SameBut (.lanes :: reportParts) s u) ∧
    (∀ task, (s.lane l).state.live = true → Completes (.zeroTagError l task) s (fun u => (u.lane l).state = .safe ∧ Reported 0x1406 s u)) ∧
    (∀ lag, (s.lane l).state.live = true → Completes (.forceSafe l lag) s (fun u =>
      (u.lane l).state = .safe ∧ Reported (if lag then 0x0506 else 0x1407) s u)) ∧
    (∀ e q, (vget (s.lane l).cores 0).queue = e :: q → (vget (s.lane l).cores 1).queue = [] → (s.lane l).state.live = true →
      Completes (.proposalTimeout l) s (fun u => (u.lane l).state = .safe ∧ Reported 0x1402 s u)) ∧
    ((vget (s.lane l).cores 0).queue = [] → (vget (s.lane l).cores 1).queue = [] → Completes (.proposalTimeout l) s (fun u => u = s)) ∧
    ((s.lane l).state = .sweep →
      Completes (.sweepComplete l) s (fun u =>
        match ((sweepDigests l s).lane l).firstUnequal with
        | none => (u.lane l).state = .ready ∧ SameBut [.lanes, .vot] s u
        | some _ => (u.lane l).state = .safe ∧ Reported 0x1403 s u)) ∧
    (∀ dA dB, (s.lane l).state = .loading → s.vot.reint.phase = .idle →
      Completes (.imagesLoaded l dA dB) s (fun u =>
        if rangesValid s = true then
          (u.lane l).state = .sweep ∧ (vget (u.lane l).cores 0).img = freshImage s dA ∧ (vget (u.lane l).cores 1).img = freshImage s dB ∧
          SameBut [.lanes] s u
        else (u.lane l).state = .loading ∧ u.trust.faultCause = 2 ∧ Reported 0x4401 s u ∧ SameBut (.trust :: reportParts) s u))

/-- R83, R89, R92, R105, R186, R193: marks, faults, acknowledgements and records of a lane. -/
def Obligations.TaskMarksAndInterrupts : Prop :=
  ∀ (s : State) (l : LaneId) (c : CoreId) (t : TaskId) (ws : List (Nat × Byte)), Operational s →
    Completes (.laneIrqAck l c) s (fun u =>
      (vget (u.lane l).cores c).lag = (vget (s.lane l).cores c).lag - 1 ∧ SameBut [.lanes] s u) ∧
    (∀ q, Completes (.tsuRecordRemove l q) s (fun u =>
      (vget (u.lane l).tsu q).queue = (vget (s.lane l).tsu q).queue.drop 1 ∧ SameBut [.lanes] s u)) ∧
    (∀ i, (vget s.cyc.insts l).find? (fun i => i.task == t.val && !i.begun.getLsbD c.val) = some i →
      Completes (.taskStartMark l c t) s (fun u =>
        (vget (u.lane l).cores c).ctx = (t.val, instBits i.start) :: (vget (s.lane l).cores c).ctx ∧ SameBut [.lanes, .cyc] s u)) ∧
    ((vget s.cyc.insts l).find? (fun i => i.task == t.val && !i.begun.getLsbD c.val) = none →
      Completes (.taskStartMark l c t) s (fun u => u = s)) ∧
    (∀ i bits, currentInst s l c = some (t, i, bits) → (vget (s.lane l).cores (if c = 0 then 1 else 0)).queue = [] →
      Completes (.taskEndMark l c ws) s (fun u =>
        (vget (u.lane l).cores c).ctx = (vget (s.lane l).cores c).ctx.drop 1 ∧
        (∃ d, (vget (u.lane l).cores c).digReady = (vget (s.lane l).cores c).digReady ++ [((t.val, bits), d)]) ∧
        (∃ q, (vget (u.lane l).cores c).queue = (vget (s.lane l).cores c).queue ++ q ∧ ∀ e ∈ q, e.ctx = some (t.val, bits)))) ∧
    (∀ i bits, currentInst s l c = some (t, i, bits) → (vget (s.lane l).cores (if c = 0 then 1 else 0)).queue = [] →
      Completes (.taskFault l c ws) s (fun u =>
        (vget (u.lane l).cores c).ctx = (vget (s.lane l).cores c).ctx.drop 1 ∧
        (vget (u.lane l).cores c).queue = (vget (s.lane l).cores c).queue)) ∧
    (currentInst s l c = none → Completes (.taskEndMark l c ws) s (fun u => u = s) ∧ Completes (.taskFault l c ws) s (fun u => u = s))

/-- R87, R88, R90: the comparison of one entry pair. -/
def Obligations.PairEntryComparison : Prop :=
  (∀ (s : State) (l : LaneId) (nA nB : List Access) (a b : QEntry) (qa qb : List QEntry), Operational s → (s.lane l).state.live = true →
    (vget (s.lane l).cores 0).queue ++ nA.map (fun x => ⟨x, (vget (s.lane l).cores 0).ctx.head?⟩) = a :: qa →
    (vget (s.lane l).cores 1).queue ++ nB.map (fun x => ⟨x, (vget (s.lane l).cores 1).ctx.head?⟩) = b :: qb →
    (a.acc ≠ b.acc → Completes (.pairEntryCompare l nA nB) s (fun u => (u.lane l).state = .safe ∧ Reported 0x1401 s u)) ∧
    (∀ i, a.acc = b.acc → a.acc.kind ≠ .read → a.ctx = some i → (s.lane l).overflowed.contains i = false →
      (heldFor (s.lane l) i < 2048 → Completes (.pairEntryCompare l nA nB) s (fun u =>
        (u.lane l).release = (s.lane l).release ++ [a] ∧ (u.lane l).pairIndex = (s.lane l).pairIndex + 1 ∧ SameBut [.lanes] s u)) ∧
      (2048 ≤ heldFor (s.lane l) i → Completes (.pairEntryCompare l nA nB) s (fun u =>
        (u.lane l).release = (s.lane l).release.filter (fun x => x.ctx != some i) ∧ Reported 0x1408 s u))))

/-- R88, R92: the comparison of an instance's digests. -/
def Obligations.DigestComparison : Prop :=
  ∀ (s : State) (l : LaneId) (t : TaskId) (i : Nat × Nat) (x y : DWord), Operational s → (s.lane l).state.live = true →
    readyDigests (s.lane l) t = some (i, x, y) → queuedFor (s.lane l) i = false →
    (x ≠ y → Completes (.digestCompare l t) s (fun u => (u.lane l).state = .safe ∧ Reported 0x1403 s u)) ∧
    (x = y → Completes (.digestCompare l t) s (fun u =>
      (∀ e ∈ (u.lane l).release, e.ctx ≠ some i) ∧ (∀ n ∈ vget u.cyc.insts l, n.named i = false)))

/-- R16, R29, R34, R36, R109: a register write of both cores of a lane. -/
def Obligations.RegisterWrites : Prop :=
  (∀ (s : State) (l : LaneId) (a : Nat) (data : List Byte), Operational s → (s.lane l).state.live = true → inRegisters a = true →
    ((data.length = 4 ∧ a % 4 = 0) ∨ (data.length = 8 ∧ a % 8 = 0)) →
    let acc : Access := ⟨a, .write, data, BitVec.ofNat 32 (2 ^ data.length - 1)⟩
    (isVrw a = true → Completes (.registerWrite l a data) s (fun u =>
      (u.lane l).handed = (s.lane l).handed ++ [⟨.runtime (vget s.vot.lanes l).seq.toNat, acc⟩] ∧
      (vget u.vot.lanes l).seq = (vget s.vot.lanes l).seq + 1 ∧ u.regs = s.regs ∧ u.mem = s.mem)) ∧
    (isVrw a = false → Completes (.registerWrite l a data) s (fun u => u = ownWrite l acc s))) ∧
  (∀ (s : State) (l : LaneId) (a : Nat) (data : List Byte),
    ¬(inRegisters a = true ∧ ((data.length = 4 ∧ a % 4 = 0) ∨ (data.length = 8 ∧ a % 8 = 0))) →
    exec (.registerWrite l a data) s = .fault (.accessFault a))

/-- R107 to R118: a proposal reaches the voter. -/
def Obligations.VotesOpenAgreeAndCommit : Prop :=
  ∀ (s : State) (l : LaneId) (p : Proposal) (rest : List Proposal), Operational s → (s.lane l).handed = p :: rest →
    (s.vot.mode ≠ .safe → writeTarget s l p.acc = .voted → countedFor s l p.key = true →
      s.vot.votes.find? (fun v => v.key == p.key) = none → s.vot.votes.length < 512 →
      Completes (.proposalArrival l) s (fun u => u.vot.votes = s.vot.votes ++ [{ key := p.key, props := [(l.val, p.acc)] }] ∧
        (u.lane l).handed = rest ∧ SameBut [.lanes, .vot] s u)) ∧
    (∀ (m : LaneId) (n : Nat), s.vot.mode ≠ .safe → writeTarget s l p.acc = .voted → p.key = .runtime n → countedFor s l p.key = true → m ≠ l →
      s.vot.votes = [{ key := p.key, props := [(m.val, p.acc)] }] → inExchange p.acc.addr = true →
      slotAt s (offsetOf p.acc.addr) = none →
      Completes (.proposalArrival l) s (fun u =>
        u.mem = memWrites s.mem ((p.acc.data.zipIdx.filter (fun b => p.acc.be.getLsbD b.2)).map (fun b => (offsetOf p.acc.addr + b.2, b.1))) ∧
        (∀ v ∈ u.vot.votes, v.committed = true) ∧ u.regs = s.regs)) ∧
    (∀ v c, s.vot.mode ≠ .safe → writeTarget s l p.acc = .voted → countedFor s l p.key = true →
      s.vot.votes.find? (fun v => v.key == p.key) = some v → v.agreed = some c →
      (p.acc ≠ c → (s.lane l).state.live = true →
        Completes (.proposalArrival l) s (fun u => (u.lane l).state = .safe ∧ Reported 0x0C02 s u)) ∧
      (p.acc = c → v.closed = true →
        Completes (.proposalArrival l) s (fun u => (vget u.vot.lanes l).lateCnt = (vget s.vot.lanes l).lateCnt + 1 ∧ Reported 0x0C01 s u))) ∧
    (s.vot.mode ≠ .safe → s.vot.votes = [] → writeTarget s l p.acc = .forbidden →
      Completes (.proposalArrival l) s (fun u => Reported 0x0C06 s u ∧ u.mem = s.mem ∧ u.regs = s.regs)) ∧
    (s.vot.mode = .safe → Completes (.proposalArrival l) s (fun u => u.mem = s.mem ∧ u.regs = s.regs ∧ u.vot = s.vot))

/-- R116 to R121: a vote's window closes, and a lane stays away. -/
def Obligations.VoteWindowsAndAbsence : Prop :=
  ∀ (s : State) (k : PropKey) (v : Vote), Operational s → s.vot.votes.find? (fun v => v.key == k) = some v →
    (v.agreed = none → v.closed = false → v.props ≠ [] → s.vot.mode ≠ .safe →
      Completes (.voteWindowClose k) s (fun u => u.vot.mode = .safe ∧ u.vot.modFault = true ∧ u.vot.counted = 0 ∧ u.vot.votes = [] ∧ Reported 0x0C04 s u)) ∧
    (v.agreed.isSome = true → v.closed = false →
      Completes (.voteWindowClose k) s (fun u =>
        u.vot.votes = s.vot.votes.map (fun w => if w.key = v.key then { v with closed := true } else w) ∧ SameBut [.vot] s u)) ∧
    (∀ l, v.agreed.isSome = true → v.closed = true → countedFor s l k = true → v.props.any (fun p => p.1 == l.val) = false →
      (s.lane l).state.live = true → Completes (.absentLane k l) s (fun u => (u.lane l).state = .safe ∧ Reported 0x0C03 s u))

/-- R127 to R131: the phases of a re-integration up to JOIN. -/
def Obligations.ReintegrationPath : Prop :=
  (∀ (s : State) (l a b : LaneId), Operational s → s.vot.mode = .dual → s.vot.reint.phase = .idle → counted s l = false →
    (vget s.vot.lanes l).heldOut = false → countedLanes s = [a, b] →
    Completes (.reintStart l) s (fun u => u.vot.reint.phase = .reset ∧ u.vot.reint.target = l ∧ u.vot.reint.srcCode = a ∧
      u.vot.reint.srcState = b ∧ u.vot.reint.joined = 0 ∧ (u.lane l).state = .off ∧ (u.lane l).mram = (s.lane l).mram ∧
      u.vot.counted = s.vot.counted ∧ u.vot.mode = .dual)) ∧
  (∀ (s : State), Operational s → s.vot.reint.phase = .reset →
    Completes .reintResetDone s (fun u => u.vot.reint.phase = .load ∧ u.vot.reint.round = 1 ∧ u.vot.reint.allDirty = true ∧
      (u.lane s.vot.reint.target).state = .loading ∧ (u.lane s.vot.reint.target).keyGen = (s.lane s.vot.reint.target).keyGen + 1)) ∧
  (∀ (s : State), Operational s → s.vot.reint.phase = .load →
    Completes .copyRoundEnd s (fun u => u.vot.reint.round = min 127 (s.vot.reint.round + 1) ∧ u.vot.reint.roundSet = s.vot.reint.copyDirty ∧
      u.vot.reint.copyDirty = [] ∧ u.vot.reint.allDirty = false ∧ SameBut [.vot, .lanes] s u) ∧
    (s.vot.reint.codeDone = false → Completes .codeCopyEnd s (fun u => u.vot.reint.codeDone = true ∧ SameBut [.vot, .lanes] s u)) ∧
    (s.vot.reint.codeDone = true → s.vot.reint.allDirty = false → s.vot.reint.lastRound ≤ 65536 →
      Completes .loadEnd s (fun u => u.vot.reint.phase = .sweep ∧ (u.lane s.vot.reint.target).state = .sweep ∧
        u.vot.reint.copyDirty = s.vot.reint.roundSet.foldl nsAdd s.vot.reint.copyDirty ∧ SameBut [.vot, .lanes] s u)) ∧
    (65536 < s.vot.reint.lastRound → Completes .loadEnd s (fun u => u = s))) ∧
  (∀ (s : State) (t : TaskId), Operational s → s.vot.reint.phase = .join → s.vot.reint.finalTask = some t →
    (taskIdle s s.vot.reint.srcState t = true → Completes (.finalRoundEnd t) s (fun u =>
      u.vot.reint.finalDone = s.vot.reint.finalDone ||| BitVec.ofNat 16 (2 ^ t.val) ∧
      u.vot.reint.copyDirty = s.vot.reint.copyDirty.filter (fun n => (s.lane s.vot.reint.srcState).lineTask n != t) ∧ SameBut [.vot, .lanes] s u)) ∧
    (taskIdle s s.vot.reint.srcState t = false → Completes (.finalRoundAbandoned t) s (fun u =>
      u.vot.reint.finalDone = s.vot.reint.finalDone ∧ u.vot.reint.copyDirty = s.vot.reint.copyDirty ∧ SameBut [.vot] s u)))

/-- R135, R136: a failed attempt of re-integration. -/
def Obligations.ReintegrationFails : Prop :=
  ∀ (s : State) (l : LaneId) (timeout : Bool), Operational s →
    (attemptFailed s l timeout = true → s.vot.reint.target = l →
      Completes (.reintFailed l timeout) s (fun u =>
        u.vot.reint.phase = .idle ∧ (vget u.vot.lanes l).fails = (vget s.vot.lanes l).fails ++ [s.tim.now] ∧ Reported 0x0C0A s u ∧
        (if 3 ≤ ((vget s.vot.lanes l).fails.filter (fun t => s.tim.now - t < 86400 * secUnits)).length + 1
         then (vget u.vot.lanes l).heldOut = true ∧ (u.lane l).state = .off ∧ Reported 0x0C0C s u
         else (vget u.vot.lanes l).vstate = .absent ∧ (vget u.vot.lanes l).heldOut = (vget s.vot.lanes l).heldOut))) ∧
    (attemptFailed s l timeout = false → Completes (.reintFailed l timeout) s (fun u => u = s))

/-- R99, R122 to R126: what takes a lane into service. -/
def Obligations.SelfTestsAndAdmission : Prop :=
  (∀ (s : State) (l : LaneId) (found : List (List Nat)) (tmo : Bool), Operational s → (s.lane l).state = .ready →
    ((found = (List.range 330).map (fun k => [k]) ++ [[], []] ∧ tmo = true) →
      Completes (.pairSelfTest l found tmo) s (fun u => (vget u.vot.lanes l).pairOk = true ∧ SameBut [.vot] s u)) ∧
    (¬(found = (List.range 330).map (fun k => [k]) ++ [[], []] ∧ tmo = true) →
      Completes (.pairSelfTest l found tmo) s (fun u => (u.lane l).state = .safe ∧ Reported 0x0C08 s u))) ∧
  (∀ (s : State) (ok : BitVec 4), Operational s → s.vot.mode = .init → 2 ≤ (readyLanes s).length →
    Completes (.voterSelfTest ok) s (fun u => u.vot.stepOk = ok ∧ u.vot.testDone = true ∧ u.vot.mode = .init ∧
      (if ok = 15 then u.vot.testFail = false ∧ SameBut [.vot, .regs] s u else u.vot.testFail = true ∧ Reported 0x0C09 s u))) ∧
  (∀ (s : State), Operational s → s.vot.mode = .init → s.vot.waiting = true →
    Completes .startupWaitExpiry s (fun u => u.vot.waitEnded = true ∧ SameBut [.vot] s u)) ∧
  (∀ (s : State), Operational s → s.vot.mode = .init → s.trust.cfgOk = true → s.vot.testDone = true → s.vot.testFail = false →
    2 ≤ (readyLanes s).length → waitOver s = true →
    Completes .laneAdmission s (fun u => u.vot.mode = (if (readyLanes s).length = 3 then .triple else .dual) ∧
      u.vot.counted = BitVec.ofNat 3 (((readyLanes s).map (fun l => 2 ^ l.val)).sum) ∧ SameBut [.vot, .lanes] s u)) ∧
  (∀ (s : State) (l : LaneId), Operational s → (s.lane l).state = .off → s.trust.recovery = false → (vget s.vot.lanes l).heldOut = false →
    s.vot.reint.phase = .idle →
    Completes (.laneResetRelease l) s (fun u => (u.lane l).state = .loading ∧ (u.lane l).keyValid = true ∧ (u.lane l).keyGen = (s.lane l).keyGen + 1))

/-- R141 to R143, R164: enabling and draining a ring. -/
def Obligations.RingLifecycle : Prop :=
  ∀ (s : State) (r : Fin 64), Operational s →
    ((s.ringAt r).enabled = false → ringSetupOk s r = true →
      Completes (.ringEnable r) s (fun u =>
        (u.ringAt r).state = .active ∧ (u.ringAt r).prod = 0 ∧ (u.ringAt r).cons = 0 ∧ (u.ringAt r).head = 0 ∧ (u.ringAt r).cp = 0 ∧
        (u.ringAt r).pending = [] ∧ (u.ringAt r).busy = [] ∧ (u.ringAt r).credit = max 1 (s.ringAt r).creditCfg ∧
        (∀ q, q ≠ r → u.ringAt q = s.ringAt q) ∧ SameBut [.rng, .mem] s u)) ∧
    ((s.ringAt r).enabled = false → ringSetupOk s r = false →
      Completes (.ringEnable r) s (fun u => (u.ringAt r).state = .cfgErr ∧ u.trust.faultCause = 1 ∧ u.trust.cfgFault = true ∧
        Reported 0x100C s u ∧ Reported 0x4401 s u)) ∧
    ((s.ringAt r).enabled = true → Completes (.ringEnable r) s (fun u => u = s)) ∧
    (((s.ringAt r).state = .active ∨ (s.ringAt r).state = .stalled) → (s.ringAt r).held = [] →
      Completes (.ringDrain r) s (fun u =>
        (u.ringAt r).state = .draining ∧ (u.ringAt r).en = false ∧ (u.ringAt r).pending = [] ∧ (u.ringAt r).ops = (s.ringAt r).ops ∧
        (∀ q, q ≠ r → u.ringAt q = s.ringAt q) ∧ SameBut [.rng] s u)) ∧
    ((s.ringAt r).state = .draining → (s.ringAt r).ops = [] →
      Completes (.ringDrainComplete r) s (fun u => (u.ringAt r).state = .disabled ∧ (u.ringAt r).busy = [] ∧
        (∀ q, q ≠ r → u.ringAt q = s.ringAt q) ∧ SameBut [.rng] s u))

/-- R148 to R151, R158: what programs write to a ring. -/
def Obligations.RingQueues : Prop :=
  ∀ (s : State) (r : Fin 64), Operational s →
    (∀ off k bs, slotAt s off = some (r, k) →
      (bs.length = 32 → (off - (s.ringAt r).sqBase) % 32 = 0 → nsMem (s.ringAt r).pending ((off - (s.ringAt r).sqBase) / 32) = false →
        Completes (.descriptorWrite off bs) s (fun u => u.mem = memWrite s.mem off bs ∧
          (u.ringAt r).pending = nsAdd (s.ringAt r).pending ((off - (s.ringAt r).sqBase) / 32) ∧ SameBut [.mem, .rng] s u)) ∧
      (bs.length = 32 → (off - (s.ringAt r).sqBase) % 32 = 0 → nsMem (s.ringAt r).pending ((off - (s.ringAt r).sqBase) / 32) = true →
        Completes (.descriptorWrite off bs) s (fun u => Reported 0x1008 s u ∧ SameBut reportParts s u)) ∧
      ((bs.length ≠ 32 ∨ (off - (s.ringAt r).sqBase) % 32 ≠ 0) →
        Completes (.descriptorWrite off bs) s (fun u => Reported 0x0C06 s u ∧ SameBut reportParts s u))) ∧
    (∀ prod, prod ≠ (s.ringAt r).prod →
      ((s.ringAt r).state = .active → (prod - (s.ringAt r).prod).toNat + ((s.ringAt r).prod - (s.ringAt r).cons).toNat ≤ 2 ^ (s.ringAt r).sizeLog2 →
        Completes (.doorbell r prod) s (fun u => (u.ringAt r).prod = prod ∧ SameBut [.rng] s u)) ∧
      (((s.ringAt r).state ≠ .active ∨ 2 ^ (s.ringAt r).sizeLog2 < (prod - (s.ringAt r).prod).toNat + ((s.ringAt r).prod - (s.ringAt r).cons).toNat) →
        Completes (.doorbell r prod) s (fun u => Reported 0x1006 s u ∧ SameBut reportParts s u))) ∧
    (∀ head, (head - (s.ringAt r).head).toNat ≤ ((s.ringAt r).ownerLatch - (s.ringAt r).head).toNat →
        Completes (.completionHeadWrite r head) s (fun u => (u.ringAt r).head = head ∧
          (∀ e ∈ (u.ringAt r).busy, ∀ i, e.2 = some i → (head - (s.ringAt r).head).toNat ≤ (i - (s.ringAt r).head).toNat) ∧ SameBut [.rng] s u)) ∧
    (∀ head, ((s.ringAt r).ownerLatch - (s.ringAt r).head).toNat < (head - (s.ringAt r).head).toNat →
        Completes (.completionHeadWrite r head) s (fun u => Reported 0x1007 s u ∧ SameBut reportParts s u)) ∧
    ((s.ringAt r).state = .active → (s.ringAt r).cons ≠ (s.ringAt r).prod →
      nsMem (s.ringAt r).pending ((s.ringAt r).cons.toNat % (s.ringAt r).entries) = false →
      Completes (.ringStalled r) s (fun u => (u.ringAt r).state = .stalled ∧ Reported 0x1009 s u ∧ SameBut (.rng :: reportParts) s u))

/-- R151, R152, R162: an engine fetches one descriptor. -/
def Obligations.DescriptorFetch : Prop :=
  ∀ (s : State) (e : Fin 9), Operational s →
    (∀ (r : Fin 64) i, nextRing s e = some (r, i) →
      let R := s.ringAt r
      let b := memRead s.mem (R.sqBase + 32 * (R.cons.toNat % R.entries)) 32
      (∀ st off, fetchError s r R.cons.toNat b = some (st, off) →
        Completes (.descriptorFetch e) s (fun u => (u.ringAt r).cons = R.cons + 1 ∧
          (u.ringAt r).pending = nsDel R.pending (R.cons.toNat % R.entries) ∧ (u.ringAt r).credit = R.credit - 1 ∧ (u.ringAt r).ops = R.ops ∧
          u.rng.errRing = BitVec.ofNat 6 r.val ∧ u.rng.errStatus = BitVec.ofNat 8 st ∧ u.rng.errCnt = s.rng.errCnt + 1)) ∧
      (fetchError s r R.cons.toNat b = none →
        Completes (.descriptorFetch e) s (fun u => (u.ringAt r).cons = R.cons + 1 ∧
          (u.ringAt r).pending = nsDel R.pending (R.cons.toNat % R.entries) ∧ (u.ringAt r).credit = R.credit - 1 ∧
          tget? (u.ringAt r).busy (readDesc b).tag = some none ∧
          (∃ d, { desc := d, stage := .running : RunOp } ∈ (u.ringAt r).ops ∧ d.tag = (readDesc b).tag ∧ d.opcode = (readDesc b).opcode)))) ∧
    (nextRing s e = none → Completes (.descriptorFetch e) s (fun u => u = s))

/-- R153, R154, R165: completions. -/
def Obligations.OperationsComplete : Prop :=
  (∀ (s : State) (r : Fin 64) (tag : Fin 1024) (d : Desc), Operational s →
    (startedOp s r tag.val 0x00 = some d → Completes (.nop r tag) s (fun u => Concluded u r d 0 0 0 ∧ SameBut [.rng] s u)) ∧
    (startedOp s r tag.val 0x01 = some d → Completes (.echo r tag) s (fun u => Concluded u r d 0 d.paramA d.addr ∧ SameBut [.rng] s u))) ∧
  (∀ (s : State) (r : Fin 64) (tag : Fin 1024) (d : Desc) (st ra rb : Nat), Operational s →
    (s.ringAt r).ops.find? (fun o => o.desc.tag == tag.val && decide (o.stage ≠ .running)) = some { desc := d, stage := .done st ra rb } →
    d.opcode ≠ 0x20 →
    let R := s.ringAt r
    Completes (.operationComplete r tag) s (fun u =>
      u.mem = memWrite s.mem (R.cqBase + 16 * (R.cp.toNat % 2 ^ R.sizeLog2))
        (leBytes 2 (tag.val % 1024 + (if testBit R.cp.toNat R.sizeLog2 then 0 else 1) * 2 ^ 15) ++ leBytes 1 st ++ leBytes 1 R.engine ++
          leBytes 4 ra ++ leBytes 8 rb) ∧
      (u.ringAt r).cp = R.cp + 1 ∧ (∀ o ∈ (u.ringAt r).ops, o.desc.tag ≠ tag.val) ∧ SameBut [.mem, .rng, .irq] s u))

/-- R175, R196 to R201: the program start, the retained mirror and online change. -/
def Obligations.ProgramStartAndMirror : Prop :=
  (∀ (s : State), Operational s →
    (canStart s = true →
      let v := (countedLanes s).foldl checkRetained (applyBaselines (resetParams s))
      2 ≤ (countedLanes v).length → (∀ l ∈ countedLanes v, ∀ m ∈ countedLanes v, startRecordOf v l = startRecordOf v m) →
      Completes .cyclicProgramStart s (fun u => u.cyc.prog = .starting ((s.tick + 8 + 2 ^ kmax s - 1) / 2 ^ kmax s * 2 ^ kmax s) ∧
        SameBut [.cyc] v u)) ∧
    (canStart s = false → Completes .cyclicProgramStart s (fun u => u = s))) ∧
  (∀ (s : State) (l : LaneId) (lines : NatSet) (tick : Nat) (rest : List (NatSet × Nat)), Operational s →
    (s.lane l).mirror = (lines, tick) :: rest →
    Completes (.retainedMirror l) s (fun u => (u.lane l).mirror = rest ∧
      memRead (u.lane l).mram headerOff 64 = retainedHeader s.image.layout s.cls.epoch.toNat s.trust.actCnt.toNat tick
        ((leAt (memRead (s.lane l).mram headerOff 64) 32 4 + 1) % 2 ^ 32) 0 ∧ SameBut [.lanes] s u)) ∧
  (∀ (s : State) (t : TaskId), Operational s →
    (s.cyc.changes.any (fun p => p.task == t.val && p.due) = true →
      Completes (.onlineChangeApply t) s (fun u =>
        u.cyc.changes = s.cyc.changes.filter (fun p => !(p.task == t.val && p.due)) ∧
        u.cyc.params = s.cyc.params ++ s.cyc.changes.filter (fun p => p.task == t.val && p.due) ∧ Reported 0x0509 s u)) ∧
    (s.cyc.changes.any (fun p => p.task == t.val && p.due) = false → Completes (.onlineChangeApply t) s (fun u => u = s)))

/-- R202, R203: the events of a code swap. -/
def Obligations.CodeSwapEvents : Prop :=
  ∀ (s : State), Operational s →
    (∀ k img, s.cyc.swap = .loading → s.cyc.swapImage = some (k, img) →
      Completes .swapLoadComplete s (fun u => u.cyc.swap = .ready ∧ u.image = s.image ∧ Reported 0x050B s u)) ∧
    (∀ k img, s.cyc.swap = .convert → s.cyc.swapImage = some (k, img) →
      Completes .swapConversionComplete s (fun u => u.image = img)) ∧
    (s.cyc.swap = .convert → Completes .swapConversionTimeout s (fun u =>
      u.cyc.swap = .idle ∧ u.cyc.swapImage = none ∧ u.image = s.image ∧ Reported 0x050B s u)) ∧
    (trialOver s = true → Completes .swapTrialTimeout s (fun u =>
      u.cyc.swap = .idle ∧ u.trust.running = s.cyc.swapImage.map Prod.fst ∧ u.image = s.image ∧ Reported 0x050B s u)) ∧
    (s.cyc.swap = .idle → Completes .swapLoadComplete s (fun u => u = s) ∧ Completes .swapConversionComplete s (fun u => u = s) ∧
      Completes .swapConversionTimeout s (fun u => u = s) ∧ Completes .swapTrialTimeout s (fun u => u = s))

/-- R509 to R512: the checks of a request before its command's own, in their order. -/
def Obligations.RequestChecks : Prop :=
  ∀ (mk : UtmusReq → Instr) (cmd perm : Nat) (s : State) (q : UtmusReq), Operational s →
    (mk, cmd, perm) ∈ [(Instr.status, 0x03, 0), (.attest, 0x05, 0), (.activate, 0x20, 2), (.revert, 0x21, 2), (.slotErase, 0x22, 2),
      (.swapLoad, 0x28, 2), (.swap, 0x29, 2), (.swapCommit, 0x2A, 2), (.swapRevert, 0x2B, 2), (.fwInstall, 0x30, 3), (.fwTrial, 0x31, 3),
      (.fwCommit, 0x32, 3), (.fwRollback, 0x33, 3), (.programStop, 0x40, 1), (.programStart, 0x41, 1), (.laneRelease, 0x42, 1),
      (.onlineChange, 0x43, 1), (.ucalWrite, 0x44, 1), (.restoreFactory, 0x45, 1), (.recFormat, 0x50, 4), (.relinquish, 0x51, 4),
      (.retire, 0x52, 4), (.provision, 0x60, 5), (.enrol, 0x61, 5), (.vendorRevoke, 0x62, 5)] →
    let refused (status : Nat) : Prop := Completes (mk q) s (fun u => Answered u cmd q status [] ∧ Reported 0x4808 s u ∧
      u.trust.utmusRej = s.trust.utmusRej + 1 ∧ SameBut (.trust :: reportParts) s u ∧
      { u.trust with response := s.trust.response, utmusRej := s.trust.utmusRej, session := s.trust.session } = s.trust)
    (q.formatOk = false → refused 1) ∧
    (q.formatOk = true → s.trust.session = none → refused 4) ∧
    (∀ S, q.formatOk = true → s.trust.session = some S →
      (q.session ≠ S.number → refused 4) ∧
      (q.session = S.number → q.seq ≠ S.seq + 1 → refused 7) ∧
      (q.session = S.number → q.seq = S.seq + 1 → q.signed cmd S.nonce (seqTaken q s) = false → refused 2) ∧
      (q.session = S.number → q.seq = S.seq + 1 → q.signed cmd S.nonce (seqTaken q s) = true → q.allowed cmd perm (seqTaken q s) = false →
        refused 3))

/-- R510, R512: sessions, reading and transfers. -/
def Obligations.SessionsAndTransfers : Prop :=
  (∀ (s : State) (q : UtmusReq), Operational s →
    (q.formatOk = true → s.trust.rngOk = true → Completes (.hello q) s (fun u => ∃ S, u.trust.session = some S ∧ S.seq = 0 ∧ S.transfer = none ∧
      S.nonce.length = 32 ∧ u.trust.response.drop 21 = leBytes 4 S.number.toNat ++ S.nonce ++ leBytes 5 s.otp.serial.toNat ++ leBytes 1 s.otp.lifeN.toNat)) ∧
    (q.formatOk = true → s.trust.session = none → Completes (.identify q) s (fun u => Answered u 0x02 q 0 (identityBytes s) ∧ SameBut [.trust] s u)) ∧
    Completes .sessionTimeout s (fun u => u.trust.session = none ∧ SameBut [.trust] s u) ∧
    Completes .connectionClosed s (fun u => u.trust.session = none ∧ SameBut [.trust] s u)) ∧
  (∀ (s : State) (q : UtmusReq),
    (Accepted 0x03 (some 0) 0 q s → Completes (.status q) s (fun u => (∃ b, Answered u 0x03 q 0 b) ∧ SameBut [.trust] s u)) ∧
    (∀ want count bad, Accepted 0x04 (some 0) 0 q s → q.params 4 = [want, count] → count ≠ 0 → Completes (.utmusRecRead q bad) s (fun u =>
      Answered u 0x04 q 0 ((recordsFrom s want count bad).flatMap Record.bytes))) ∧
    (∀ seed, Accepted 0x05 (some 0) 0 q s → identitySeed s = some seed → s.trust.rngOk = true → (Config.utmusData 5 q.body).length = 32 →
      Completes (.attest q) s (fun u => ∃ b, Answered u 0x05 q 0 b ∧ u.draws = s.draws + 1)) ∧
    (∀ type slot length, Accepted 0x10 (some (loadPerm (q.param 0x10))) (q.param 0x10) q s → q.params 0x10 = [type, slot, length] →
      1 ≤ type → type ≤ 4 → slot < 8 → openTransfer s = none →
      Completes (.loadBegin q) s (fun u => Answered u 0x10 q 0 [] ∧ openTransfer u = some ⟨type, slot, length, []⟩ ∧ SameBut [.trust] s u)) ∧
    (∀ t, Accepted 0x11 none 0 q s → openTransfer s = some t → q.params 0x11 = [t.data.length] →
      t.data.length + (Config.utmusData 0x11 q.body).length ≤ t.length →
      Completes (.chunk q) s (fun u => Answered u 0x11 q 0 [] ∧
        openTransfer u = some { t with data := t.data ++ Config.utmusData 0x11 q.body } ∧ SameBut [.trust] s u)) ∧
    (∀ t, Accepted 0x12 (some (loadPerm t.type)) t.type q s → openTransfer s = some t → t.data.length = t.length → t.type = 1 →
      containerReason (setTransfer none (seqTaken q s)) t.data = 0 → contType t.data = 1 →
      Completes (.loadEndCommand q) s (fun u => Answered u 0x12 q 0 [] ∧ openTransfer u = none ∧ u.trust.staged = some t.data ∧ SameBut [.trust] s u)))

/-- R471, R485 to R487, R512: the commands of the module's lifecycle. -/
def Obligations.LifecycleCommands : Prop :=
  ∀ (s : State) (q : UtmusReq),
    (Accepted 0x60 (some 5) 0 q s → lifecycle s = .blank → s.trust.rngOk = true → Completes (.provision q) s (fun u =>
      Answered u 0x60 q 0 [] ∧ u.otp.lifeN = 1 ∧ Reported 0x4807 s u ∧
      ∃ seed, seed.length = 32 ∧ u.trust.seed = some seed ∧ u.otp.idKey = digest32 (Config.identityKey seed))) ∧
    (Accepted 0x61 (some 5) 0 q s → (lifecycle s = .provisioned ∨ lifecycle s = .returned) → (Config.utmusData 0x61 q.body).length = 32 →
      Completes (.enrol q) s (fun u => Answered u 0x61 q 0 [] ∧ u.otp.lifeN = BitVec.ofNat 5 (s.otp.lifeN.toNat + 1) ∧
        vget u.trust.owner (Fin.ofNat 7 (ownerSlotOf (s.otp.lifeN.toNat + 1))) = some (Config.utmusData 0x61 q.body) ∧
        u.trust.slots = Vector.replicate 8 {} ∧ u.trust.images = Vector.replicate 8 none ∧ u.trust.ucal = [])) ∧
    (Accepted 0x51 (some 4) 0 q s → lifecycle s = .owned → ownerSlot s ≤ 5 →
      Completes (.relinquish q) s (fun u => Answered u 0x51 q 0 [] ∧ u.otp.lifeN = BitVec.ofNat 5 (s.otp.lifeN.toNat + 1) ∧
        u.trust.slots = Vector.replicate 8 {} ∧ u.trust.images = Vector.replicate 8 none ∧ u.trust.ucal = [])) ∧
    (Accepted 0x52 (some 4) 0 q s → Completes (.retire q) s (fun u => Answered u 0x52 q 0 [] ∧ u.otp.lifeN = 16 ∧ u.trust.seed = none ∧
      Reported 0x4807 s u ∧ SameBut ([.otp, .trust] ++ reportParts) s u)) ∧
    (Accepted 0x62 (some 5) 0 q s → (vendorKey s (q.param 0x62)).isSome = true → q.keyIndex.toNat ≠ q.param 0x62 →
      Completes (.vendorRevoke q) s (fun u => Answered u 0x62 q 0 [] ∧ (vget u.trust.vendor (Fin.ofNat 4 (q.param 0x62))).revoked = true ∧
        SameBut [.trust] s u)) ∧
    (Accepted 0x50 (some 4) 0 q s → Completes (.recFormat q) s (fun u => Answered u 0x50 q 0 [] ∧ u.rcd.perm = [] ∧ u.rcd.circ = [] ∧
      u.rcd.fmt = u.rcd.next ∧ (∃ d, Requested { kind := .format, origin := 14, data := d } (flushKept (seqTaken q s)) u)))

/-- R203, R490 to R495, R512: the configuration and code-swap commands. -/
def Obligations.ConfigurationCommands : Prop :=
  ∀ (s : State) (q : UtmusReq),
    let v := seqTaken q s
    let w := haltProgram v
    (∀ k p m, Accepted 0x20 (some 2) 0 q s → q.param 0x20 < 8 → s.cls.outEn = false → s.cyc.swap = .idle →
      (cfgSlot s (q.param 0x20)).state = .loaded → containerReason w (cfgSlot w (q.param 0x20)).cont = 0 →
      cverOk w (cfgSlot w (q.param 0x20)).cont = true → imageSlot w (contApp (cfgSlot w (q.param 0x20)).cont) = some k →
      containerReason w (imageAt w k) = 0 → runPayload w (cfgSlot w (q.param 0x20)) = some (p, m) → s.trust.actCnt ≠ BitVec.allOnes 32 →
      Completes (.activate q) s (fun u => Answered u 0x20 q 0 [] ∧ u.trust.actCnt = s.trust.actCnt + 1 ∧ u.tim.now = s.tim.now)) ∧
    (∀ i k p m, Accepted 0x21 (some 2) 0 q s → slotIn v .previous = some i → s.cls.outEn = false → s.cyc.swap = .idle →
      containerReason w (cfgSlot w i).cont = 0 → imageSlot w (contApp (cfgSlot w i).cont) = some k →
      containerReason w (imageAt w k) = 0 → runPayload w (cfgSlot w i) = some (p, m) → s.trust.actCnt ≠ BitVec.allOnes 32 →
      Completes (.revert q) s (fun u => Answered u 0x21 q 0 [] ∧ u.trust.actCnt = s.trust.actCnt + 1 ∧ u.tim.now = s.tim.now)) ∧
    (s.cls.outEn = true →
      (Accepted 0x20 (some 2) 0 q s → q.param 0x20 < 8 →
        Completes (.activate q) s (fun u => Answered u 0x20 q 4 [] ∧ Reported 0x4404 s u ∧ u.trust.actCnt = s.trust.actCnt)) ∧
      (Accepted 0x21 (some 2) 0 q s →
        Completes (.revert q) s (fun u => Answered u 0x21 q 4 [] ∧ Reported 0x4404 s u ∧ u.trust.actCnt = s.trust.actCnt))) ∧
    (Accepted 0x22 (some 2) 0 q s → q.param 0x22 < 8 → (cfgSlot v (q.param 0x22)).state ≠ .active → (cfgSlot v (q.param 0x22)).state ≠ .previous →
      Completes (.slotErase q) s (fun u => Answered u 0x22 q 0 [] ∧ vget u.trust.slots (Fin.ofNat 8 (q.param 0x22)) = {} ∧ SameBut [.trust] s u)) ∧
    (∀ img, Accepted 0x28 (some 2) 0 q s → s.cyc.swap = .idle → cfgActive v = true → (imageAt v (q.param 0x28)).isEmpty = false →
      contType (imageAt v (q.param 0x28)) = 2 → s.cfg.trust.swapImages.contains ((contDigest (imageAt v (q.param 0x28))).take 32) = true →
      containerReason v (imageAt v (q.param 0x28)) = 0 →
      Config.decodeImage (contFmt (imageAt v (q.param 0x28))) (contPayload (imageAt v (q.param 0x28))) = some img →
      Completes (.swapLoad q) s (fun u => Answered u 0x28 q 0 [] ∧ u.cyc.swap = .loading ∧ u.cyc.swapImage = some (q.param 0x28, img) ∧
        SameBut [.trust, .cyc] s u)) ∧
    (Accepted 0x29 (some 2) 0 q s → s.cyc.swap = .ready → ¬(s.cls.role = .active ∧ s.cls.outEn = true) →
      Completes (.swap q) s (fun u => Answered u 0x29 q 0 [] ∧ u.cyc.swapAt = some ((s.tick / 2 ^ kmax s + 1) * 2 ^ kmax s, false) ∧
        SameBut [.trust, .cyc] s u)) ∧
    (s.cyc.swap = .trial →
      (Accepted 0x2A (some 2) 0 q s → Completes (.swapCommit q) s (fun u => Answered u 0x2A q 0 [] ∧ u.cyc.swap = .idle ∧
        u.trust.running = s.cyc.swapImage.map Prod.fst ∧ Reported 0x050B s u)) ∧
      (Accepted 0x2B (some 2) 0 q s → Completes (.swapRevert q) s (fun u => Answered u 0x2B q 0 [] ∧
        u.cyc.swapAt = some ((s.tick / 2 ^ kmax s + 1) * 2 ^ kmax s, true) ∧ SameBut [.trust, .cyc] s u)))

/-- R136, R175, R176, R199, R498, R499, R505, R507: the firmware and program commands. -/
def Obligations.FirmwareAndProgramCommands : Prop :=
  ∀ (s : State) (q : UtmusReq),
    let v := seqTaken q s
    (∀ c, Accepted 0x30 (some 3) 0 q s → q.param 0x30 < 2 → s.trust.staged = some c → runsBank s (q.param 0x30 == 1) = false →
      s.trust.trial ≠ some (q.param 0x30 == 1) → containerReason v c = 0 →
      Completes (.fwInstall q) s (fun u => Answered u 0x30 q 0 [] ∧ vget u.trust.banks (Fin.ofNat 2 (q.param 0x30)) = some c ∧ SameBut [.trust] s u)) ∧
    (∀ b, Accepted 0x31 (some 3) 0 q s → s.cls.outEn = false → trialBank v = some b →
      Completes (.fwTrial q) s (fun u => Answered u 0x31 q 0 [] ∧ u.trust.trial = some b ∧ u.trust.trialLeft = 2 ∧ u.tim.now = s.tim.now)) ∧
    (Accepted 0x32 (some 3) 0 q s → s.trust.trial = some s.trust.bankB → s.trust.started = true → s.trust.recovery = false →
      Completes (.fwCommit q) s (fun u => Answered u 0x32 q 0 [] ∧ u.trust.pref = s.trust.bankB ∧ u.trust.trial = none ∧ u.trust.commit = none)) ∧
    (Accepted 0x33 (some 3) 0 q s → s.cls.outEn = false → s.trust.trial.isSome = true →
      Completes (.fwRollback q) s (fun u => Answered u 0x33 q 0 [] ∧ u.trust.trial = none ∧ u.tim.now = s.tim.now)) ∧
    (Accepted 0x40 (some 1) 0 q s → Completes (.programStop q) s (fun u => Answered u 0x40 q 0 [] ∧ u.cyc.prog = .stopped ∧ u.cyc.stopByMaint = true)) ∧
    (Accepted 0x41 (some 1) 0 q s → startConditions s = true → cfgActive v = true →
      Completes (.programStart q) s (fun u => Answered u 0x41 q 0 [] ∧ u.cyc.stopByMaint = false ∧ SameBut [.trust, .cyc] s u)) ∧
    (Accepted 0x42 (some 1) 0 q s → q.param 0x42 < 3 → (vget s.vot.lanes (Fin.ofNat 3 (q.param 0x42))).heldOut = true →
      Completes (.laneRelease q) s (fun u => Answered u 0x42 q 0 [] ∧ (vget u.vot.lanes (Fin.ofNat 3 (q.param 0x42))).heldOut = false ∧
        (vget u.vot.lanes (Fin.ofNat 3 (q.param 0x42))).fails = [] ∧ SameBut [.trust, .vot] s u)) ∧
    (∀ vs ws, Accepted 0x43 (some 1) 0 q s → s.cyc.swap ≠ .convert → cfgActive v = true → quads (q.params 0x43) = some vs → vs ≠ [] →
      vs.length ≤ 16 → changeWrites s vs = some ws →
      Completes (.onlineChange q) s (fun u => Answered u 0x43 q 0 [] ∧ u.cyc.changes = s.cyc.changes ++ ws ∧ SameBut [.trust, .cyc] s u)) ∧
    (∀ es, Accepted 0x44 (some 1) 0 q s → quads (q.params 0x44) = some es → es ≠ [] → es.length ≤ 64 →
      (∀ e ∈ es, (e.2.2.1 = 1 ∨ e.2.2.1 = 2) ∧ ucalKeyOk e.1 e.2.1 = true) →
      Completes (.ucalWrite q) s (fun u => Answered u 0x44 q 0 [] ∧ u.trust.ucalQueue = s.trust.ucalQueue ++
        es.map (fun e => ⟨e.1, e.2.1, if e.2.2.1 = 1 then some e.2.2.2 else none, false⟩) ∧ SameBut [.trust] s u)) ∧
    (Accepted 0x45 (some 1) 0 q s → s.cls.outEn = false →
      Completes (.restoreFactory q) s (fun u => Answered u 0x45 q 0 [] ∧ u.trust.ucal = []))

/-- R211, R212, R214, R215, R227: the commands that move one port of the Strath line. -/
def Obligations.StrathPortStates : Prop :=
  ∀ (s : State) (c : ChanId) (p : PortId), LineRuns s →
    let P := s.port c p
    (P.lstate = .down → Completes (.signalDetected c p) s (fun u =>
      u.port c p = { P with los := false, lstate := .train, astate := .acquire } ∧ PortOnly c p s u)) ∧
    (P.lstate = .train → Completes (.codeGroupSync c p) s (fun u => u.port c p = { P with sync := true, lstate := .sync } ∧ PortOnly c p s u)) ∧
    (P.sync = true → Completes (.codeGroupSyncLost c p) s (fun u =>
      u.port c p = { P with sync := false, syncLoss := P.syncLoss + 1, cgErr := P.cgErr + 4 } ∧ PortOnly c p s u)) ∧
    (P.lstate = .train → P.sync = false → Completes (.trainTimeout c p) s (fun u => (u.port c p).lstate = .down ∧ PortOnly c p s u)) ∧
    ((P.lstate ≠ .train ∨ P.sync = true) → Completes (.trainTimeout c p) s (fun u => u = s)) ∧
    (P.lstate = .sync → P.sync = true → P.dlyValid = true → P.wrapped = false → Completes (.portUp c p) s (fun u =>
      (u.port c p).lstate = .up ∧ (u.port c p).upCnt = P.upCnt + 1 ∧ (u.port c p).rfiRun = 0 ∧ PortOnly c p s u)) ∧
    ((P.lstate ≠ .sync ∨ P.sync = false ∨ P.dlyValid = false) → Completes (.portUp c p) s (fun u => u = s)) ∧
    (P.lstate = .failed → P.sync = true → Completes (.portRecovered c p) s (fun u =>
      u.port c p = { P with lstate := .sync, rfiRx := false, rfiRun := 0 } ∧ PortOnly c p s u)) ∧
    ((P.lstate ≠ .failed ∨ P.sync = false) → Completes (.portRecovered c p) s (fun u => u = s)) ∧
    (∀ b : Bool, Completes (.rfiReceived c p b) s (fun u =>
      u.port c p = { P with rfiRx := true, rfiRun := if b then P.rfiRun + 1 else 1 } ∧ PortOnly c p s u)) ∧
    (P.astate = .frozen → Completes (.equaliserFreezeExpiry c p) s (fun u =>
      u.port c p = { P with astate := .preset, boost := 8, taps := Vector.replicate 5 0 } ∧ PortOnly c p s u)) ∧
    (P.astate ≠ .frozen → Completes (.equaliserFreezeExpiry c p) s (fun u => u = s)) ∧
    (∀ φ : Fin 8, (P.lstate = .sync ∨ P.lstate = .up) → P.reqCycle ≠ some (s.tick / 8) → Completes (.dlyReqSend c p φ) s (fun u =>
      u.port c p = { P with reqAt := some (s.tim.now + φ.val * 5 * 2 ^ 37), reqCycle := some (s.tick / 8) } ∧ PortOnly c p s u)) ∧
    (∀ φ : Fin 8, (¬(P.lstate = .sync ∨ P.lstate = .up) ∨ P.reqCycle = some (s.tick / 8)) → Completes (.dlyReqSend c p φ) s (fun u => u = s)) ∧
    (∀ t, Completes (.dlyReqReceived c p t) s (fun u =>
      u.port c p = { P with rspSent := some t, rfiRx := false, rfiRun := 0 } ∧ PortOnly c p s u)) ∧
    Completes (.dlyRspTimeout c p) s (fun u => u.port c p = { P with reqAt := none } ∧ PortOnly c p s u)

/-- R212 to R236: wrapping, unwrapping and measuring on the Strath line. -/
def Obligations.StrathWrapsAndMeasurements : Prop :=
  ∀ (s : State) (c : ChanId) (p : PortId),
    let P := s.port c p
    (LineRuns s →
      (∀ cause heal, P.lstate = .up → failureHolds P cause = true → Completes (.portFailed c p cause heal) s (fun u =>
        (u.port c p).lstate = .failed ∧ (u.port c p).cause = cause ∧ (u.port c p).wrapped = true ∧ Reported (faultCode (5 + c.val) 1) s u)) ∧
      (P.wrapped = true → P.lstate = .up → (s.tim.state = .locked ∨ s.tim.state = .master) → forceWrap s c p = false → unwrapDue s c p = true →
        (interlockFree s c = true → Completes (.timedUnwrap c p) s (fun u => (u.port c p).wrapped = false ∧
          (u.chan c).unwrapCnt = (s.chan c).unwrapCnt + 1 ∧ (u.chan c).lastUnwrap = some (s.tick / 8) ∧ Reported (faultCode (5 + c.val) 3) s u)) ∧
        (interlockFree s c = false → Completes (.timedUnwrap c p) s (fun u => u = s))) ∧
      (∀ q own, P.wrapped = true → P.lstate = .up → (s.tim.state = .locked ∨ s.tim.state = .master) → forceWrap s c p = false →
        P.closeProp = some own → 0 < sdiff 16 q.toNat own.toNat →
        Completes (.closeReceived c p q) s (fun u => (u.port c p).closeProp = some q ∧ (u.port c p).closeHeard = some (s.tick / 8) ∧
          (u.chan c).closeCyc = q)) ∧
      (P.wrapped = true → P.lstate = .up → P.closeNowSent = 7 → P.closeNowRecv = 7 → forceWrap s c p = false → interlockFree s c = true →
        Completes (.closeNowReceived c p true) s (fun u => (u.port c p).wrapped = false ∧ Reported (faultCode (5 + c.val) 3) s u)) ∧
      (∀ h w b t, Completes (.eyeMonitor c p h w b t) s (fun u =>
        (u.port c p).eyeH = h ∧ (u.port c p).eyeW = w ∧ (u.port c p).low = decide (h.toNat < regField s (STR c) 16 8) ∧
        (P.astate = .track → (u.port c p).boost.toNat ≤ P.boost.toNat + 1 ∧ P.boost.toNat ≤ (u.port c p).boost.toNat + 1) ∧
        ((P.astate = .preset ∨ P.astate = .frozen) → (u.port c p).boost = P.boost ∧ (u.port c p).taps = P.taps))) ∧
      (∀ φ t t1, P.reqAt = some t1 → Completes (.dlyRspReceived c p φ t) s (fun u => (u.port c p).reqAt = none ∧
        (u.port c p).meas = (P.meas ++ [((s.tim.now + φ.val * 5 * 2 ^ 37 : Nat) : Int) - (t1 : Int) - ((t.toNat * 5 * 2 ^ 37 : Nat) : Int)]).drop
          (P.meas.length + 1 - 16) ∧
        ((u.port c p).dlyValid = true → (u.port c p).rangeErr = false ∧ 7 ≤ P.nvalid))) ∧
      (∀ φ h y x g e, P.wrapped = true → Completes (.frameReceived c p φ h y x g e) s (fun u =>
        u.port c p = { P with cgErr := P.cgErr + BitVec.ofNat 16 g, rfiRx := false, rfiRun := 0 } ∧ PortOnly c p s u)) ∧
      (∀ φ h y x g e, P.wrapped = false → leAt h 18 2 ≠ crc16 (h.take 18) → Completes (.frameReceived c p φ h y x g e) s (fun u =>
        (u.port c p).hcrcErr = P.hcrcErr + 1 ∧ (u.port c p).lastTx = P.lastTx ∧ (u.port c (1 - p)).lastTx = (s.port c (1 - p)).lastTx ∧
        (u.chan c).seen = (s.chan c).seen ∧ (u.chan c).inbox = (s.chan c).inbox ∧ ChanOnly c s u))) ∧
    (Operational s →
      (P.lstate = .disabled → Completes (.portEnWrite c p true) s (fun u => (u.port c p).lstate = .down)) ∧
      (P.wrapped = false → Completes (.portEnWrite c p false) s (fun u => (u.port c p).lstate = .disabled ∧ (u.port c p).wrapped = true ∧
        Reported (faultCode (5 + c.val) 2) s u)) ∧
      Completes (.forceWrapWrite c p true) s (fun u => (u.port c p).wrapped = true ∧ (u.port c p).closeProp = none ∧
        regField u (STR c + 0x100 + 0x40 * p.val) 1 1 = 1) ∧
      (P.wrapped = false → Completes (.forceWrapWrite c p false) s (fun u => (u.port c p).wrapped = false ∧
        regField u (STR c + 0x100 + 0x40 * p.val) 1 1 = 0)) ∧
      (∀ (r : Fin 64) (tag : Fin 1024) d, startedOp s r tag.val 0x13 = some d → testBit d.paramA 0 = (c == 1) → testBit d.paramA 1 = (p == 1) →
        Completes (.strLinkRead r tag) s (fun u => Concluded u r d 0
          (pack [(3, P.lstate.code), (1, bit P.wrapped), (4, P.boost.toNat), (2, P.astate.code), (1, bit P.dlyValid), (5, 0), (8, P.eyeH.toNat), (8, P.eyeW.toNat)])
          (pack [(16, P.dly.toNat), (16, P.cgErr.toNat), (16, P.fcsErr.toNat), (16, (s.chan c).wrapCnt.toNat)]) ∧ SameBut [.rng] s u)))

/-- R246 to R260: the states of the node. -/
def Obligations.NodeStatesAndMasters : Prop :=
  ∀ (s : State),
    let n := s.stra.node
    (LineRuns s →
      (n.nstate = .listen → masterEn s = true → Completes .listenTimerExpiry s (fun u =>
        u.stra.node = { n with nstate := .coldstart, coldStarts := n.coldStarts + 1, coldSent := [] } ∧ Reported (faultCode 5 0x11) s u ∧ NodeOnly s u)) ∧
      (n.nstate = .listen → masterEn s = false → Completes .listenTimerExpiry s (fun u =>
        u.stra.node = { n with listenMs := 20 + ownId s } ∧ NodeOnly s u)) ∧
      (∀ inp, n.nstate = .coldstart → 16 ≤ n.coldSent.length → s.tim.state ≠ .unset → Completes (.coldstartComplete inp) s (fun u =>
        u.stra.node.nstate = .synced ∧ u.stra.node.master = true ∧ u.stra.node.masterId = ownId s ∧ u.stra.node.actMode = 0 ∧
        u.stra.node.pend = false ∧ u.stra.node.ownFrom = s.tick / 8 + 1 ∧ u.tim.state = .master ∧ u.tim.now = s.tim.now)) ∧
      (∀ c d, (s.chan c).inbox.find? (fun d => d.kind == 3) = some d → d.src ≠ ownId s →
        (n.nstate = .listen → leAt d.payload 28 4 = s.cfg.stra.schedId → Completes (.coldReceived c) s (fun u =>
          u.stra.node = { n with listenMs := 20 + ownId s } ∧ (u.chan c).inbox = (s.chan c).inbox.erase d)) ∧
        (n.nstate = .coldstart → leAt d.payload 28 4 = s.cfg.stra.schedId → d.src < ownId s → Completes (.coldReceived c) s (fun u =>
          u.stra.node = { n with nstate := .listen, yields := n.yields + 1, listenMs := 20 + ownId s } ∧ Reported (faultCode 5 0x12) s u)) ∧
        ((n.nstate = .listen ∨ n.nstate = .coldstart) → leAt d.payload 28 4 ≠ s.cfg.stra.schedId → Completes (.coldReceived c) s (fun u =>
          u.stra.node = { n with nstate := .incompatible } ∧ Reported (faultCode 5 0x14) s u))) ∧
      (∀ c d f, (s.chan c).inbox.find? (fun d => d.kind == 2) = some d → refFields d = some f → n.master = false → n.nstate = .listen →
        (f.sched = s.cfg.stra.schedId → Completes (.refReceived c) s (fun u =>
          u.stra.node.nstate = .integrating ∧ u.stra.node.actMode = f.mode ∧ u.stra.node.integCycles = 0 ∧ u.stra.node.masterId = d.src ∧
          u.tim.utcOfs = BitVec.ofNat 16 f.utcOfs ∧ u.tim.now = s.tim.now)) ∧
        (f.sched ≠ s.cfg.stra.schedId → Completes (.refReceived c) s (fun u =>
          u.stra.node.nstate = .incompatible ∧ Reported (faultCode 5 0x14) s u))) ∧
      (n.nstate = .integrating → 256 ≤ n.integCycles → n.integSlow = false → Completes .integrationSlow s (fun u =>
        u.stra.node = { n with integSlow := true } ∧ Reported (faultCode 5 0x17) s u ∧ NodeOnly s u)) ∧
      (masterEn s = true → n.master = false → n.nstate = .synced → 2 + nodeCfg s 0 2 ≤ n.missRun → s.tim.state ≠ .unset →
        Completes .masterTakeover s (fun u => u.stra.node.master = true ∧ u.stra.node.masterId = ownId s ∧
          u.stra.node.takeovers = n.takeovers + 1 ∧ u.tim.state = .master ∧ Reported (faultCode 5 0x13) s u)) ∧
      (n.nstate = .synced → tripCause s ≠ 0 → Completes .syncMonitorTrip s (fun u =>
        u.stra.node = { n with nstate := .silent, silCause := BitVec.ofNat 3 (tripCause s), silCnt := n.silCnt + 1 } ∧
        Reported (faultCode 5 0x15) s u ∧ NodeOnly s u)) ∧
      ((n.nstate ≠ .synced ∨ tripCause s = 0) → Completes .syncMonitorTrip s (fun u => u = s)) ∧
      (∀ m p nx sw, n.lastRef = some (m, p, nx, sw, s.tick / 8) → n.nstate = .silent → s.tim.state = .locked → modePresent s m = true →
        (∀ c, (s.chan c).bezel.latched = false) → nodeCfg s 4 1 = 1 → Operational s → Completes .nodeResume s (fun u =>
          u.stra.node = { n with nstate := .synced, actMode := m, pend := p, nextMode := nx, switchCycle := sw, ownFrom := s.tick / 8 + 1 } ∧
          Reported (faultCode 5 0x16) s u ∧ NodeOnly s u)) ∧
      (n.nstate = .synced → n.pend = true → n.switchCycle = s.tick / 8 % 2 ^ 32 → Completes .modeSwitch s (fun u =>
        u.stra.node = { n with actMode := n.nextMode, pend := false, nextMode := 0, switchCycle := 0 } ∧
        Reported (faultCode 5 0x1A) s u ∧ NodeOnly s u))) ∧
    (Operational s →
      (n.nstate = .synced → Completes (.txEnWrite false) s (fun u => regField u (STR 0 + 0x1000) 4 1 = 0 ∧
        u.stra.node = { n with nstate := .silent, silCause := 5, silCnt := n.silCnt + 1 } ∧ Reported (faultCode 5 0x15) s u)) ∧
      Completes (.txEnWrite true) s (fun u => regField u (STR 0 + 0x1000) 4 1 = 1 ∧ SameBut [.regs] s u))

/-- R222, R223, R253, R254, R259 to R270: own frames, Bezel and the operations of the schedule. -/
def Obligations.SlotsBezelAndRequests : Prop :=
  ∀ (s : State),
    let n := s.stra.node
    (LineRuns s →
      (∀ (c : ChanId) (k : Fin 512) (φ : Fin 8) bz since e b, n.nstate = .synced → k ≠ 0 → slotEntry? s n.actMode k.val = some e → ownSlot s e k.val = true → usedNow s e = true →
        testBit e.ch c.val = true → n.ownFrom ≤ s.tick / 8 → e.sender2 = 0 → e.kind ≠ 4 → (tgetD s.stra.tx e.txBuf {}).atStart = some b → reportLate (.txBuf e.txBuf) s = s →
        ((s.chan c).fwdUntil ≤ s.tim.now → bezelPasses s c e 1 (b.length / 8) k.val bz since = true → s.pwr.shutdown = false → (s.port c 1).wrapped = false →
          Completes (.ownSlotSend c k φ bz since) s (fun u =>
            (u.port c 1).lastTx = newHeader 1 (nodeId s c) c k.val n.actMode (s.tick / 8) (b.length / 8) ++ b ++
              frameFcs (newHeader 1 (nodeId s c) c k.val n.actMode (s.tick / 8) (b.length / 8)) b ∧
            (u.port c 1).lastAbt = false ∧ (u.chan c).ownUntil = some (k.val, s.tim.now + lineTime b.length) ∧ SameBut [.stra] s u)) ∧
        ((s.chan c).fwdUntil ≤ s.tim.now → bezelPasses s c e 1 (b.length / 8) k.val bz since = false →
          Completes (.ownSlotSend c k φ bz since) s (fun u => (u.chan c).bezel.blockCnt = (s.chan c).bezel.blockCnt + 1 ∧
            (∀ p, u.port c p = s.port c p) ∧ Reported (faultCode (5 + c.val) 0x1C) s u ∧ ChanOnly c s u)) ∧
        (s.tim.now < (s.chan c).fwdUntil → Completes (.ownSlotSend c k φ bz since) s (fun u =>
          (u.chan c).ownMiss = (s.chan c).ownMiss + 1 ∧ (u.chan c).collCnt = (s.chan c).collCnt + 1 ∧ (∀ p, u.port c p = s.port c p) ∧ ChanOnly c s u))) ∧
      (∀ (c : ChanId) (k : Fin 512) (φ : Fin 8) bz since e, n.nstate = .silent → slotEntry? s n.actMode k.val = some e → ownSlot s e k.val = true → usedNow s e = true →
        testBit e.ch c.val = true → Completes (.ownSlotSend c k φ bz since) s (fun u =>
          (u.chan c).ownMiss = (s.chan c).ownMiss + 1 ∧ (∀ p, u.port c p = s.port c p) ∧ ChanOnly c s u)) ∧
      (∀ (c : ChanId) k t, (s.chan c).ownUntil = some (k, t) → s.tim.now < t → (s.port c 1).wrapped = false → Completes (.bezelTruncation c) s (fun u =>
        (u.chan c).bezel.truncCnt = (s.chan c).bezel.truncCnt + 1 ∧ (u.chan c).ownUntil = none ∧ (u.port c 1).lastAbt = true ∧
        (u.port c 1).lastTx = (s.port c 1).lastTx ∧ ChanOnly c s u)) ∧
      (∀ (c : ChanId), ((s.chan c).ownUntil = none ∨ ∃ k t, (s.chan c).ownUntil = some (k, t) ∧ t ≤ s.tim.now) →
        Completes (.bezelTruncation c) s (fun u => u = s)) ∧
      (∀ (c : ChanId), 8 ≤ (s.chan c).bezel.hold → Completes (.bezelUnaligned c) s (fun u =>
        (u.chan c).bezel = { (s.chan c).bezel with aligned := false } ∧ ChanOnly c s u)) ∧
      (∀ d, lowestMode s = some d → n.nstate = .synced → n.handled = false →
        (n.master = true → modePresent s (byteAt d.payload 0 % 8) = true → n.pend = false → Completes .modeFrameReceived s (fun u =>
          u.stra.node = { n with handled := true, pend := true, nextMode := byteAt d.payload 0 % 8, switchCycle := (s.tick / 8 + 1 + modeLead s) % 2 ^ 32 } ∧
          Reported (faultCode 5 0x19) s u)) ∧
        (n.master = false → Completes .modeFrameReceived s (fun u => u.stra.node = n ∧ SameBut [.stra] s u)))) ∧
    (Operational s →
      (∀ (c : ChanId), Completes (.unlatch c) s (fun u => (u.chan c).bezel = { (s.chan c).bezel with latched := false, hits := [] } ∧ ChanOnly c s u)) ∧
      (∀ (r : Fin 64) (tag : Fin 1024) d, startedOp s r tag.val 0x10 = some d → testBit d.flags 2 = false → Completes (.strSlotWrite r tag) s (fun u =>
        tgetD u.stra.tx (field d.paramA 0 9) {} = { tgetD s.stra.tx (field d.paramA 0 9) {} with content := some d.data } ∧
        Concluded u r d 0 0 0 ∧ SameBut [.stra, .rng] s u)) ∧
      (∀ (r : Fin 64) (tag : Fin 1024) d, startedOp s r tag.val 0x11 = some d →
        let mode := field d.paramA 9 3
        let slot := field d.paramA 0 9
        let chan := field d.paramA 12 1
        let item := field d.paramA 16 13
        (4096 ≤ s.stra.binds.length → Completes (.strSlotBind r tag) s (fun u => Concluded u r d 0x80 0 0 ∧ SameBut [.rng] s u)) ∧
        (s.stra.binds.length < 4096 → slotReceived s mode slot chan d.length = false →
          Completes (.strSlotBind r tag) s (fun u => Concluded u r d 0x81 0 0 ∧ SameBut [.rng] s u)) ∧
        (s.stra.binds.length < 4096 → slotReceived s mode slot chan d.length = true →
          s.stra.binds.any (fun x => x.mode == mode && ((x.slot == slot && x.chan == chan) || x.item == item)) = true →
          Completes (.strSlotBind r tag) s (fun u => Concluded u r d 0x82 0 0 ∧ SameBut [.rng] s u)) ∧
        (s.stra.binds.length < 4096 → slotReceived s mode slot chan d.length = true →
          s.stra.binds.any (fun x => x.mode == mode && ((x.slot == slot && x.chan == chan) || x.item == item)) = false →
          Completes (.strSlotBind r tag) s (fun u => Concluded u r d 0 s.stra.binds.length 0 ∧
            u.stra.binds = s.stra.binds ++ [⟨mode, slot, chan, item, field d.paramB 0 7, field d.paramB 8 7, d.length⟩] ∧ SameBut [.stra, .rng] s u))) ∧
      (∀ (r : Fin 64) (tag : Fin 1024) d, startedOp s r tag.val 0x12 = some d → n.reqs = [] →
        ((n.nstate ≠ .synced ∨ nodeCfg s 3 1 = 0) → Completes (.strModeReq r tag) s (fun u => Concluded u r d 0x85 0 0 ∧ SameBut [.rng] s u)) ∧
        (n.nstate = .synced → nodeCfg s 3 1 ≠ 0 → modePresent s (field d.paramA 0 3) = false →
          Completes (.strModeReq r tag) s (fun u => Concluded u r d 0x83 0 0 ∧ SameBut [.rng] s u)) ∧
        (n.nstate = .synced → nodeCfg s 3 1 ≠ 0 → modePresent s (field d.paramA 0 3) = true → n.master = false →
          Completes (.strModeReq r tag) s (fun u =>
            u.stra.node = { n with reqSeq := n.reqSeq + 1, reqs := [{ ring := r.val, tag := d.tag, mode := field d.paramA 0 3, seq := (n.reqSeq + 1).toNat }] } ∧ SameBut [.stra] s u))) ∧
      (∀ (r : Fin 64) q qs d, n.reqs = q :: qs → q.ring = r.val → d.tag = q.tag → ({ desc := d, stage := .running } : RunOp) ∈ (s.ringAt r).ops → n.master = false →
        (∀ m p nx sw c c0, n.lastRef = some (m, p, nx, sw, c) → q.sentIn = some c0 → c0 < c →
          (p = true → nx = q.mode → Completes .modeReqAnswer s (fun u => Concluded u r d 0 sw 0 ∧ u.stra.node.reqs = qs)) ∧
          (p = false → Completes .modeReqAnswer s (fun u => Concluded u r d 0x84 0 0 ∧ u.stra.node.reqs = qs))) ∧
        (q.sentIn = none → 64 ≤ q.waited → Completes .modeReqAnswer s (fun u => Concluded u r d 0x86 0 0 ∧ u.stra.node.reqs = qs))))

/-- R275 to R293: Ethernet, TRDP and PTP. -/
def Obligations.EthernetAndTrdp : Prop :=
  ∀ (s : State) (q : EthId), Operational s →
    let P := s.ethPort q
    let s' := 1 - q
    (∀ v, P.link = false → Completes (.ethLinkUp q v) s (fun u => u.ethPort q = { P with link := true, speed := v, linkCnt := P.linkCnt + 1 } ∧
      u.ethPort s' = s.ethPort s' ∧ Reported 0x2002 s u ∧ SameBut (.eth :: reportParts) s u)) ∧
    (P.link = true → Completes (.ethLinkDown q) s (fun u => u.ethPort q = { P with link := false, speed := 0 } ∧
      u.ethPort s' = s.ethPort s' ∧ Reported 0x2001 s u ∧ SameBut (.eth :: reportParts) s u)) ∧
    (∀ φ full f, ethReady s q = false → Completes (.ethFrameReceived q φ full f) s (fun u => u = s)) ∧
    (∀ φ full, ethReady s q = true → Completes (.ethFrameReceived q φ full .badFcs) s (fun u =>
      u.ethPort q = { P with fcsErr := P.fcsErr + 1 } ∧ SameBut [.eth] s u)) ∧
    (∀ φ comId src seq etb op x b, ethReady s q = true → subFor s q comId = some b →
      Completes (.ethFrameReceived q φ true (.pd comId src seq etb op x)) s (fun u => (u.ethPort q).rxDrop = P.rxDrop + 1 ∧
        (u.ethPort q).rxFrames = P.rxFrames ∧ SameBut (.eth :: reportParts) s u)) ∧
    (∀ φ comId src seq etb op x b c, ethReady s q = true → subFor s q comId = some b → inItem? s b.item = some c → receiverOf s b.item = none →
      Completes (.ethFrameReceived q φ false (.pd comId src seq etb op x)) s (fun u => (u.ethPort q).rxFrames = P.rxFrames + 1 ∧
        SameBut [.eth, .cyc] s u ∧ ∃ a, (tgetD u.cyc.items b.item {}).back = some a ∧ a.payload = padTo c.length x ∧
          a.rxTs = compactTs (ingressTime q φ s) ∧
          (a.valid = true ↔ ((b.src1 = 0 ∧ b.src2 = 0) ∨ (b.src1 ≠ 0 ∧ src = b.src1) ∨ (b.src2 ≠ 0 ∧ src = b.src2)) ∧ x.length = b.length ∧
            (etb = 0 ∨ etb = s.cfg.eth.etbTopo) ∧ (op = 0 ∨ op = s.cfg.eth.opTopo)))) ∧
    (∀ (h : BitVec 32) x (r : Fin 64) d, s.eth.sessions.find? (fun y => y.handle == h.toNat) = some x → x.op = some (r.val, d.tag) →
      ({ desc := d, stage := .running } : RunOp) ∈ (s.ringAt r).ops →
      Completes (.mdReplyTimeout h) s (fun u => Concluded u r d 0x84 0 0 ∧ u.eth.sessions = s.eth.sessions.erase x ∧ SameBut [.eth, .rng] s u)) ∧
    (∀ (n : Fin 512) c b, tget? s.cfg.eth.pubs n.val = some c → (tgetD s.eth.pubs n.val {}).atTick = some b → pdDue s n.val c = true →
      gateOpen s (.pd n.val) = true → reportLate (.pd n.val) s = s → testBit c.mask q.val = true → ethReady s q = true →
      Completes (.pdPublicationSend n) s (fun u =>
        let seq := (tgetD s.eth.seqs c.comId (2 ^ 32 - 1) + 1) % 2 ^ 32
        (u.ethPort q).sent = some (.pd c.comId c.dest seq s.cfg.eth.etbTopo s.cfg.eth.opTopo b) ∧ tgetD u.eth.seqs c.comId 0 = seq ∧
        SameBut [.eth] s u)) ∧
    (∀ φ (m : BitVec 7) x, m.toNat ≠ ethCfg s q 4 7 → Completes (.ptpMessageReceived q φ m x) s (fun u => u = s)) ∧
    (∀ φ (m : BitVec 7) seq, ethReady s q = true → ptpRole s q = .master → m.toNat = ethCfg s q 4 7 → P.ptpState = ptpMaster →
      Completes (.ptpMessageReceived q φ m (.delayReq seq)) s (fun u =>
        (u.ethPort q).sent = some (.ptpDelayResp seq (ingressTime q φ s / 2 ^ 24)) ∧ SameBut [.eth] s u)) ∧
    (∀ φ, ethReady s q = true → ptpRole s q = .master → P.ptpState = ptpMaster → timeGood s = true →
      Completes (.ptpMessageSend q φ .announce) s (fun u => (u.ethPort q).sent = some (.ptpAnnounce s.tim.utcOfs s.tim.utcValid) ∧ SameBut [.eth] s u)) ∧
    (∀ (r : Fin 64) (tag : Fin 1024) d φ, startedOp s r tag.val 0x20 = some d → testBit d.flags 2 = false → field d.paramA 0 1 = q.val →
      (ethReady s q = false → Completes (.ethSend r tag φ) s (fun u => Concluded u r d 0x81 0 0 ∧ SameBut [.rng] s u)) ∧
      (ethReady s q = true → testBit d.paramA 1 = false → Completes (.ethSend r tag φ) s (fun u => Concluded u r d 0 0 0 ∧
        (u.ethPort q).sent = some (.frame ((d.withData s).data.take 6 ++ beBytes 6 (vget s.otp.mac q).toNat ++ (d.withData s).data.drop 12)) ∧
        SameBut [.eth, .rng] s u))) ∧
    (∀ (r : Fin 64) (tag : Fin 1024) d, startedOp s r tag.val 0x21 = some d → testBit d.flags 2 = false → Completes (.trdpPdPub r tag) s (fun u =>
      Concluded u r d 0 0 0 ∧ (tgetD u.eth.pubs (field d.paramA 0 9) {}).content = some (d.withData s).data ∧ SameBut [.eth, .rng] s u)) ∧
    (∀ (r : Fin 64) (tag : Fin 1024) d, startedOp s r tag.val 0x22 = some d →
      let b : Subscription := { item := field d.paramA 0 13, port := field d.paramA 16 1, comId := d.paramB, src1 := d.paramC, src2 := d.addr % 2 ^ 32, length := d.length }
      ((512 ≤ s.eth.subs.length ∨ s.cfg.eth.subComIds.contains d.paramB = false) →
        Completes (.trdpPdSub r tag) s (fun u => Concluded u r d 0x82 0 0 ∧ SameBut [.rng] s u)) ∧
      (s.eth.subs.length < 512 → s.cfg.eth.subComIds.contains d.paramB = true →
        s.eth.subs.any (fun x => x.item == b.item || (x.port == b.port && x.comId == b.comId)) = true →
        Completes (.trdpPdSub r tag) s (fun u => Concluded u r d 0x83 0 0 ∧ SameBut [.rng] s u)) ∧
      (s.eth.subs.length < 512 → s.cfg.eth.subComIds.contains d.paramB = true →
        s.eth.subs.any (fun x => x.item == b.item || (x.port == b.port && x.comId == b.comId)) = false →
        Completes (.trdpPdSub r tag) s (fun u => Concluded u r d 0 s.eth.subs.length 0 ∧ u.eth.subs = s.eth.subs ++ [b] ∧ SameBut [.eth, .rng] s u))) ∧
    (∀ (r : Fin 64) (tag : Fin 1024) d, startedOp s r tag.val 0x23 = some d → ethWaits s r tag = false → field d.paramA 0 1 = q.val → field d.paramA 1 2 = 0 →
      ethReady s q = true → Completes (.trdpMdSend r tag) s (fun u => Concluded u r d 0 0 0 ∧
        (u.ethPort q).sent = some (.md 0 d.paramB d.paramC 0 (readBuffer s d.addr d.length)) ∧ SameBut [.eth, .rng] s u)) ∧
    (∀ (r : Fin 64) (tag : Fin 1024) d, startedOp s r tag.val 0x24 = some d → ethWaits s r tag = false → Completes (.trdpMdPost r tag) s (fun u =>
      u.eth.posts = s.eth.posts ++ [⟨r.val, d.tag, d.paramB, d.addr, d.length⟩] ∧ SameBut [.eth] s u)) ∧
    (∀ (r : Fin 64) (tag : Fin 1024) d, startedOp s r tag.val 0x25 = some d → field d.paramA 0 1 = q.val → Completes (.ptpRead r tag) s (fun u =>
      Concluded u r d 0 (P.ptpState.toNat + 16 * bit P.offset.isSome + 256 * P.steps.toNat) (unsigned 64 (P.offset.getD 0)) ∧ SameBut [.rng] s u))

/-- R32, R180, R287 to R293: the MVB port, and arrivals. -/
def Obligations.MvbAndArrivals : Prop :=
  ∀ (s : State), Operational s →
    (∀ (a : BitVec 12) b, reportLate (.mvb a.toNat) s = s → tget? s.mvb.src a.toNat = some b → mvbAnswers s = true → gateOpen s (.mvb a.toNat) = true →
      Completes (.mvbMasterFrame a) s (fun u => u.mvb = { s.mvb with sentPort := some (a.toNat, b) } ∧ SameBut [.mvb] s u)) ∧
    (∀ (a : BitVec 12), reportLate (.mvb a.toNat) s = s → (tget? s.mvb.src a.toNat = none ∨ mvbAnswers s = false ∨ gateOpen s (.mvb a.toNat) = false) →
      Completes (.mvbMasterFrame a) s (fun u => u = s)) ∧
    (∀ ln φ (a : BitVec 12) x item size c, mvbOn s = true → s.mvb.binds.find? (fun b => b.1 == a.toNat) = some (a.toNat, item, size) →
      inItem? s item = some c → receiverOf s item = none → Completes (.mvbSlaveFrame ln φ (.process a x)) s (fun u =>
        ∃ v, (tgetD u.cyc.items item {}).back = some v ∧ v.payload = padTo c.length x ∧ (v.valid = true ↔ x.length = size) ∧
          v.rxTs = compactTs (captureTime φ s) ∧ SameBut [.cyc] s u)) ∧
    (∀ ln φ, mvbOn s = true → Completes (.mvbSlaveFrame ln φ .error) s (fun u => u.mvb = { s.mvb with frameErr := s.mvb.frameErr + 1 } ∧ SameBut [.mvb] s u)) ∧
    (∀ ln φ, mvbOn s = true → Completes (.mvbSlaveFrame ln φ .duplicate) s (fun u => Reported 0x2405 s u ∧ SameBut reportParts s u)) ∧
    (∀ ln φ f, mvbOn s = false → Completes (.mvbSlaveFrame ln φ f) s (fun u => u = s)) ∧
    (∀ b, mvbOn s = false → Completes (.mvbBasicPeriod b) s (fun u => u = s)) ∧
    (∀ (r : Fin 64) d m rest, mvbOn s = true → s.mvb.msgs = m :: rest → (∀ x ∈ rest, x.waited + 1 < 64) → m.ring = r.val → d.tag = m.tag →
      ({ desc := d, stage := .running } : RunOp) ∈ (s.ringAt r).ops → Completes (.mvbBasicPeriod true) s (fun u =>
        u.mvb.sentMsg = some (m.dest, m.data) ∧ u.mvb.msgs = rest.map (fun x => { x with waited := x.waited + 1 }) ∧ Concluded u r d 0 0 0 ∧
        SameBut [.mvb, .rng] s u)) ∧
    (s.mvb.lineB = true → Completes (.mvbLineFailed true) s (fun u => u.mvb = { s.mvb with lineB := false } ∧ Reported 0x2401 s u ∧ SameBut (.mvb :: reportParts) s u)) ∧
    (s.mvb.lineA = true → Completes (.mvbLineFailed false) s (fun u => u.mvb = { s.mvb with lineA := false } ∧ Reported 0x2401 s u ∧ SameBut (.mvb :: reportParts) s u)) ∧
    (s.mvb.lineB = false → Completes (.mvbLineRestored true) s (fun u => u.mvb = { s.mvb with lineB := true } ∧ Reported 0x2402 s u ∧ SameBut (.mvb :: reportParts) s u)) ∧
    (s.mvb.lineA = false → Completes (.mvbLineRestored false) s (fun u => u.mvb = { s.mvb with lineA := true } ∧ Reported 0x2402 s u ∧ SameBut (.mvb :: reportParts) s u)) ∧
    (s.mvb.master = false → mvbOn s = true → mvbCfg s 1 1 = 1 → Completes .mastershipGained s (fun u =>
      u.mvb = { s.mvb with master := true, masterAddr := BitVec.ofNat 12 (mvbCfg s 4 12), gained := s.mvb.gained + 1 } ∧ Reported 0x2403 s u ∧
      SameBut (.mvb :: reportParts) s u)) ∧
    (∀ a, s.mvb.master = true → Completes (.mastershipLost a) s (fun u =>
      u.mvb = { s.mvb with master := false, masterAddr := a, lostCnt := s.mvb.lostCnt + 1 } ∧ Reported 0x2404 s u ∧ SameBut (.mvb :: reportParts) s u)) ∧
    (∀ (r : Fin 64) (tag : Fin 1024) d, startedOp s r tag.val 0x30 = some d → testBit d.flags 2 = false → Completes (.mvbPortWrite r tag) s (fun u =>
      Concluded u r d 0 0 0 ∧ tget? u.mvb.src (field d.paramA 0 12) = some (readBuffer s d.addr d.length) ∧ SameBut [.mvb, .rng] s u)) ∧
    (∀ (r : Fin 64) (tag : Fin 1024) d, startedOp s r tag.val 0x31 = some d →
      ((256 ≤ s.mvb.binds.length ∨ tget? s.cfg.mvb.sink (field d.paramA 0 12) = none) →
        Completes (.mvbPortBind r tag) s (fun u => Concluded u r d 0x82 0 0 ∧ SameBut [.rng] s u)) ∧
      (s.mvb.binds.length < 256 → tget? s.cfg.mvb.sink (field d.paramA 0 12) ≠ none →
        s.mvb.binds.any (fun b => b.1 == field d.paramA 0 12 || b.2.1 == field d.paramA 16 13) = true →
        Completes (.mvbPortBind r tag) s (fun u => Concluded u r d 0x83 0 0 ∧ SameBut [.rng] s u)) ∧
      (s.mvb.binds.length < 256 → tget? s.cfg.mvb.sink (field d.paramA 0 12) ≠ none →
        s.mvb.binds.any (fun b => b.1 == field d.paramA 0 12 || b.2.1 == field d.paramA 16 13) = false →
        Completes (.mvbPortBind r tag) s (fun u => Concluded u r d 0 s.mvb.binds.length 0 ∧
          u.mvb.binds = s.mvb.binds ++ [(field d.paramA 0 12, field d.paramA 16 13, d.length)] ∧ SameBut [.mvb, .rng] s u))) ∧
    (∀ (r : Fin 64) (tag : Fin 1024) d, startedOp s r tag.val 0x32 = some d → s.mvb.msgs.any (fun m => m.ring == r.val && m.tag == tag.val) = false →
      Completes (.mvbMsgSend r tag) s (fun u => u.mvb = { s.mvb with msgs :=
        s.mvb.msgs ++ [{ ring := r.val, tag := d.tag, dest := field d.paramA 0 12, data := readBuffer s d.addr d.length }] } ∧ SameBut [.mvb] s u)) ∧
    (∀ role (i : Fin 8192) v eng ts x cr c, inItem? s i.val = some c → receiverOf s i.val = none → Completes (.itemArrival role i v eng ts x cr) s (fun u =>
      (tgetD u.cyc.items i.val {}).back = some ⟨v, eng, ts, padTo c.length x⟩ ∧ (tgetD u.cyc.items i.val {}).inBurst = cr ∧ SameBut [.cyc] s u)) ∧
    (∀ role (i : Fin 8192) v eng ts x cr, inItem? s i.val = none → receiverOf s i.val = none → Completes (.itemArrival role i v eng ts x cr) s (fun u => u = s))

/-- R299 to R320: the operations of the Col bridge. -/
def Obligations.ColOperations : Prop :=
  ∀ (s : State) (r : Fin 64) (tag : Fin 1024) (d : Desc), Operational s →
    let x := opOffset s d
    let n := windowOf x
    let rd := readPhases (busAddr s x) d.length (winWidth s n)
    let wr := writePhases (busAddr s x) (winWidth s n) (winField s n 3 2) d.data
    let failed (u : State) (p : BusPhase) (k : Nat) : Prop :=
      Concluded u r d (0x83 + k) (busFailure (regionOf x p.addr) d.seq p.be k (testBit d.flags 2) (field d.paramA 0 14)).1
        (busFailure (regionOf x p.addr) d.seq p.be k (testBit d.flags 2) (field d.paramA 0 14)).2
    (startedOp s r tag.val 0x40 = some d →
      (∀ ans, refused s d = true → Completes (.colRead r tag ans) s (fun u => Concluded u r d 0x80 0 0 ∧ Reported 0x2802 s u ∧ SameBut (.rng :: reportParts) s u)) ∧
      (∀ ans, refused s d = false → winField s n 0 1 = 0 → Completes (.colRead r tag ans) s (fun u => Concluded u r d 0x81 0 0 ∧ SameBut [.rng] s u)) ∧
      (∀ ans, refused s d = false → winField s n 0 1 = 1 → busFree s d = false → Completes (.colRead r tag ans) s (fun u => u = s)) ∧
      (∀ ans done, refused s d = false → winField s n 0 1 = 1 → busFree s d = true → runPhases rd ans = (done, none) →
        Completes (.colRead r tag ans) s (fun u => Concluded u r d 0 d.length d.seq ∧
          u.mem = memWrite s.mem (offsetOf d.addr) (readBytes (busAddr s x) d.length (winField s n 3 2) done) ∧ SameBut [.rng, .col, .mem] s u)) ∧
      (∀ ans done p k, refused s d = false → winField s n 0 1 = 1 → busFree s d = true → runPhases rd ans = (done, some (p, k)) →
        Completes (.colRead r tag ans) s (fun u => failed u p k ∧ u.mem = s.mem ∧ Reported 0x2803 s u ∧ SameBut (.rng :: .col :: reportParts) s u))) ∧
    (startedOp s r tag.val 0x41 = some d →
      (refused s d = true → Completes (.colWrite r tag) s (fun u => Concluded u r d 0x80 0 0 ∧ Reported 0x2802 s u ∧ SameBut (.rng :: reportParts) s u)) ∧
      (refused s d = false → winField s n 0 1 = 0 → Completes (.colWrite r tag) s (fun u => Concluded u r d 0x81 0 0 ∧ SameBut [.rng] s u)) ∧
      (refused s d = false → winField s n 0 1 = 1 → s.cls.outEn = false → Completes (.colWrite r tag) s (fun u => Concluded u r d 0x88 0 d.seq ∧ SameBut [.rng] s u)) ∧
      (refused s d = false → winField s n 0 1 = 1 → s.cls.outEn = true → testBit d.flags 2 = false → s.col.posted.length < 64 → s.col.bpRst = false →
        Completes (.colWrite r tag) s (fun u => Concluded u r d 0 0 d.seq ∧
          u.col = { s.col with posted := s.col.posted ++ [⟨r.val, (s.ringAt r).gen, d.tag, field d.paramA 0 14, d.seq, false, x, d.data⟩] } ∧ SameBut [.rng, .col] s u)) ∧
      (refused s d = false → winField s n 0 1 = 1 → s.cls.outEn = true → testBit d.flags 2 = false → 64 ≤ s.col.posted.length →
        Completes (.colWrite r tag) s (fun u => u = s))) ∧
    (startedOp s r tag.val 0x42 = some d →
      (∀ ans, refused s d = true → Completes (.colWriteNp r tag ans) s (fun u => Concluded u r d 0x80 0 0 ∧ Reported 0x2802 s u ∧ SameBut (.rng :: reportParts) s u)) ∧
      (∀ ans, refused s d = false → winField s n 0 1 = 1 → s.cls.outEn = false → Completes (.colWriteNp r tag ans) s (fun u => Concluded u r d 0x88 0 d.seq ∧ SameBut [.rng] s u)) ∧
      (∀ ans done, refused s d = false → winField s n 0 1 = 1 → s.cls.outEn = true → testBit d.flags 2 = false → busFree s d = true → runPhases wr ans = (done, none) →
        Completes (.colWriteNp r tag ans) s (fun u => Concluded u r d 0 d.length d.seq ∧ u.mem = s.mem ∧ SameBut [.rng, .col] s u)) ∧
      (∀ ans done p k, refused s d = false → winField s n 0 1 = 1 → s.cls.outEn = true → testBit d.flags 2 = false → busFree s d = true →
        runPhases wr ans = (done, some (p, k)) → Completes (.colWriteNp r tag ans) s (fun u => failed u p k ∧ u.mem = s.mem ∧ Reported 0x2803 s u))) ∧
    (startedOp s r tag.val 0x43 = some d →
      let m := field d.paramA 0 8
      let item := field d.paramA 16 13
      let ok := ((routeOf s m).kind = 2 ∨ (routeOf s m).kind = 4) ∧ (routeOf s m).rlen = d.length
      (¬ ok → Completes (.colLvBind r tag) s (fun u => Concluded u r d 0x82 0 0 ∧ SameBut [.rng] s u)) ∧
      (ok → s.col.binds.any (fun b => b.1 == m || b.2 == item) = true → Completes (.colLvBind r tag) s (fun u => Concluded u r d 0x83 0 0 ∧ SameBut [.rng] s u)) ∧
      (ok → s.col.binds.any (fun b => b.1 == m || b.2 == item) = false → Completes (.colLvBind r tag) s (fun u =>
        Concluded u r d 0 m 0 ∧ tget? u.col.binds m = some item ∧ SameBut [.rng, .col] s u)))

/-- R297 to R320: what happens at the bridge besides its operations. -/
def Obligations.ColEvents : Prop :=
  ∀ (s : State), Operational s →
    let wp (x : Nat) (data : List Byte) := writePhases (busAddr s x) (winWidth s (windowOf x)) (winField s (windowOf x) 3 2) data
    let posted (u : State) (p : Posted) (off k : Nat) (be : BitVec 4) : Prop :=
      u.col.perrA = BitVec.ofNat 32 (busFailure off p.seq be k p.timed p.route).1 ∧
      u.col.perrB = BitVec.ofNat 64 (busFailure off p.seq be k p.timed p.route).2 ∧ u.col.perrCnt = s.col.perrCnt + 1 ∧
      SameBut (.rng :: .col :: .mem :: reportParts) s u
    (∀ ans p rest, s.col.posted = p :: rest →
      (busUp s = false ∨ completionWritten s p = false → Completes (.postedWriteIssue ans) s (fun u => u = s)) ∧
      (∀ done, busUp s = true → completionWritten s p = true → runPhases (wp p.off p.data) ans = (done, none) →
        Completes (.postedWriteIssue ans) s (fun u => u.col.posted = rest ∧ u.col.perrCnt = s.col.perrCnt ∧ SameBut [.col] s u)) ∧
      (∀ done ph k, busUp s = true → completionWritten s p = true → runPhases (wp p.off p.data) ans = (done, some (ph, k)) →
        Completes (.postedWriteIssue ans) s (fun u => u.col.posted = rest ∧ Reported 0x2804 s u ∧ posted u p (regionOf p.off ph.addr) k ph.be)) ∧
      Completes (.holdTimeout none) s (fun u => u.col.posted = rest ∧ u.col.holdTmoCnt = s.col.holdTmoCnt + 1 ∧ Reported 0x2808 s u ∧
        posted u p (firstPhase s p.off p.data).1 3 (firstPhase s p.off p.data).2)) ∧
    (∀ (r : Fin 64) (tag : Fin 1024) o, (s.ringAt r).ops.find? (fun o => o.desc.tag == tag.val && decide (o.stage = .running)) = some o →
      o.desc.opcode = 0x40 ∨ o.desc.opcode = 0x42 → Completes (.holdTimeout (some (r, tag))) s (fun u =>
        (∃ a b, Concluded u r o.desc 0x87 a b) ∧ u.col.holdTmoCnt = s.col.holdTmoCnt + 1 ∧ u.mem = s.mem ∧ Reported 0x2808 s u ∧
        SameBut (.rng :: .col :: reportParts) s u)) ∧
    (∀ (n : Fin 256) ans done e item c, routeDue s n.val 2 (s.tick + 1) = some e →
      let ps := readPhases (busAddr s e.waddr) e.rlen (winWidth s (windowOf e.waddr))
      (tget? s.col.binds n.val = some item → inItem? s item = some c → receiverOf s item = none → runPhases ps ans = (done, none) →
        Completes (.latestValueRead n ans) s (fun u => (tgetD u.cyc.items item {}).back =
            some ⟨true, 0, s.ts, padTo c.length (readBytes (busAddr s e.waddr) e.rlen (winField s (windowOf e.waddr) 3 2) done)⟩ ∧
          u.col.nextSeq = s.col.nextSeq + 1 ∧ u.col.lvFailCnt = s.col.lvFailCnt ∧ SameBut [.col, .cyc] s u)) ∧
      (∀ f, tget? s.col.binds n.val = some item → inItem? s item = some c → receiverOf s item = none → runPhases ps ans = (done, some f) →
        Completes (.latestValueRead n ans) s (fun u => (tgetD u.cyc.items item {}).back = some ⟨false, 0, s.ts, padTo c.length []⟩ ∧
          u.col.nextSeq = s.col.nextSeq + 1 ∧ u.col.lvFailCnt = s.col.lvFailCnt + 1 ∧ Reported 0x2805 s u)) ∧
      Completes (.privilegedOverrun n ans) s (fun u => u.col.lvOvrCnt = s.col.lvOvrCnt + 1 ∧ u.col.nextSeq = s.col.nextSeq + 1 ∧
        Reported 0x2806 s u ∧ SameBut (.col :: reportParts) s u)) ∧
    (∀ (n : Fin 256) ans done e v, routeDue s n.val 3 s.tick = some e → releasedValue s e.outItem = some v →
      reportLate (.route n.val) s = s →
      (s.cls.outEn = false → Completes (.latestValueWrite n ans) s (fun u => u.col = { s.col with served := nsAdd s.col.served n.val } ∧ SameBut [.col] s u)) ∧
      (s.cls.outEn = true → runPhases (wp e.waddr (padTo e.rlen v)) ans = (done, none) →
        Completes (.latestValueWrite n ans) s (fun u => u.col.phases = (wp e.waddr (padTo e.rlen v)).take done.length ∧
          u.col.nextSeq = s.col.nextSeq + 1 ∧ SameBut [.col] s u))) ∧
    (∀ addr x b n e item c, let base := regField s (COL + 0x8) 20 12 * 2 ^ 20
      regField s (COL + 0x8) 0 1 = 1 → base ≤ addr → addr < base + 2 ^ 20 →
      Completes (.inboundWrite addr none x) s (fun u => Reported 0x2807 s u ∧ SameBut (.col :: reportParts) s u) ∧
      (inboundRoute s (addr - base) b.length = none → Completes (.inboundWrite addr (some b) x) s (fun u =>
        u.col = { s.col with xingCnt := s.col.xingCnt + BitVec.ofNat 16 (bit x) } ∧ Reported 0x2807 s u ∧ SameBut (.col :: reportParts) s u)) ∧
      (inboundRoute s (addr - base) b.length = some (n, e) → tget? s.col.binds n = some item →
        let j := addr - base - e.waddr
        let m := memWrites (tgetD s.col.staged n []) (b.zipIdx.map (fun p => (laneSwap e.inswap (j + p.2), p.1)))
        (j + b.length ≠ e.rlen → Completes (.inboundWrite addr (some b) false) s (fun u => u.col = { s.col with staged := tset s.col.staged n m } ∧ SameBut [.col] s u)) ∧
        (j + b.length = e.rlen → inItem? s item = some c → receiverOf s item = none → Completes (.inboundWrite addr (some b) x) s (fun u =>
          (tgetD u.cyc.items item {}).back = some ⟨true, 0, s.ts, padTo c.length (memRead m 0 e.rlen)⟩ ∧ SameBut [.col, .cyc] s u)))) ∧
    (∀ l c addr, inWindows addr = true → (vget (s.lane l).cores c).fetching = true →
      Completes (.directAccess l c addr) s (fun u => Reported 0x2801 s u ∧ SameBut reportParts s u)) ∧
    (∀ (w : Fin 16), (s.col.posted.any (fun p => windowOf p.off == w.val) = true → Completes (.windowSettingApply w) s (fun u => u = s)) ∧
      (s.col.posted.any (fun p => windowOf p.off == w.val) = false → Completes (.windowSettingApply w) s (fun u =>
        (vget u.col.win w).setting = regGet s (COL + 0x100 + 8 * w.val) ∧ (∀ v, v ≠ w → vget u.col.win v = vget s.col.win v) ∧ SameBut [.col] s u))) ∧
    (∀ b, s.col.bpRst = true → Completes (.bpRst b) s (fun u => u = s)) ∧
    (s.col.bpRst = false → Completes (.bpRst none) s (fun u => u.col.bpRst = true ∧ u.col.posted = [] ∧
      u.col.perrCnt = s.col.perrCnt + BitVec.ofNat 16 s.col.posted.length ∧ SameBut (.rng :: .col :: .mem :: reportParts) s u)) ∧
    Completes .bpRstEnd s (fun u => u.col = { s.col with bpRst := false } ∧ SameBut [.col] s u)

/-- R325 to R331: the operations of the check units. -/
def Obligations.CheckOperations : Prop :=
  ∀ (s : State) (r : Fin 64) (tag : Fin 1024) (u : Fin 16), Operational s →
    (∀ d opcode i, (opcode, i) ∈ [(0x82, Instr.chkCompute r tag u), (0x80, .chkAppend r tag u), (0x81, .chkCheckStrip r tag u)] →
      startedOp s r tag.val opcode = some d → unitFor s 0 = none → Completes i s (fun t => Concluded t r d 0x81 0 0 ∧ SameBut [.rng] s t)) ∧
    (∀ n, unitFor s 0 = some n → (vget s.chk.unit u).role = 0 → (vget s.chk.unit u).failed = false →
      let counted (t : State) : Prop := t.chk = { s.chk with unit := vmod s.chk.unit u (fun x => { x with ops := x.ops + 1 }) }
      (∀ d, startedOp s r tag.val 0x82 = some d →
        let p := chkParams d
        Completes (.chkCompute r tag u) s (fun t => Concluded t r d 0 (unitCycles (if p.noFold then 0 else 8) d.length (feedWidth p.feed))
          (chkValue p (readBuffer s d.addr d.length)) ∧ counted t ∧ SameBut [.rng, .chk] s t)) ∧
      (∀ d, startedOp s r tag.val 0x80 = some d →
        let p := chkParams d
        let data := readBuffer s d.addr d.length
        Completes (.chkAppend r tag u) s (fun t => Concluded t r d 0 (unitCycles (if p.noFold then 0 else 8) d.length (feedWidth p.feed)) (chkValue p data) ∧
          t.mem = memWrite s.mem p.dest (data ++ leBytes (checkLen p.alg) (chkValue p data)) ∧ counted t ∧ SameBut [.rng, .chk, .mem] s t)) ∧
      (∀ d, startedOp s r tag.val 0x81 = some d →
        let p := chkParams d
        let n := d.length - checkLen p.alg
        let data := (readBuffer s d.addr d.length).take n
        let own := ofLe ((readBuffer s d.addr d.length).drop n)
        (own = chkValue p data → Completes (.chkCheckStrip r tag u) s (fun t => Concluded t r d 0 n (chkValue p data) ∧
          t.mem = memWrite s.mem p.dest data ∧ counted t ∧ SameBut [.rng, .chk, .mem] s t)) ∧
        (own ≠ chkValue p data → Completes (.chkCheckStrip r tag u) s (fun t => Concluded t r d 0x80 0 (chkValue p data) ∧ Reported 0x2C07 s t ∧
          counted t ∧ SameBut (.rng :: .chk :: reportParts) s t)))) ∧
    Completes (.unitSelfTest u true) s (fun t => vget t.chk.unit u = { vget s.chk.unit u with stOk := true } ∧
      (∀ v, v ≠ u → vget t.chk.unit v = vget s.chk.unit v) ∧ SameBut [.chk] s t) ∧
    Completes (.unitSelfTest u false) s (fun t => vget t.chk.unit u = { vget s.chk.unit u with stOk := false, failed := true } ∧
      (∀ v, v ≠ u → vget t.chk.unit v = vget s.chk.unit v) ∧ Reported 0x2C06 s t ∧ SameBut (.chk :: reportParts) s t)

/-- R344 to R373: what the pulse inputs, the marks and the commands do. -/
def Obligations.MotionInputs : Prop :=
  ∀ (s : State) (l : LaneId), Operational s →
    let L := s.lane l
    let lv := vget s.mot.level l
    let quiet := ∀ m, (vget L.mot.mon m).state ≠ .armed
    let sees (i : PulseId) (rise : Bool) : Prop := lv.getLsbD i.val ≠ rise ∧ (rise = true → s.mot.fault.getLsbD i.val = false) ∧
      unitRuns L = true ∧ captureValid s = true
    (∀ m (op : Fin 4) set, (L.mot.waitCopy = true ∨ (op ≠ 1 ∧ op ≠ 2) → Completes (.motCmd l m op set) s (fun u => u = s)) ∧
      (L.mot.waitCopy = false → (op = 1 ∨ op = 2) →
        let apply := L.reg (MOT + 4)
        let late := sdiff 32 apply.toNat (compactTick s.tick) ≤ 0 ∨ 16 ≤ L.mot.pend.length
        (late → Completes (.motCmd l m op set) s (fun u => (u.lane l).mot = { L.mot with lateCnt := L.mot.lateCnt + 1 } ∧ Reported 0x3002 s u ∧
          (∀ k, k ≠ l → (u.lane k).mot = (s.lane k).mot) ∧ SameBut (.lanes :: reportParts) s u)) ∧
        (¬ late → Completes (.motCmd l m op set) s (fun u => (u.lane l).mot = { L.mot with pend := L.mot.pend ++ [⟨apply, m, op.val == 1, set⟩] } ∧
          (∀ k, k ≠ l → u.lane k = s.lane k) ∧ SameBut [.lanes] s u)))) ∧
    (∀ (i j : PulseId) rise phase d, quiet → sees i rise → (pinCfg s i.val).mode ≠ 2 →
      (∀ k : PulseId, (srcInputs s k.val).contains i.val = decide (k = j)) → edgeDelta s j.val i.val rise (setLevel lv i.val rise) = some d →
      Completes (.pulseEdge l [⟨i, rise, phase⟩]) s (fun u =>
        u.lane l = { L with mot := { L.mot with
          src := vmod L.mot.src j (fun S => { S with count := S.count + BitVec.ofInt 32 d, standstill := false, reverse := decide (d < 0) }) } } ∧
        (∀ k, k ≠ l → u.lane k = s.lane k) ∧
        u.mot = { s.mot with level := vset s.mot.level l (setLevel lv i.val rise), gather := addCapture i rise ⟨l.val, capTs s phase, s.tim.cycles⟩ s.mot.gather } ∧
        SameBut [.lanes, .mot] s u)) ∧
    (∀ (i : PulseId) phase, let p := pinCfg s i.val
      (p.mode ≠ 2 → ∀ others, Completes (.markEdge l i phase others) s (fun u => u = s)) ∧
      (p.mode = 2 → sees i (!p.markFall) → (∀ k : PulseId, (srcInputs s k.val).contains i.val = false) →
        Completes (.markEdge l i phase []) s (fun u =>
          u.lane l = { L with mot := { L.mot with mark := vmod L.mot.mark i (fun k => if markHeld s L i.val then { k with seen := true }
            else { k with count := (L.source p.markSrc).count, latched := true }) } } ∧ (∀ k, k ≠ l → u.lane k = s.lane k) ∧ SameBut [.lanes, .mot] s u))) ∧
    (∀ j : PulseId, unitRuns L = true → srcMode s j.val ≠ 0 → Completes (.standstillTimeout l j) s (fun u =>
      u.lane l = { L with mot := { L.mot with src := vmod L.mot.src j (fun S => { S with standstill := true }) } } ∧
      (∀ k, k ≠ l → u.lane k = s.lane k) ∧ SameBut [.lanes] s u)) ∧
    (∀ (r : Fin 64) (tag : Fin 1024) d, startedOp s r tag.val 0x70 = some d →
      let run : CalRun := { ring := r, tag := d.tag, src := field d.paramA 0 3, in1 := field d.paramA 3 3, in2 := field d.paramA 6 3, dist := d.paramB, until_ := s.tick + d.paramC }
      (s.mot.cal = none → Completes (.motCalRun r tag) s (fun u => u.mot = { s.mot with cal := some run } ∧ SameBut [.mot] s u)) ∧
      (s.mot.cal.isSome = true → Completes (.motCalRun r tag) s (fun u => Concluded u r d 0x84 0 0 ∧ Reported 0x3008 s u ∧ SameBut (.rng :: reportParts) s u))) ∧
    (∀ i : PulseId, (s.mot.gather.find? (fun g => g.input == i) = none → Completes (.edgeMerge i) s (fun u => u = s)) ∧
      (∀ g a j d, s.mot.gather.find? (fun g => g.input == i) = some g → agreedCap g.caps = some a → s.mot.cal = none → (pinCfg s i.val).mode ≠ 2 →
        srcOf s i.val = some j → edgeDelta s j i.val g.rise (setLevel s.mot.agLevel i.val g.rise) = some d → j < 8 →
        (s.mot.agree j).recent.find? (fun x => x.cyc == a.cyc && x.input != i.val) = none →
        (disagreeing s g a = [] → Completes (.edgeMerge i) s (fun u => u.mot.gather = s.mot.gather.erase g ∧
          vget u.mot.edges i = vget s.mot.edges i + 1 ∧ (u.mot.agree j).count = (s.mot.agree j).count + BitVec.ofInt 32 d ∧
          (u.mot.agree j).tLast = some a.ts ∧ SameBut [.lanes, .mot] s u ∧
          ∀ k, unitRuns (s.lane k) = true → let q := vget (s.lane k).tsu i
            vget (u.lane k).tsu i = if q.queue.length < 64 then
                { queue := q.queue ++ [⟨a.ts, i.val, g.rise, q.gap, vget s.mot.edges i + 1⟩], edgeCnt := vget s.mot.edges i + 1, gap := false }
              else { q with edgeCnt := vget s.mot.edges i + 1, gap := true })) ∧
        (disagreeing s g a ≠ [] → Completes (.edgeMerge i) s (fun u => Reported 0x3003 s u ∧
          (u.mot.agree j).count = (s.mot.agree j).count + BitVec.ofInt 32 d ∧ SameBut (.lanes :: .mot :: reportParts) s u)))) ∧
    (∀ i : PulseId, ((pinCfg s i.val).current = false → ∀ b, Completes (.pulseInputFault i b) s (fun u => u = s)) ∧
      ((pinCfg s i.val).current = true → s.mot.fault.getLsbD i.val = false → Completes (.pulseInputFault i true) s (fun u =>
        u.mot.fault = setLevel s.mot.fault i.val true ∧ Reported 0x3007 s u ∧
        ∀ k, vget (u.lane k).mot.faultCnt i = vget (s.lane k).mot.faultCnt i + 1)) ∧
      ((pinCfg s i.val).current = true → s.mot.fault.getLsbD i.val = true → Completes (.pulseInputFault i false) s (fun u =>
        u.mot = { s.mot with fault := setLevel s.mot.fault i.val false } ∧ SameBut [.mot] s u)))

/-- R383 to R399: the analog chain. -/
def Obligations.AnalogChain : Prop :=
  ∀ (s : State) (c : Fin 16), Operational s →
    let A := s.ana
    let a := vget A.ch c
    let k := anaCfg s c
    let reset (src : Nat) (u : State) : Prop :=
      u.ana.syncCnt = A.syncCnt + 1 ∧ u.ana.lastSrc = BitVec.ofNat 4 (2 ^ src) ∧ u.ana.syncTs = s.ts ∧ Reported 0x3404 s u ∧
      ∀ n, vget u.ana.ch n = { vget A.ch n with
        settle := ((s.tim.now : Int) - anaDelay (anaCfg s n), (s.tim.now : Int) + anaDelay (anaCfg s n)) :: (vget A.ch n).settle,
        coarseFrom := s.tim.now + 1600 * nsUnits }
    (∀ rise phase, let enabled := regField s (ANA + 4) 0 1 = 1 ∧ rise = !(regField s (ANA + 4) 1 1 == 1)
      (¬ enabled → Completes (.syncPinEdge rise phase) s (fun u => u.ana = { A with pinTs := capTs s phase } ∧ SameBut [.ana] s u)) ∧
      (enabled → A.resetCyc = some s.tim.cycles → Completes (.syncPinEdge rise phase) s (fun u =>
        u.ana = { A with pinTs := capTs s phase, lastSrc := A.lastSrc ||| 1 } ∧ SameBut [.ana] s u)) ∧
      (enabled → A.resetCyc ≠ some s.tim.cycles → Completes (.syncPinEdge rise phase) s (fun u =>
        u.ana.pinTs = capTs s phase ∧ reset 0 u ∧ SameBut (.ana :: reportParts) s u))) ∧
    (∀ (r : Fin 64) (tag : Fin 1024) d, startedOp s r tag.val 0x60 = some d → testBit d.flags 2 = false → A.resetCyc ≠ some s.tim.cycles →
      Completes (.anaSync r tag) s (fun u => Concluded u r d 0 0 s.ts.toNat ∧ reset 1 u ∧ SameBut (.ana :: .rng :: reportParts) s u)) ∧
    (∀ (r : Fin 64) (tag : Fin 1024) d, startedOp s r tag.val 0x61 = some d → let sel := BitVec.ofNat 3 (field d.paramA 0 3)
      ((anaCfg s 15).auxEn = false → Completes (.anaAuxSel r tag) s (fun u => Concluded u r d 0x80 0 0 ∧ SameBut [.rng] s u)) ∧
      ((anaCfg s 15).auxEn = true → testBit d.flags 2 = false → A.auxSel = sel → Completes (.anaAuxSel r tag) s (fun u =>
        Concluded u r d 0 1 0 ∧ SameBut [.rng] s u)) ∧
      ((anaCfg s 15).auxEn = true → testBit d.flags 2 = false → A.auxSel ≠ sel → Completes (.anaAuxSel r tag) s (fun u =>
        Concluded u r d 0 0 s.ts.toNat ∧ u.ana.auxSel = sel ∧ u.ana.swCnt = A.swCnt + 1 ∧
        (vget u.ana.ch 15).coarseFrom = s.tim.now + 21600 * nsUnits ∧ (∀ n, n ≠ 15 → vget u.ana.ch n = vget A.ch n) ∧ SameBut [.ana, .rng] s u))) ∧
    (∀ first raws, let n := anaRate k * anaBlock k
      let whole := anaOn k = true ∧ first % anaBlock k = 0 ∧ raws.length = n ∧ s.tick + 1 = first + anaBlock k - 1 + anaLatency k ∧ noTickEvent s first (anaBlock k) = false
      let w (i : Nat) := sampleWord s c (sampleInstant k first i) (raws.getD i 0)
      (¬ whole → Completes (.analogBlockWrite c first raws) s (fun u => u = s)) ∧
      (∀ ic, whole → inItem? s k.item = some ic → Completes (.analogBlockWrite c first raws) s (fun u =>
        (∃ b, (tgetD u.cyc.items k.item {}).back = some b ∧ b.rxTs = compactTs (first * tickUnits) ∧
          (b.valid = true ↔ ∃ i, i < n ∧ (w i).2.1 = false ∧ (w i).2.2.2.2 = false) ∧
          ∃ aux, b.payload = padTo ic.length (leBytes 4 (compactTick first) ++ leBytes 1 c.val ++ leBytes 1 (k.orCode + 4 * min 6 k.blkLog2) ++
            leBytes 1 aux ++ zeros 1 ++ (List.range n).flatMap (fun i => leBytes 4 (w i).1))) ∧
        (vget u.ana.ch c).ovrCnt = a.ovrCnt + BitVec.ofNat 16 ((List.range n).filter (fun i => (w i).2.2.1)).length ∧
        SameBut (.cyc :: .ana :: reportParts) s u))) ∧
    (∀ b, a.modFault = b → Completes (.modulatorFault c b) s (fun u => u = s)) ∧
    (a.modFault = false → Completes (.modulatorFault c true) s (fun u => (vget u.ana.ch c).modFault = true ∧ u.ana.modFltCnt = A.modFltCnt + 1 ∧
      (∀ n, n ≠ c → vget u.ana.ch n = vget A.ch n) ∧ (a.modTick = some s.tick → SameBut [.ana] s u) ∧
      (a.modTick ≠ some s.tick → Reported 0x3402 s u ∧ SameBut (.ana :: reportParts) s u))) ∧
    (a.modFault = true → Completes (.modulatorFault c false) s (fun u => (vget u.ana.ch c).modFault = false ∧ u.ana.modFltCnt = A.modFltCnt ∧
      (∀ n, n ≠ c → vget u.ana.ch n = vget A.ch n) ∧ SameBut [.ana] s u)) ∧
    (∀ v : BitVec 12, let word := ANA + 0x110 + 0x20 * c.val
      let low := decide (signed 12 v.toNat < signed 12 (regField s word 0 12))
      let high := decide (signed 12 (regField s word 16 12) < signed 12 v.toNat)
      let rises := bit (low && !a.coarseLow) + bit (high && !a.coarseHigh)
      (regField s word 31 1 = 0 → Completes (.coarseLimit c v) s (fun u => vget u.ana.ch c = { a with coarse := v } ∧
        (∀ n, n ≠ c → vget u.ana.ch n = vget A.ch n) ∧ SameBut [.ana] s u)) ∧
      (regField s word 31 1 = 1 → Completes (.coarseLimit c v) s (fun u => (vget u.ana.ch c).coarse = v ∧ (vget u.ana.ch c).coarseLow = low ∧
        (vget u.ana.ch c).coarseHigh = high ∧ u.ana.coarseCnt = A.coarseCnt + BitVec.ofNat 16 rises ∧ (∀ n, n ≠ c → vget u.ana.ch n = vget A.ch n) ∧
        (rises = 0 ∨ a.coarseTick = some s.tick → SameBut [.ana] s u) ∧
        (rises ≠ 0 → a.coarseTick ≠ some s.tick → Reported 0x3403 s u ∧ SameBut (.ana :: reportParts) s u)))) ∧
    (∀ (r : Fin 64) (tag : Fin 1024) values d, startedOp s r tag.val 0x62 = some d → Completes (.anaCoarseRead r tag values) s (fun u =>
      Concluded u r d 0 0 s.ts.toNat ∧ (∀ n, (vget u.ana.ch n).coarse = vget values n) ∧
      u.mem = memWrite s.mem (offsetOf d.addr) (allAna.flatMap (fun n =>
        if testBit d.paramA n.val then leBytes 2 ((vget values n).toNat + 4096 * bit (coarseValid s n) + 8192) else zeros 2)) ∧
      SameBut (.ana :: .mem :: .rng :: reportParts) s u))

/-- R408 to R434: the commands of the field channels and voted outputs. -/
def Obligations.FieldCommands : Prop :=
  ∀ (s : State), Operational s →
    (∀ (r : Fin 64) (tag : Fin 1024) d, startedOp s r tag.val 0x50 = some d →
      let g := field d.paramA 0 3
      let mask := field d.paramA 8 8
      let bad := notOutputs s g mask
      (bad ≠ 0 → Completes (.fldOutSet r tag) s (fun u => Concluded u r d 0x80 bad 0 ∧ SameBut [.rng] s u)) ∧
      (bad = 0 → testBit d.flags 2 = false → g < 6 → Completes (.fldOutSet r tag) s (fun u => Concluded u r d 0 0 0 ∧
        (∀ n : FldId, u.fld.cmd.getLsbD n.val = if n.val / 8 = g ∧ testBit mask (n.val % 8) = true then testBit (field d.paramA 16 8) (n.val % 8) else s.fld.cmd.getLsbD n.val) ∧
        (∀ n : FldId, vget u.fld.ch n = if u.fld.cmd.getLsbD n.val = true ∧ s.fld.cmd.getLsbD n.val = false then { vget s.fld.ch n with latched := false } else vget s.fld.ch n) ∧
        SameBut [.fld, .rng] s u))) ∧
    (∀ (r : Fin 64) (tag : Fin 1024) d, startedOp s r tag.val 0x51 = some d → testBit d.flags 2 = false → Completes (.voSet r tag) s (fun u =>
      Concluded u r d 0 0 0 ∧ u.fld = { s.fld with voCmd := u.fld.voCmd } ∧ SameBut [.fld, .rng] s u ∧
      ∀ v : VoId, u.fld.voCmd.getLsbD v.val = if testBit (field d.paramA 0 8) v.val then testBit (field d.paramA 8 8) v.val else s.fld.voCmd.getLsbD v.val)) ∧
    (∀ (r : Fin 64) (tag : Fin 1024) d, startedOp s r tag.val 0x54 = some d →
      let bad := linkedMonitors s d.paramA
      (bad ≠ 0 → Completes (.cfmSet r tag) s (fun u => Concluded u r d 0x81 0 bad ∧ SameBut [.rng] s u)) ∧
      (bad = 0 → testBit d.flags 2 = false → Completes (.cfmSet r tag) s (fun u => Concluded u r d 0 0 0 ∧ u.fld = { s.fld with cfm := u.fld.cfm } ∧
        SameBut [.fld, .rng] s u ∧ ∀ f : Fin 32, vget u.fld.cfm f =
          if testBit d.paramA f.val then { vget s.fld.cfm f with command := testBit d.paramB f.val } else vget s.fld.cfm f))) ∧
    (∀ (r : Fin 64) (tag : Fin 1024) readings start d, startedOp s r tag.val 0x52 = some d → let g := field d.paramA 0 3
      Completes (.fldDiagRead r tag readings start) s (fun u =>
        Concluded u r d 0 (maskOf ((List.range 8).filter (fun k => let c := vget s.fld.ch (groupCh g k)
          c.ovl || c.owOn || c.owOff || c.ot || c.ext || c.latched))) start.toNat ∧
        u.mem = memWrite s.mem (offsetOf d.addr) ((List.range 8).flatMap (fun k => diagBytes s (groupCh g k) (readings.getD k default))) ∧
        SameBut [.mem, .rng] s u)) ∧
    (∀ (r : Fin 64) (tag : Fin 1024) d, startedOp s r tag.val 0x53 = some d →
      let g := field d.paramA 0 3
      let mask := field d.paramA 8 8
      s.fld.learn.any (fun x => x.ring == r && x.tag == d.tag) = false → Completes (.fldBaselineLearn r tag) s (fun u =>
        u.fld = { s.fld with learn := s.fld.learn ++ [⟨r, d.tag, g, mask, learnable s g mask, field d.paramB 0 16, field d.paramB 0 16, List.replicate 8 0⟩] } ∧
        SameBut [.fld] s u)) ∧
    (∀ (n : FldId) (b : BitVec 12), Completes (.fldBaseWrite n b) s (fun u =>
      vget u.fld.ch n = { vget s.fld.ch n with base := b.toNat * 4096, learned := b.toNat, baseLim := false } ∧
      (∀ m, m ≠ n → vget u.fld.ch m = vget s.fld.ch m) ∧ u.fld = { s.fld with ch := u.fld.ch } ∧ SameBut [.fld] s u)) ∧
    (∀ (n : FldId) (mean : Nat), let c := vget s.fld.ch n
      let runs := (fldCfg s n).trackEn = true ∧ isOutput s n = true ∧ s.fld.cmd.getLsbD n.val = true ∧ c.learned ≠ 0
      let b := trackBase c.base c.learned (mean * 4096)
      let lim := decide (b = c.learned * 3072 ∨ b = c.learned * 5120)
      (¬ runs → Completes (.baselineTrack n mean) s (fun u => u = s)) ∧
      (runs → Completes (.baselineTrack n mean) s (fun u => vget u.fld.ch n = { c with base := b, baseLim := lim } ∧
        c.learned * 3072 ≤ b ∧ b ≤ c.learned * 5120 ∧ (∀ m, m ≠ n → vget u.fld.ch m = vget s.fld.ch m) ∧
        (lim = true → c.baseLim = false → Reported 0x3805 s u ∧ SameBut (.fld :: reportParts) s u) ∧
        (lim = false ∨ c.baseLim = true → SameBut [.fld] s u)))) ∧
    (∀ m : BitVec 8, Completes (.fldVoClr m) s (fun u => u.fld = { s.fld with
      voFault := s.fld.voFault &&& ~~~m, stuck := s.fld.stuck &&& ~~~m, readback := s.fld.readback &&& ~~~m } ∧ SameBut [.fld] s u))

/-- R405 to R423: what the field engine finds. -/
def Obligations.FieldFindings : Prop :=
  ∀ (s : State) (n : FldId) (g : Fin 6) (v : VoId), Operational s →
    let c := vget s.fld.ch n
    let others (u : State) : Prop := ∀ m, m ≠ n → vget u.fld.ch m = vget s.fld.ch m
    let shows (u : State) (c' : FldCh) : Prop := vget u.fld.ch n = c' ∧ others u
    let edge (i : Instr) (code : Nat) (was now : Bool) (c' : FldCh) : Prop := Completes i s (fun u => shows u c' ∧
      (now = true → was = false → Reported code s u ∧ SameBut (.fld :: reportParts) s u) ∧ (now = false ∨ was = true → SameBut [.fld] s u))
    (∀ b, let takes := ((fldCfg s n).mode = 1 ∨ (fldCfg s n).mode = 2) ∧ s.fld.level.getLsbD n.val ≠ b
      (¬ takes → Completes (.fieldInputLevelChange n b) s (fun u => u = s)) ∧
      (takes → Completes (.fieldInputLevelChange n b) s (fun u => u.fld.level.getLsbD n.val = b ∧ u.fld.changed.getLsbD n.val = true ∧
        (∀ m : FldId, m ≠ n → u.fld.level.getLsbD m.val = s.fld.level.getLsbD m.val ∧ u.fld.changed.getLsbD m.val = s.fld.changed.getLsbD m.val) ∧
        u.fld = { s.fld with level := u.fld.level, changed := u.fld.changed } ∧ SameBut [.fld] s u))) ∧
    (∀ b, isOutput s n = false ∨ c.ovl = b → Completes (.overload n b) s (fun u => u = s)) ∧
    (isOutput s n = true → c.ovl = false → Completes (.overload n true) s (fun u =>
      shows u { c with ovl := true, latched := c.latched || (fldCfg s n).latchOff } ∧ u.fld.ovlCnt = s.fld.ovlCnt + 1 ∧
      Reported 0x3801 s u ∧ SameBut (.fld :: reportParts) s u)) ∧
    (isOutput s n = true → c.ovl = true → Completes (.overload n false) s (fun u => shows u { c with ovl := false } ∧ SameBut [.fld] s u)) ∧
    (∀ b, (isOutput s n = false ∨ c.ot = b → Completes (.overTemperatureSwitch n b) s (fun u => u = s)) ∧
      (isOutput s n = true → c.ot ≠ b → edge (.overTemperatureSwitch n b) 0x3802 (!b) b { c with ot := b })) ∧
    (∀ x, let runs := isOutput s n = true ∧ conducts s n = true ∧ s.fld.supLow.getLsbD (groupOf n).val = false
      (¬ runs → Completes (.openWire n true x) s (fun u => u = s)) ∧
      (runs → edge (.openWire n true x) 0x3803 c.owOn (belowOpenWire s n x) { c with owOn := belowOpenWire s n x })) ∧
    (∀ x, (offTests s n = false ∨ (fldCfg s n).owOffEn = false → Completes (.openWire n false x) s (fun u => u = s)) ∧
      (offTests s n = true → (fldCfg s n).owOffEn = true → edge (.openWire n false x) 0x3803 c.owOff (decide (8000 < x)) { c with owOff := decide (8000 < x) })) ∧
    (∀ x, (offTests s n = false → Completes (.externallyDriven n x) s (fun u => u = s)) ∧
      (offTests s n = true → edge (.externallyDriven n x) 0x3804 c.ext (decide (11000 < x)) { c with ext := decide (11000 < x) })) ∧
    (∀ b, Completes (.groupOverload g b) s (fun u => u.fld.grpOvl.getLsbD g.val = b ∧
      (b = true → s.fld.grpOvl.getLsbD g.val = false → Reported 0x3806 s u) ∧ SameBut (.fld :: reportParts) s u)) ∧
    Completes (.groupSupplyLow g) s (fun u => u.fld.supLow.getLsbD g.val = true ∧
      (s.fld.supLow.getLsbD g.val = false → Reported 0x3807 s u) ∧ SameBut (.fld :: reportParts) s u) ∧
    Completes (.groupSupplyRestored g) s (fun u => u.fld.supLow.getLsbD g.val = false ∧
      (∀ h : Fin 6, h ≠ g → u.fld.supLow.getLsbD h.val = s.fld.supLow.getLsbD h.val) ∧ SameBut [.fld] s u) ∧
    (∀ l x y i, let path := allLanes.all (fun m => m == l || columnCmd s m v)
      let runs := s.cfg.fld.testEn.getLsbD v.val = true ∧ matrixOn s v = true ∧ s.vot.mode = .triple
      let found := runs ∧ (x = true ∨ (y = true ∧ path = true ∧ 50 < i))
      (¬ found → Completes (.voColumnTest v l x y i) s (fun u => u = s)) ∧
      (found → Completes (.voColumnTest v l x y i) s (fun u => u.fld.stuck.getLsbD v.val = true ∧ u.fld.voFault.getLsbD v.val = true ∧
        (s.fld.stuck.getLsbD v.val = false → Reported 0x3808 s u) ∧ SameBut (.fld :: reportParts) s u))) ∧
    (∀ b, (matrixOn s v = b → Completes (.voReadbackFault v b) s (fun u => u.fld.readback.getLsbD v.val = false ∧ u.fld.voSense.getLsbD v.val = b ∧
        u.fld.voFault = s.fld.voFault ∧ SameBut [.fld] s u)) ∧
      (matrixOn s v ≠ b → s.cls.outEn = true → Completes (.voReadbackFault v b) s (fun u => u.fld.readback.getLsbD v.val = true ∧
        u.fld.voFault.getLsbD v.val = true ∧ u.fld.voSense.getLsbD v.val = b ∧
        (s.fld.readback.getLsbD v.val = false → Reported 0x3809 s u) ∧ SameBut (.fld :: reportParts) s u)) ∧
      (matrixOn s v ≠ b → s.cls.outEn = false → Completes (.voReadbackFault v b) s (fun u => u.fld.readback = s.fld.readback ∧
        u.fld.voFault = s.fld.voFault ∧ u.fld.voSense.getLsbD v.val = b ∧ SameBut [.fld] s u))) ∧
    (∀ (sense : BitVec 8) i ic, s.cfg.fld.item = some i → inItem? s i = some ic → s.cfg.fld.cfm = [] → Completes (.fieldSampleInstant sense) s (fun u =>
      u.fld = { s.fld with voSense := sense, changed := 0, lastEval := s.tick } ∧ (∃ b, (tgetD u.cyc.items i {}).back = some b ∧ b.valid = true ∧
        b.rxTs = s.ts ∧ b.engBits = BitVec.ofNat 8 (bit (s.fld.supLow != 0) + 2 * bit s.cls.outEn) ∧
        b.payload = padTo ic.length (fieldPayload { s with fld := { s.fld with voSense := sense, lastEval := s.tick } })) ∧ SameBut [.fld, .cyc] s u))

/-- R436 to R455: the claim, the roles and the pair link. -/
def Obligations.ClaspFrameAndLink : Prop :=
  ∀ (s : State), Operational s →
    let C := s.cls
    let becomes (r : ClsRole) (u : State) : Prop := u.cls.role = r ∧ u.cls.roleCnt = C.roleCnt + 1 ∧ Reported 0x3C01 s u
    (∀ a b, let won := frameWon (claiming s) (claimWord s) [a, b]
      Completes (.claspFrame a b) s (fun u => u.cls.own = claimWord s ∧ u.cls.won = won ∧ u.cls.outEn = won ∧
        u.cls.frameTick = BitVec.ofNat 32 (compactTick s.tick) ∧ u.cls.yielding = false ∧
        (won = true → C.role = .contend ∨ C.role = .standby → becomes .active u) ∧
        (won = true → C.role = .active → u.cls.role = .active ∧ u.cls.roleCnt = C.roleCnt) ∧
        (won = false → claiming s = true → C.role = .active → becomes .standby u) ∧
        (won = false → claiming s = true → C.role = .standby → u.cls.role = .standby ∧ u.cls.roleCnt = C.roleCnt) ∧
        (won = false → claiming s = true → C.role = .contend → becomes .join u ∧ u.cyc.prog = .stopped))) ∧
    (let may := C.role = .none ∧ cfgActive s = true ∧ (s.vot.mode = .triple ∨ s.vot.mode = .dual) ∧
        (s.tim.state = .locked ∨ s.tim.state = .master) ∧ s.cyc.stopByMaint = false;
      (may → Completes .claspListen s (fun u => becomes .listen u ∧ u.cls.outEn = false ∧ u.cls.waitCnt = 0)) ∧
      (¬ may → Completes .claspListen s (fun u => u = s))) ∧
    (∀ m, Completes (.pairLinkMessage m) s (fun u => u.cls.plUp = true ∧ u.cls.partner = m) ∧
      (C.role = .listen → m.role ≠ .none → m.role ≠ .withdrawn → m.xchk = none → C.won = false →
        (m.digest = cfgDigest s → m.posId.toNat ≠ s.cfg.cls.posId % 16 → partnerClaims m = false → m.epoch ≤ C.epoch →
          Completes (.pairLinkMessage m) s (becomes .contend)) ∧
        (m.digest ≠ cfgDigest s → Completes (.pairLinkMessage m) s (fun u => u.cls.role = .listen ∧
          (testBit C.once.toNat 0 = false → Reported 0x3C05 s u)))) ∧
      (C.role = .active → C.won = true → m.won = true → m.tick = C.frameTick → C.own < m.claim → m.xchk = none →
        Completes (.pairLinkMessage m) s (fun u => becomes .standby u ∧ u.cls.outEn = false ∧ u.cls.won = false ∧ Reported 0x3C04 s u))) ∧
    (C.plUp = true → Completes .pairLinkDown s (fun u => u.cls.plUp = false ∧ u.cls.partner = { C.partner with role := .none } ∧
      u.cls.advance = (C.advance || C.role == .active) ∧ u.cls.role = C.role ∧ u.cls.outEn = C.outEn ∧ SameBut [.cls] s u)) ∧
    (C.plUp = false → Completes .pairLinkDown s (fun u => u = s)) ∧
    (let waited := C.role = .listen ∧ waitTicks s ≤ C.waitCnt;
      (waited → Completes .partnerAbsent s (fun u => becomes .contend u ∧ u.cls.advance = (C.advance || C.lastRole != some true) ∧
        SameBut (.cls :: reportParts) s u)) ∧
      (¬ waited → Completes .partnerAbsent s (fun u => u = s))) ∧
    (let may := C.role = .active ∧ C.plUp = true ∧ C.partner.role = .standby;
      (may → Completes .yield s (fun u => becomes .standby u ∧ u.cls.yielding = true ∧ u.cls.outEn = C.outEn ∧ SameBut (.cls :: reportParts) s u)) ∧
      (¬ may → Completes .yield s (fun u => u = s))) ∧
    (C.role = .standby → Completes .resync s (fun u => becomes .join u ∧ u.cls.outEn = false ∧ u.cls.phase = 1 ∧ u.cyc.prog = .stopped)) ∧
    (C.role ≠ .standby → Completes .resync s (fun u => u = s))

/-- R443, R453 and R454: joining through a checkpoint. -/
def Obligations.Checkpoints : Prop :=
  ∀ (s : State), Operational s →
    let C := s.cls
    (∀ ws n f, (C.role ≠ .join → Completes (.checkpointRoundEnd ws n f) s (fun u => u = s)) ∧
      (C.role = .join → Completes (.checkpointRoundEnd ws n f) s (fun u => SameBut [.lanes, .cls] s u ∧
        (∀ l, (s.lane l).state ≠ .running → u.lane l = s.lane l) ∧
        (∀ l c, (s.lane l).state = .running → vget (u.lane l).cores c = (vget (s.lane l).cores c).writes (ws.filter (fun w => lineCovered (w.1 / 64)))) ∧
        (C.phase ≠ 3 → u.cls = { C with phase := if n ≤ 65536 ∧ C.phase = 2 then 3 else 2, round := min 127 (C.round + 1) }) ∧
        (∀ t run, C.phase = 3 → f = some (t, run) → u.cls = { C with final := tset C.final t.val run }) ∧
        (C.phase = 3 → f = none → u.cls = C)))) ∧
    (∀ t d m, let joins := C.role = .join ∧ joinDigestIs t d s = true ∧ C.joined.getLsbD t.val = false
      (¬ joins → Completes (.checkpointTaskJoin t d m) s (fun u => u = s)) ∧
      (joins → allJoined s (C.joined ||| BitVec.ofNat 16 (2 ^ t.val)) = false → Completes (.checkpointTaskJoin t d m) s (fun u =>
        u.cls = { C with joined := C.joined ||| BitVec.ofNat 16 (2 ^ t.val) } ∧ SameBut [.lanes, .cls] s u)) ∧
      (joins → allJoined s (C.joined ||| BitVec.ofNat 16 (2 ^ t.val)) = true → Completes (.checkpointTaskJoin t d m) s (fun u =>
        u.cls.role = .standby ∧ u.cls.epoch = C.partner.epoch ∧ u.cls.phase = 0 ∧ u.cls.roleCnt = C.roleCnt + 1 ∧ Reported 0x3C09 s u ∧
        SameBut (.lanes :: .cls :: reportParts) s u))) ∧
    (∀ w, let fails := C.role = .join ∧ attemptEnds w s = true
      (¬ fails → Completes (.checkpointFailed w) s (fun u => u = s)) ∧
      (fails → Completes (.checkpointFailed w) s (fun u => u.cls.role = .listen ∧ u.cls.fails = C.fails + 1 ∧ u.cls.retryWait = true ∧
        u.cls.outEn = false ∧ u.cyc.prog = .stopped ∧ Reported 0x3C0A s u))) ∧
    (C.role = .listen → Completes .checkpointRetry s (fun u => u.cls = { C with retryWait := false } ∧ SameBut [.cls] s u)) ∧
    (C.role ≠ .listen → Completes .checkpointRetry s (fun u => u = s))

/-- R519 to R523: the supply's events. Levels are in units of 10 mV. -/
def Obligations.SupplyWatch : Prop :=
  ∀ (s : State) (vin : BitVec 12) (vst : BitVec 13), LineRuns s →
    let p := s.pwr
    let x := vin.toNat
    let y := vst.toNat
    let read : Power := { p with vin := x, vstore := y, storeOk := decide (4000 ≤ y), minVin := min p.minVin x, warnVin := if p.warn then min p.warnVin x else p.warnVin, warnStore := if p.warn then min p.warnStore y else p.warnStore }
    let onlyReads (i : Instr) : Prop := Completes i s (fun u => u.pwr = read ∧ SameBut [.pwr] s u)
    (p.warn = true ∨ p.shutdown = true ∨ 1350 ≤ x → onlyReads (.powerWarning vin vst)) ∧
    (p.warn = false → p.shutdown = false → x < 1350 → Completes (.powerWarning vin vst) s (fun u =>
      u.pwr = { read with warn := true, warnVin := x, warnStore := y, warnCnt := p.warnCnt + 1 } ∧ u.rcd.flushPend = true ∧
      Reported 0x4C01 s u ∧ SameBut (.pwr :: reportParts) s u)) ∧
    (∀ us, let ends := p.warn = true ∧ p.shutdown = false ∧ 1600 ≤ x ∧ 2400 ≤ y
      (¬ ends → onlyReads (.powerRecovered vin vst us)) ∧
      (ends → Completes (.powerRecovered vin vst us) s (fun u => u.pwr = { read with warn := false, lastMin := min p.warnVin x } ∧
        Reported 0x4C02 s u ∧ SameBut (.pwr :: reportParts) s u))) ∧
    (p.shutdown = true ∨ 2400 ≤ y → onlyReads (.powerFailShutdown vin vst)) ∧
    (p.shutdown = false → y < 2400 → Completes (.powerFailShutdown vin vst) s (fun u =>
      u.pwr = { read with shutdown := true, failCnt := p.failCnt + 1, lastMin := if p.warn then min p.warnVin x else p.lastMin } ∧
      (s.cls.role ≠ .none → u.cls.outEn = false ∧ u.cls.role = .withdrawn) ∧ u.cyc.prog = .stopped ∧ (∀ l, (u.lane l).state = .off) ∧ u.rcd.flushPend = true ∧
      Reported 0x4C03 s u ∧ u.otp = s.otp ∧ u.tim = s.tim ∧ u.regs = s.regs ∧ u.trust.ucal = s.trust.ucal)) ∧
    (p.ovp = true → Completes .overVoltage s (fun u => u = s)) ∧
    (p.ovp = false → Completes .overVoltage s (fun u => u.pwr = { p with ovp := true } ∧ Reported 0x4C04 s u ∧ SameBut (.pwr :: reportParts) s u))

/-- R523 to R530: what holds the module in reset, and what lets it start. -/
def Obligations.HoldAndRelease : Prop :=
  ∀ (s : State),
    let held (cause : Nat) (u : State) : Prop := u.pwr.held = true ∧ u.pwr.cause = BitVec.ofNat 16 cause ∧ u.otp = s.otp ∧ u.pending = s.pending ∧
      u.rcd.next = s.rcd.next ∧ u.rcd.perm = s.rcd.perm ∧ u.rcd.circ = s.rcd.circ ∧ u.rcd.staged = [] ∧ u.pwr.rstCnt = s.pwr.rstCnt ∧
      u.pwr.warnCnt = s.pwr.warnCnt ∧ u.pwr.failCnt = s.pwr.failCnt ∧ u.trust.owner = s.trust.owner ∧ u.trust.slots = s.trust.slots ∧ u.draws = s.draws ∧
      SameBut [.otp, .rcd, .lanes, .vot, .mot, .cls, .pwr, .trust, .draws, .pending] State.reset u
    let started (cause : Nat) (u : State) : Prop := u.pwr.held = false ∧ u.pwr.pstate = .operational ∧ u.pwr.cause = BitVec.ofNat 16 cause ∧
      u.pwr.rstCnt = s.pwr.rstCnt + 1 ∧ u.pwr.locketSec = s.pwr.locketSec ∧ u.tim = { ({} : Tim) with counting := true } ∧ u.otp = s.otp ∧
      u.pending = s.pending ∧ u.rng = State.reset.rng ∧ u.col = State.reset.col
    (∀ v : BitVec 13, let off := s.pwr.shutdown = true ∧ ((s.rcd.flushing = false ∧ s.rcd.flushPend = false ∧ s.rcd.staged = [] ∧ s.trust.ucalQueue = []) ∨ v.toNat < 1800)
      (¬ off → Completes (.convertersOff v) s (fun u => u = s)) ∧
      (off → Completes (.convertersOff v) s (fun u => held 2 u ∧ u.pwr.locketSec = s.pwr.locketSec))) ∧
    (∀ why : PowerOn, Completes (.powerOnReset why) s (fun u => held (match why with | .supply => 1 | .shutdownEnd => 2 | .rail => 3 | .kaLoss => 4) u ∧
      (why ≠ .kaLoss → u.pwr.locketSec = s.pwr.locketSec ∧ u.pwr.locketAlarm = s.pwr.locketAlarm ∧ u.pwr.locketValid = s.pwr.locketValid) ∧
      (why = .kaLoss → u.pwr.locketSec = 0 ∧ u.pwr.locketAlarm = 0 ∧ u.pwr.locketUtcOfs = 0 ∧ u.pwr.locketLeap = 0 ∧ u.pwr.locketValid = false))) ∧
    (LineRuns s → s.pwr.shutdown = true → Completes .externalModuleReset s (fun u => u = s) ∧ Completes .supervisorWatchdog s (fun u => u = s)) ∧
    (LineRuns s → s.pwr.shutdown = false → Completes .externalModuleReset s (started 5) ∧ Completes .supervisorWatchdog s (started 6)) ∧
    (∀ (x : BitVec 12) (y : BitVec 13) waited n (v : Vector Nat 3),
      let may := s.pwr.held = true ∧ s.pwr.pstate ≠ .keepAlive ∧ (s.pwr.cause = 6 ∨
        (1680 ≤ x.toNat ∧ (4000 ≤ y.toNat ∨ (waited = true ∧ 2400 ≤ y.toNat))))
      (¬ may → Completes (.powerOnResetRelease x y waited n v) s (fun u => u = s)) ∧
      (may → Completes (.powerOnResetRelease x y waited n v) s (fun u => u.pwr.held = false ∧ u.pwr.pstate = .operational ∧ u.pwr.rstCnt = s.pwr.rstCnt + 1 ∧
        u.pwr.cause = s.pwr.cause ∧ u.pwr.vin = x.toNat ∧ u.pwr.vstore = y.toNat ∧ u.pwr.storeOk = decide (4000 ≤ y.toNat) ∧
        u.pwr.locketSec = s.pwr.locketSec + BitVec.ofNat 48 n ∧ u.tim = { s.tim with counting := true } ∧ u.otp = s.otp ∧ u.pending = s.pending ∧
        ∀ l, (vget u.pwr.avs l).vInit = some ((vget s.pwr.avs l).vInit.getD (vget v l)))))

/-- R527: engine resets. Cores: 0 Strath, 1 Col bridge, 2 field-I/O, 3 Signet. -/
def Obligations.EngineResets : Prop :=
  ∀ (s : State) (c : Fin 4), LineRuns s →
    let mine (r : Fin 64) : Prop := let e := (s.ringAt r).engine
      (c = 0 ∧ e = 0) ∨ (c = 1 ∧ (e = 1 ∨ e = 2 ∨ e = 3)) ∨ (c = 2 ∧ e = 4) ∨ (c = 3 ∧ e = 7)
    (s.pwr.hbLost.getLsbD c.val = true → Completes (.engineHeartbeatLost c) s (fun u => u = s)) ∧
    (s.pwr.hbLost.getLsbD c.val = false → Completes (.engineHeartbeatLost c) s (fun u =>
      (∀ k : Fin 4, u.pwr.hbLost.getLsbD k.val = (s.pwr.hbLost.getLsbD k.val || decide (k = c))) ∧
      (∀ k : Fin 4, u.pwr.restarting.getLsbD k.val = (s.pwr.restarting.getLsbD k.val || (decide (k = c) && s.cfg.pwr.resetEn.getLsbD c.val))) ∧
      u.pwr.engRstCnt = (if s.cfg.pwr.resetEn.getLsbD c.val then s.pwr.engRstCnt + 1 else s.pwr.engRstCnt) ∧ Reported 0x4C0C s u ∧
      (s.cfg.pwr.resetEn.getLsbD c.val = true → Reported 0x4C0D s u) ∧
      u.pwr = { s.pwr with hbLost := u.pwr.hbLost, restarting := u.pwr.restarting, engRstCnt := u.pwr.engRstCnt } ∧ SameBut (.pwr :: reportParts) s u)) ∧
    (s.pwr.restarting.getLsbD c.val = false → Completes (.engineRestartEnd c) s (fun u => u = s)) ∧
    (s.pwr.restarting.getLsbD c.val = true → Completes (.engineRestartEnd c) s (fun u =>
      (∀ k : Fin 4, u.pwr.hbLost.getLsbD k.val = (s.pwr.hbLost.getLsbD k.val && decide (k ≠ c)) ∧
        u.pwr.restarting.getLsbD k.val = (s.pwr.restarting.getLsbD k.val && decide (k ≠ c))) ∧
      u.pwr = { s.pwr with hbLost := u.pwr.hbLost, restarting := u.pwr.restarting } ∧
      (∀ r, mine r → (u.ringAt r).held = [] ∧ ∀ o ∈ (u.ringAt r).ops, o.stage ≠ .running) ∧
      (∀ r, ¬ mine r → u.ringAt r = s.ringAt r) ∧
      (c = 2 → u.fld = { s.fld with learn := [] } ∧ u.mot.cal = none) ∧ (c = 3 → u.trust = { s.trust with session := none }) ∧
      (c ≠ 0 → u.stra = s.stra) ∧ u.otp = s.otp ∧ u.tim = s.tim ∧ u.cls = s.cls ∧ u.regs = s.regs))

/-- R531 to R535: the low-power states. -/
def Obligations.LowPowerStates : Prop :=
  ∀ (s : State),
    (∀ (r : Fin 64) (tag : Fin 1024) d, Operational s → startedOp s r tag.val 0xB1 = some d →
      let ka := field d.paramA 0 2 == 2
      let ends (status : Nat) : Prop := Completes (.supStateReq r tag) s (fun u => Concluded u r d status 0 0 ∧ SameBut [.rng] s u)
      let alarm := if d.paramB = 0 then 0 else (s.pwr.locketSec.toNat + d.paramB) % 2 ^ 32
      (s.cls.outEn = true → ends 0x80) ∧ (s.cls.outEn = false → wakeEnabled s ka = false → ends 0x81) ∧
      (s.cls.outEn = false → wakeEnabled s ka = true → s.pwr.req.isSome = true → ends 0x82) ∧
      (s.cls.outEn = false → wakeEnabled s ka = true → s.pwr.req = none → Completes (.supStateReq r tag) s (fun u =>
        Concluded u r d 0 (compactTick (s.tick + 16)) alarm ∧
        u.pwr = { s.pwr with pstate := .entering, req := some ⟨ka, s.tick + 16⟩, locketAlarm := BitVec.ofNat 32 alarm } ∧ SameBut [.pwr, .rng] s u))) ∧
    (Operational s → (∀ q, s.pwr.req = some q → s.tick < q.tick) → Completes .lowPowerEntry s (fun u => u = s)) ∧
    (∀ q, Operational s → s.pwr.req = some q → q.tick ≤ s.tick → q.keepAlive = false → Completes .lowPowerEntry s (fun u =>
      u.pwr.pstate = .parked ∧ u.pwr.held = false ∧ u.pwr.req = none ∧ u.tim = s.tim ∧ u.cfg = s.cfg ∧ u.otp = s.otp ∧ u.pending = s.pending ∧
      u.regs = s.regs.filter (fun e => (TIM ≤ e.1 && e.1 < VOT) || (STR 0 ≤ e.1 && e.1 < ETH) || PWR ≤ e.1) ∧
      u.stra.node.nstate = .silent ∧ u.stra.node.silCause = 5 ∧ u.mem = [] ∧ u.rng = State.reset.rng ∧ u.col = State.reset.col ∧
      u.rcd.staged = [] ∧ u.pwr.locketSec = s.pwr.locketSec)) ∧
    (∀ q, Operational s → s.pwr.req = some q → q.tick ≤ s.tick → q.keepAlive = true → Completes .lowPowerEntry s (fun u =>
      u.pwr.pstate = .keepAlive ∧ u.pwr.held = true ∧ u.pwr.req = none ∧ u.pwr.locketWake = BitVec.ofNat 5 (wakeCfg s 0 5) ∧
      u.pwr.locketSec = s.pwr.locketSec ∧ u.pwr.locketAlarm = s.pwr.locketAlarm ∧ u.otp = s.otp ∧ u.pending = s.pending ∧
      SameBut [.otp, .rcd, .lanes, .vot, .mot, .cls, .pwr, .trust, .draws, .pending] State.reset u)) ∧
    (∀ (w : WakeSrc) n,
      let code := BitVec.ofNat 16 (match w with | .pin _ => 1 | .refMode _ => 2 | .servicePort => 3 | .alarm => 4 | .supply => 5)
      let noted (c : BitVec 16) (u : State) : Prop := u.pwr.pstate = .operational ∧ u.pwr.wakeCnt = s.pwr.wakeCnt + 1 ∧
        u.pwr.wakeSrc = code.setWidth 3 ∧ u.pwr.cause = c + 256 * code ∧ u.otp = s.otp ∧ u.tim = s.tim ∧ u.pending = s.pending ∧ u.regs = s.regs
      (s.pwr.pstate = .operational ∨ s.pwr.pstate = .entering → Completes (.wake w n) s (fun u => u = s)) ∧
      (s.pwr.pstate = .parked → wakesParked s w = false → Completes (.wake w n) s (fun u => u = s)) ∧
      (s.pwr.pstate = .parked → wakesParked s w = true → Completes (.wake w n) s (fun u => noted 9 u ∧ u.pwr.held = s.pwr.held ∧ u.pwr.locketSec = s.pwr.locketSec)) ∧
      (let p := { s.pwr with locketSec := s.pwr.locketSec + BitVec.ofNat 48 n };
        (s.pwr.pstate = .keepAlive → wakesKeepAlive p w = false → Completes (.wake w n) s (fun u => u = { s with pwr := p })) ∧
        (s.pwr.pstate = .keepAlive → wakesKeepAlive p w = true → Completes (.wake w n) s (fun u =>
          noted 8 u ∧ u.pwr.held = s.pwr.held ∧ u.pwr.locketSec = p.locketSec ∧ Reported 0x4C10 s u ∧ SameBut (.pwr :: reportParts) s u))))

/-- R539 to R543: the health monitors. -/
def Obligations.HealthMonitors : Prop :=
  ∀ (s : State),
    (∀ (r : Fin 64) (tag : Fin 1024) d, Operational s → startedOp s r tag.val 0xB0 = some d →
      let item := field d.paramA 16 13
      let fits (c : InItemCfg) : Prop := c.src = .health ∧ c.length = 96 ∧ d.length = 96
      ((∀ c, inItem? s item = some c → ¬ fits c) → Completes (.supHealthRead r tag) s (fun u => Concluded u r d 0x83 0 0 ∧ SameBut [.rng] s u)) ∧
      (∀ c, inItem? s item = some c → fits c → Completes (.supHealthRead r tag) s (fun u => Concluded u r d 0 96 0 ∧ SameBut [.rng, .cyc] s u ∧
        ∃ b, (tgetD u.cyc.items item {}).back = some b ∧ b.valid = true ∧ b.rxTs = s.ts ∧ b.payload = padTo 96 (healthBytes s)))) ∧
    (∀ (r : Fin 14) (v : BitVec 16), LineRuns s →
      let w := railWindow s r
      let R := vget s.pwr.rail r
      let low := decide (v.toNat < w.1)
      let high := decide (w.2 < v.toNat)
      let begins := (low = true ∨ high = true) ∧ (R.low ≠ low ∨ R.high ≠ high)
      Completes (.railOutOfWindow r v) s (fun u =>
        vget u.pwr.rail r = { value := v.toNat, low := low, high := high, cnt := if begins then R.cnt + 1 else R.cnt } ∧
        (∀ q, q ≠ r → vget u.pwr.rail q = vget s.pwr.rail q) ∧ u.pwr = { s.pwr with rail := u.pwr.rail } ∧
        (begins → Reported 0x4C06 s u ∧ SameBut (.pwr :: reportParts) s u) ∧ (¬ begins → SameBut [.pwr] s u))) ∧
    (∀ (i : Fin 12) (v : Int), LineRuns s →
      let t := vget s.pwr.temp i
      let read : TempSt := { value := v, peak := some (max v (t.peak.getD v)), warn := t.warn && decide (warnLimit s i - 24 < v), hot := t.hot && decide (ratedLimit i - 24 < v) }
      let shows (u : State) (x : TempSt) : Prop := vget u.pwr.temp i = x ∧ (∀ q, q ≠ i → vget u.pwr.temp q = vget s.pwr.temp q) ∧ u.pwr = { s.pwr with temp := u.pwr.temp }
      (warnLimit s i < v → t.warn = false → Completes (.temperatureWarning i v) s (fun u => shows u { read with warn := true } ∧ Reported 0x4C07 s u ∧ SameBut (.pwr :: reportParts) s u)) ∧
      (v ≤ warnLimit s i ∨ t.warn = true → Completes (.temperatureWarning i v) s (fun u => shows u read ∧ SameBut [.pwr] s u)) ∧
      (ratedLimit i < v → t.hot = false → Completes (.overTemperature i v) s (fun u => shows u { read with hot := true } ∧ Reported 0x4C08 s u ∧ SameBut (.pwr :: reportParts) s u)) ∧
      (v ≤ ratedLimit i ∨ t.hot = true → Completes (.overTemperature i v) s (fun u => shows u read ∧ SameBut [.pwr] s u))) ∧
    (∀ l : LaneId, Operational s →
      let a := vget s.pwr.avs l
      let m := a.least.getD a.margin
      let b : AvsSt := { a with margin := m, least := none, state := if a.state = .off then .track else a.state }
      let nom := (avsCfg s l).1
      let mn := (avsCfg s l).2.1
      let tgt := (avsCfg s l).2.2
      let next : AvsSt :=
        if m < tgt then (if b.vcore < 900 then { b with vcore := b.vcore + 5 } else if mn < b.freq then { b with freq := b.freq - 2, state := .freqReduced } else { b with state := .atLimit })
        else if tgt + 16 < m ∧ b.freq < nom then { b with freq := b.freq + 2, state := if nom ≤ b.freq + 2 then .track else .freqReduced }
        else if tgt + 8 < m ∧ b.freq = nom ∧ 700 < b.vcore then { b with vcore := b.vcore - 5, state := .track }
        else b
      ((s.lane l).state = .off → Completes (.avsStep l) s (fun u => u = s)) ∧
      ((s.lane l).state ≠ .off → Completes (.avsStep l) s (fun u => vget u.pwr.avs l = next ∧ (∀ k, k ≠ l → vget u.pwr.avs k = vget s.pwr.avs k) ∧
        u.pwr = { s.pwr with avs := u.pwr.avs } ∧ SameBut (.pwr :: reportParts) s u ∧
        (next.freq < a.freq → Reported 0x4C09 s u) ∧ (next.state = .atLimit → a.state ≠ .atLimit → Reported 0x4C0A s u) ∧
        (a.freq ≤ next.freq → next.state ≠ .atLimit ∨ a.state = .atLimit → SameBut [.pwr] s u)))) ∧
    (∀ (l : LaneId) (now : Nat), Operational s →
      let a := vget s.pwr.avs l
      (a.vInit = none → Completes (.ageingStep l now) s (fun u => u = s)) ∧
      (∀ v0, a.vInit = some v0 → let age : Int := (now : Int) - v0
        let steps := ((age - a.ageStep) / 5).toNat
        Completes (.ageingStep l now) s (fun u =>
          vget u.pwr.avs l = { a with ageMv := age, days := min 16383 (a.days + 1), ageStep := a.ageStep + 5 * steps } ∧
          (∀ k, k ≠ l → vget u.pwr.avs k = vget s.pwr.avs k) ∧ u.pwr = { s.pwr with avs := u.pwr.avs } ∧
          tgetD u.flt.cls 0x4C0B 0 = tgetD s.flt.cls 0x4C0B 0 + BitVec.ofNat 16 steps ∧
          SameBut (.pwr :: reportParts) s u ∧ (steps = 0 → SameBut [.pwr] s u))))

/-- R546 to R561, R572: clock domains and their crossings, and the sticky flags of SYS. -/
def Obligations.ClockDomains : Prop :=
  ∀ (s : State) (d : Fin 16),
    let x := vget s.cross.dom d
    let only (u : State) (y : XDom) : Prop := vget u.cross.dom d = y ∧ (∀ e, e ≠ d → vget u.cross.dom e = vget s.cross.dom e) ∧ u.cross.fabLost = s.cross.fabLost
    (∀ onBus posted, LineRuns s → monitored s d = false ∨ x.clkOk = false → Completes (.domainClockLost d onBus posted) s (fun u => u = s)) ∧
    (∀ onBus posted, LineRuns s → monitored s d = true → x.clkOk = true → Completes (.domainClockLost d onBus posted) s (fun u =>
      only u { x with clkOk := false, clkLost := true } ∧ Reported 0x0601 s u ∧
      (d ≠ 8 → d ≠ 13 → SameBut (.cross :: reportParts) s u) ∧
      (d = 8 → SameBut (.cross :: .stra :: reportParts) s u ∧ ∀ c : ChanId, u.chan c = { s.chan c with bezel := { (s.chan c).bezel with oscOk := false, aligned := false, blocked := true } }) ∧
      (d = 13 → (posted = false → u.col = s.col) ∧ (posted = true → u.col.posted = s.col.posted.tail ∧
        (s.col.posted ≠ [] → u.col.perrCnt = s.col.perrCnt + 1 ∧ Reported 0x2804 s u)) ∧ SameBut ([.cross, .rng, .col, .mem] ++ reportParts) s u))) ∧
    (LineRuns s → monitored s d = false ∨ x.clkOk = true → Completes (.domainClockRestored d) s (fun u => u = s)) ∧
    (LineRuns s → monitored s d = true → x.clkOk = false → Completes (.domainClockRestored d) s (fun u =>
      only u { x with clkOk := true, stall := false, acc := 0, merged := x.merged || decide (1 < x.acc), accPeak := max x.accPeak x.acc } ∧ Reported 0x0602 s u ∧
      (d ≠ 8 → SameBut (.cross :: reportParts) s u) ∧
      (d = 8 → SameBut (.cross :: .stra :: reportParts) s u ∧ ∀ c : ChanId, u.chan c = { s.chan c with bezel := { (s.chan c).bezel with oscOk := true } }))) ∧
    (∀ ev n, LineRuns s → d = 0 → Completes (.crossingStalled d ev n) s (fun u => u = s)) ∧
    (∀ ev n, LineRuns s → d ≠ 0 →
      let lostN := x.acc + n - min 255 (x.acc + n)
      let reportsLoss := 255 < x.acc + n ∧ x.lostTick ≠ some s.tick
      Completes (.crossingStalled d ev n) s (fun u =>
        only u { x with stall := true, stallCnt := if x.stall then x.stallCnt else x.stallCnt + 1, merged := x.merged || decide (1 < ev), mergeCnt := min 255 (x.mergeCnt + (ev - 1)), acc := min 255 (x.acc + n), lost := x.lost || decide (255 < x.acc + n), lostCnt := x.lostCnt + BitVec.ofNat 16 lostN, lostTick := if reportsLoss then some s.tick else x.lostTick } ∧
        (x.stall = false → Reported 0x0603 s u) ∧ (reportsLoss → Reported 0x0604 s u) ∧ SameBut (.cross :: reportParts) s u ∧
        (x.stall = true → ¬ reportsLoss → SameBut [.cross] s u))) ∧
    (LineRuns s → Completes .fabricClockLost s (fun u => u.pwr.held = true ∧ u.pwr.cause = 6 ∧ u.pwr.fabReport = true ∧ u.cross.fabLost = true ∧
      u.cls.outEn = false ∧ u.cls.role = .none ∧ u.rcd.staged = s.rcd.staged ∧ u.rcd.perm = s.rcd.perm ∧ u.otp = s.otp ∧ u.pending = s.pending ∧
      u.mem = [] ∧ u.tim = State.reset.tim ∧ u.rng = State.reset.rng)) ∧
    (LineRuns s → Completes .referenceDrift s (fun u => Reported 0x0606 s u ∧ SameBut reportParts s u)) ∧
    (∀ m : BitVec 16, Operational s → Completes (.sysXclr m) s (fun u =>
      vget u.cross.dom d = (if m.getLsbD d.val = true ∧ d ≠ 0 then { x with merged := false, lost := false, clkLost := false } else x) ∧
      u.cross.fabLost = s.cross.fabLost ∧ SameBut [.cross] s u)) ∧
    (Operational s → s.flt.pinLatch = false → Completes .pinClr s (fun u => u = s)) ∧
    (Operational s → s.flt.pinLatch = true → Completes .pinClr s (fun u =>
      u.flt.pinLatch = testBit (tgetD s.cfg.flt.reactions 0x0403 0) 1 ∧ Reported 0x0403 s u ∧ SameBut reportParts s u))

/-- R481, R504, R505, R514 to R516: Signet. -/
def Obligations.SignetOperations : Prop :=
  ∀ (s : State), Operational s →
    (∀ (r : Fin 64) (tag : Fin 1024) d, startedOp s r tag.val 0xA0 = some d →
      let n := field d.paramA 0 7
      let digest := padTo n (Config.shake256 n (memRead s.mem (offsetOf d.addr) d.length))
      let dest := field d.paramA 8 24
      Completes (.sigHash r tag) s (fun u => Concluded u r d 0 (leAt digest 0 4) (leAt digest 4 8) ∧ SameBut [.rng, .mem] s u ∧
        (testBit d.paramA 7 = false → u.mem = s.mem) ∧ (testBit d.paramA 7 = true → u.mem = memWrite s.mem dest digest ∧
          ∀ a, a < dest ∨ dest + n ≤ a → memGet u.mem a = memGet s.mem a))) ∧
    (∀ (r : Fin 64) (tag : Fin 1024) d, startedOp s r tag.val 0xA1 = some d →
      let item := field d.paramA 16 13
      let ends (status : Nat) : Prop := Completes (.sigRandom r tag) s (fun u => Concluded u r d status 0 0 ∧ SameBut [.rng] s u)
      let bytes := padTo d.length (Config.random s.draws d.length)
      (s.trust.rngOk = false → ends 0x80) ∧
      (s.trust.rngOk = true → (∀ c, inItem? s item = some c → c.src ≠ .attest ∨ c.length ≠ d.length) → ends 0x81) ∧
      (∀ c, s.trust.rngOk = true → inItem? s item = some c → c.src = .attest → c.length = d.length → Completes (.sigRandom r tag) s (fun u =>
        Concluded u r d 0 d.length 0 ∧ u.draws = s.draws + 1 ∧ SameBut [.rng, .cyc, .trust, .draws] s u ∧
        ∃ b, (tgetD u.cyc.items item {}).back = some b ∧ b.valid = true ∧ b.rxTs = s.ts ∧ b.payload = padTo d.length bytes))) ∧
    (∀ (r : Fin 64) (tag : Fin 1024) d, startedOp s r tag.val 0xA2 = some d →
      let item := field d.paramA 16 13
      let ends (status : Nat) : Prop := Completes (.sigAttest r tag) s (fun u => Concluded u r d status 0 0 ∧ SameBut [.rng] s u)
      let bound := ∃ c, inItem? s item = some c ∧ c.src = .attest ∧ c.length = 3504
      (s.trust.rngOk = false → ends 0x80) ∧ (s.trust.rngOk = true → ¬ bound → ends 0x81) ∧
      (s.trust.rngOk = true → bound → lifecycle s = .blank ∨ lifecycle s = .retired ∨ s.trust.seed = none → ends 0x83) ∧
      (s.trust.rngOk = true → bound → lifecycle s ≠ .blank → lifecycle s ≠ .retired → s.trust.seed ≠ none → Completes (.sigAttest r tag) s (fun u =>
        Concluded u r d 0 3501 s.trust.actCnt.toNat ∧ u.draws = s.draws + 1 ∧ SameBut [.rng, .cyc, .trust, .draws] s u ∧
        ∃ b, (tgetD u.cyc.items item {}).back = some b ∧ b.valid = true ∧ b.payload.length = 3504 ∧
          b.payload.take 32 = padTo 32 (memRead s.mem (offsetOf d.addr) 32)))) ∧
    (∀ (r : Fin 64) (tag : Fin 1024) d, startedOp s r tag.val 0xA3 = some d →
      let c := memRead s.mem (offsetOf d.addr) d.length
      let reason := if contType c = field d.paramA 0 3 then containerReason s c else 1
      (reason = 0 → Completes (.sigVerify r tag) s (fun u => Concluded u r d 0 (contVersion c) (contSvn c + 256 * contFmt c) ∧ SameBut [.rng] s u)) ∧
      (reason ≠ 0 → Completes (.sigVerify r tag) s (fun u => Concluded u r d 0x82 reason 0 ∧
        u.trust = { s.trust with verifyFail := s.trust.verifyFail + 1 } ∧ Reported 0x4801 s u ∧ SameBut ([.rng, .trust] ++ reportParts) s u))) ∧
    (s.trust.rngOk = false → Completes .randomSourceFailed s (fun u => u = s)) ∧
    (s.trust.rngOk = true → Completes .randomSourceFailed s (fun u => u.trust = { s.trust with rngOk := false } ∧ Reported 0x4809 s u ∧ SameBut (.trust :: reportParts) s u)) ∧
    (let key := (regGet s (CFG + 0x40)).toNat
      let kind := field key 0 8
      let index := field key 8 12
      let value := (regGet s (CFG + 0x44)).toNat + 2 ^ 32 * (regGet s (CFG + 0x48)).toNat
      let valid := (kind = 1 ∧ index < 16) ∨ (kind = 2 ∧ index < 48) ∨ (kind = 3 ∧ index < 1024)
      let stored := (tget? s.trust.ucal (ucalKey kind index)).isSome = true
      let refuses (i : Instr) : Prop := Completes i s (fun u => u.trust = { s.trust with ucalLast := 2 } ∧ Reported 0x4409 s u ∧ SameBut (.trust :: reportParts) s u)
      let waits (i : Instr) (v : Option Nat) : Prop := Completes i s (fun u => u.trust = { s.trust with ucalQueue := [⟨kind, index, v, true⟩] } ∧ SameBut [.trust] s u)
      (s.trust.ucalQueue ≠ [] ∨ ¬ valid → refuses .ucalStore ∧ refuses .ucalErase) ∧
      (s.trust.ucalQueue = [] → valid → ¬ stored → 4096 ≤ s.trust.ucal.length → refuses .ucalStore) ∧
      (s.trust.ucalQueue = [] → valid → stored ∨ s.trust.ucal.length < 4096 → waits .ucalStore (some value)) ∧
      (s.trust.ucalQueue = [] → valid → waits .ucalErase none)) ∧
    (s.trust.ucalQueue = [] → Completes .ucalWriteDone s (fun u => u = s)) ∧
    (∀ w rest, s.trust.ucalQueue = w :: rest →
      let takes := ucalKeyOk w.kind w.index = true ∧ ucalFits s w.kind w.index w.value = true
      (¬ takes → Completes .ucalWriteDone s (fun u => u.trust = { s.trust with ucalQueue := rest, ucalLast := 2 } ∧ Reported 0x4409 s u ∧ SameBut (.trust :: reportParts) s u)) ∧
      (takes → Completes .ucalWriteDone s (fun u => u.trust = { s.trust with ucalQueue := rest, ucal := u.trust.ucal, ucalLast := 1 } ∧
        tget? u.trust.ucal (ucalKey w.kind w.index) = w.value ∧
        (∀ k, k ≠ ucalKey w.kind w.index → tget? u.trust.ucal k = tget? s.trust.ucal k) ∧
        Reported 0x4408 s u ∧ SameBut (.trust :: reportParts) s u)))

/-- The step of the model (logs 1 and 7): the front command's effect, or an idle fabric cycle. -/
def Obligations.StepTakesFront : Prop :=
  (∀ (c : Instr) (rest : List Instr) (s : State), step { s with pending := c :: rest } = exec c { s with pending := rest }) ∧
  (∀ s : State, s.pending = [] → ∃ u, step s = .next u ∧ u.tick = s.tick ∧ SameBut [.tim] s u ∧ u.tim = { s.tim with now := u.tim.now, cycles := u.tim.cycles } ∧
    (s.tim.counting = false ∨ s.pwr.held = true → u = s))

/-- The state after reset (R525, R529). -/
def Obligations.ResetState : Prop :=
  let s := State.reset
  s.pwr.held = true ∧ s.pwr.cause = 1 ∧ s.pwr.rstCnt = 0 ∧ s.tim.now = 0 ∧ s.tim.counting = false ∧ s.tim.rate = 0 ∧ s.tim.integ = 0 ∧ s.tim.state = .unset ∧
  (∀ l, (s.lane l).state = .off) ∧ (∀ r, (s.ringAt r).en = false ∧ (s.ringAt r).state = .disabled ∧ (s.ringAt r).pending = [] ∧ (s.ringAt r).ops = []) ∧
  s.cyc.prog = .stopped ∧ s.cls.role = .none ∧ s.cls.outEn = false ∧ s.col.wrEn = false ∧ s.stra.node.nstate = .init ∧
  (∀ a, regGet s a = regReset a) ∧ (∀ a, memGet s.mem a = memDefault) ∧ s.pending = [] ∧
  Memory.wf s.mem = true ∧ WriteEnableFollows s

/-- The canonical form of exchange memory is kept by every step. -/
def Obligations.MemoryStaysCanonical : Prop := ∀ s t : State, Memory.wf s.mem = true → step s = .next t → Memory.wf t.mem = true

/-- R320: WR_EN follows the output enable through every step. -/
def Obligations.WriteEnableFollowsOutput : Prop := ∀ s t : State, WriteEnableFollows s → step s = .next t → WriteEnableFollows t

/-- Commands are taken first in, first out (log 1). -/
def Obligations.QueueFirstInFirstOut : Prop :=
  (∀ s t : State, step s = .next t → t.pending = s.pending.tail) ∧ (∀ (i : Instr) (s t : State), exec i s = .next t → t.pending = s.pending)

/-- R424: what a matrix fault does. -/
def Obligations.MatrixFaultKeepsColumns : Prop :=
  ∀ (s : State) (v : VoId), Operational s →
    let columns (u : State) : Prop := ∀ l w, columnCmd u l w = columnCmd s l w
    let reacts (code : Nat) (u : State) : Prop := let bits := tgetD s.cfg.flt.reactions code 0
      Reported code s u ∧ u.rcd.flushPend = (s.rcd.flushPend || testBit bits 0) ∧ u.flt.pinLatch = (s.flt.pinLatch || testBit bits 1) ∧
      u.flt.yieldPend = (s.flt.yieldPend || testBit bits 2) ∧ u.flt.safePend = (s.flt.safePend || testBit bits 3)
    (∀ l x y i, Completes (.voColumnTest v l x y i) s (fun u => columns u ∧
      (u.fld.stuck.getLsbD v.val = true → s.fld.stuck.getLsbD v.val = false → reacts 0x3808 u))) ∧
    (∀ b, Completes (.voReadbackFault v b) s (fun u => columns u ∧
      (u.fld.readback.getLsbD v.val = true → s.fld.readback.getLsbD v.val = false → reacts 0x3809 u)))

/-- R49: ticks. Module time counts units of 2^-40 ns. -/
def Obligations.TickNumber : Prop :=
  ∀ s : State, s.tim.now < 2 ^ 48 * (1000000000 * 2 ^ 40) →
    (∀ n, s.tick = n ↔ n * (125000 * 2 ^ 40) ≤ s.tim.now ∧ s.tim.now < (n + 1) * (125000 * 2 ^ 40)) ∧
    s.tick = leAt (timeBytes s.tim.now) 6 6 * 8000 + leAt (timeBytes s.tim.now) 2 4 / 125000 ∧ s.tick < 2 ^ 64

/-- R492: the activation counter. -/
def Obligations.ActivationCounter : Prop :=
  (∀ (i : Instr) (s t : State), exec i s = .next t → t.trust.actCnt = s.trust.actCnt ∨
    (t.trust.actCnt.toNat = s.trust.actCnt.toNat + 1 ∧ ∃ q, i = .activate q ∨ i = .revert q)) ∧
  (∀ (s : State) (q : UtmusReq),
    let commits (cmd : Nat) (u : State) : Prop := (u.trust.actCnt.toNat = s.trust.actCnt.toNat + 1 ∧ Answered u cmd q 0 []) ∨
      (u.trust.actCnt = s.trust.actCnt ∧ ∃ status body, status ≠ 0 ∧ Answered u cmd q status body)
    (Accepted 0x20 (some 2) 0 q s → Completes (.activate q) s (commits 0x20)) ∧ (Accepted 0x21 (some 2) 0 q s → Completes (.revert q) s (commits 0x21)))

/-- What each command of chapters 2 to 10 leaves unchanged, and what the end of a fabric cycle does. -/
def Obligations.FramesOfLanesRingsAndBuses : Prop :=
  ∀ s : State,
    let r := reportParts
    SameBut [.mem, .rcd, .flt, .irq, .lanes, .vot, .rng, .cyc, .cls, .col, .trust] s (endCycle s) ∧
    (∀ a, Frames (.tickEvent a) s (.mem :: .tim :: .lanes :: .vot :: .rng :: .cyc :: .stra :: .eth :: .mvb :: .col :: .chk :: .mot :: .ana :: .fld :: .cls :: .pwr :: .trust :: .image :: r)) ∧
    (∀ a, Frames (.referenceMeasurement a) s (.mem :: .tim :: .lanes :: .vot :: .rng :: .cyc :: .stra :: .eth :: .mvb :: .col :: .chk :: .mot :: .ana :: .fld :: .cls :: .pwr :: .trust :: .image :: .regs :: r)) ∧
    Frames .timeLocked s [.tim, .irq] ∧
    Frames .holdoverEntered s (.tim :: r) ∧
    (∀ a, Frames (.acceptStepWrite a) s [.tim, .regs]) ∧
    (∀ a, Frames (.timNowLatch a) s [.irq, .lanes]) ∧
    (∀ a, Frames (.timTickLatch a) s [.irq, .lanes]) ∧
    (∀ a, Frames (.sysProgLatch a) s [.irq, .lanes]) ∧
    (∀ a b, Frames (.recSeqLatch a b) s [.irq, .lanes]) ∧
    Frames .timeDistributionError s (.tim :: r) ∧
    (∀ a b c, Frames (.taskStartMark a b c) s [.irq, .lanes, .cyc]) ∧
    (∀ a b c, Frames (.taskEndMark a b c) s (.mem :: .lanes :: .vot :: .rng :: .cyc :: .cls :: .trust :: r)) ∧
    (∀ a b, Frames (.digestCompare a b) s (.mem :: .lanes :: .vot :: .rng :: .cyc :: .cls :: .trust :: r)) ∧
    (∀ a b c, Frames (.pairEntryCompare a b c) s (.mem :: .lanes :: .vot :: .rng :: .cyc :: .cls :: .trust :: r)) ∧
    (∀ a, Frames (.proposalTimeout a) s (.mem :: .lanes :: .vot :: .rng :: .cyc :: .cls :: .trust :: r)) ∧
    (∀ a b, Frames (.forceSafe a b) s (.mem :: .lanes :: .vot :: .rng :: .cyc :: .cls :: .trust :: r)) ∧
    (∀ a b, Frames (.laneIrqAck a b) s [.irq, .lanes]) ∧
    (∀ a b, Frames (.tsuRecordRemove a b) s [.irq, .lanes]) ∧
    (∀ a b c d, Frames (.eccUncorrectable a b c d) s (.mem :: .lanes :: .vot :: .rng :: .cyc :: .cls :: .trust :: r)) ∧
    (∀ a, Frames (.eccCorrected a) s (.lanes :: r)) ∧
    (∀ a b c, Frames (.taskFault a b c) s (.mem :: .lanes :: .vot :: .rng :: .cyc :: .cls :: .trust :: r)) ∧
    (∀ a, Frames (.laneResetRelease a) s [.irq, .lanes, .trust, .draws]) ∧
    (∀ a b c, Frames (.imagesLoaded a b c) s (.lanes :: .trust :: r)) ∧
    (∀ a, Frames (.sweepComplete a) s (.mem :: .lanes :: .vot :: .rng :: .cyc :: .cls :: .trust :: r)) ∧
    (∀ a, Frames (.proposalArrival a) s (.mem :: .tim :: .lanes :: .vot :: .rng :: .cyc :: .stra :: .eth :: .fld :: .cls :: .trust :: .cross :: .regs :: r)) ∧
    (∀ a, Frames (.voteWindowClose a) s (.mem :: .lanes :: .vot :: .rng :: .cyc :: .cls :: .trust :: r)) ∧
    (∀ a b, Frames (.absentLane a b) s (.mem :: .lanes :: .vot :: .rng :: .cyc :: .cls :: .trust :: r)) ∧
    (∀ a b c, Frames (.pairSelfTest a b c) s (.mem :: .lanes :: .vot :: .rng :: .cyc :: .cls :: .trust :: r)) ∧
    (∀ a, Frames (.voterSelfTest a) s (.vot :: .regs :: r)) ∧
    Frames .startupWaitExpiry s [.vot] ∧
    Frames .laneAdmission s [.irq, .lanes, .vot] ∧
    (∀ a, Frames (.reintStart a) s [.irq, .lanes, .vot]) ∧
    Frames .reintResetDone s [.irq, .lanes, .vot, .trust, .draws] ∧
    Frames .copyRoundEnd s [.irq, .lanes, .vot] ∧
    Frames .codeCopyEnd s [.irq, .lanes, .vot] ∧
    Frames .loadEnd s [.irq, .lanes, .vot] ∧
    (∀ a, Frames (.finalRoundEnd a) s [.irq, .lanes, .vot]) ∧
    (∀ a, Frames (.finalRoundAbandoned a) s [.vot]) ∧
    (∀ a b, Frames (.reintFailed a b) s (.lanes :: .vot :: r)) ∧
    (∀ a, Frames (.ringEnable a) s (.mem :: .rng :: .trust :: r)) ∧
    (∀ a, Frames (.ringDrain a) s [.mem, .irq, .rng]) ∧
    (∀ a, Frames (.ringDrainComplete a) s [.rng]) ∧
    (∀ a b, Frames (.descriptorWrite a b) s (.mem :: .rng :: r)) ∧
    (∀ a b, Frames (.doorbell a b) s (.rng :: r)) ∧
    (∀ a, Frames (.descriptorFetch a) s (.mem :: .rng :: .col :: r)) ∧
    (∀ a, Frames (.ringStalled a) s (.rng :: r)) ∧
    (∀ a b, Frames (.completionHeadWrite a b) s (.rng :: r)) ∧
    (∀ a b, Frames (.operationComplete a b) s [.mem, .tim, .irq, .rng]) ∧
    (∀ a b, Frames (.nop a b) s [.rng]) ∧
    (∀ a b, Frames (.echo a b) s [.rng]) ∧
    Frames .cyclicProgramStart s (.mem :: .lanes :: .vot :: .rng :: .cyc :: .fld :: .cls :: .trust :: r) ∧
    (∀ a, Frames (.retainedMirror a) s [.irq, .lanes]) ∧
    (∀ a, Frames (.onlineChangeApply a) s (.lanes :: .cyc :: r)) ∧
    Frames .swapLoadComplete s (.lanes :: .cyc :: r) ∧
    Frames .swapConversionComplete s (.mem :: .lanes :: .vot :: .rng :: .cyc :: .cls :: .trust :: .image :: r) ∧
    Frames .swapConversionTimeout s (.lanes :: .cyc :: r) ∧
    Frames .swapTrialTimeout s (.lanes :: .cyc :: .trust :: r) ∧
    (∀ a b, Frames (.signalDetected a b) s [.stra]) ∧
    (∀ a b, Frames (.codeGroupSync a b) s [.stra]) ∧
    (∀ a b, Frames (.trainTimeout a b) s [.stra]) ∧
    (∀ a b, Frames (.portUp a b) s [.stra]) ∧
    (∀ a b c d, Frames (.portFailed a b c d) s (.stra :: r)) ∧
    (∀ a b, Frames (.portRecovered a b) s [.stra]) ∧
    (∀ a b, Frames (.equaliserFreezeExpiry a b) s [.stra]) ∧
    (∀ a b c d e f, Frames (.eyeMonitor a b c d e f) s (.stra :: r)) ∧
    (∀ a b c, Frames (.rfiReceived a b c) s [.stra]) ∧
    (∀ a b c d e f g h, Frames (.frameReceived a b c d e f g h) s (.cyc :: .stra :: .chk :: r)) ∧
    (∀ a b c, Frames (.dlyReqSend a b c) s [.stra]) ∧
    (∀ a b c, Frames (.dlyReqReceived a b c) s [.stra]) ∧
    (∀ a b c d, Frames (.dlyRspReceived a b c d) s (.stra :: r)) ∧
    (∀ a b, Frames (.dlyRspTimeout a b) s [.stra]) ∧
    (∀ a b c, Frames (.closeReceived a b c) s [.stra]) ∧
    (∀ a b, Frames (.timedUnwrap a b) s (.stra :: r)) ∧
    (∀ a b c, Frames (.closeNowReceived a b c) s (.stra :: r)) ∧
    (∀ a b c, Frames (.portEnWrite a b c) s (.stra :: .regs :: r)) ∧
    (∀ a b c, Frames (.forceWrapWrite a b c) s (.stra :: .regs :: r)) ∧
    (∀ a b, Frames (.strLinkRead a b) s [.rng]) ∧
    (∀ a b c d e, Frames (.ownSlotSend a b c d e) s (.stra :: .chk :: r)) ∧
    (∀ a, Frames (.bezelTruncation a) s (.stra :: r)) ∧
    (∀ a, Frames (.bezelUnaligned a) s [.stra]) ∧
    (∀ a, Frames (.unlatch a) s [.stra]) ∧
    (∀ a, Frames (.refReceived a) s (.tim :: .stra :: r)) ∧
    (∀ a, Frames (.coldReceived a) s (.stra :: r)) ∧
    Frames .modeFrameReceived s (.stra :: r) ∧
    Frames .listenTimerExpiry s (.stra :: r) ∧
    (∀ a, Frames (.coldstartComplete a) s (.mem :: .tim :: .lanes :: .vot :: .rng :: .cyc :: .stra :: .eth :: .mvb :: .col :: .chk :: .mot :: .ana :: .fld :: .cls :: .pwr :: .trust :: .image :: r)) ∧
    Frames .integrationSlow s (.stra :: r) ∧
    Frames .masterTakeover s (.tim :: .stra :: r) ∧
    Frames .modeSwitch s (.stra :: r) ∧
    Frames .syncMonitorTrip s (.stra :: r) ∧
    (∀ a, Frames (.txEnWrite a) s (.stra :: .regs :: r)) ∧
    Frames .nodeResume s (.stra :: r) ∧
    (∀ a b, Frames (.strSlotWrite a b) s (.rng :: .stra :: r)) ∧
    (∀ a b, Frames (.strSlotBind a b) s [.rng, .stra]) ∧
    (∀ a b, Frames (.strModeReq a b) s (.rng :: .stra :: r)) ∧
    Frames .modeReqAnswer s (.rng :: .stra :: r) ∧
    (∀ a b c d, Frames (.ethFrameReceived a b c d) s (.mem :: .rng :: .cyc :: .eth :: .chk :: r)) ∧
    (∀ a, Frames (.pdPublicationSend a) s (.eth :: .chk :: r)) ∧
    (∀ a, Frames (.mdReplyTimeout a) s [.rng, .eth]) ∧
    (∀ a b c d, Frames (.ptpMessageReceived a b c d) s (.eth :: r)) ∧
    (∀ a b c, Frames (.ptpMessageSend a b c) s (.tim :: .eth :: r)) ∧
    (∀ a b, Frames (.ethLinkUp a b) s (.eth :: r)) ∧
    (∀ a, Frames (.ethLinkDown a) s (.eth :: r)) ∧
    (∀ a b c, Frames (.ethSend a b c) s (.tim :: .rng :: .eth :: r)) ∧
    (∀ a b, Frames (.trdpPdPub a b) s (.rng :: .eth :: r)) ∧
    (∀ a b, Frames (.trdpPdSub a b) s [.rng, .eth]) ∧
    (∀ a b, Frames (.trdpMdSend a b) s [.rng, .eth]) ∧
    (∀ a b, Frames (.trdpMdPost a b) s [.eth]) ∧
    (∀ a b, Frames (.ptpRead a b) s [.rng]) ∧
    (∀ a, Frames (.mvbMasterFrame a) s (.mvb :: .chk :: r)) ∧
    (∀ a b c, Frames (.mvbSlaveFrame a b c) s (.cyc :: .mvb :: .chk :: r)) ∧
    (∀ a, Frames (.mvbBasicPeriod a) s [.rng, .mvb]) ∧
    (∀ a, Frames (.mvbLineFailed a) s (.mvb :: r)) ∧
    (∀ a, Frames (.mvbLineRestored a) s (.mvb :: r)) ∧
    Frames .mastershipGained s (.mvb :: r) ∧
    (∀ a, Frames (.mastershipLost a) s (.mvb :: r)) ∧
    (∀ a b, Frames (.mvbPortWrite a b) s (.rng :: .mvb :: r)) ∧
    (∀ a b, Frames (.mvbPortBind a b) s [.rng, .mvb]) ∧
    (∀ a b, Frames (.mvbMsgSend a b) s [.mvb]) ∧
    (∀ a b c, Frames (.directAccess a b c) s r) ∧
    (∀ a, Frames (.windowSettingApply a) s [.col]) ∧
    (∀ a b c, Frames (.colRead a b c) s (.mem :: .rng :: .col :: r)) ∧
    (∀ a b, Frames (.colWrite a b) s (.rng :: .col :: r)) ∧
    (∀ a b c, Frames (.colWriteNp a b c) s (.rng :: .col :: r)) ∧
    (∀ a b, Frames (.colLvBind a b) s [.rng, .col]) ∧
    (∀ a, Frames (.postedWriteIssue a) s (.mem :: .rng :: .col :: r)) ∧
    (∀ a b, Frames (.latestValueRead a b) s (.cyc :: .col :: .chk :: r)) ∧
    (∀ a b, Frames (.latestValueWrite a b) s (.mem :: .rng :: .col :: .chk :: r)) ∧
    (∀ a b c, Frames (.inboundWrite a b c) s (.cyc :: .col :: .chk :: r)) ∧
    (∀ a, Frames (.holdTimeout a) s (.mem :: .rng :: .col :: r))

/-- What each command of chapters 11 to 20 leaves unchanged. -/
def Obligations.FramesOfUnitsRecordsAndService : Prop :=
  ∀ s : State,
    let r := reportParts
    (∀ a b, Frames (.privilegedOverrun a b) s (.col :: r)) ∧
    (∀ a, Frames (.bpRst a) s (.mem :: .rng :: .col :: r)) ∧
    (∀ a b c, Frames (.chkAppend a b c) s [.mem, .rng, .chk]) ∧
    (∀ a b c, Frames (.chkCheckStrip a b c) s (.mem :: .rng :: .chk :: r)) ∧
    (∀ a b c, Frames (.chkCompute a b c) s [.mem, .rng, .chk]) ∧
    (∀ a b, Frames (.unitSelfTest a b) s (.chk :: r)) ∧
    (∀ a b c d e f g, Frames (.itemArrival a b c d e f g) s (.cyc :: .chk :: r)) ∧
    (∀ a b, Frames (.pulseEdge a b) s (.lanes :: .mot :: r)) ∧
    (∀ a b c d, Frames (.markEdge a b c d) s (.lanes :: .mot :: r)) ∧
    (∀ a b, Frames (.standstillTimeout a b) s [.irq, .lanes]) ∧
    (∀ a, Frames (.edgeMerge a) s (.lanes :: .rng :: .mot :: r)) ∧
    (∀ a b, Frames (.pulseInputFault a b) s (.lanes :: .rng :: .mot :: r)) ∧
    (∀ a b c d, Frames (.motCmd a b c d) s (.lanes :: r)) ∧
    (∀ a b, Frames (.motCalRun a b) s (.rng :: .mot :: r)) ∧
    (∀ a b c, Frames (.analogBlockWrite a b c) s (.cyc :: .ana :: r)) ∧
    (∀ a b, Frames (.syncPinEdge a b) s (.ana :: r)) ∧
    (∀ a b, Frames (.modulatorFault a b) s (.ana :: r)) ∧
    (∀ a b, Frames (.coarseLimit a b) s (.ana :: r)) ∧
    (∀ a b, Frames (.anaSync a b) s (.rng :: .ana :: r)) ∧
    (∀ a b, Frames (.anaAuxSel a b) s (.rng :: .ana :: r)) ∧
    (∀ a b c, Frames (.anaCoarseRead a b c) s (.mem :: .rng :: .ana :: r)) ∧
    (∀ a, Frames (.fieldSampleInstant a) s (.cyc :: .fld :: r)) ∧
    (∀ a b, Frames (.overload a b) s (.fld :: r)) ∧
    (∀ a b, Frames (.overTemperatureSwitch a b) s (.fld :: r)) ∧
    (∀ a b c, Frames (.openWire a b c) s (.fld :: r)) ∧
    (∀ a b, Frames (.externallyDriven a b) s (.fld :: r)) ∧
    (∀ a b, Frames (.baselineTrack a b) s (.fld :: r)) ∧
    (∀ a b, Frames (.groupOverload a b) s (.fld :: r)) ∧
    (∀ a, Frames (.groupSupplyLow a) s (.fld :: r)) ∧
    (∀ a b c d e, Frames (.voColumnTest a b c d e) s (.fld :: r)) ∧
    (∀ a b, Frames (.voReadbackFault a b) s (.fld :: r)) ∧
    (∀ a, Frames (.fldVoClr a) s [.fld]) ∧
    (∀ a b, Frames (.fldBaseWrite a b) s [.fld]) ∧
    (∀ a b, Frames (.fldOutSet a b) s (.rng :: .fld :: r)) ∧
    (∀ a b, Frames (.voSet a b) s (.rng :: .fld :: r)) ∧
    (∀ a b c d, Frames (.fldDiagRead a b c d) s [.mem, .rng]) ∧
    (∀ a b, Frames (.fldBaselineLearn a b) s [.fld]) ∧
    (∀ a b, Frames (.cfmSet a b) s (.rng :: .fld :: r)) ∧
    (∀ a b, Frames (.claspFrame a b) s (.mem :: .lanes :: .rng :: .cyc :: .cls :: r)) ∧
    (∀ a, Frames (.pairLinkMessage a) s (.mem :: .lanes :: .rng :: .cyc :: .cls :: r)) ∧
    Frames .pairLinkDown s [.cls] ∧
    Frames .claspListen s (.cls :: r) ∧
    Frames .partnerAbsent s (.cls :: r) ∧
    (∀ a b c, Frames (.checkpointRoundEnd a b c) s [.irq, .lanes, .cls]) ∧
    (∀ a b c, Frames (.checkpointTaskJoin a b c) s (.lanes :: .cls :: r)) ∧
    (∀ a, Frames (.checkpointFailed a) s (.mem :: .lanes :: .rng :: .cyc :: .cls :: r)) ∧
    Frames .checkpointRetry s [.cls] ∧
    Frames .yield s (.cls :: r) ∧
    Frames .resync s (.mem :: .lanes :: .rng :: .cyc :: .cls :: r) ∧
    Frames .flush s [.rcd, .regs] ∧
    (∀ a, Frames (.flushEnd a) s (.regs :: r)) ∧
    Frames .recFlushWrite s [.rcd, .regs] ∧
    Frames .recorderStart s (.rng :: r) ∧
    (∀ a b, Frames (.recWrite a b) s (.rng :: r)) ∧
    (∀ a b c, Frames (.recRead a b c) s (.mem :: .rng :: .cyc :: r)) ∧
    (∀ a, Frames (.hello a) s (.trust :: .draws :: r)) ∧
    (∀ a, Frames (.identify a) s (.trust :: r)) ∧
    (∀ a, Frames (.status a) s (.trust :: r)) ∧
    (∀ a b, Frames (.utmusRecRead a b) s (.trust :: r)) ∧
    (∀ a, Frames (.attest a) s (.trust :: .draws :: r)) ∧
    (∀ a, Frames (.loadBegin a) s (.trust :: r)) ∧
    (∀ a, Frames (.chunk a) s (.trust :: r)) ∧
    (∀ a, Frames (.activate a) s (.mem :: .tim :: .lanes :: .vot :: .rng :: .cyc :: .stra :: .eth :: .mvb :: .col :: .chk :: .mot :: .ana :: .fld :: .cls :: .pwr :: .trust :: .cross :: .cfg :: .image :: .regs :: r)) ∧
    (∀ a, Frames (.revert a) s (.mem :: .tim :: .lanes :: .vot :: .rng :: .cyc :: .stra :: .eth :: .mvb :: .col :: .chk :: .mot :: .ana :: .fld :: .cls :: .pwr :: .trust :: .cross :: .cfg :: .image :: .regs :: r)) ∧
    (∀ a, Frames (.slotErase a) s (.trust :: r)) ∧
    (∀ a, Frames (.swapLoad a) s (.cyc :: .trust :: r)) ∧
    (∀ a, Frames (.swap a) s (.cyc :: .trust :: r)) ∧
    (∀ a, Frames (.swapCommit a) s (.lanes :: .cyc :: .trust :: r)) ∧
    (∀ a, Frames (.swapRevert a) s (.cyc :: .trust :: r)) ∧
    (∀ a, Frames (.fwInstall a) s (.trust :: r)) ∧
    (∀ a, Frames (.fwTrial a) s (.mem :: .tim :: .lanes :: .vot :: .rng :: .cyc :: .stra :: .eth :: .mvb :: .col :: .chk :: .mot :: .ana :: .fld :: .cls :: .pwr :: .trust :: .cross :: .cfg :: .image :: .regs :: r)) ∧
    (∀ a, Frames (.fwCommit a) s (.trust :: r)) ∧
    (∀ a, Frames (.fwRollback a) s (.mem :: .tim :: .lanes :: .vot :: .rng :: .cyc :: .stra :: .eth :: .mvb :: .col :: .chk :: .mot :: .ana :: .fld :: .cls :: .pwr :: .trust :: .cross :: .cfg :: .image :: .regs :: r)) ∧
    (∀ a, Frames (.programStop a) s (.mem :: .lanes :: .rng :: .cyc :: .cls :: .trust :: r)) ∧
    (∀ a, Frames (.programStart a) s (.cyc :: .trust :: r)) ∧
    (∀ a, Frames (.laneRelease a) s (.vot :: .trust :: r)) ∧
    (∀ a, Frames (.onlineChange a) s (.cyc :: .trust :: r)) ∧
    (∀ a, Frames (.ucalWrite a) s (.trust :: r)) ∧
    (∀ a, Frames (.restoreFactory a) s (.trust :: r)) ∧
    (∀ a, Frames (.recFormat a) s (.trust :: r)) ∧
    (∀ a, Frames (.relinquish a) s (.otp :: .mem :: .lanes :: .rng :: .cyc :: .cls :: .trust :: r)) ∧
    (∀ a, Frames (.retire a) s (.otp :: .trust :: r)) ∧
    (∀ a, Frames (.provision a) s (.otp :: .trust :: .draws :: r)) ∧
    (∀ a, Frames (.enrol a) s (.otp :: .mem :: .lanes :: .rng :: .cyc :: .cls :: .trust :: r)) ∧
    (∀ a, Frames (.vendorRevoke a) s (.trust :: r)) ∧
    Frames .sessionTimeout s [.trust] ∧
    Frames .ucalStore s (.trust :: r) ∧
    Frames .ucalErase s (.trust :: r) ∧
    Frames .ucalWriteDone s (.trust :: r) ∧
    (∀ a b, Frames (.sigHash a b) s [.mem, .rng]) ∧
    (∀ a b, Frames (.sigRandom a b) s [.rng, .cyc, .trust, .draws]) ∧
    (∀ a b, Frames (.sigAttest a b) s [.rng, .cyc, .trust, .draws]) ∧
    (∀ a b, Frames (.sigVerify a b) s (.rng :: .trust :: r)) ∧
    Frames .randomSourceFailed s (.trust :: r) ∧
    (∀ a b, Frames (.powerWarning a b) s (.pwr :: r)) ∧
    (∀ a b c, Frames (.powerRecovered a b c) s (.pwr :: r)) ∧
    (∀ a b, Frames (.powerFailShutdown a b) s (.mem :: .lanes :: .rng :: .cyc :: .cls :: .pwr :: r)) ∧
    (∀ a, Frames (.convertersOff a) s (.mem :: .tim :: .lanes :: .vot :: .rng :: .cyc :: .stra :: .eth :: .mvb :: .col :: .chk :: .mot :: .ana :: .fld :: .cls :: .pwr :: .trust :: .cross :: .cfg :: .image :: .regs :: r)) ∧
    Frames .overVoltage s (.pwr :: r) ∧
    (∀ a, Frames (.powerOnReset a) s (.mem :: .tim :: .lanes :: .vot :: .rng :: .cyc :: .stra :: .eth :: .mvb :: .col :: .chk :: .mot :: .ana :: .fld :: .cls :: .pwr :: .trust :: .cross :: .cfg :: .image :: .regs :: r)) ∧
    (∀ a b c d e, Frames (.powerOnResetRelease a b c d e) s (.tim :: .cyc :: .stra :: .eth :: .mvb :: .mot :: .ana :: .fld :: .pwr :: .trust :: .cross :: .cfg :: .image :: r)) ∧
    Frames .externalModuleReset s (.mem :: .tim :: .lanes :: .vot :: .rng :: .cyc :: .stra :: .eth :: .mvb :: .col :: .chk :: .mot :: .ana :: .fld :: .cls :: .pwr :: .trust :: .cross :: .cfg :: .image :: .regs :: r) ∧
    Frames .supervisorWatchdog s (.mem :: .tim :: .lanes :: .vot :: .rng :: .cyc :: .stra :: .eth :: .mvb :: .col :: .chk :: .mot :: .ana :: .fld :: .cls :: .pwr :: .trust :: .cross :: .cfg :: .image :: .regs :: r) ∧
    (∀ a, Frames (.engineHeartbeatLost a) s (.pwr :: r)) ∧
    (∀ a, Frames (.engineRestartEnd a) s [.mem, .irq, .rng, .stra, .mot, .fld, .pwr, .trust]) ∧
    (∀ a b, Frames (.supHealthRead a b) s [.rng, .cyc]) ∧
    (∀ a b, Frames (.supStateReq a b) s [.rng, .pwr]) ∧
    Frames .lowPowerEntry s (.mem :: .tim :: .lanes :: .vot :: .rng :: .cyc :: .stra :: .eth :: .mvb :: .col :: .chk :: .mot :: .ana :: .fld :: .cls :: .pwr :: .trust :: .cross :: .cfg :: .image :: .regs :: r) ∧
    (∀ a b, Frames (.wake a b) s (.cyc :: .stra :: .eth :: .mvb :: .mot :: .ana :: .fld :: .pwr :: .trust :: .cross :: .cfg :: .image :: r)) ∧
    (∀ a b, Frames (.railOutOfWindow a b) s (.pwr :: r)) ∧
    (∀ a b, Frames (.temperatureWarning a b) s (.pwr :: r)) ∧
    (∀ a b, Frames (.overTemperature a b) s (.pwr :: r)) ∧
    (∀ a, Frames (.avsStep a) s (.pwr :: r)) ∧
    (∀ a b, Frames (.ageingStep a b) s (.pwr :: r)) ∧
    (∀ a b c, Frames (.domainClockLost a b c) s (.mem :: .rng :: .stra :: .col :: .cross :: r)) ∧
    (∀ a, Frames (.domainClockRestored a) s (.stra :: .cross :: r)) ∧
    Frames .fabricClockLost s (.mem :: .tim :: .lanes :: .vot :: .rng :: .cyc :: .stra :: .eth :: .mvb :: .col :: .chk :: .mot :: .ana :: .fld :: .cls :: .pwr :: .trust :: .cross :: .cfg :: .image :: .regs :: r) ∧
    (∀ a b c, Frames (.crossingStalled a b c) s (.cross :: r)) ∧
    Frames .referenceDrift s r ∧
    (∀ a, Frames (.sysXclr a) s [.cross]) ∧
    Frames .pinClr s r ∧
    (∀ a b c, Frames (.registerWrite a b c) s (.mem :: .lanes :: .vot :: .rng :: .cyc :: .cls :: .trust :: r)) ∧
    (∀ a, Frames (.loadEndCommand a) s (.trust :: r)) ∧
    (∀ a b, Frames (.zeroTagError a b) s (.mem :: .lanes :: .vot :: .rng :: .cyc :: .cls :: .trust :: r)) ∧
    (∀ a b, Frames (.codeGroupSyncLost a b) s [.stra]) ∧
    Frames .bpRstEnd s [.col] ∧
    (∀ a b, Frames (.fieldInputLevelChange a b) s [.fld]) ∧
    Frames .connectionClosed s [.trust] ∧
    (∀ a, Frames (.groupSupplyRestored a) s [.fld])

end
end

