-- ==== Sys2Proof/Laws/State.lean ====
section
/-!
SUPPORT. Small lemmas of the state: what each update writes and what it leaves, through conditionals and folds.
-/

namespace Sys2Proof.Machine

/-- The fields otp, pending, draws, image, cfg are unchanged. -/
@[simp] abbrev KeepsRest (s u : State) : Prop :=
  u.otp = s.otp ∧ u.pending = s.pending ∧ u.draws = s.draws ∧ u.image = s.image ∧ u.cfg = s.cfg

/-- The fields mem, vot, rng, cyc, cls, trust, col are unchanged. -/
@[simp] abbrev KeepsCore (s u : State) : Prop :=
  u.mem = s.mem ∧ u.vot = s.vot ∧ u.rng = s.rng ∧ u.cyc = s.cyc ∧ u.cls = s.cls ∧ u.trust = s.trust ∧ u.col = s.col

/-- The fields rcd, flt, lanes are unchanged. -/
@[simp] abbrev KeepsReports (s u : State) : Prop :=
  u.rcd = s.rcd ∧ u.flt = s.flt ∧ u.lanes = s.lanes

/-- The fields tim, stra, eth, mvb, chk, mot, ana, fld, pwr, cross, regs are unchanged. -/
@[simp] abbrev KeepsUnits (s u : State) : Prop :=
  u.tim = s.tim ∧ u.stra = s.stra ∧ u.eth = s.eth ∧ u.mvb = s.mvb ∧ u.chk = s.chk ∧ u.mot = s.mot ∧ u.ana = s.ana ∧ u.fld = s.fld ∧
  u.pwr = s.pwr ∧ u.cross = s.cross ∧ u.regs = s.regs

@[simp] theorem ite_otp (c : Prop) [Decidable c] (s u : State) : (if c then s else u).otp = if c then s.otp else u.otp :=
  apply_ite State.otp c s u
@[simp] theorem ite_mem (c : Prop) [Decidable c] (s u : State) : (if c then s else u).mem = if c then s.mem else u.mem :=
  apply_ite State.mem c s u
@[simp] theorem ite_tim (c : Prop) [Decidable c] (s u : State) : (if c then s else u).tim = if c then s.tim else u.tim :=
  apply_ite State.tim c s u
@[simp] theorem ite_rcd (c : Prop) [Decidable c] (s u : State) : (if c then s else u).rcd = if c then s.rcd else u.rcd :=
  apply_ite State.rcd c s u
@[simp] theorem ite_flt (c : Prop) [Decidable c] (s u : State) : (if c then s else u).flt = if c then s.flt else u.flt :=
  apply_ite State.flt c s u
@[simp] theorem ite_lanes (c : Prop) [Decidable c] (s u : State) : (if c then s else u).lanes = if c then s.lanes else u.lanes :=
  apply_ite State.lanes c s u
@[simp] theorem ite_vot (c : Prop) [Decidable c] (s u : State) : (if c then s else u).vot = if c then s.vot else u.vot :=
  apply_ite State.vot c s u
@[simp] theorem ite_rng (c : Prop) [Decidable c] (s u : State) : (if c then s else u).rng = if c then s.rng else u.rng :=
  apply_ite State.rng c s u
@[simp] theorem ite_cyc (c : Prop) [Decidable c] (s u : State) : (if c then s else u).cyc = if c then s.cyc else u.cyc :=
  apply_ite State.cyc c s u
@[simp] theorem ite_stra (c : Prop) [Decidable c] (s u : State) : (if c then s else u).stra = if c then s.stra else u.stra :=
  apply_ite State.stra c s u
@[simp] theorem ite_eth (c : Prop) [Decidable c] (s u : State) : (if c then s else u).eth = if c then s.eth else u.eth :=
  apply_ite State.eth c s u
@[simp] theorem ite_mvb (c : Prop) [Decidable c] (s u : State) : (if c then s else u).mvb = if c then s.mvb else u.mvb :=
  apply_ite State.mvb c s u
@[simp] theorem ite_col (c : Prop) [Decidable c] (s u : State) : (if c then s else u).col = if c then s.col else u.col :=
  apply_ite State.col c s u
@[simp] theorem ite_chk (c : Prop) [Decidable c] (s u : State) : (if c then s else u).chk = if c then s.chk else u.chk :=
  apply_ite State.chk c s u
@[simp] theorem ite_mot (c : Prop) [Decidable c] (s u : State) : (if c then s else u).mot = if c then s.mot else u.mot :=
  apply_ite State.mot c s u
@[simp] theorem ite_ana (c : Prop) [Decidable c] (s u : State) : (if c then s else u).ana = if c then s.ana else u.ana :=
  apply_ite State.ana c s u
@[simp] theorem ite_fld (c : Prop) [Decidable c] (s u : State) : (if c then s else u).fld = if c then s.fld else u.fld :=
  apply_ite State.fld c s u
@[simp] theorem ite_cls (c : Prop) [Decidable c] (s u : State) : (if c then s else u).cls = if c then s.cls else u.cls :=
  apply_ite State.cls c s u
@[simp] theorem ite_pwr (c : Prop) [Decidable c] (s u : State) : (if c then s else u).pwr = if c then s.pwr else u.pwr :=
  apply_ite State.pwr c s u
@[simp] theorem ite_trust (c : Prop) [Decidable c] (s u : State) : (if c then s else u).trust = if c then s.trust else u.trust :=
  apply_ite State.trust c s u
@[simp] theorem ite_cross (c : Prop) [Decidable c] (s u : State) : (if c then s else u).cross = if c then s.cross else u.cross :=
  apply_ite State.cross c s u
@[simp] theorem ite_cfg (c : Prop) [Decidable c] (s u : State) : (if c then s else u).cfg = if c then s.cfg else u.cfg :=
  apply_ite State.cfg c s u
@[simp] theorem ite_image (c : Prop) [Decidable c] (s u : State) : (if c then s else u).image = if c then s.image else u.image :=
  apply_ite State.image c s u
@[simp] theorem ite_regs (c : Prop) [Decidable c] (s u : State) : (if c then s else u).regs = if c then s.regs else u.regs :=
  apply_ite State.regs c s u
@[simp] theorem ite_draws (c : Prop) [Decidable c] (s u : State) : (if c then s else u).draws = if c then s.draws else u.draws :=
  apply_ite State.draws c s u
@[simp] theorem ite_pending (c : Prop) [Decidable c] (s u : State) : (if c then s else u).pending = if c then s.pending else u.pending :=
  apply_ite State.pending c s u

/-- What every step of a fold keeps, the fold keeps. -/
theorem foldl_keeps {β α : Type} (p : State → β) (g : State → α → State) (h : ∀ s a, p (g s a) = p s) (l : List α) (s : State) :
    p (l.foldl g s) = p s := by
  induction l generalizing s with
  | nil => rfl
  | cons a l ih => rw [List.foldl_cons, ih, h]

@[simp] theorem foldl_otp {α : Type} (g : State → α → State) (h : ∀ s a, (g s a).otp = s.otp) (l : List α) (s : State) :
    (l.foldl g s).otp = s.otp := foldl_keeps State.otp g h l s
@[simp] theorem foldl_mem {α : Type} (g : State → α → State) (h : ∀ s a, (g s a).mem = s.mem) (l : List α) (s : State) :
    (l.foldl g s).mem = s.mem := foldl_keeps State.mem g h l s
@[simp] theorem foldl_tim {α : Type} (g : State → α → State) (h : ∀ s a, (g s a).tim = s.tim) (l : List α) (s : State) :
    (l.foldl g s).tim = s.tim := foldl_keeps State.tim g h l s
@[simp] theorem foldl_rcd {α : Type} (g : State → α → State) (h : ∀ s a, (g s a).rcd = s.rcd) (l : List α) (s : State) :
    (l.foldl g s).rcd = s.rcd := foldl_keeps State.rcd g h l s
@[simp] theorem foldl_flt {α : Type} (g : State → α → State) (h : ∀ s a, (g s a).flt = s.flt) (l : List α) (s : State) :
    (l.foldl g s).flt = s.flt := foldl_keeps State.flt g h l s
@[simp] theorem foldl_lanes {α : Type} (g : State → α → State) (h : ∀ s a, (g s a).lanes = s.lanes) (l : List α) (s : State) :
    (l.foldl g s).lanes = s.lanes := foldl_keeps State.lanes g h l s
@[simp] theorem foldl_vot {α : Type} (g : State → α → State) (h : ∀ s a, (g s a).vot = s.vot) (l : List α) (s : State) :
    (l.foldl g s).vot = s.vot := foldl_keeps State.vot g h l s
@[simp] theorem foldl_rng {α : Type} (g : State → α → State) (h : ∀ s a, (g s a).rng = s.rng) (l : List α) (s : State) :
    (l.foldl g s).rng = s.rng := foldl_keeps State.rng g h l s
@[simp] theorem foldl_cyc {α : Type} (g : State → α → State) (h : ∀ s a, (g s a).cyc = s.cyc) (l : List α) (s : State) :
    (l.foldl g s).cyc = s.cyc := foldl_keeps State.cyc g h l s
@[simp] theorem foldl_stra {α : Type} (g : State → α → State) (h : ∀ s a, (g s a).stra = s.stra) (l : List α) (s : State) :
    (l.foldl g s).stra = s.stra := foldl_keeps State.stra g h l s
@[simp] theorem foldl_eth {α : Type} (g : State → α → State) (h : ∀ s a, (g s a).eth = s.eth) (l : List α) (s : State) :
    (l.foldl g s).eth = s.eth := foldl_keeps State.eth g h l s
@[simp] theorem foldl_mvb {α : Type} (g : State → α → State) (h : ∀ s a, (g s a).mvb = s.mvb) (l : List α) (s : State) :
    (l.foldl g s).mvb = s.mvb := foldl_keeps State.mvb g h l s
@[simp] theorem foldl_col {α : Type} (g : State → α → State) (h : ∀ s a, (g s a).col = s.col) (l : List α) (s : State) :
    (l.foldl g s).col = s.col := foldl_keeps State.col g h l s
@[simp] theorem foldl_chk {α : Type} (g : State → α → State) (h : ∀ s a, (g s a).chk = s.chk) (l : List α) (s : State) :
    (l.foldl g s).chk = s.chk := foldl_keeps State.chk g h l s
@[simp] theorem foldl_mot {α : Type} (g : State → α → State) (h : ∀ s a, (g s a).mot = s.mot) (l : List α) (s : State) :
    (l.foldl g s).mot = s.mot := foldl_keeps State.mot g h l s
@[simp] theorem foldl_ana {α : Type} (g : State → α → State) (h : ∀ s a, (g s a).ana = s.ana) (l : List α) (s : State) :
    (l.foldl g s).ana = s.ana := foldl_keeps State.ana g h l s
@[simp] theorem foldl_fld {α : Type} (g : State → α → State) (h : ∀ s a, (g s a).fld = s.fld) (l : List α) (s : State) :
    (l.foldl g s).fld = s.fld := foldl_keeps State.fld g h l s
@[simp] theorem foldl_cls {α : Type} (g : State → α → State) (h : ∀ s a, (g s a).cls = s.cls) (l : List α) (s : State) :
    (l.foldl g s).cls = s.cls := foldl_keeps State.cls g h l s
@[simp] theorem foldl_pwr {α : Type} (g : State → α → State) (h : ∀ s a, (g s a).pwr = s.pwr) (l : List α) (s : State) :
    (l.foldl g s).pwr = s.pwr := foldl_keeps State.pwr g h l s
@[simp] theorem foldl_trust {α : Type} (g : State → α → State) (h : ∀ s a, (g s a).trust = s.trust) (l : List α) (s : State) :
    (l.foldl g s).trust = s.trust := foldl_keeps State.trust g h l s
@[simp] theorem foldl_cross {α : Type} (g : State → α → State) (h : ∀ s a, (g s a).cross = s.cross) (l : List α) (s : State) :
    (l.foldl g s).cross = s.cross := foldl_keeps State.cross g h l s
@[simp] theorem foldl_cfg {α : Type} (g : State → α → State) (h : ∀ s a, (g s a).cfg = s.cfg) (l : List α) (s : State) :
    (l.foldl g s).cfg = s.cfg := foldl_keeps State.cfg g h l s
@[simp] theorem foldl_image {α : Type} (g : State → α → State) (h : ∀ s a, (g s a).image = s.image) (l : List α) (s : State) :
    (l.foldl g s).image = s.image := foldl_keeps State.image g h l s
@[simp] theorem foldl_regs {α : Type} (g : State → α → State) (h : ∀ s a, (g s a).regs = s.regs) (l : List α) (s : State) :
    (l.foldl g s).regs = s.regs := foldl_keeps State.regs g h l s
@[simp] theorem foldl_draws {α : Type} (g : State → α → State) (h : ∀ s a, (g s a).draws = s.draws) (l : List α) (s : State) :
    (l.foldl g s).draws = s.draws := foldl_keeps State.draws g h l s
@[simp] theorem foldl_pending {α : Type} (g : State → α → State) (h : ∀ s a, (g s a).pending = s.pending) (l : List α) (s : State) :
    (l.foldl g s).pending = s.pending := foldl_keeps State.pending g h l s

@[simp] theorem State.modLane_frame (s : State) l f :
    KeepsRest s (State.modLane s l f) ∧ KeepsCore s (State.modLane s l f) ∧ (State.modLane s l f).rcd = s.rcd ∧
    (State.modLane s l f).flt = s.flt ∧ KeepsUnits s (State.modLane s l f) := by
  simp [State.modLane]

@[simp] theorem State.modLanes_frame (s : State) f :
    KeepsRest s (State.modLanes s f) ∧ KeepsCore s (State.modLanes s f) ∧ (State.modLanes s f).rcd = s.rcd ∧
    (State.modLanes s f).flt = s.flt ∧ KeepsUnits s (State.modLanes s f) := by
  simp [State.modLanes]

@[simp] theorem State.modCore_frame (s : State) l c f :
    KeepsRest s (State.modCore s l c f) ∧ KeepsCore s (State.modCore s l c f) ∧ (State.modCore s l c f).rcd = s.rcd ∧
    (State.modCore s l c f).flt = s.flt ∧ KeepsUnits s (State.modCore s l c f) := by
  simp [State.modCore]

@[simp] theorem State.modRing_frame (s : State) r f :
    KeepsRest s (State.modRing s r f) ∧ (State.modRing s r f).mem = s.mem ∧ (State.modRing s r f).vot = s.vot ∧
    (State.modRing s r f).cyc = s.cyc ∧ (State.modRing s r f).cls = s.cls ∧ (State.modRing s r f).trust = s.trust ∧
    (State.modRing s r f).col = s.col ∧ KeepsReports s (State.modRing s r f) ∧ KeepsUnits s (State.modRing s r f) := by
  simp [State.modRing]

@[simp] theorem State.modTask_frame (s : State) t f :
    KeepsRest s (State.modTask s t f) ∧ (State.modTask s t f).mem = s.mem ∧ (State.modTask s t f).vot = s.vot ∧
    (State.modTask s t f).rng = s.rng ∧ (State.modTask s t f).cls = s.cls ∧ (State.modTask s t f).trust = s.trust ∧
    (State.modTask s t f).col = s.col ∧ KeepsReports s (State.modTask s t f) ∧ KeepsUnits s (State.modTask s t f) := by
  simp [State.modTask]

@[simp] theorem State.modVot_frame (s : State) l f :
    KeepsRest s (State.modVot s l f) ∧ (State.modVot s l f).mem = s.mem ∧ (State.modVot s l f).rng = s.rng ∧
    (State.modVot s l f).cyc = s.cyc ∧ (State.modVot s l f).cls = s.cls ∧ (State.modVot s l f).trust = s.trust ∧
    (State.modVot s l f).col = s.col ∧ KeepsReports s (State.modVot s l f) ∧ KeepsUnits s (State.modVot s l f) := by
  simp [State.modVot]

@[simp] theorem State.modReint_frame (s : State) f :
    KeepsRest s (State.modReint s f) ∧ (State.modReint s f).mem = s.mem ∧ (State.modReint s f).rng = s.rng ∧
    (State.modReint s f).cyc = s.cyc ∧ (State.modReint s f).cls = s.cls ∧ (State.modReint s f).trust = s.trust ∧
    (State.modReint s f).col = s.col ∧ KeepsReports s (State.modReint s f) ∧ KeepsUnits s (State.modReint s f) := by
  simp [State.modReint]

@[simp] theorem State.modRecv_frame (s : State) n f :
    KeepsRest s (State.modRecv s n f) ∧ KeepsCore s (State.modRecv s n f) ∧ KeepsReports s (State.modRecv s n f) ∧
    (State.modRecv s n f).tim = s.tim ∧ (State.modRecv s n f).stra = s.stra ∧ (State.modRecv s n f).eth = s.eth ∧
    (State.modRecv s n f).mvb = s.mvb ∧ (State.modRecv s n f).mot = s.mot ∧ (State.modRecv s n f).ana = s.ana ∧
    (State.modRecv s n f).fld = s.fld ∧ (State.modRecv s n f).pwr = s.pwr ∧ (State.modRecv s n f).cross = s.cross ∧
    (State.modRecv s n f).regs = s.regs := by
  simp [State.modRecv]

@[simp] theorem State.modChan_frame (s : State) ch f :
    KeepsRest s (State.modChan s ch f) ∧ KeepsCore s (State.modChan s ch f) ∧ KeepsReports s (State.modChan s ch f) ∧
    (State.modChan s ch f).tim = s.tim ∧ (State.modChan s ch f).eth = s.eth ∧ (State.modChan s ch f).mvb = s.mvb ∧
    (State.modChan s ch f).chk = s.chk ∧ (State.modChan s ch f).mot = s.mot ∧ (State.modChan s ch f).ana = s.ana ∧
    (State.modChan s ch f).fld = s.fld ∧ (State.modChan s ch f).pwr = s.pwr ∧ (State.modChan s ch f).cross = s.cross ∧
    (State.modChan s ch f).regs = s.regs := by
  simp [State.modChan]

@[simp] theorem State.modPort_frame (s : State) ch p f :
    KeepsRest s (State.modPort s ch p f) ∧ KeepsCore s (State.modPort s ch p f) ∧ KeepsReports s (State.modPort s ch p f) ∧
    (State.modPort s ch p f).tim = s.tim ∧ (State.modPort s ch p f).eth = s.eth ∧ (State.modPort s ch p f).mvb = s.mvb ∧
    (State.modPort s ch p f).chk = s.chk ∧ (State.modPort s ch p f).mot = s.mot ∧ (State.modPort s ch p f).ana = s.ana ∧
    (State.modPort s ch p f).fld = s.fld ∧ (State.modPort s ch p f).pwr = s.pwr ∧ (State.modPort s ch p f).cross = s.cross ∧
    (State.modPort s ch p f).regs = s.regs := by
  simp [State.modPort]

@[simp] theorem State.modNode_frame (s : State) f :
    KeepsRest s (State.modNode s f) ∧ KeepsCore s (State.modNode s f) ∧ KeepsReports s (State.modNode s f) ∧
    (State.modNode s f).tim = s.tim ∧ (State.modNode s f).eth = s.eth ∧ (State.modNode s f).mvb = s.mvb ∧ (State.modNode s f).chk = s.chk ∧
    (State.modNode s f).mot = s.mot ∧ (State.modNode s f).ana = s.ana ∧ (State.modNode s f).fld = s.fld ∧ (State.modNode s f).pwr = s.pwr ∧
    (State.modNode s f).cross = s.cross ∧ (State.modNode s f).regs = s.regs := by
  simp [State.modNode]

@[simp] theorem State.modBezel_frame (s : State) ch f :
    KeepsRest s (State.modBezel s ch f) ∧ KeepsCore s (State.modBezel s ch f) ∧ KeepsReports s (State.modBezel s ch f) ∧
    (State.modBezel s ch f).tim = s.tim ∧ (State.modBezel s ch f).eth = s.eth ∧ (State.modBezel s ch f).mvb = s.mvb ∧
    (State.modBezel s ch f).chk = s.chk ∧ (State.modBezel s ch f).mot = s.mot ∧ (State.modBezel s ch f).ana = s.ana ∧
    (State.modBezel s ch f).fld = s.fld ∧ (State.modBezel s ch f).pwr = s.pwr ∧ (State.modBezel s ch f).cross = s.cross ∧
    (State.modBezel s ch f).regs = s.regs := by
  simp [State.modBezel]

@[simp] theorem State.modEth_frame (s : State) q f :
    KeepsRest s (State.modEth s q f) ∧ KeepsCore s (State.modEth s q f) ∧ KeepsReports s (State.modEth s q f) ∧
    (State.modEth s q f).tim = s.tim ∧ (State.modEth s q f).stra = s.stra ∧ (State.modEth s q f).mvb = s.mvb ∧
    (State.modEth s q f).chk = s.chk ∧ (State.modEth s q f).mot = s.mot ∧ (State.modEth s q f).ana = s.ana ∧
    (State.modEth s q f).fld = s.fld ∧ (State.modEth s q f).pwr = s.pwr ∧ (State.modEth s q f).cross = s.cross ∧
    (State.modEth s q f).regs = s.regs := by
  simp [State.modEth]

@[simp] theorem State.modMvb_frame (s : State) f :
    KeepsRest s (State.modMvb s f) ∧ KeepsCore s (State.modMvb s f) ∧ KeepsReports s (State.modMvb s f) ∧ (State.modMvb s f).tim = s.tim ∧
    (State.modMvb s f).stra = s.stra ∧ (State.modMvb s f).eth = s.eth ∧ (State.modMvb s f).chk = s.chk ∧ (State.modMvb s f).mot = s.mot ∧
    (State.modMvb s f).ana = s.ana ∧ (State.modMvb s f).fld = s.fld ∧ (State.modMvb s f).pwr = s.pwr ∧ (State.modMvb s f).cross = s.cross ∧
    (State.modMvb s f).regs = s.regs := by
  simp [State.modMvb]

@[simp] theorem State.modCol_frame (s : State) f :
    KeepsRest s (State.modCol s f) ∧ (State.modCol s f).mem = s.mem ∧ (State.modCol s f).vot = s.vot ∧ (State.modCol s f).rng = s.rng ∧
    (State.modCol s f).cyc = s.cyc ∧ (State.modCol s f).cls = s.cls ∧ (State.modCol s f).trust = s.trust ∧
    KeepsReports s (State.modCol s f) ∧ KeepsUnits s (State.modCol s f) := by
  simp [State.modCol]

@[simp] theorem regSet_frame (s : State) a w :
    KeepsRest s (regSet s a w) ∧ KeepsCore s (regSet s a w) ∧ KeepsReports s (regSet s a w) ∧ (regSet s a w).tim = s.tim ∧
    (regSet s a w).stra = s.stra ∧ (regSet s a w).eth = s.eth ∧ (regSet s a w).mvb = s.mvb ∧ (regSet s a w).chk = s.chk ∧
    (regSet s a w).mot = s.mot ∧ (regSet s a w).ana = s.ana ∧ (regSet s a w).fld = s.fld ∧ (regSet s a w).pwr = s.pwr ∧
    (regSet s a w).cross = s.cross := by
  simp [regSet]


/-! ## Vectors -/

@[simp] theorem vget_vset_self {α : Type} {n : Nat} (v : Vector α n) (i : Fin n) (x : α) : vget (vset v i x) i = x := by
  show (v.set i.val x i.isLt)[i.val] = x
  simp

theorem vget_vset_other {α : Type} {n : Nat} (v : Vector α n) (i j : Fin n) (x : α) (h : j ≠ i) : vget (vset v i x) j = vget v j := by
  have : (i : Nat) ≠ j := fun e => h (Fin.ext e.symm)
  show (v.set i.val x i.isLt)[j.val] = v[j.val]
  simp [this]

@[simp] theorem vget_vmod_self {α : Type} {n : Nat} (v : Vector α n) (i : Fin n) (f : α → α) : vget (vmod v i f) i = f (vget v i) := by
  simp [vmod]

theorem vget_vmod_other {α : Type} {n : Nat} (v : Vector α n) (i j : Fin n) (f : α → α) (h : j ≠ i) : vget (vmod v i f) j = vget v j := by
  simp [vmod, vget_vset_other _ _ _ _ h]

/-! ## What an update writes -/

@[simp] theorem State.lane_modLane (s : State) (l : LaneId) (f : Lane → Lane) : (s.modLane l f).lane l = f (s.lane l) := by
  simp [State.lane, State.modLane]

theorem State.lane_modLane_other (s : State) (l m : LaneId) (f : Lane → Lane) (h : m ≠ l) : (s.modLane l f).lane m = s.lane m := by
  simp [State.lane, State.modLane, vget_vmod_other _ _ _ _ h]

@[simp] theorem State.lane_modLanes (s : State) (l : LaneId) (f : Lane → Lane) : (s.modLanes f).lane l = f (s.lane l) := by
  show (s.lanes.map f)[l.val] = f s.lanes[l.val]
  simp

@[simp] theorem State.ringAt_modRing (s : State) (r : Fin 64) (f : Ring → Ring) : (s.modRing r f).ringAt r = f (s.ringAt r) := by
  simp [State.ringAt, State.modRing]

theorem State.ringAt_modRing_other (s : State) (r q : Fin 64) (f : Ring → Ring) (h : q ≠ r) : (s.modRing r f).ringAt q = s.ringAt q := by
  simp [State.ringAt, State.modRing, vget_vmod_other _ _ _ _ h]

@[simp] theorem State.modCol_col (s : State) (f : Col → Col) : (s.modCol f).col = f s.col := rfl

@[simp] theorem State.modMvb_mvb (s : State) (f : Mvb → Mvb) : (s.modMvb f).mvb = f s.mvb := rfl

@[simp] theorem State.modNode_node (s : State) (f : Node → Node) : (s.modNode f).stra.node = f s.stra.node := rfl

@[simp] theorem State.modReint_reint (s : State) (f : Reint → Reint) : (s.modReint f).vot.reint = f s.vot.reint := rfl

@[simp] theorem State.chan_modChan (s : State) (c : ChanId) (f : Chan → Chan) : (s.modChan c f).chan c = f (s.chan c) := by
  simp [State.chan, State.modChan]

@[simp] theorem State.ethPort_modEth (s : State) (q : EthId) (f : EthPort → EthPort) : (s.modEth q f).ethPort q = f (s.ethPort q) := by
  simp [State.ethPort, State.modEth]

end Sys2Proof.Machine
end

