-- ==== Sys2Proof/Laws/FrameOps.lean ====
section
/-!
SUPPORT. What each operation leaves unchanged: the shared operations: records, reports, completions, stopping, the end of a fabric cycle, the time base and the recorder.
-/

namespace Sys2Proof.Machine

@[simp] theorem regPut_frame (s : State) a lo w v :
    KeepsRest s (regPut s a lo w v) ∧ KeepsCore s (regPut s a lo w v) ∧ KeepsReports s (regPut s a lo w v) ∧
    (regPut s a lo w v).tim = s.tim ∧ (regPut s a lo w v).stra = s.stra ∧ (regPut s a lo w v).eth = s.eth ∧ (regPut s a lo w v).mvb = s.mvb ∧
    (regPut s a lo w v).chk = s.chk ∧ (regPut s a lo w v).mot = s.mot ∧ (regPut s a lo w v).ana = s.ana ∧ (regPut s a lo w v).fld = s.fld ∧
    (regPut s a lo w v).pwr = s.pwr ∧ (regPut s a lo w v).cross = s.cross := by
  simp [regPut]

@[simp] theorem raiseAll_frame b (s : State) :
    KeepsRest s (raiseAll b s) ∧ KeepsCore s (raiseAll b s) ∧ (raiseAll b s).rcd = s.rcd ∧ (raiseAll b s).flt = s.flt ∧
    KeepsUnits s (raiseAll b s) := by
  simp [raiseAll]

@[simp] theorem requestRecord_frame r (s : State) :
    KeepsRest s (requestRecord r s) ∧ KeepsCore s (requestRecord r s) ∧ (requestRecord r s).flt = s.flt ∧
    (requestRecord r s).lanes = s.lanes ∧ KeepsUnits s (requestRecord r s) := by
  simp [requestRecord]

@[simp] theorem opDone_frame r tag status ra rb (s : State) :
    KeepsRest s (opDone r tag status ra rb s) ∧ (opDone r tag status ra rb s).mem = s.mem ∧ (opDone r tag status ra rb s).vot = s.vot ∧
    (opDone r tag status ra rb s).cyc = s.cyc ∧ (opDone r tag status ra rb s).cls = s.cls ∧ (opDone r tag status ra rb s).trust = s.trust ∧
    (opDone r tag status ra rb s).col = s.col ∧ KeepsReports s (opDone r tag status ra rb s) ∧ KeepsUnits s (opDone r tag status ra rb s) := by
  simp [opDone]

@[simp] theorem stageRecord_frame (s : State) r :
    KeepsRest s (stageRecord s r) ∧ (stageRecord s r).mem = s.mem ∧ (stageRecord s r).vot = s.vot ∧ (stageRecord s r).cyc = s.cyc ∧
    (stageRecord s r).cls = s.cls ∧ (stageRecord s r).trust = s.trust ∧ (stageRecord s r).col = s.col ∧ (stageRecord s r).lanes = s.lanes ∧
    KeepsUnits s (stageRecord s r) := by
  unfold stageRecord
  dsimp only
  (repeat' split) <;> simp

@[simp] theorem faultRecord_frame code origin data (s : State) :
    KeepsRest s (faultRecord code origin data s) ∧ KeepsCore s (faultRecord code origin data s) ∧
    (faultRecord code origin data s).lanes = s.lanes ∧ KeepsUnits s (faultRecord code origin data s) := by
  simp [faultRecord]

@[simp] theorem reportOnly_frame code origin data (s : State) :
    KeepsRest s (reportOnly code origin data s) ∧ KeepsCore s (reportOnly code origin data s) ∧ KeepsUnits s (reportOnly code origin data s) := by
  simp [reportOnly]

@[simp] theorem report_frame code origin data (s : State) :
    KeepsRest s (report code origin data s) ∧ KeepsCore s (report code origin data s) ∧ KeepsUnits s (report code origin data s) := by
  simp [report]

@[simp] theorem rep_frame code (s : State) :
    KeepsRest s (rep code s) ∧ KeepsCore s (rep code s) ∧ KeepsUnits s (rep code s) := by
  simp [rep]

@[simp] theorem repLane_frame code l (s : State) :
    KeepsRest s (repLane code l s) ∧ KeepsCore s (repLane code l s) ∧ KeepsUnits s (repLane code l s) := by
  simp [repLane]

@[simp] theorem repRing_frame code engine (s : State) :
    KeepsRest s (repRing code engine s) ∧ KeepsCore s (repRing code engine s) ∧ KeepsUnits s (repRing code engine s) := by
  simp [repRing]

@[simp] theorem ringDone_frame r (s : State) :
    KeepsRest s (ringDone r s) ∧ KeepsCore s (ringDone r s) ∧ (ringDone r s).rcd = s.rcd ∧ (ringDone r s).flt = s.flt ∧
    KeepsUnits s (ringDone r s) := by
  unfold ringDone
  split <;> simp

@[simp] theorem ringComplete_frame r tag status ra rb notify (s : State) :
    KeepsRest s (ringComplete r tag status ra rb notify s) ∧ (ringComplete r tag status ra rb notify s).vot = s.vot ∧
    (ringComplete r tag status ra rb notify s).cyc = s.cyc ∧ (ringComplete r tag status ra rb notify s).cls = s.cls ∧
    (ringComplete r tag status ra rb notify s).trust = s.trust ∧ (ringComplete r tag status ra rb notify s).col = s.col ∧
    (ringComplete r tag status ra rb notify s).rcd = s.rcd ∧ (ringComplete r tag status ra rb notify s).flt = s.flt ∧
    KeepsUnits s (ringComplete r tag status ra rb notify s) := by
  simp [ringComplete]

@[simp] theorem abortHeld_frame r (s : State) :
    KeepsRest s (abortHeld r s) ∧ (abortHeld r s).vot = s.vot ∧ (abortHeld r s).cyc = s.cyc ∧ (abortHeld r s).cls = s.cls ∧
    (abortHeld r s).trust = s.trust ∧ (abortHeld r s).col = s.col ∧ (abortHeld r s).rcd = s.rcd ∧ (abortHeld r s).flt = s.flt ∧
    KeepsUnits s (abortHeld r s) := by
  simp [abortHeld]

@[simp] theorem drainRing_frame r (s : State) :
    KeepsRest s (drainRing r s) ∧ (drainRing r s).vot = s.vot ∧ (drainRing r s).cyc = s.cyc ∧ (drainRing r s).cls = s.cls ∧
    (drainRing r s).trust = s.trust ∧ (drainRing r s).col = s.col ∧ (drainRing r s).rcd = s.rcd ∧ (drainRing r s).flt = s.flt ∧
    KeepsUnits s (drainRing r s) := by
  simp [drainRing]

@[simp] theorem stopProgram_frame (s : State) :
    KeepsRest s (stopProgram s) ∧ (stopProgram s).vot = s.vot ∧ (stopProgram s).cls = s.cls ∧ (stopProgram s).trust = s.trust ∧
    (stopProgram s).col = s.col ∧ (stopProgram s).rcd = s.rcd ∧ (stopProgram s).flt = s.flt ∧ KeepsUnits s (stopProgram s) := by
  unfold stopProgram
  split <;> simp

@[simp] theorem computeHealth_frame (s : State) :
    KeepsRest s (computeHealth s) ∧ (computeHealth s).mem = s.mem ∧ (computeHealth s).vot = s.vot ∧ (computeHealth s).rng = s.rng ∧
    (computeHealth s).cyc = s.cyc ∧ (computeHealth s).trust = s.trust ∧ (computeHealth s).col = s.col ∧ KeepsReports s (computeHealth s) ∧
    KeepsUnits s (computeHealth s) := by
  simp [computeHealth]

@[simp] theorem setRole_frame r (s : State) :
    KeepsRest s (setRole r s) ∧ (setRole r s).mem = s.mem ∧ (setRole r s).vot = s.vot ∧ (setRole r s).rng = s.rng ∧
    (setRole r s).cyc = s.cyc ∧ (setRole r s).trust = s.trust ∧ (setRole r s).col = s.col ∧ KeepsUnits s (setRole r s) := by
  simp [setRole]

@[simp] theorem configFault_frame cause (s : State) :
    KeepsRest s (configFault cause s) ∧ (configFault cause s).mem = s.mem ∧ (configFault cause s).vot = s.vot ∧
    (configFault cause s).rng = s.rng ∧ (configFault cause s).cyc = s.cyc ∧ (configFault cause s).cls = s.cls ∧
    (configFault cause s).col = s.col ∧ KeepsUnits s (configFault cause s) := by
  simp [configFault]

@[simp] theorem withdrawClaim_frame (s : State) :
    KeepsRest s (withdrawClaim s) ∧ (withdrawClaim s).mem = s.mem ∧ (withdrawClaim s).vot = s.vot ∧ (withdrawClaim s).rng = s.rng ∧
    (withdrawClaim s).cyc = s.cyc ∧ (withdrawClaim s).trust = s.trust ∧ (withdrawClaim s).col = s.col ∧ KeepsUnits s (withdrawClaim s) := by
  simp [withdrawClaim]

@[simp] theorem swapLaneLost_frame (s : State) :
    KeepsRest s (swapLaneLost s) ∧ (swapLaneLost s).mem = s.mem ∧ (swapLaneLost s).vot = s.vot ∧ (swapLaneLost s).rng = s.rng ∧
    (swapLaneLost s).cls = s.cls ∧ (swapLaneLost s).col = s.col ∧ KeepsUnits s (swapLaneLost s) := by
  unfold swapLaneLost
  split <;> simp

@[simp] theorem forceLane_frame l (s : State) :
    KeepsRest s (forceLane l s) ∧ (forceLane l s).cyc = s.cyc ∧ (forceLane l s).cls = s.cls ∧ (forceLane l s).trust = s.trust ∧
    (forceLane l s).col = s.col ∧ (forceLane l s).rcd = s.rcd ∧ (forceLane l s).flt = s.flt ∧ KeepsUnits s (forceLane l s) := by
  simp [forceLane]

@[simp] theorem abortReint_frame (s : State) :
    KeepsRest s (abortReint s) ∧ (abortReint s).mem = s.mem ∧ (abortReint s).rng = s.rng ∧ (abortReint s).cyc = s.cyc ∧
    (abortReint s).cls = s.cls ∧ (abortReint s).trust = s.trust ∧ (abortReint s).col = s.col ∧ KeepsUnits s (abortReint s) := by
  simp [abortReint]

@[simp] theorem moduleFault_frame every (s : State) :
    KeepsRest s (moduleFault every s) ∧ (moduleFault every s).col = s.col ∧ KeepsUnits s (moduleFault every s) := by
  simp [moduleFault]

@[simp] theorem leaveCounted_frame l (s : State) :
    KeepsRest s (leaveCounted l s) ∧ (leaveCounted l s).col = s.col ∧ KeepsUnits s (leaveCounted l s) := by
  unfold leaveCounted
  dsimp only
  (repeat' split) <;> simp

@[simp] theorem leaveJoining_frame l (s : State) :
    KeepsRest s (leaveJoining l s) ∧ (leaveJoining l s).mem = s.mem ∧ (leaveJoining l s).rng = s.rng ∧ (leaveJoining l s).cyc = s.cyc ∧
    (leaveJoining l s).cls = s.cls ∧ (leaveJoining l s).trust = s.trust ∧ (leaveJoining l s).col = s.col ∧
    KeepsReports s (leaveJoining l s) ∧ KeepsUnits s (leaveJoining l s) := by
  simp [leaveJoining]

@[simp] theorem laneSafe_frame l kind task entry addr forced (s : State) :
    KeepsRest s (laneSafe l kind task entry addr forced s) ∧ (laneSafe l kind task entry addr forced s).col = s.col ∧
    KeepsUnits s (laneSafe l kind task entry addr forced s) := by
  simp [laneSafe]

@[simp] theorem laneFinding_frame l kind task entry addr (s : State) :
    KeepsRest s (laneFinding l kind task entry addr s) ∧ (laneFinding l kind task entry addr s).col = s.col ∧
    KeepsUnits s (laneFinding l kind task entry addr s) := by
  simp [laneFinding]

@[simp] theorem postedError_frame p entry off be kind (s : State) :
    KeepsRest s (postedError p entry off be kind s) ∧ (postedError p entry off be kind s).vot = s.vot ∧
    (postedError p entry off be kind s).cyc = s.cyc ∧ (postedError p entry off be kind s).cls = s.cls ∧
    (postedError p entry off be kind s).trust = s.trust ∧ KeepsUnits s (postedError p entry off be kind s) := by
  simp [postedError]

@[simp] theorem failPosted_frame kind (s : State) :
    KeepsRest s (failPosted kind s) ∧ (failPosted kind s).vot = s.vot ∧ (failPosted kind s).cyc = s.cyc ∧ (failPosted kind s).cls = s.cls ∧
    (failPosted kind s).trust = s.trust ∧ KeepsUnits s (failPosted kind s) := by
  simp [failPosted]

@[simp] theorem followEnable_frame (s : State) :
    KeepsRest s (followEnable s) ∧ (followEnable s).vot = s.vot ∧ (followEnable s).cyc = s.cyc ∧ (followEnable s).cls = s.cls ∧
    (followEnable s).trust = s.trust ∧ KeepsUnits s (followEnable s) := by
  simp [followEnable]

@[simp] theorem takeModuleSafe_frame (s : State) :
    KeepsRest s (takeModuleSafe s) ∧ (takeModuleSafe s).col = s.col ∧ KeepsUnits s (takeModuleSafe s) := by
  simp [takeModuleSafe]

@[simp] theorem stageCycle_frame (s : State) :
    KeepsRest s (stageCycle s) ∧ (stageCycle s).mem = s.mem ∧ (stageCycle s).vot = s.vot ∧ (stageCycle s).cyc = s.cyc ∧
    (stageCycle s).cls = s.cls ∧ (stageCycle s).trust = s.trust ∧ (stageCycle s).col = s.col ∧ KeepsUnits s (stageCycle s) := by
  simp [stageCycle]

@[simp] theorem endCycle_frame (s : State) :
    KeepsRest s (endCycle s) ∧ KeepsUnits s (endCycle s) := by
  simp [endCycle]

@[simp] theorem writeBuffer_frame addr bs (s : State) :
    KeepsRest s (writeBuffer addr bs s) ∧ (writeBuffer addr bs s).vot = s.vot ∧ (writeBuffer addr bs s).rng = s.rng ∧
    (writeBuffer addr bs s).cyc = s.cyc ∧ (writeBuffer addr bs s).cls = s.cls ∧ (writeBuffer addr bs s).trust = s.trust ∧
    (writeBuffer addr bs s).col = s.col ∧ KeepsReports s (writeBuffer addr bs s) ∧ KeepsUnits s (writeBuffer addr bs s) := by
  simp [writeBuffer]

@[simp] theorem runOp_otp r tag opcode f (s : State) (h : ∀ d t, (f d t).otp = t.otp) :
    (runOp r tag opcode f s).otp = s.otp := by
  unfold runOp
  split <;> simp [h]
@[simp] theorem runOp_mem r tag opcode f (s : State) (h : ∀ d t, (f d t).mem = t.mem) :
    (runOp r tag opcode f s).mem = s.mem := by
  unfold runOp
  split <;> simp [h]
@[simp] theorem runOp_tim r tag opcode f (s : State) (h : ∀ d t, (f d t).tim = t.tim) :
    (runOp r tag opcode f s).tim = s.tim := by
  unfold runOp
  split <;> simp [h]
@[simp] theorem runOp_rcd r tag opcode f (s : State) (h : ∀ d t, (f d t).rcd = t.rcd) :
    (runOp r tag opcode f s).rcd = s.rcd := by
  unfold runOp
  split <;> simp [h]
@[simp] theorem runOp_flt r tag opcode f (s : State) (h : ∀ d t, (f d t).flt = t.flt) :
    (runOp r tag opcode f s).flt = s.flt := by
  unfold runOp
  split <;> simp [h]
@[simp] theorem runOp_lanes r tag opcode f (s : State) (h : ∀ d t, (f d t).lanes = t.lanes) :
    (runOp r tag opcode f s).lanes = s.lanes := by
  unfold runOp
  split <;> simp [h]
@[simp] theorem runOp_vot r tag opcode f (s : State) (h : ∀ d t, (f d t).vot = t.vot) :
    (runOp r tag opcode f s).vot = s.vot := by
  unfold runOp
  split <;> simp [h]
@[simp] theorem runOp_rng r tag opcode f (s : State) (h : ∀ d t, (f d t).rng = t.rng) :
    (runOp r tag opcode f s).rng = s.rng := by
  unfold runOp
  split <;> simp [h]
@[simp] theorem runOp_cyc r tag opcode f (s : State) (h : ∀ d t, (f d t).cyc = t.cyc) :
    (runOp r tag opcode f s).cyc = s.cyc := by
  unfold runOp
  split <;> simp [h]
@[simp] theorem runOp_stra r tag opcode f (s : State) (h : ∀ d t, (f d t).stra = t.stra) :
    (runOp r tag opcode f s).stra = s.stra := by
  unfold runOp
  split <;> simp [h]
@[simp] theorem runOp_eth r tag opcode f (s : State) (h : ∀ d t, (f d t).eth = t.eth) :
    (runOp r tag opcode f s).eth = s.eth := by
  unfold runOp
  split <;> simp [h]
@[simp] theorem runOp_mvb r tag opcode f (s : State) (h : ∀ d t, (f d t).mvb = t.mvb) :
    (runOp r tag opcode f s).mvb = s.mvb := by
  unfold runOp
  split <;> simp [h]
@[simp] theorem runOp_col r tag opcode f (s : State) (h : ∀ d t, (f d t).col = t.col) :
    (runOp r tag opcode f s).col = s.col := by
  unfold runOp
  split <;> simp [h]
@[simp] theorem runOp_chk r tag opcode f (s : State) (h : ∀ d t, (f d t).chk = t.chk) :
    (runOp r tag opcode f s).chk = s.chk := by
  unfold runOp
  split <;> simp [h]
@[simp] theorem runOp_mot r tag opcode f (s : State) (h : ∀ d t, (f d t).mot = t.mot) :
    (runOp r tag opcode f s).mot = s.mot := by
  unfold runOp
  split <;> simp [h]
@[simp] theorem runOp_ana r tag opcode f (s : State) (h : ∀ d t, (f d t).ana = t.ana) :
    (runOp r tag opcode f s).ana = s.ana := by
  unfold runOp
  split <;> simp [h]
@[simp] theorem runOp_fld r tag opcode f (s : State) (h : ∀ d t, (f d t).fld = t.fld) :
    (runOp r tag opcode f s).fld = s.fld := by
  unfold runOp
  split <;> simp [h]
@[simp] theorem runOp_cls r tag opcode f (s : State) (h : ∀ d t, (f d t).cls = t.cls) :
    (runOp r tag opcode f s).cls = s.cls := by
  unfold runOp
  split <;> simp [h]
@[simp] theorem runOp_pwr r tag opcode f (s : State) (h : ∀ d t, (f d t).pwr = t.pwr) :
    (runOp r tag opcode f s).pwr = s.pwr := by
  unfold runOp
  split <;> simp [h]
@[simp] theorem runOp_trust r tag opcode f (s : State) (h : ∀ d t, (f d t).trust = t.trust) :
    (runOp r tag opcode f s).trust = s.trust := by
  unfold runOp
  split <;> simp [h]
@[simp] theorem runOp_cross r tag opcode f (s : State) (h : ∀ d t, (f d t).cross = t.cross) :
    (runOp r tag opcode f s).cross = s.cross := by
  unfold runOp
  split <;> simp [h]
@[simp] theorem runOp_cfg r tag opcode f (s : State) (h : ∀ d t, (f d t).cfg = t.cfg) :
    (runOp r tag opcode f s).cfg = s.cfg := by
  unfold runOp
  split <;> simp [h]
@[simp] theorem runOp_image r tag opcode f (s : State) (h : ∀ d t, (f d t).image = t.image) :
    (runOp r tag opcode f s).image = s.image := by
  unfold runOp
  split <;> simp [h]
@[simp] theorem runOp_regs r tag opcode f (s : State) (h : ∀ d t, (f d t).regs = t.regs) :
    (runOp r tag opcode f s).regs = s.regs := by
  unfold runOp
  split <;> simp [h]
@[simp] theorem runOp_draws r tag opcode f (s : State) (h : ∀ d t, (f d t).draws = t.draws) :
    (runOp r tag opcode f s).draws = s.draws := by
  unfold runOp
  split <;> simp [h]
@[simp] theorem runOp_pending r tag opcode f (s : State) (h : ∀ d t, (f d t).pending = t.pending) :
    (runOp r tag opcode f s).pending = s.pending := by
  unfold runOp
  split <;> simp [h]

@[simp] theorem runTimed_otp r d ra rb f (s : State) (h : ∀ t, (f t).otp = t.otp) :
    (runTimed r d ra rb f s).otp = s.otp := by
  unfold runTimed
  (repeat' split) <;> simp [h]
@[simp] theorem runTimed_mem r d ra rb f (s : State) (h : ∀ t, (f t).mem = t.mem) :
    (runTimed r d ra rb f s).mem = s.mem := by
  unfold runTimed
  (repeat' split) <;> simp [h]
@[simp] theorem runTimed_tim r d ra rb f (s : State) (h : ∀ t, (f t).tim = t.tim) :
    (runTimed r d ra rb f s).tim = s.tim := by
  unfold runTimed
  (repeat' split) <;> simp [h]
@[simp] theorem runTimed_vot r d ra rb f (s : State) (h : ∀ t, (f t).vot = t.vot) :
    (runTimed r d ra rb f s).vot = s.vot := by
  unfold runTimed
  (repeat' split) <;> simp [h]
@[simp] theorem runTimed_cyc r d ra rb f (s : State) (h : ∀ t, (f t).cyc = t.cyc) :
    (runTimed r d ra rb f s).cyc = s.cyc := by
  unfold runTimed
  (repeat' split) <;> simp [h]
@[simp] theorem runTimed_stra r d ra rb f (s : State) (h : ∀ t, (f t).stra = t.stra) :
    (runTimed r d ra rb f s).stra = s.stra := by
  unfold runTimed
  (repeat' split) <;> simp [h]
@[simp] theorem runTimed_eth r d ra rb f (s : State) (h : ∀ t, (f t).eth = t.eth) :
    (runTimed r d ra rb f s).eth = s.eth := by
  unfold runTimed
  (repeat' split) <;> simp [h]
@[simp] theorem runTimed_mvb r d ra rb f (s : State) (h : ∀ t, (f t).mvb = t.mvb) :
    (runTimed r d ra rb f s).mvb = s.mvb := by
  unfold runTimed
  (repeat' split) <;> simp [h]
@[simp] theorem runTimed_col r d ra rb f (s : State) (h : ∀ t, (f t).col = t.col) :
    (runTimed r d ra rb f s).col = s.col := by
  unfold runTimed
  (repeat' split) <;> simp [h]
@[simp] theorem runTimed_chk r d ra rb f (s : State) (h : ∀ t, (f t).chk = t.chk) :
    (runTimed r d ra rb f s).chk = s.chk := by
  unfold runTimed
  (repeat' split) <;> simp [h]
@[simp] theorem runTimed_mot r d ra rb f (s : State) (h : ∀ t, (f t).mot = t.mot) :
    (runTimed r d ra rb f s).mot = s.mot := by
  unfold runTimed
  (repeat' split) <;> simp [h]
@[simp] theorem runTimed_ana r d ra rb f (s : State) (h : ∀ t, (f t).ana = t.ana) :
    (runTimed r d ra rb f s).ana = s.ana := by
  unfold runTimed
  (repeat' split) <;> simp [h]
@[simp] theorem runTimed_fld r d ra rb f (s : State) (h : ∀ t, (f t).fld = t.fld) :
    (runTimed r d ra rb f s).fld = s.fld := by
  unfold runTimed
  (repeat' split) <;> simp [h]
@[simp] theorem runTimed_cls r d ra rb f (s : State) (h : ∀ t, (f t).cls = t.cls) :
    (runTimed r d ra rb f s).cls = s.cls := by
  unfold runTimed
  (repeat' split) <;> simp [h]
@[simp] theorem runTimed_pwr r d ra rb f (s : State) (h : ∀ t, (f t).pwr = t.pwr) :
    (runTimed r d ra rb f s).pwr = s.pwr := by
  unfold runTimed
  (repeat' split) <;> simp [h]
@[simp] theorem runTimed_trust r d ra rb f (s : State) (h : ∀ t, (f t).trust = t.trust) :
    (runTimed r d ra rb f s).trust = s.trust := by
  unfold runTimed
  (repeat' split) <;> simp [h]
@[simp] theorem runTimed_cross r d ra rb f (s : State) (h : ∀ t, (f t).cross = t.cross) :
    (runTimed r d ra rb f s).cross = s.cross := by
  unfold runTimed
  (repeat' split) <;> simp [h]
@[simp] theorem runTimed_cfg r d ra rb f (s : State) (h : ∀ t, (f t).cfg = t.cfg) :
    (runTimed r d ra rb f s).cfg = s.cfg := by
  unfold runTimed
  (repeat' split) <;> simp [h]
@[simp] theorem runTimed_image r d ra rb f (s : State) (h : ∀ t, (f t).image = t.image) :
    (runTimed r d ra rb f s).image = s.image := by
  unfold runTimed
  (repeat' split) <;> simp [h]
@[simp] theorem runTimed_regs r d ra rb f (s : State) (h : ∀ t, (f t).regs = t.regs) :
    (runTimed r d ra rb f s).regs = s.regs := by
  unfold runTimed
  (repeat' split) <;> simp [h]
@[simp] theorem runTimed_draws r d ra rb f (s : State) (h : ∀ t, (f t).draws = t.draws) :
    (runTimed r d ra rb f s).draws = s.draws := by
  unfold runTimed
  (repeat' split) <;> simp [h]
@[simp] theorem runTimed_pending r d ra rb f (s : State) (h : ∀ t, (f t).pending = t.pending) :
    (runTimed r d ra rb f s).pending = s.pending := by
  unfold runTimed
  (repeat' split) <;> simp [h]

@[simp] theorem arrive_frame item a (s : State) :
    KeepsRest s (arrive item a s) ∧ (arrive item a s).mem = s.mem ∧ (arrive item a s).vot = s.vot ∧ (arrive item a s).rng = s.rng ∧
    (arrive item a s).cls = s.cls ∧ (arrive item a s).trust = s.trust ∧ (arrive item a s).col = s.col ∧ KeepsReports s (arrive item a s) ∧
    KeepsUnits s (arrive item a s) := by
  unfold arrive
  split <;> simp

@[simp] theorem beginFlush_frame (s : State) :
    KeepsRest s (beginFlush s) ∧ KeepsCore s (beginFlush s) ∧ (beginFlush s).flt = s.flt ∧ (beginFlush s).lanes = s.lanes ∧
    (beginFlush s).tim = s.tim ∧ (beginFlush s).stra = s.stra ∧ (beginFlush s).eth = s.eth ∧ (beginFlush s).mvb = s.mvb ∧
    (beginFlush s).chk = s.chk ∧ (beginFlush s).mot = s.mot ∧ (beginFlush s).ana = s.ana ∧ (beginFlush s).fld = s.fld ∧
    (beginFlush s).pwr = s.pwr ∧ (beginFlush s).cross = s.cross := by
  simp [beginFlush]

@[simp] theorem endFlush_frame ok (s : State) :
    KeepsRest s (endFlush ok s) ∧ KeepsCore s (endFlush ok s) ∧ (endFlush ok s).tim = s.tim ∧ (endFlush ok s).stra = s.stra ∧
    (endFlush ok s).eth = s.eth ∧ (endFlush ok s).mvb = s.mvb ∧ (endFlush ok s).chk = s.chk ∧ (endFlush ok s).mot = s.mot ∧
    (endFlush ok s).ana = s.ana ∧ (endFlush ok s).fld = s.fld ∧ (endFlush ok s).pwr = s.pwr ∧ (endFlush ok s).cross = s.cross := by
  simp [endFlush]

@[simp] theorem flushRequest_frame (s : State) :
    KeepsRest s (flushRequest s) ∧ KeepsCore s (flushRequest s) ∧ (flushRequest s).flt = s.flt ∧ (flushRequest s).lanes = s.lanes ∧
    (flushRequest s).tim = s.tim ∧ (flushRequest s).stra = s.stra ∧ (flushRequest s).eth = s.eth ∧ (flushRequest s).mvb = s.mvb ∧
    (flushRequest s).chk = s.chk ∧ (flushRequest s).mot = s.mot ∧ (flushRequest s).ana = s.ana ∧ (flushRequest s).fld = s.fld ∧
    (flushRequest s).pwr = s.pwr ∧ (flushRequest s).cross = s.cross := by
  simp [flushRequest]

@[simp] theorem flushKept_frame (s : State) :
    KeepsRest s (flushKept s) ∧ KeepsCore s (flushKept s) ∧ (flushKept s).flt = s.flt ∧ (flushKept s).lanes = s.lanes ∧
    KeepsUnits s (flushKept s) := by
  simp [flushKept]

@[simp] theorem startRecorder_frame cause (s : State) :
    KeepsRest s (startRecorder cause s) ∧ (startRecorder cause s).mem = s.mem ∧ (startRecorder cause s).vot = s.vot ∧
    (startRecorder cause s).cyc = s.cyc ∧ (startRecorder cause s).cls = s.cls ∧ (startRecorder cause s).trust = s.trust ∧
    (startRecorder cause s).col = s.col ∧ KeepsUnits s (startRecorder cause s) := by
  simp [startRecorder]

@[simp] theorem formatRecorder_frame (s : State) :
    KeepsRest s (formatRecorder s) ∧ KeepsCore s (formatRecorder s) ∧ (formatRecorder s).flt = s.flt ∧ (formatRecorder s).lanes = s.lanes ∧
    KeepsUnits s (formatRecorder s) := by
  simp [formatRecorder]

@[simp] theorem reportUnreadable_frame rs (s : State) :
    KeepsRest s (reportUnreadable rs s) ∧ KeepsCore s (reportUnreadable rs s) ∧ KeepsUnits s (reportUnreadable rs s) := by
  simp [reportUnreadable]

@[simp] theorem recWriteOp_frame r d (s : State) :
    KeepsRest s (recWriteOp r d s) ∧ (recWriteOp r d s).mem = s.mem ∧ (recWriteOp r d s).vot = s.vot ∧ (recWriteOp r d s).cyc = s.cyc ∧
    (recWriteOp r d s).cls = s.cls ∧ (recWriteOp r d s).trust = s.trust ∧ (recWriteOp r d s).col = s.col ∧ KeepsUnits s (recWriteOp r d s) := by
  simp [recWriteOp]

@[simp] theorem recReadOp_frame r bad d (s : State) :
    KeepsRest s (recReadOp r bad d s) ∧ (recReadOp r bad d s).vot = s.vot ∧ (recReadOp r bad d s).cls = s.cls ∧
    (recReadOp r bad d s).trust = s.trust ∧ (recReadOp r bad d s).col = s.col ∧ KeepsUnits s (recReadOp r bad d s) := by
  unfold recReadOp
  dsimp only
  (repeat' split) <;> simp

@[simp] theorem countCycle_frame (s : State) :
    KeepsRest s (countCycle s) ∧ KeepsCore s (countCycle s) ∧ KeepsReports s (countCycle s) ∧ (countCycle s).stra = s.stra ∧
    (countCycle s).eth = s.eth ∧ (countCycle s).mvb = s.mvb ∧ (countCycle s).chk = s.chk ∧ (countCycle s).mot = s.mot ∧
    (countCycle s).ana = s.ana ∧ (countCycle s).fld = s.fld ∧ (countCycle s).pwr = s.pwr ∧ (countCycle s).cross = s.cross ∧
    (countCycle s).regs = s.regs := by
  simp [countCycle]

@[simp] theorem servo_frame theta (s : State) :
    KeepsRest s (servo theta s) ∧ KeepsCore s (servo theta s) ∧ KeepsReports s (servo theta s) ∧ (servo theta s).stra = s.stra ∧
    (servo theta s).eth = s.eth ∧ (servo theta s).mvb = s.mvb ∧ (servo theta s).chk = s.chk ∧ (servo theta s).mot = s.mot ∧
    (servo theta s).ana = s.ana ∧ (servo theta s).fld = s.fld ∧ (servo theta s).pwr = s.pwr ∧ (servo theta s).cross = s.cross ∧
    (servo theta s).regs = s.regs := by
  simp [servo]

@[simp] theorem setTimState_frame t (s : State) :
    KeepsRest s (setTimState t s) ∧ KeepsCore s (setTimState t s) ∧ (setTimState t s).rcd = s.rcd ∧ (setTimState t s).flt = s.flt ∧
    (setTimState t s).stra = s.stra ∧ (setTimState t s).eth = s.eth ∧ (setTimState t s).mvb = s.mvb ∧ (setTimState t s).chk = s.chk ∧
    (setTimState t s).mot = s.mot ∧ (setTimState t s).ana = s.ana ∧ (setTimState t s).fld = s.fld ∧ (setTimState t s).pwr = s.pwr ∧
    (setTimState t s).cross = s.cross ∧ (setTimState t s).regs = s.regs := by
  simp [setTimState]

@[simp] theorem acceptMeasurement_frame ch theta (s : State) :
    KeepsRest s (acceptMeasurement ch theta s) ∧ KeepsCore s (acceptMeasurement ch theta s) ∧ (acceptMeasurement ch theta s).rcd = s.rcd ∧
    (acceptMeasurement ch theta s).flt = s.flt ∧ (acceptMeasurement ch theta s).stra = s.stra ∧ (acceptMeasurement ch theta s).eth = s.eth ∧
    (acceptMeasurement ch theta s).mvb = s.mvb ∧ (acceptMeasurement ch theta s).chk = s.chk ∧ (acceptMeasurement ch theta s).mot = s.mot ∧
    (acceptMeasurement ch theta s).ana = s.ana ∧ (acceptMeasurement ch theta s).fld = s.fld ∧ (acceptMeasurement ch theta s).pwr = s.pwr ∧
    (acceptMeasurement ch theta s).cross = s.cross ∧ (acceptMeasurement ch theta s).regs = s.regs := by
  simp [acceptMeasurement]

@[simp] theorem refuseMeasurement_frame theta (s : State) :
    KeepsRest s (refuseMeasurement theta s) ∧ KeepsCore s (refuseMeasurement theta s) ∧ (refuseMeasurement theta s).stra = s.stra ∧
    (refuseMeasurement theta s).eth = s.eth ∧ (refuseMeasurement theta s).mvb = s.mvb ∧ (refuseMeasurement theta s).chk = s.chk ∧
    (refuseMeasurement theta s).mot = s.mot ∧ (refuseMeasurement theta s).ana = s.ana ∧ (refuseMeasurement theta s).fld = s.fld ∧
    (refuseMeasurement theta s).pwr = s.pwr ∧ (refuseMeasurement theta s).cross = s.cross ∧ (refuseMeasurement theta s).regs = s.regs := by
  simp [refuseMeasurement]

@[simp] theorem missMeasurement_frame (s : State) :
    KeepsRest s (missMeasurement s) ∧ KeepsCore s (missMeasurement s) ∧ KeepsReports s (missMeasurement s) ∧
    (missMeasurement s).stra = s.stra ∧ (missMeasurement s).eth = s.eth ∧ (missMeasurement s).mvb = s.mvb ∧ (missMeasurement s).chk = s.chk ∧
    (missMeasurement s).mot = s.mot ∧ (missMeasurement s).ana = s.ana ∧ (missMeasurement s).fld = s.fld ∧ (missMeasurement s).pwr = s.pwr ∧
    (missMeasurement s).cross = s.cross ∧ (missMeasurement s).regs = s.regs := by
  simp [missMeasurement]

@[simp] theorem applyStep_frame theta (s : State) :
    KeepsRest s (applyStep theta s) ∧ KeepsCore s (applyStep theta s) ∧ (applyStep theta s).stra = s.stra ∧ (applyStep theta s).eth = s.eth ∧
    (applyStep theta s).mvb = s.mvb ∧ (applyStep theta s).chk = s.chk ∧ (applyStep theta s).mot = s.mot ∧ (applyStep theta s).ana = s.ana ∧
    (applyStep theta s).fld = s.fld ∧ (applyStep theta s).pwr = s.pwr ∧ (applyStep theta s).cross = s.cross ∧
    (applyStep theta s).regs = s.regs := by
  simp [applyStep]

@[simp] theorem steppedMeasurement_frame theta (s : State) :
    KeepsRest s (steppedMeasurement theta s).1 ∧ KeepsCore s (steppedMeasurement theta s).1 ∧ (steppedMeasurement theta s).1.stra = s.stra ∧
    (steppedMeasurement theta s).1.eth = s.eth ∧ (steppedMeasurement theta s).1.mvb = s.mvb ∧ (steppedMeasurement theta s).1.chk = s.chk ∧
    (steppedMeasurement theta s).1.mot = s.mot ∧ (steppedMeasurement theta s).1.ana = s.ana ∧ (steppedMeasurement theta s).1.fld = s.fld ∧
    (steppedMeasurement theta s).1.pwr = s.pwr ∧ (steppedMeasurement theta s).1.cross = s.cross := by
  unfold steppedMeasurement
  dsimp only
  (repeat' split) <;> simp

@[simp] theorem measure_frame ch theta (s : State) :
    KeepsRest s (measure ch theta s).1 ∧ KeepsCore s (measure ch theta s).1 ∧ (measure ch theta s).1.stra = s.stra ∧
    (measure ch theta s).1.eth = s.eth ∧ (measure ch theta s).1.mvb = s.mvb ∧ (measure ch theta s).1.chk = s.chk ∧
    (measure ch theta s).1.mot = s.mot ∧ (measure ch theta s).1.ana = s.ana ∧ (measure ch theta s).1.fld = s.fld ∧
    (measure ch theta s).1.pwr = s.pwr ∧ (measure ch theta s).1.cross = s.cross := by
  unfold measure
  dsimp only
  (repeat' split) <;> simp

@[simp] theorem enterHoldover_frame (s : State) :
    KeepsRest s (enterHoldover s) ∧ KeepsCore s (enterHoldover s) ∧ (enterHoldover s).stra = s.stra ∧ (enterHoldover s).eth = s.eth ∧
    (enterHoldover s).mvb = s.mvb ∧ (enterHoldover s).chk = s.chk ∧ (enterHoldover s).mot = s.mot ∧ (enterHoldover s).ana = s.ana ∧
    (enterHoldover s).fld = s.fld ∧ (enterHoldover s).pwr = s.pwr ∧ (enterHoldover s).cross = s.cross ∧ (enterHoldover s).regs = s.regs := by
  simp [enterHoldover]

@[simp] theorem becomeMaster_frame (s : State) :
    KeepsRest s (becomeMaster s) ∧ KeepsCore s (becomeMaster s) ∧ (becomeMaster s).stra = s.stra ∧ (becomeMaster s).eth = s.eth ∧
    (becomeMaster s).mvb = s.mvb ∧ (becomeMaster s).chk = s.chk ∧ (becomeMaster s).mot = s.mot ∧ (becomeMaster s).ana = s.ana ∧
    (becomeMaster s).fld = s.fld ∧ (becomeMaster s).pwr = s.pwr ∧ (becomeMaster s).cross = s.cross ∧ (becomeMaster s).regs = s.regs := by
  unfold becomeMaster
  split <;> simp

@[simp] theorem loseMaster_frame (s : State) :
    KeepsRest s (loseMaster s) ∧ KeepsCore s (loseMaster s) ∧ (loseMaster s).rcd = s.rcd ∧ (loseMaster s).flt = s.flt ∧
    (loseMaster s).stra = s.stra ∧ (loseMaster s).eth = s.eth ∧ (loseMaster s).mvb = s.mvb ∧ (loseMaster s).chk = s.chk ∧
    (loseMaster s).mot = s.mot ∧ (loseMaster s).ana = s.ana ∧ (loseMaster s).fld = s.fld ∧ (loseMaster s).pwr = s.pwr ∧
    (loseMaster s).cross = s.cross ∧ (loseMaster s).regs = s.regs := by
  simp [loseMaster]

@[simp] theorem acceptStepWrite_frame v (s : State) :
    KeepsRest s (acceptStepWrite v s) ∧ KeepsCore s (acceptStepWrite v s) ∧ KeepsReports s (acceptStepWrite v s) ∧
    (acceptStepWrite v s).stra = s.stra ∧ (acceptStepWrite v s).eth = s.eth ∧ (acceptStepWrite v s).mvb = s.mvb ∧
    (acceptStepWrite v s).chk = s.chk ∧ (acceptStepWrite v s).mot = s.mot ∧ (acceptStepWrite v s).ana = s.ana ∧
    (acceptStepWrite v s).fld = s.fld ∧ (acceptStepWrite v s).pwr = s.pwr ∧ (acceptStepWrite v s).cross = s.cross := by
  simp [acceptStepWrite]

@[simp] theorem pushTxTs_frame q ident ts (s : State) :
    KeepsRest s (pushTxTs q ident ts s).1 ∧ KeepsCore s (pushTxTs q ident ts s).1 ∧ (pushTxTs q ident ts s).1.stra = s.stra ∧
    (pushTxTs q ident ts s).1.eth = s.eth ∧ (pushTxTs q ident ts s).1.mvb = s.mvb ∧ (pushTxTs q ident ts s).1.chk = s.chk ∧
    (pushTxTs q ident ts s).1.mot = s.mot ∧ (pushTxTs q ident ts s).1.ana = s.ana ∧ (pushTxTs q ident ts s).1.fld = s.fld ∧
    (pushTxTs q ident ts s).1.pwr = s.pwr ∧ (pushTxTs q ident ts s).1.cross = s.cross ∧ (pushTxTs q ident ts s).1.regs = s.regs := by
  unfold pushTxTs
  dsimp only
  (repeat' split) <;> simp

@[simp] theorem popTxTs_frame q ident (s : State) :
    KeepsRest s (popTxTs q ident s) ∧ KeepsCore s (popTxTs q ident s) ∧ KeepsReports s (popTxTs q ident s) ∧
    (popTxTs q ident s).stra = s.stra ∧ (popTxTs q ident s).eth = s.eth ∧ (popTxTs q ident s).mvb = s.mvb ∧ (popTxTs q ident s).chk = s.chk ∧
    (popTxTs q ident s).mot = s.mot ∧ (popTxTs q ident s).ana = s.ana ∧ (popTxTs q ident s).fld = s.fld ∧ (popTxTs q ident s).pwr = s.pwr ∧
    (popTxTs q ident s).cross = s.cross ∧ (popTxTs q ident s).regs = s.regs := by
  unfold popTxTs
  dsimp only
  (repeat' split) <;> simp

end Sys2Proof.Machine
end

