-- ==== Sys2Proof/Laws/FrameUnits.lean ====
section
/-!
SUPPORT. What each operation leaves unchanged: the motion, analog and field operations.
-/

namespace Sys2Proof.Machine

@[simp] theorem testMon_frame l ts m (s : State) :
    KeepsRest s (testMon l ts m s) ∧ KeepsCore s (testMon l ts m s) ∧ KeepsUnits s (testMon l ts m s) := by
  simp [testMon]

@[simp] theorem armMon_frame l m set (s : State) :
    KeepsRest s (armMon l m set s) ∧ KeepsCore s (armMon l m set s) ∧ KeepsUnits s (armMon l m set s) := by
  simp [armMon]

@[simp] theorem disarmMon_frame l m (s : State) :
    KeepsRest s (disarmMon l m s) ∧ KeepsCore s (disarmMon l m s) ∧ (disarmMon l m s).rcd = s.rcd ∧ (disarmMon l m s).flt = s.flt ∧
    KeepsUnits s (disarmMon l m s) := by
  simp [disarmMon]

@[simp] theorem lateCommand_frame l (s : State) :
    KeepsRest s (lateCommand l s) ∧ KeepsCore s (lateCommand l s) ∧ KeepsUnits s (lateCommand l s) := by
  simp [lateCommand]

@[simp] theorem motCmd_frame l m op set (s : State) :
    KeepsRest s (motCmd l m op set s) ∧ KeepsCore s (motCmd l m op set s) ∧ KeepsUnits s (motCmd l m op set s) := by
  simp [motCmd]

@[simp] theorem applyCommands_frame l (s : State) :
    KeepsRest s (applyCommands l s) ∧ KeepsCore s (applyCommands l s) ∧ KeepsUnits s (applyCommands l s) := by
  simp [applyCommands]

@[simp] theorem latchMark_frame l (s : State) e :
    KeepsRest s (latchMark l s e) ∧ KeepsCore s (latchMark l s e) ∧ (latchMark l s e).rcd = s.rcd ∧ (latchMark l s e).flt = s.flt ∧
    KeepsUnits s (latchMark l s e) := by
  simp [latchMark]

@[simp] theorem countEdge_frame l j d ts (s : State) :
    KeepsRest s (countEdge l j d ts s) ∧ KeepsCore s (countEdge l j d ts s) ∧ (countEdge l j d ts s).rcd = s.rcd ∧
    (countEdge l j d ts s).flt = s.flt ∧ KeepsUnits s (countEdge l j d ts s) := by
  simp [countEdge]

@[simp] theorem countSource_frame l edges level (s : State) j :
    KeepsRest s (countSource l edges level s j).1 ∧ KeepsCore s (countSource l edges level s j).1 ∧
    KeepsUnits s (countSource l edges level s j).1 := by
  unfold countSource
  dsimp only
  (repeat' split) <;> simp

@[simp] theorem countSources_frame l seen level (s : State) :
    KeepsRest s (countSources l seen level s).1 ∧ KeepsCore s (countSources l seen level s).1 ∧ KeepsUnits s (countSources l seen level s).1 := by
  have h : ∀ (js : List PulseId) (a : State × List (PulseId × DWord)), let t := (js.foldl (fun a j =>
      let (t, c) := countSource l seen level a.1 j
      (t, a.2 ++ c)) a).1
      KeepsRest a.1 t ∧ KeepsCore a.1 t ∧ KeepsUnits a.1 t := by
    intro js
    induction js with
    | nil => simp
    | cons j js ih =>
      intro a
      have := ih ((countSource l seen level a.1 j).1, a.2 ++ (countSource l seen level a.1 j).2)
      simpa using this
  exact h allPulse (s, [])

@[simp] theorem testMons_frame l (s : State) c :
    KeepsRest s (testMons l s c) ∧ KeepsCore s (testMons l s c) ∧ KeepsUnits s (testMons l s c) := by
  simp [testMons]

@[simp] theorem laneEdges_frame l edges (s : State) :
    KeepsRest s (laneEdges l edges s) ∧ KeepsCore s (laneEdges l edges s) ∧ (laneEdges l edges s).tim = s.tim ∧
    (laneEdges l edges s).stra = s.stra ∧ (laneEdges l edges s).eth = s.eth ∧ (laneEdges l edges s).mvb = s.mvb ∧
    (laneEdges l edges s).chk = s.chk ∧ (laneEdges l edges s).ana = s.ana ∧ (laneEdges l edges s).fld = s.fld ∧
    (laneEdges l edges s).pwr = s.pwr ∧ (laneEdges l edges s).cross = s.cross ∧ (laneEdges l edges s).regs = s.regs := by
  simp [laneEdges]

@[simp] theorem failCal_frame status (s : State) :
    KeepsRest s (failCal status s) ∧ (failCal status s).mem = s.mem ∧ (failCal status s).vot = s.vot ∧ (failCal status s).cyc = s.cyc ∧
    (failCal status s).cls = s.cls ∧ (failCal status s).trust = s.trust ∧ (failCal status s).col = s.col ∧ (failCal status s).tim = s.tim ∧
    (failCal status s).stra = s.stra ∧ (failCal status s).eth = s.eth ∧ (failCal status s).mvb = s.mvb ∧ (failCal status s).chk = s.chk ∧
    (failCal status s).ana = s.ana ∧ (failCal status s).fld = s.fld ∧ (failCal status s).pwr = s.pwr ∧ (failCal status s).cross = s.cross ∧
    (failCal status s).regs = s.regs := by
  unfold failCal
  split <;> simp

@[simp] theorem endCal_frame c a b (s : State) :
    KeepsRest s (endCal c a b s) ∧ (endCal c a b s).mem = s.mem ∧ (endCal c a b s).vot = s.vot ∧ (endCal c a b s).cyc = s.cyc ∧
    (endCal c a b s).cls = s.cls ∧ (endCal c a b s).trust = s.trust ∧ (endCal c a b s).col = s.col ∧ (endCal c a b s).tim = s.tim ∧
    (endCal c a b s).stra = s.stra ∧ (endCal c a b s).eth = s.eth ∧ (endCal c a b s).mvb = s.mvb ∧ (endCal c a b s).chk = s.chk ∧
    (endCal c a b s).ana = s.ana ∧ (endCal c a b s).fld = s.fld ∧ (endCal c a b s).pwr = s.pwr ∧ (endCal c a b s).cross = s.cross ∧
    (endCal c a b s).regs = s.regs := by
  simp [endCal]

@[simp] theorem setCal_frame c (s : State) :
    KeepsRest s (setCal c s) ∧ KeepsCore s (setCal c s) ∧ KeepsReports s (setCal c s) ∧ (setCal c s).tim = s.tim ∧
    (setCal c s).stra = s.stra ∧ (setCal c s).eth = s.eth ∧ (setCal c s).mvb = s.mvb ∧ (setCal c s).chk = s.chk ∧ (setCal c s).ana = s.ana ∧
    (setCal c s).fld = s.fld ∧ (setCal c s).pwr = s.pwr ∧ (setCal c s).cross = s.cross ∧ (setCal c s).regs = s.regs := by
  simp [setCal]

@[simp] theorem calMark_frame input ts before (s : State) :
    KeepsRest s (calMark input ts before s) ∧ (calMark input ts before s).mem = s.mem ∧ (calMark input ts before s).vot = s.vot ∧
    (calMark input ts before s).cyc = s.cyc ∧ (calMark input ts before s).cls = s.cls ∧ (calMark input ts before s).trust = s.trust ∧
    (calMark input ts before s).col = s.col ∧ (calMark input ts before s).tim = s.tim ∧ (calMark input ts before s).stra = s.stra ∧
    (calMark input ts before s).eth = s.eth ∧ (calMark input ts before s).mvb = s.mvb ∧ (calMark input ts before s).chk = s.chk ∧
    (calMark input ts before s).ana = s.ana ∧ (calMark input ts before s).fld = s.fld ∧ (calMark input ts before s).pwr = s.pwr ∧
    (calMark input ts before s).cross = s.cross ∧ (calMark input ts before s).regs = s.regs := by
  unfold calMark
  dsimp only
  (repeat' split) <;> simp

@[simp] theorem calEdge_frame ts d (s : State) :
    KeepsRest s (calEdge ts d s) ∧ (calEdge ts d s).mem = s.mem ∧ (calEdge ts d s).vot = s.vot ∧ (calEdge ts d s).cyc = s.cyc ∧
    (calEdge ts d s).cls = s.cls ∧ (calEdge ts d s).trust = s.trust ∧ (calEdge ts d s).col = s.col ∧ (calEdge ts d s).tim = s.tim ∧
    (calEdge ts d s).stra = s.stra ∧ (calEdge ts d s).eth = s.eth ∧ (calEdge ts d s).mvb = s.mvb ∧ (calEdge ts d s).chk = s.chk ∧
    (calEdge ts d s).ana = s.ana ∧ (calEdge ts d s).fld = s.fld ∧ (calEdge ts d s).pwr = s.pwr ∧ (calEdge ts d s).cross = s.cross ∧
    (calEdge ts d s).regs = s.regs := by
  unfold calEdge
  dsimp only
  (repeat' split) <;> simp

@[simp] theorem calDisturbed_frame status hit (s : State) :
    KeepsRest s (calDisturbed status hit s) ∧ (calDisturbed status hit s).mem = s.mem ∧ (calDisturbed status hit s).vot = s.vot ∧
    (calDisturbed status hit s).cyc = s.cyc ∧ (calDisturbed status hit s).cls = s.cls ∧ (calDisturbed status hit s).trust = s.trust ∧
    (calDisturbed status hit s).col = s.col ∧ (calDisturbed status hit s).tim = s.tim ∧ (calDisturbed status hit s).stra = s.stra ∧
    (calDisturbed status hit s).eth = s.eth ∧ (calDisturbed status hit s).mvb = s.mvb ∧ (calDisturbed status hit s).chk = s.chk ∧
    (calDisturbed status hit s).ana = s.ana ∧ (calDisturbed status hit s).fld = s.fld ∧ (calDisturbed status hit s).pwr = s.pwr ∧
    (calDisturbed status hit s).cross = s.cross ∧ (calDisturbed status hit s).regs = s.regs := by
  unfold calDisturbed
  split <;> simp

@[simp] theorem calTimeout_frame (s : State) :
    KeepsRest s (calTimeout s) ∧ (calTimeout s).mem = s.mem ∧ (calTimeout s).vot = s.vot ∧ (calTimeout s).cyc = s.cyc ∧
    (calTimeout s).cls = s.cls ∧ (calTimeout s).trust = s.trust ∧ (calTimeout s).col = s.col ∧ (calTimeout s).tim = s.tim ∧
    (calTimeout s).stra = s.stra ∧ (calTimeout s).eth = s.eth ∧ (calTimeout s).mvb = s.mvb ∧ (calTimeout s).chk = s.chk ∧
    (calTimeout s).ana = s.ana ∧ (calTimeout s).fld = s.fld ∧ (calTimeout s).pwr = s.pwr ∧ (calTimeout s).cross = s.cross ∧
    (calTimeout s).regs = s.regs := by
  unfold calTimeout
  (repeat' split) <;> simp [*]

@[simp] theorem motCalRun_frame r d (s : State) :
    KeepsRest s (motCalRun r d s) ∧ (motCalRun r d s).mem = s.mem ∧ (motCalRun r d s).vot = s.vot ∧ (motCalRun r d s).cyc = s.cyc ∧
    (motCalRun r d s).cls = s.cls ∧ (motCalRun r d s).trust = s.trust ∧ (motCalRun r d s).col = s.col ∧ (motCalRun r d s).tim = s.tim ∧
    (motCalRun r d s).stra = s.stra ∧ (motCalRun r d s).eth = s.eth ∧ (motCalRun r d s).mvb = s.mvb ∧ (motCalRun r d s).chk = s.chk ∧
    (motCalRun r d s).ana = s.ana ∧ (motCalRun r d s).fld = s.fld ∧ (motCalRun r d s).pwr = s.pwr ∧ (motCalRun r d s).cross = s.cross ∧
    (motCalRun r d s).regs = s.regs := by
  unfold motCalRun
  split <;> simp

@[simp] theorem modWins_frame j f (s : State) :
    KeepsRest s (modWins j f s) ∧ KeepsCore s (modWins j f s) ∧ KeepsReports s (modWins j f s) ∧ (modWins j f s).tim = s.tim ∧
    (modWins j f s).stra = s.stra ∧ (modWins j f s).eth = s.eth ∧ (modWins j f s).mvb = s.mvb ∧ (modWins j f s).chk = s.chk ∧
    (modWins j f s).ana = s.ana ∧ (modWins j f s).fld = s.fld ∧ (modWins j f s).pwr = s.pwr ∧ (modWins j f s).cross = s.cross ∧
    (modWins j f s).regs = s.regs := by
  simp [modWins]

@[simp] theorem modAgree_frame j f (s : State) :
    KeepsRest s (modAgree j f s) ∧ KeepsCore s (modAgree j f s) ∧ KeepsReports s (modAgree j f s) ∧ (modAgree j f s).tim = s.tim ∧
    (modAgree j f s).stra = s.stra ∧ (modAgree j f s).eth = s.eth ∧ (modAgree j f s).mvb = s.mvb ∧ (modAgree j f s).chk = s.chk ∧
    (modAgree j f s).ana = s.ana ∧ (modAgree j f s).fld = s.fld ∧ (modAgree j f s).pwr = s.pwr ∧ (modAgree j f s).cross = s.cross ∧
    (modAgree j f s).regs = s.regs := by
  simp [modAgree]

@[simp] theorem deriveCount_frame j e d (s : State) :
    KeepsRest s (deriveCount j e d s) ∧ (deriveCount j e d s).mem = s.mem ∧ (deriveCount j e d s).vot = s.vot ∧
    (deriveCount j e d s).cyc = s.cyc ∧ (deriveCount j e d s).cls = s.cls ∧ (deriveCount j e d s).trust = s.trust ∧
    (deriveCount j e d s).col = s.col ∧ (deriveCount j e d s).tim = s.tim ∧ (deriveCount j e d s).stra = s.stra ∧
    (deriveCount j e d s).eth = s.eth ∧ (deriveCount j e d s).mvb = s.mvb ∧ (deriveCount j e d s).chk = s.chk ∧
    (deriveCount j e d s).ana = s.ana ∧ (deriveCount j e d s).fld = s.fld ∧ (deriveCount j e d s).pwr = s.pwr ∧
    (deriveCount j e d s).cross = s.cross ∧ (deriveCount j e d s).regs = s.regs := by
  unfold deriveCount
  dsimp only
  (repeat' split) <;> simp

@[simp] theorem deriveMark_frame i c (s : State) :
    KeepsRest s (deriveMark i c s) ∧ (deriveMark i c s).mem = s.mem ∧ (deriveMark i c s).vot = s.vot ∧ (deriveMark i c s).cyc = s.cyc ∧
    (deriveMark i c s).cls = s.cls ∧ (deriveMark i c s).trust = s.trust ∧ (deriveMark i c s).col = s.col ∧ (deriveMark i c s).tim = s.tim ∧
    (deriveMark i c s).stra = s.stra ∧ (deriveMark i c s).eth = s.eth ∧ (deriveMark i c s).mvb = s.mvb ∧ (deriveMark i c s).chk = s.chk ∧
    (deriveMark i c s).ana = s.ana ∧ (deriveMark i c s).fld = s.fld ∧ (deriveMark i c s).pwr = s.pwr ∧ (deriveMark i c s).cross = s.cross ∧
    (deriveMark i c s).regs = s.regs := by
  simp [deriveMark]

@[simp] theorem deliverRecord_frame i r (s : State) :
    KeepsRest s (deliverRecord i r s) ∧ KeepsCore s (deliverRecord i r s) ∧ (deliverRecord i r s).rcd = s.rcd ∧
    (deliverRecord i r s).flt = s.flt ∧ (deliverRecord i r s).tim = s.tim ∧ (deliverRecord i r s).stra = s.stra ∧
    (deliverRecord i r s).eth = s.eth ∧ (deliverRecord i r s).mvb = s.mvb ∧ (deliverRecord i r s).chk = s.chk ∧
    (deliverRecord i r s).ana = s.ana ∧ (deliverRecord i r s).fld = s.fld ∧ (deliverRecord i r s).pwr = s.pwr ∧
    (deliverRecord i r s).cross = s.cross ∧ (deliverRecord i r s).regs = s.regs := by
  unfold deliverRecord
  split <;> simp

@[simp] theorem edgeDisagree_frame i ls (s : State) :
    KeepsRest s (edgeDisagree i ls s) ∧ KeepsCore s (edgeDisagree i ls s) ∧ (edgeDisagree i ls s).tim = s.tim ∧
    (edgeDisagree i ls s).stra = s.stra ∧ (edgeDisagree i ls s).eth = s.eth ∧ (edgeDisagree i ls s).mvb = s.mvb ∧
    (edgeDisagree i ls s).chk = s.chk ∧ (edgeDisagree i ls s).ana = s.ana ∧ (edgeDisagree i ls s).fld = s.fld ∧
    (edgeDisagree i ls s).pwr = s.pwr ∧ (edgeDisagree i ls s).cross = s.cross ∧ (edgeDisagree i ls s).regs = s.regs := by
  simp [edgeDisagree]

@[simp] theorem closeGathering_frame g (s : State) :
    KeepsRest s (closeGathering g s) ∧ (closeGathering g s).mem = s.mem ∧ (closeGathering g s).vot = s.vot ∧
    (closeGathering g s).cyc = s.cyc ∧ (closeGathering g s).cls = s.cls ∧ (closeGathering g s).trust = s.trust ∧
    (closeGathering g s).col = s.col ∧ (closeGathering g s).tim = s.tim ∧ (closeGathering g s).stra = s.stra ∧
    (closeGathering g s).eth = s.eth ∧ (closeGathering g s).mvb = s.mvb ∧ (closeGathering g s).chk = s.chk ∧
    (closeGathering g s).ana = s.ana ∧ (closeGathering g s).fld = s.fld ∧ (closeGathering g s).pwr = s.pwr ∧
    (closeGathering g s).cross = s.cross ∧ (closeGathering g s).regs = s.regs := by
  unfold closeGathering
  dsimp only
  (repeat' split) <;> simp

@[simp] theorem mergeInput_frame i (s : State) :
    KeepsRest s (mergeInput i s) ∧ (mergeInput i s).mem = s.mem ∧ (mergeInput i s).vot = s.vot ∧ (mergeInput i s).cyc = s.cyc ∧
    (mergeInput i s).cls = s.cls ∧ (mergeInput i s).trust = s.trust ∧ (mergeInput i s).col = s.col ∧ (mergeInput i s).tim = s.tim ∧
    (mergeInput i s).stra = s.stra ∧ (mergeInput i s).eth = s.eth ∧ (mergeInput i s).mvb = s.mvb ∧ (mergeInput i s).chk = s.chk ∧
    (mergeInput i s).ana = s.ana ∧ (mergeInput i s).fld = s.fld ∧ (mergeInput i s).pwr = s.pwr ∧ (mergeInput i s).cross = s.cross ∧
    (mergeInput i s).regs = s.regs := by
  unfold mergeInput
  split <;> simp

@[simp] theorem inputFault_frame i begins (s : State) :
    KeepsRest s (inputFault i begins s) ∧ (inputFault i begins s).mem = s.mem ∧ (inputFault i begins s).vot = s.vot ∧
    (inputFault i begins s).cyc = s.cyc ∧ (inputFault i begins s).cls = s.cls ∧ (inputFault i begins s).trust = s.trust ∧
    (inputFault i begins s).col = s.col ∧ (inputFault i begins s).tim = s.tim ∧ (inputFault i begins s).stra = s.stra ∧
    (inputFault i begins s).eth = s.eth ∧ (inputFault i begins s).mvb = s.mvb ∧ (inputFault i begins s).chk = s.chk ∧
    (inputFault i begins s).ana = s.ana ∧ (inputFault i begins s).fld = s.fld ∧ (inputFault i begins s).pwr = s.pwr ∧
    (inputFault i begins s).cross = s.cross ∧ (inputFault i begins s).regs = s.regs := by
  simp [inputFault]

@[simp] theorem copyMotion_frame (s : State) :
    KeepsRest s (copyMotion s) ∧ KeepsCore s (copyMotion s) ∧ (copyMotion s).rcd = s.rcd ∧ (copyMotion s).flt = s.flt ∧
    KeepsUnits s (copyMotion s) := by
  simp [copyMotion]

@[simp] theorem latchMasks_frame (s : State) :
    KeepsRest s (latchMasks s) ∧ KeepsCore s (latchMasks s) ∧ (latchMasks s).tim = s.tim ∧ (latchMasks s).stra = s.stra ∧
    (latchMasks s).eth = s.eth ∧ (latchMasks s).mvb = s.mvb ∧ (latchMasks s).chk = s.chk ∧ (latchMasks s).ana = s.ana ∧
    (latchMasks s).fld = s.fld ∧ (latchMasks s).pwr = s.pwr ∧ (latchMasks s).cross = s.cross ∧ (latchMasks s).regs = s.regs := by
  simp [latchMasks]

@[simp] theorem compareCounts_frame (s : State) :
    KeepsRest s (compareCounts s) ∧ KeepsCore s (compareCounts s) ∧ KeepsUnits s (compareCounts s) := by
  simp [compareCounts]

@[simp] theorem endWaits_frame (s : State) :
    KeepsRest s (endWaits s) ∧ KeepsCore s (endWaits s) ∧ (endWaits s).rcd = s.rcd ∧ (endWaits s).flt = s.flt ∧ KeepsUnits s (endWaits s) := by
  simp [endWaits]

@[simp] theorem motionAtTick_frame (s : State) :
    KeepsRest s (motionAtTick s) ∧ (motionAtTick s).mem = s.mem ∧ (motionAtTick s).vot = s.vot ∧ (motionAtTick s).cyc = s.cyc ∧
    (motionAtTick s).cls = s.cls ∧ (motionAtTick s).trust = s.trust ∧ (motionAtTick s).col = s.col ∧ (motionAtTick s).tim = s.tim ∧
    (motionAtTick s).stra = s.stra ∧ (motionAtTick s).eth = s.eth ∧ (motionAtTick s).mvb = s.mvb ∧ (motionAtTick s).chk = s.chk ∧
    (motionAtTick s).ana = s.ana ∧ (motionAtTick s).fld = s.fld ∧ (motionAtTick s).pwr = s.pwr ∧ (motionAtTick s).cross = s.cross ∧
    (motionAtTick s).regs = s.regs := by
  simp [motionAtTick]

@[simp] theorem openWindows_frame t (s : State) :
    KeepsRest s (openWindows t s) ∧ KeepsCore s (openWindows t s) ∧ KeepsReports s (openWindows t s) ∧ (openWindows t s).tim = s.tim ∧
    (openWindows t s).stra = s.stra ∧ (openWindows t s).eth = s.eth ∧ (openWindows t s).mvb = s.mvb ∧ (openWindows t s).chk = s.chk ∧
    (openWindows t s).ana = s.ana ∧ (openWindows t s).fld = s.fld ∧ (openWindows t s).pwr = s.pwr ∧ (openWindows t s).cross = s.cross ∧
    (openWindows t s).regs = s.regs := by
  simp [openWindows]

@[simp] theorem motProgramStart_frame (s : State) :
    KeepsRest s (motProgramStart s) ∧ KeepsCore s (motProgramStart s) ∧ KeepsReports s (motProgramStart s) ∧
    (motProgramStart s).tim = s.tim ∧ (motProgramStart s).stra = s.stra ∧ (motProgramStart s).eth = s.eth ∧ (motProgramStart s).mvb = s.mvb ∧
    (motProgramStart s).chk = s.chk ∧ (motProgramStart s).ana = s.ana ∧ (motProgramStart s).fld = s.fld ∧ (motProgramStart s).pwr = s.pwr ∧
    (motProgramStart s).cross = s.cross ∧ (motProgramStart s).regs = s.regs := by
  simp [motProgramStart]

@[simp] theorem motLoad_frame (s : State) :
    KeepsRest s (motLoad s) ∧ KeepsCore s (motLoad s) ∧ KeepsReports s (motLoad s) ∧ (motLoad s).tim = s.tim ∧ (motLoad s).stra = s.stra ∧
    (motLoad s).eth = s.eth ∧ (motLoad s).mvb = s.mvb ∧ (motLoad s).chk = s.chk ∧ (motLoad s).ana = s.ana ∧ (motLoad s).fld = s.fld ∧
    (motLoad s).pwr = s.pwr ∧ (motLoad s).cross = s.cross ∧ (motLoad s).regs = s.regs := by
  simp [motLoad]

@[simp] theorem modAna_frame c f (s : State) :
    KeepsRest s (modAna c f s) ∧ KeepsCore s (modAna c f s) ∧ KeepsReports s (modAna c f s) ∧ (modAna c f s).tim = s.tim ∧
    (modAna c f s).stra = s.stra ∧ (modAna c f s).eth = s.eth ∧ (modAna c f s).mvb = s.mvb ∧ (modAna c f s).chk = s.chk ∧
    (modAna c f s).mot = s.mot ∧ (modAna c f s).fld = s.fld ∧ (modAna c f s).pwr = s.pwr ∧ (modAna c f s).cross = s.cross ∧
    (modAna c f s).regs = s.regs := by
  simp [modAna]

@[simp] theorem decimatorReset_frame src (s : State) :
    KeepsRest s (decimatorReset src s) ∧ KeepsCore s (decimatorReset src s) ∧ (decimatorReset src s).tim = s.tim ∧
    (decimatorReset src s).stra = s.stra ∧ (decimatorReset src s).eth = s.eth ∧ (decimatorReset src s).mvb = s.mvb ∧
    (decimatorReset src s).chk = s.chk ∧ (decimatorReset src s).mot = s.mot ∧ (decimatorReset src s).fld = s.fld ∧
    (decimatorReset src s).pwr = s.pwr ∧ (decimatorReset src s).cross = s.cross ∧ (decimatorReset src s).regs = s.regs := by
  simp [decimatorReset]

@[simp] theorem anaStep_frame from_ upto (s : State) :
    KeepsRest s (anaStep from_ upto s) ∧ KeepsCore s (anaStep from_ upto s) ∧ (anaStep from_ upto s).tim = s.tim ∧
    (anaStep from_ upto s).stra = s.stra ∧ (anaStep from_ upto s).eth = s.eth ∧ (anaStep from_ upto s).mvb = s.mvb ∧
    (anaStep from_ upto s).chk = s.chk ∧ (anaStep from_ upto s).mot = s.mot ∧ (anaStep from_ upto s).fld = s.fld ∧
    (anaStep from_ upto s).pwr = s.pwr ∧ (anaStep from_ upto s).cross = s.cross ∧ (anaStep from_ upto s).regs = s.regs := by
  simp [anaStep]

@[simp] theorem auxSwitch_frame sel (s : State) :
    KeepsRest s (auxSwitch sel s) ∧ KeepsCore s (auxSwitch sel s) ∧ KeepsReports s (auxSwitch sel s) ∧ (auxSwitch sel s).tim = s.tim ∧
    (auxSwitch sel s).stra = s.stra ∧ (auxSwitch sel s).eth = s.eth ∧ (auxSwitch sel s).mvb = s.mvb ∧ (auxSwitch sel s).chk = s.chk ∧
    (auxSwitch sel s).mot = s.mot ∧ (auxSwitch sel s).fld = s.fld ∧ (auxSwitch sel s).pwr = s.pwr ∧ (auxSwitch sel s).cross = s.cross ∧
    (auxSwitch sel s).regs = s.regs := by
  simp [auxSwitch]

@[simp] theorem auxSelOp_frame r d (s : State) :
    KeepsRest s (auxSelOp r d s) ∧ (auxSelOp r d s).mem = s.mem ∧ (auxSelOp r d s).vot = s.vot ∧ (auxSelOp r d s).cyc = s.cyc ∧
    (auxSelOp r d s).cls = s.cls ∧ (auxSelOp r d s).trust = s.trust ∧ (auxSelOp r d s).col = s.col ∧ (auxSelOp r d s).tim = s.tim ∧
    (auxSelOp r d s).stra = s.stra ∧ (auxSelOp r d s).eth = s.eth ∧ (auxSelOp r d s).mvb = s.mvb ∧ (auxSelOp r d s).chk = s.chk ∧
    (auxSelOp r d s).mot = s.mot ∧ (auxSelOp r d s).fld = s.fld ∧ (auxSelOp r d s).pwr = s.pwr ∧ (auxSelOp r d s).cross = s.cross ∧
    (auxSelOp r d s).regs = s.regs := by
  simp [auxSelOp]

@[simp] theorem blockWrite_frame c first raws (s : State) :
    KeepsRest s (blockWrite c first raws s) ∧ (blockWrite c first raws s).mem = s.mem ∧ (blockWrite c first raws s).vot = s.vot ∧
    (blockWrite c first raws s).rng = s.rng ∧ (blockWrite c first raws s).cls = s.cls ∧ (blockWrite c first raws s).trust = s.trust ∧
    (blockWrite c first raws s).col = s.col ∧ (blockWrite c first raws s).tim = s.tim ∧ (blockWrite c first raws s).stra = s.stra ∧
    (blockWrite c first raws s).eth = s.eth ∧ (blockWrite c first raws s).mvb = s.mvb ∧ (blockWrite c first raws s).chk = s.chk ∧
    (blockWrite c first raws s).mot = s.mot ∧ (blockWrite c first raws s).fld = s.fld ∧ (blockWrite c first raws s).pwr = s.pwr ∧
    (blockWrite c first raws s).cross = s.cross ∧ (blockWrite c first raws s).regs = s.regs := by
  simp [blockWrite]

@[simp] theorem modulatorFault_frame c begins (s : State) :
    KeepsRest s (modulatorFault c begins s) ∧ KeepsCore s (modulatorFault c begins s) ∧ (modulatorFault c begins s).tim = s.tim ∧
    (modulatorFault c begins s).stra = s.stra ∧ (modulatorFault c begins s).eth = s.eth ∧ (modulatorFault c begins s).mvb = s.mvb ∧
    (modulatorFault c begins s).chk = s.chk ∧ (modulatorFault c begins s).mot = s.mot ∧ (modulatorFault c begins s).fld = s.fld ∧
    (modulatorFault c begins s).pwr = s.pwr ∧ (modulatorFault c begins s).cross = s.cross ∧ (modulatorFault c begins s).regs = s.regs := by
  simp [modulatorFault]

@[simp] theorem coarseValue_frame c v (s : State) :
    KeepsRest s (coarseValue c v s) ∧ KeepsCore s (coarseValue c v s) ∧ (coarseValue c v s).tim = s.tim ∧ (coarseValue c v s).stra = s.stra ∧
    (coarseValue c v s).eth = s.eth ∧ (coarseValue c v s).mvb = s.mvb ∧ (coarseValue c v s).chk = s.chk ∧ (coarseValue c v s).mot = s.mot ∧
    (coarseValue c v s).fld = s.fld ∧ (coarseValue c v s).pwr = s.pwr ∧ (coarseValue c v s).cross = s.cross ∧
    (coarseValue c v s).regs = s.regs := by
  simp [coarseValue]

@[simp] theorem coarseReadOp_frame r values d (s : State) :
    KeepsRest s (coarseReadOp r values d s) ∧ (coarseReadOp r values d s).vot = s.vot ∧ (coarseReadOp r values d s).cyc = s.cyc ∧
    (coarseReadOp r values d s).cls = s.cls ∧ (coarseReadOp r values d s).trust = s.trust ∧ (coarseReadOp r values d s).col = s.col ∧
    (coarseReadOp r values d s).tim = s.tim ∧ (coarseReadOp r values d s).stra = s.stra ∧ (coarseReadOp r values d s).eth = s.eth ∧
    (coarseReadOp r values d s).mvb = s.mvb ∧ (coarseReadOp r values d s).chk = s.chk ∧ (coarseReadOp r values d s).mot = s.mot ∧
    (coarseReadOp r values d s).fld = s.fld ∧ (coarseReadOp r values d s).pwr = s.pwr ∧ (coarseReadOp r values d s).cross = s.cross ∧
    (coarseReadOp r values d s).regs = s.regs := by
  simp [coarseReadOp]

@[simp] theorem anaRelease_frame d (s : State) :
    KeepsRest s (anaRelease d s) ∧ KeepsCore s (anaRelease d s) ∧ (anaRelease d s).tim = s.tim ∧ (anaRelease d s).stra = s.stra ∧
    (anaRelease d s).eth = s.eth ∧ (anaRelease d s).mvb = s.mvb ∧ (anaRelease d s).chk = s.chk ∧ (anaRelease d s).mot = s.mot ∧
    (anaRelease d s).fld = s.fld ∧ (anaRelease d s).pwr = s.pwr ∧ (anaRelease d s).cross = s.cross ∧ (anaRelease d s).regs = s.regs := by
  unfold anaRelease
  split <;> simp

@[simp] theorem anaLoad_frame hasCal (s : State) :
    KeepsRest s (anaLoad hasCal s) ∧ KeepsCore s (anaLoad hasCal s) ∧ (anaLoad hasCal s).tim = s.tim ∧ (anaLoad hasCal s).stra = s.stra ∧
    (anaLoad hasCal s).eth = s.eth ∧ (anaLoad hasCal s).mvb = s.mvb ∧ (anaLoad hasCal s).chk = s.chk ∧ (anaLoad hasCal s).mot = s.mot ∧
    (anaLoad hasCal s).fld = s.fld ∧ (anaLoad hasCal s).pwr = s.pwr ∧ (anaLoad hasCal s).cross = s.cross ∧ (anaLoad hasCal s).regs = s.regs := by
  simp [anaLoad]

@[simp] theorem modFld_frame n f (s : State) :
    KeepsRest s (modFld n f s) ∧ KeepsCore s (modFld n f s) ∧ KeepsReports s (modFld n f s) ∧ (modFld n f s).tim = s.tim ∧
    (modFld n f s).stra = s.stra ∧ (modFld n f s).eth = s.eth ∧ (modFld n f s).mvb = s.mvb ∧ (modFld n f s).chk = s.chk ∧
    (modFld n f s).mot = s.mot ∧ (modFld n f s).ana = s.ana ∧ (modFld n f s).pwr = s.pwr ∧ (modFld n f s).cross = s.cross ∧
    (modFld n f s).regs = s.regs := by
  simp [modFld]

@[simp] theorem setCmd_frame n v (s : State) :
    KeepsRest s (setCmd n v s) ∧ KeepsCore s (setCmd n v s) ∧ KeepsReports s (setCmd n v s) ∧ (setCmd n v s).tim = s.tim ∧
    (setCmd n v s).stra = s.stra ∧ (setCmd n v s).eth = s.eth ∧ (setCmd n v s).mvb = s.mvb ∧ (setCmd n v s).chk = s.chk ∧
    (setCmd n v s).mot = s.mot ∧ (setCmd n v s).ana = s.ana ∧ (setCmd n v s).pwr = s.pwr ∧ (setCmd n v s).cross = s.cross ∧
    (setCmd n v s).regs = s.regs := by
  simp [setCmd]

@[simp] theorem setGroup_frame g mask v (s : State) :
    KeepsRest s (setGroup g mask v s) ∧ KeepsCore s (setGroup g mask v s) ∧ KeepsReports s (setGroup g mask v s) ∧
    (setGroup g mask v s).tim = s.tim ∧ (setGroup g mask v s).stra = s.stra ∧ (setGroup g mask v s).eth = s.eth ∧
    (setGroup g mask v s).mvb = s.mvb ∧ (setGroup g mask v s).chk = s.chk ∧ (setGroup g mask v s).mot = s.mot ∧
    (setGroup g mask v s).ana = s.ana ∧ (setGroup g mask v s).pwr = s.pwr ∧ (setGroup g mask v s).cross = s.cross ∧
    (setGroup g mask v s).regs = s.regs := by
  simp [setGroup]

@[simp] theorem setVo_frame mask v (s : State) :
    KeepsRest s (setVo mask v s) ∧ KeepsCore s (setVo mask v s) ∧ KeepsReports s (setVo mask v s) ∧ (setVo mask v s).tim = s.tim ∧
    (setVo mask v s).stra = s.stra ∧ (setVo mask v s).eth = s.eth ∧ (setVo mask v s).mvb = s.mvb ∧ (setVo mask v s).chk = s.chk ∧
    (setVo mask v s).mot = s.mot ∧ (setVo mask v s).ana = s.ana ∧ (setVo mask v s).pwr = s.pwr ∧ (setVo mask v s).cross = s.cross ∧
    (setVo mask v s).regs = s.regs := by
  simp [setVo]

@[simp] theorem fldOutSet_frame r d (s : State) :
    KeepsRest s (fldOutSet r d s) ∧ (fldOutSet r d s).mem = s.mem ∧ (fldOutSet r d s).vot = s.vot ∧ (fldOutSet r d s).cyc = s.cyc ∧
    (fldOutSet r d s).cls = s.cls ∧ (fldOutSet r d s).trust = s.trust ∧ (fldOutSet r d s).col = s.col ∧ (fldOutSet r d s).tim = s.tim ∧
    (fldOutSet r d s).stra = s.stra ∧ (fldOutSet r d s).eth = s.eth ∧ (fldOutSet r d s).mvb = s.mvb ∧ (fldOutSet r d s).chk = s.chk ∧
    (fldOutSet r d s).mot = s.mot ∧ (fldOutSet r d s).ana = s.ana ∧ (fldOutSet r d s).pwr = s.pwr ∧ (fldOutSet r d s).cross = s.cross ∧
    (fldOutSet r d s).regs = s.regs := by
  simp [fldOutSet]

@[simp] theorem setCfm_frame mask v (s : State) :
    KeepsRest s (setCfm mask v s) ∧ KeepsCore s (setCfm mask v s) ∧ KeepsReports s (setCfm mask v s) ∧ (setCfm mask v s).tim = s.tim ∧
    (setCfm mask v s).stra = s.stra ∧ (setCfm mask v s).eth = s.eth ∧ (setCfm mask v s).mvb = s.mvb ∧ (setCfm mask v s).chk = s.chk ∧
    (setCfm mask v s).mot = s.mot ∧ (setCfm mask v s).ana = s.ana ∧ (setCfm mask v s).pwr = s.pwr ∧ (setCfm mask v s).cross = s.cross ∧
    (setCfm mask v s).regs = s.regs := by
  simp [setCfm]

@[simp] theorem fieldRelease_frame d (s : State) :
    KeepsRest s (fieldRelease d s) ∧ KeepsCore s (fieldRelease d s) ∧ KeepsReports s (fieldRelease d s) ∧ (fieldRelease d s).tim = s.tim ∧
    (fieldRelease d s).stra = s.stra ∧ (fieldRelease d s).eth = s.eth ∧ (fieldRelease d s).mvb = s.mvb ∧ (fieldRelease d s).chk = s.chk ∧
    (fieldRelease d s).mot = s.mot ∧ (fieldRelease d s).ana = s.ana ∧ (fieldRelease d s).pwr = s.pwr ∧ (fieldRelease d s).cross = s.cross ∧
    (fieldRelease d s).regs = s.regs := by
  unfold fieldRelease
  split <;> simp

@[simp] theorem repNum_frame code n (s : State) :
    KeepsRest s (repNum code n s) ∧ KeepsCore s (repNum code n s) ∧ KeepsUnits s (repNum code n s) := by
  simp [repNum]

@[simp] theorem overload_frame n begins (s : State) :
    KeepsRest s (overload n begins s) ∧ KeepsCore s (overload n begins s) ∧ (overload n begins s).tim = s.tim ∧
    (overload n begins s).stra = s.stra ∧ (overload n begins s).eth = s.eth ∧ (overload n begins s).mvb = s.mvb ∧
    (overload n begins s).chk = s.chk ∧ (overload n begins s).mot = s.mot ∧ (overload n begins s).ana = s.ana ∧
    (overload n begins s).pwr = s.pwr ∧ (overload n begins s).cross = s.cross ∧ (overload n begins s).regs = s.regs := by
  simp [overload]

@[simp] theorem flagEdge_frame code n was now f (s : State) :
    KeepsRest s (flagEdge code n was now f s) ∧ KeepsCore s (flagEdge code n was now f s) ∧ (flagEdge code n was now f s).tim = s.tim ∧
    (flagEdge code n was now f s).stra = s.stra ∧ (flagEdge code n was now f s).eth = s.eth ∧ (flagEdge code n was now f s).mvb = s.mvb ∧
    (flagEdge code n was now f s).chk = s.chk ∧ (flagEdge code n was now f s).mot = s.mot ∧ (flagEdge code n was now f s).ana = s.ana ∧
    (flagEdge code n was now f s).pwr = s.pwr ∧ (flagEdge code n was now f s).cross = s.cross ∧ (flagEdge code n was now f s).regs = s.regs := by
  simp [flagEdge]

@[simp] theorem openWire_frame n onState reading (s : State) :
    KeepsRest s (openWire n onState reading s) ∧ KeepsCore s (openWire n onState reading s) ∧ (openWire n onState reading s).tim = s.tim ∧
    (openWire n onState reading s).stra = s.stra ∧ (openWire n onState reading s).eth = s.eth ∧ (openWire n onState reading s).mvb = s.mvb ∧
    (openWire n onState reading s).chk = s.chk ∧ (openWire n onState reading s).mot = s.mot ∧ (openWire n onState reading s).ana = s.ana ∧
    (openWire n onState reading s).pwr = s.pwr ∧ (openWire n onState reading s).cross = s.cross ∧ (openWire n onState reading s).regs = s.regs := by
  simp [openWire]

@[simp] theorem setBase_frame n mA (s : State) :
    KeepsRest s (setBase n mA s) ∧ KeepsCore s (setBase n mA s) ∧ KeepsReports s (setBase n mA s) ∧ (setBase n mA s).tim = s.tim ∧
    (setBase n mA s).stra = s.stra ∧ (setBase n mA s).eth = s.eth ∧ (setBase n mA s).mvb = s.mvb ∧ (setBase n mA s).chk = s.chk ∧
    (setBase n mA s).mot = s.mot ∧ (setBase n mA s).ana = s.ana ∧ (setBase n mA s).pwr = s.pwr ∧ (setBase n mA s).cross = s.cross ∧
    (setBase n mA s).regs = s.regs := by
  simp [setBase]

@[simp] theorem elementFault_frame v (s : State) :
    KeepsRest s (elementFault v s) ∧ KeepsCore s (elementFault v s) ∧ (elementFault v s).tim = s.tim ∧ (elementFault v s).stra = s.stra ∧
    (elementFault v s).eth = s.eth ∧ (elementFault v s).mvb = s.mvb ∧ (elementFault v s).chk = s.chk ∧ (elementFault v s).mot = s.mot ∧
    (elementFault v s).ana = s.ana ∧ (elementFault v s).pwr = s.pwr ∧ (elementFault v s).cross = s.cross ∧ (elementFault v s).regs = s.regs := by
  simp [elementFault]

@[simp] theorem columnTest_frame v l closedShown openShown current (s : State) :
    KeepsRest s (columnTest v l closedShown openShown current s) ∧ KeepsCore s (columnTest v l closedShown openShown current s) ∧
    (columnTest v l closedShown openShown current s).tim = s.tim ∧ (columnTest v l closedShown openShown current s).stra = s.stra ∧
    (columnTest v l closedShown openShown current s).eth = s.eth ∧ (columnTest v l closedShown openShown current s).mvb = s.mvb ∧
    (columnTest v l closedShown openShown current s).chk = s.chk ∧ (columnTest v l closedShown openShown current s).mot = s.mot ∧
    (columnTest v l closedShown openShown current s).ana = s.ana ∧ (columnTest v l closedShown openShown current s).pwr = s.pwr ∧
    (columnTest v l closedShown openShown current s).cross = s.cross ∧ (columnTest v l closedShown openShown current s).regs = s.regs := by
  simp [columnTest]

@[simp] theorem readbackFault_frame v sense (s : State) :
    KeepsRest s (readbackFault v sense s) ∧ KeepsCore s (readbackFault v sense s) ∧ (readbackFault v sense s).tim = s.tim ∧
    (readbackFault v sense s).stra = s.stra ∧ (readbackFault v sense s).eth = s.eth ∧ (readbackFault v sense s).mvb = s.mvb ∧
    (readbackFault v sense s).chk = s.chk ∧ (readbackFault v sense s).mot = s.mot ∧ (readbackFault v sense s).ana = s.ana ∧
    (readbackFault v sense s).pwr = s.pwr ∧ (readbackFault v sense s).cross = s.cross ∧ (readbackFault v sense s).regs = s.regs := by
  simp [readbackFault]

@[simp] theorem clearVo_frame mask (s : State) :
    KeepsRest s (clearVo mask s) ∧ KeepsCore s (clearVo mask s) ∧ KeepsReports s (clearVo mask s) ∧ (clearVo mask s).tim = s.tim ∧
    (clearVo mask s).stra = s.stra ∧ (clearVo mask s).eth = s.eth ∧ (clearVo mask s).mvb = s.mvb ∧ (clearVo mask s).chk = s.chk ∧
    (clearVo mask s).mot = s.mot ∧ (clearVo mask s).ana = s.ana ∧ (clearVo mask s).pwr = s.pwr ∧ (clearVo mask s).cross = s.cross ∧
    (clearVo mask s).regs = s.regs := by
  simp [clearVo]

@[simp] theorem checkElements_frame low high (s : State) :
    KeepsRest s (checkElements low high s) ∧ KeepsCore s (checkElements low high s) ∧ (checkElements low high s).tim = s.tim ∧
    (checkElements low high s).stra = s.stra ∧ (checkElements low high s).eth = s.eth ∧ (checkElements low high s).mvb = s.mvb ∧
    (checkElements low high s).chk = s.chk ∧ (checkElements low high s).mot = s.mot ∧ (checkElements low high s).ana = s.ana ∧
    (checkElements low high s).pwr = s.pwr ∧ (checkElements low high s).cross = s.cross ∧ (checkElements low high s).regs = s.regs := by
  simp [checkElements]

@[simp] theorem evalMonitor_frame dt (s : State) f :
    KeepsRest s (evalMonitor dt s f) ∧ KeepsCore s (evalMonitor dt s f) ∧ (evalMonitor dt s f).tim = s.tim ∧
    (evalMonitor dt s f).stra = s.stra ∧ (evalMonitor dt s f).eth = s.eth ∧ (evalMonitor dt s f).mvb = s.mvb ∧
    (evalMonitor dt s f).chk = s.chk ∧ (evalMonitor dt s f).mot = s.mot ∧ (evalMonitor dt s f).ana = s.ana ∧
    (evalMonitor dt s f).pwr = s.pwr ∧ (evalMonitor dt s f).cross = s.cross ∧ (evalMonitor dt s f).regs = s.regs := by
  unfold evalMonitor
  dsimp only
  (repeat' split) <;> simp

@[simp] theorem evalMonitors_frame (s : State) :
    KeepsRest s (evalMonitors s) ∧ KeepsCore s (evalMonitors s) ∧ (evalMonitors s).tim = s.tim ∧ (evalMonitors s).stra = s.stra ∧
    (evalMonitors s).eth = s.eth ∧ (evalMonitors s).mvb = s.mvb ∧ (evalMonitors s).chk = s.chk ∧ (evalMonitors s).mot = s.mot ∧
    (evalMonitors s).ana = s.ana ∧ (evalMonitors s).pwr = s.pwr ∧ (evalMonitors s).cross = s.cross ∧ (evalMonitors s).regs = s.regs := by
  simp [evalMonitors]

@[simp] theorem fieldSample_frame sense (s : State) :
    KeepsRest s (fieldSample sense s) ∧ (fieldSample sense s).mem = s.mem ∧ (fieldSample sense s).vot = s.vot ∧
    (fieldSample sense s).rng = s.rng ∧ (fieldSample sense s).cls = s.cls ∧ (fieldSample sense s).trust = s.trust ∧
    (fieldSample sense s).col = s.col ∧ (fieldSample sense s).tim = s.tim ∧ (fieldSample sense s).stra = s.stra ∧
    (fieldSample sense s).eth = s.eth ∧ (fieldSample sense s).mvb = s.mvb ∧ (fieldSample sense s).chk = s.chk ∧
    (fieldSample sense s).mot = s.mot ∧ (fieldSample sense s).ana = s.ana ∧ (fieldSample sense s).pwr = s.pwr ∧
    (fieldSample sense s).cross = s.cross ∧ (fieldSample sense s).regs = s.regs := by
  unfold fieldSample
  dsimp only
  (repeat' split) <;> simp

@[simp] theorem diagRead_frame r ms start d (s : State) :
    KeepsRest s (diagRead r ms start d s) ∧ (diagRead r ms start d s).vot = s.vot ∧ (diagRead r ms start d s).cyc = s.cyc ∧
    (diagRead r ms start d s).cls = s.cls ∧ (diagRead r ms start d s).trust = s.trust ∧ (diagRead r ms start d s).col = s.col ∧
    KeepsReports s (diagRead r ms start d s) ∧ KeepsUnits s (diagRead r ms start d s) := by
  simp [diagRead]

@[simp] theorem learnBegin_frame r d (s : State) :
    KeepsRest s (learnBegin r d s) ∧ KeepsCore s (learnBegin r d s) ∧ KeepsReports s (learnBegin r d s) ∧ (learnBegin r d s).tim = s.tim ∧
    (learnBegin r d s).stra = s.stra ∧ (learnBegin r d s).eth = s.eth ∧ (learnBegin r d s).mvb = s.mvb ∧ (learnBegin r d s).chk = s.chk ∧
    (learnBegin r d s).mot = s.mot ∧ (learnBegin r d s).ana = s.ana ∧ (learnBegin r d s).pwr = s.pwr ∧ (learnBegin r d s).cross = s.cross ∧
    (learnBegin r d s).regs = s.regs := by
  simp [learnBegin]

@[simp] theorem learnTick_frame (s : State) x :
    KeepsRest s (learnTick s x) ∧ (learnTick s x).mem = s.mem ∧ (learnTick s x).vot = s.vot ∧ (learnTick s x).cyc = s.cyc ∧
    (learnTick s x).cls = s.cls ∧ (learnTick s x).trust = s.trust ∧ (learnTick s x).col = s.col ∧ KeepsReports s (learnTick s x) ∧
    (learnTick s x).tim = s.tim ∧ (learnTick s x).stra = s.stra ∧ (learnTick s x).eth = s.eth ∧ (learnTick s x).mvb = s.mvb ∧
    (learnTick s x).chk = s.chk ∧ (learnTick s x).mot = s.mot ∧ (learnTick s x).ana = s.ana ∧ (learnTick s x).pwr = s.pwr ∧
    (learnTick s x).cross = s.cross ∧ (learnTick s x).regs = s.regs := by
  simp [learnTick]

@[simp] theorem fieldAtTick_frame currents supplies voCurrents low high (s : State) :
    KeepsRest s (fieldAtTick currents supplies voCurrents low high s) ∧ (fieldAtTick currents supplies voCurrents low high s).mem = s.mem ∧
    (fieldAtTick currents supplies voCurrents low high s).vot = s.vot ∧ (fieldAtTick currents supplies voCurrents low high s).cyc = s.cyc ∧
    (fieldAtTick currents supplies voCurrents low high s).cls = s.cls ∧
    (fieldAtTick currents supplies voCurrents low high s).trust = s.trust ∧
    (fieldAtTick currents supplies voCurrents low high s).col = s.col ∧ (fieldAtTick currents supplies voCurrents low high s).tim = s.tim ∧
    (fieldAtTick currents supplies voCurrents low high s).stra = s.stra ∧ (fieldAtTick currents supplies voCurrents low high s).eth = s.eth ∧
    (fieldAtTick currents supplies voCurrents low high s).mvb = s.mvb ∧ (fieldAtTick currents supplies voCurrents low high s).chk = s.chk ∧
    (fieldAtTick currents supplies voCurrents low high s).mot = s.mot ∧ (fieldAtTick currents supplies voCurrents low high s).ana = s.ana ∧
    (fieldAtTick currents supplies voCurrents low high s).pwr = s.pwr ∧
    (fieldAtTick currents supplies voCurrents low high s).cross = s.cross ∧
    (fieldAtTick currents supplies voCurrents low high s).regs = s.regs := by
  simp [fieldAtTick]

@[simp] theorem safeCommand_frame (s : State) o :
    KeepsRest s (safeCommand s o) ∧ KeepsCore s (safeCommand s o) ∧ KeepsReports s (safeCommand s o) ∧ (safeCommand s o).tim = s.tim ∧
    (safeCommand s o).stra = s.stra ∧ (safeCommand s o).eth = s.eth ∧ (safeCommand s o).mvb = s.mvb ∧ (safeCommand s o).chk = s.chk ∧
    (safeCommand s o).mot = s.mot ∧ (safeCommand s o).ana = s.ana ∧ (safeCommand s o).pwr = s.pwr ∧ (safeCommand s o).cross = s.cross ∧
    (safeCommand s o).regs = s.regs := by
  unfold safeCommand
  split <;> simp

@[simp] theorem fldLoad_frame (s : State) :
    KeepsRest s (fldLoad s) ∧ KeepsCore s (fldLoad s) ∧ KeepsReports s (fldLoad s) ∧ (fldLoad s).tim = s.tim ∧ (fldLoad s).stra = s.stra ∧
    (fldLoad s).eth = s.eth ∧ (fldLoad s).mvb = s.mvb ∧ (fldLoad s).chk = s.chk ∧ (fldLoad s).mot = s.mot ∧ (fldLoad s).ana = s.ana ∧
    (fldLoad s).pwr = s.pwr ∧ (fldLoad s).cross = s.cross ∧ (fldLoad s).regs = s.regs := by
  simp [fldLoad]

end Sys2Proof.Machine
end

