-- ==== Sys2Proof/Laws/FrameLanes.lean ====
section
/-!
SUPPORT. What each operation leaves unchanged: the operations of lanes, rings and re-integration.
-/

namespace Sys2Proof.Machine

@[simp] theorem eccUncorrectable_frame l c line scrub (s : State) :
    KeepsRest s (eccUncorrectable l c line scrub s) ∧ (eccUncorrectable l c line scrub s).col = s.col ∧
    KeepsUnits s (eccUncorrectable l c line scrub s) := by
  simp [eccUncorrectable]

@[simp] theorem forceSafeWrite_frame l lag (s : State) :
    KeepsRest s (forceSafeWrite l lag s) ∧ (forceSafeWrite l lag s).col = s.col ∧ KeepsUnits s (forceSafeWrite l lag s) := by
  simp [forceSafeWrite]

@[simp] theorem pairTimeout_frame l (s : State) :
    KeepsRest s (pairTimeout l s) ∧ (pairTimeout l s).col = s.col ∧ KeepsUnits s (pairTimeout l s) := by
  unfold pairTimeout
  dsimp only
  (repeat' split) <;> simp

@[simp] theorem interruptLag_frame l (s : State) :
    KeepsRest s (interruptLag l s) ∧ (interruptLag l s).col = s.col ∧ KeepsUnits s (interruptLag l s) := by
  simp [interruptLag]

@[simp] theorem irqSnapshots_frame (s : State) :
    KeepsRest s (irqSnapshots s) ∧ (irqSnapshots s).col = s.col ∧ KeepsUnits s (irqSnapshots s) := by
  simp [irqSnapshots]

@[simp] theorem startMark_frame l c t (s : State) :
    KeepsRest s (startMark l c t s) ∧ (startMark l c t s).mem = s.mem ∧ (startMark l c t s).vot = s.vot ∧ (startMark l c t s).rng = s.rng ∧
    (startMark l c t s).cls = s.cls ∧ (startMark l c t s).trust = s.trust ∧ (startMark l c t s).col = s.col ∧
    (startMark l c t s).rcd = s.rcd ∧ (startMark l c t s).flt = s.flt ∧ KeepsUnits s (startMark l c t s) := by
  unfold startMark
  dsimp only
  (repeat' split) <;> simp

@[simp] theorem endTimeout_frame l c ctx (s : State) :
    KeepsRest s (endTimeout l c ctx s) ∧ (endTimeout l c ctx s).col = s.col ∧ KeepsUnits s (endTimeout l c ctx s) := by
  unfold endTimeout
  dsimp only
  (repeat' split) <;> simp

@[simp] theorem markEnded_frame l c ctx fault ret (s : State) :
    KeepsRest s (markEnded l c ctx fault ret s) ∧ (markEnded l c ctx fault ret s).mem = s.mem ∧ (markEnded l c ctx fault ret s).vot = s.vot ∧
    (markEnded l c ctx fault ret s).rng = s.rng ∧ (markEnded l c ctx fault ret s).cls = s.cls ∧
    (markEnded l c ctx fault ret s).trust = s.trust ∧ (markEnded l c ctx fault ret s).col = s.col ∧
    KeepsReports s (markEnded l c ctx fault ret s) ∧ KeepsUnits s (markEnded l c ctx fault ret s) := by
  simp [markEnded]

@[simp] theorem markCopyDirty_frame l c lines (s : State) :
    KeepsRest s (markCopyDirty l c lines s) ∧ (markCopyDirty l c lines s).mem = s.mem ∧ (markCopyDirty l c lines s).rng = s.rng ∧
    (markCopyDirty l c lines s).cyc = s.cyc ∧ (markCopyDirty l c lines s).cls = s.cls ∧ (markCopyDirty l c lines s).trust = s.trust ∧
    (markCopyDirty l c lines s).col = s.col ∧ KeepsReports s (markCopyDirty l c lines s) ∧ KeepsUnits s (markCopyDirty l c lines s) := by
  simp [markCopyDirty]

@[simp] theorem endMark_frame l c writes (s : State) :
    KeepsRest s (endMark l c writes s) ∧ (endMark l c writes s).col = s.col ∧ KeepsUnits s (endMark l c writes s) := by
  unfold endMark
  split <;> simp

@[simp] theorem countFault_frame l code t start (s : State) :
    KeepsRest s (countFault l code t start s) ∧ (countFault l code t start s).mem = s.mem ∧ (countFault l code t start s).vot = s.vot ∧
    (countFault l code t start s).rng = s.rng ∧ (countFault l code t start s).cls = s.cls ∧ (countFault l code t start s).trust = s.trust ∧
    (countFault l code t start s).col = s.col ∧ KeepsUnits s (countFault l code t start s) := by
  simp [countFault]

@[simp] theorem taskFault_frame l c writes (s : State) :
    KeepsRest s (taskFault l c writes s) ∧ (taskFault l c writes s).col = s.col ∧ KeepsUnits s (taskFault l c writes s) := by
  unfold taskFault
  split <;> simp

@[simp] theorem drawRandom_frame n (s : State) :
    (drawRandom n s).2.otp = s.otp ∧ (drawRandom n s).2.pending = s.pending ∧ (drawRandom n s).2.image = s.image ∧
    (drawRandom n s).2.cfg = s.cfg ∧ (drawRandom n s).2.mem = s.mem ∧ (drawRandom n s).2.vot = s.vot ∧ (drawRandom n s).2.rng = s.rng ∧
    (drawRandom n s).2.cyc = s.cyc ∧ (drawRandom n s).2.cls = s.cls ∧ (drawRandom n s).2.col = s.col ∧ KeepsReports s (drawRandom n s).2 ∧
    KeepsUnits s (drawRandom n s).2 := by
  simp [drawRandom]

@[simp] theorem releaseLane_frame l (s : State) :
    (releaseLane l s).otp = s.otp ∧ (releaseLane l s).pending = s.pending ∧ (releaseLane l s).image = s.image ∧
    (releaseLane l s).cfg = s.cfg ∧ (releaseLane l s).mem = s.mem ∧ (releaseLane l s).vot = s.vot ∧ (releaseLane l s).rng = s.rng ∧
    (releaseLane l s).cyc = s.cyc ∧ (releaseLane l s).cls = s.cls ∧ (releaseLane l s).col = s.col ∧ (releaseLane l s).rcd = s.rcd ∧
    (releaseLane l s).flt = s.flt ∧ KeepsUnits s (releaseLane l s) := by
  unfold releaseLane
  split <;> simp

@[simp] theorem imagesLoaded_frame l damageA damageB (s : State) :
    KeepsRest s (imagesLoaded l damageA damageB s) ∧ (imagesLoaded l damageA damageB s).mem = s.mem ∧
    (imagesLoaded l damageA damageB s).vot = s.vot ∧ (imagesLoaded l damageA damageB s).rng = s.rng ∧
    (imagesLoaded l damageA damageB s).cyc = s.cyc ∧ (imagesLoaded l damageA damageB s).cls = s.cls ∧
    (imagesLoaded l damageA damageB s).col = s.col ∧ KeepsUnits s (imagesLoaded l damageA damageB s) := by
  simp [imagesLoaded]

@[simp] theorem sweepEnd_frame l (s : State) x2 :
    KeepsRest s (sweepEnd l s x2) ∧ (sweepEnd l s x2).col = s.col ∧ KeepsUnits s (sweepEnd l s x2) := by
  unfold sweepEnd
  dsimp only
  (repeat' split) <;> simp

@[simp] theorem sweepDigests_frame l (s : State) :
    KeepsRest s (sweepDigests l s) ∧ KeepsCore s (sweepDigests l s) ∧ (sweepDigests l s).rcd = s.rcd ∧ (sweepDigests l s).flt = s.flt ∧
    KeepsUnits s (sweepDigests l s) := by
  simp [sweepDigests]

@[simp] theorem sweepComplete_frame l (s : State) :
    KeepsRest s (sweepComplete l s) ∧ (sweepComplete l s).col = s.col ∧ KeepsUnits s (sweepComplete l s) := by
  unfold sweepComplete
  split <;> simp

@[simp] theorem enableRing_frame r (s : State) :
    KeepsRest s (enableRing r s) ∧ (enableRing r s).vot = s.vot ∧ (enableRing r s).cyc = s.cyc ∧ (enableRing r s).cls = s.cls ∧
    (enableRing r s).col = s.col ∧ KeepsUnits s (enableRing r s) := by
  simp [enableRing]

@[simp] theorem disableRing_frame r (s : State) :
    KeepsRest s (disableRing r s) ∧ (disableRing r s).vot = s.vot ∧ (disableRing r s).cyc = s.cyc ∧ (disableRing r s).cls = s.cls ∧
    (disableRing r s).trust = s.trust ∧ (disableRing r s).col = s.col ∧ (disableRing r s).rcd = s.rcd ∧ (disableRing r s).flt = s.flt ∧
    KeepsUnits s (disableRing r s) := by
  simp [disableRing]

@[simp] theorem drainComplete_frame r (s : State) :
    KeepsRest s (drainComplete r s) ∧ (drainComplete r s).mem = s.mem ∧ (drainComplete r s).vot = s.vot ∧ (drainComplete r s).cyc = s.cyc ∧
    (drainComplete r s).cls = s.cls ∧ (drainComplete r s).trust = s.trust ∧ (drainComplete r s).col = s.col ∧
    KeepsReports s (drainComplete r s) ∧ KeepsUnits s (drainComplete r s) := by
  simp [drainComplete]

@[simp] theorem writeSlot_frame r off bs (s : State) :
    KeepsRest s (writeSlot r off bs s) ∧ (writeSlot r off bs s).vot = s.vot ∧ (writeSlot r off bs s).cyc = s.cyc ∧
    (writeSlot r off bs s).cls = s.cls ∧ (writeSlot r off bs s).trust = s.trust ∧ (writeSlot r off bs s).col = s.col ∧
    KeepsUnits s (writeSlot r off bs s) := by
  simp [writeSlot]

@[simp] theorem descriptorWrite_frame off bs (s : State) :
    KeepsRest s (descriptorWrite off bs s) ∧ (descriptorWrite off bs s).vot = s.vot ∧ (descriptorWrite off bs s).cyc = s.cyc ∧
    (descriptorWrite off bs s).cls = s.cls ∧ (descriptorWrite off bs s).trust = s.trust ∧ (descriptorWrite off bs s).col = s.col ∧
    KeepsUnits s (descriptorWrite off bs s) := by
  unfold descriptorWrite
  split <;> simp

@[simp] theorem doorbell_frame r prod (s : State) :
    KeepsRest s (doorbell r prod s) ∧ (doorbell r prod s).mem = s.mem ∧ (doorbell r prod s).vot = s.vot ∧ (doorbell r prod s).cyc = s.cyc ∧
    (doorbell r prod s).cls = s.cls ∧ (doorbell r prod s).trust = s.trust ∧ (doorbell r prod s).col = s.col ∧ KeepsUnits s (doorbell r prod s) := by
  simp [doorbell]

@[simp] theorem writeHead_frame r head (s : State) :
    KeepsRest s (writeHead r head s) ∧ (writeHead r head s).mem = s.mem ∧ (writeHead r head s).vot = s.vot ∧
    (writeHead r head s).cyc = s.cyc ∧ (writeHead r head s).cls = s.cls ∧ (writeHead r head s).trust = s.trust ∧
    (writeHead r head s).col = s.col ∧ KeepsUnits s (writeHead r head s) := by
  simp [writeHead]

@[simp] theorem stallRing_frame r (s : State) :
    KeepsRest s (stallRing r s) ∧ (stallRing r s).mem = s.mem ∧ (stallRing r s).vot = s.vot ∧ (stallRing r s).cyc = s.cyc ∧
    (stallRing r s).cls = s.cls ∧ (stallRing r s).trust = s.trust ∧ (stallRing r s).col = s.col ∧ KeepsUnits s (stallRing r s) := by
  simp [stallRing]

@[simp] theorem takeTxTs_frame d status (s : State) :
    KeepsRest s (takeTxTs d status s) ∧ KeepsCore s (takeTxTs d status s) ∧ KeepsReports s (takeTxTs d status s) ∧
    (takeTxTs d status s).stra = s.stra ∧ (takeTxTs d status s).eth = s.eth ∧ (takeTxTs d status s).mvb = s.mvb ∧
    (takeTxTs d status s).chk = s.chk ∧ (takeTxTs d status s).mot = s.mot ∧ (takeTxTs d status s).ana = s.ana ∧
    (takeTxTs d status s).fld = s.fld ∧ (takeTxTs d status s).pwr = s.pwr ∧ (takeTxTs d status s).cross = s.cross ∧
    (takeTxTs d status s).regs = s.regs := by
  simp [takeTxTs]

@[simp] theorem completeOp_frame r tag (s : State) :
    KeepsRest s (completeOp r tag s) ∧ (completeOp r tag s).vot = s.vot ∧ (completeOp r tag s).cyc = s.cyc ∧
    (completeOp r tag s).cls = s.cls ∧ (completeOp r tag s).trust = s.trust ∧ (completeOp r tag s).col = s.col ∧
    (completeOp r tag s).rcd = s.rcd ∧ (completeOp r tag s).flt = s.flt ∧ (completeOp r tag s).stra = s.stra ∧
    (completeOp r tag s).eth = s.eth ∧ (completeOp r tag s).mvb = s.mvb ∧ (completeOp r tag s).chk = s.chk ∧
    (completeOp r tag s).mot = s.mot ∧ (completeOp r tag s).ana = s.ana ∧ (completeOp r tag s).fld = s.fld ∧
    (completeOp r tag s).pwr = s.pwr ∧ (completeOp r tag s).cross = s.cross ∧ (completeOp r tag s).regs = s.regs := by
  unfold completeOp
  dsimp only
  (repeat' split) <;> simp

@[simp] theorem latchRings_frame (s : State) :
    KeepsRest s (latchRings s) ∧ (latchRings s).mem = s.mem ∧ (latchRings s).vot = s.vot ∧ (latchRings s).cyc = s.cyc ∧
    (latchRings s).cls = s.cls ∧ (latchRings s).trust = s.trust ∧ (latchRings s).col = s.col ∧ KeepsReports s (latchRings s) ∧
    KeepsUnits s (latchRings s) := by
  simp [latchRings]

@[simp] theorem engineBudgets_frame busyUs (s : State) :
    KeepsRest s (engineBudgets busyUs s) ∧ (engineBudgets busyUs s).mem = s.mem ∧ (engineBudgets busyUs s).vot = s.vot ∧
    (engineBudgets busyUs s).cyc = s.cyc ∧ (engineBudgets busyUs s).cls = s.cls ∧ (engineBudgets busyUs s).trust = s.trust ∧
    (engineBudgets busyUs s).col = s.col ∧ KeepsUnits s (engineBudgets busyUs s) := by
  simp [engineBudgets]

@[simp] theorem startFinal_frame (s : State) :
    KeepsRest s (startFinal s) ∧ (startFinal s).mem = s.mem ∧ (startFinal s).rng = s.rng ∧ (startFinal s).cyc = s.cyc ∧
    (startFinal s).cls = s.cls ∧ (startFinal s).trust = s.trust ∧ (startFinal s).col = s.col ∧ KeepsReports s (startFinal s) ∧
    KeepsUnits s (startFinal s) := by
  simp [startFinal]

@[simp] theorem copyLines_frame lines (s : State) :
    KeepsRest s (copyLines lines s) ∧ KeepsCore s (copyLines lines s) ∧ (copyLines lines s).rcd = s.rcd ∧ (copyLines lines s).flt = s.flt ∧
    KeepsUnits s (copyLines lines s) := by
  simp [copyLines]

@[simp] theorem finalRoundEnd_frame t (s : State) :
    KeepsRest s (finalRoundEnd t s) ∧ (finalRoundEnd t s).mem = s.mem ∧ (finalRoundEnd t s).rng = s.rng ∧ (finalRoundEnd t s).cyc = s.cyc ∧
    (finalRoundEnd t s).cls = s.cls ∧ (finalRoundEnd t s).trust = s.trust ∧ (finalRoundEnd t s).col = s.col ∧
    (finalRoundEnd t s).rcd = s.rcd ∧ (finalRoundEnd t s).flt = s.flt ∧ KeepsUnits s (finalRoundEnd t s) := by
  simp [finalRoundEnd]

@[simp] theorem finalRoundAbandoned_frame t (s : State) :
    KeepsRest s (finalRoundAbandoned t s) ∧ (finalRoundAbandoned t s).mem = s.mem ∧ (finalRoundAbandoned t s).rng = s.rng ∧
    (finalRoundAbandoned t s).cyc = s.cyc ∧ (finalRoundAbandoned t s).cls = s.cls ∧ (finalRoundAbandoned t s).trust = s.trust ∧
    (finalRoundAbandoned t s).col = s.col ∧ KeepsReports s (finalRoundAbandoned t s) ∧ KeepsUnits s (finalRoundAbandoned t s) := by
  simp [finalRoundAbandoned]

@[simp] theorem joinTask_frame t (s : State) :
    KeepsRest s (joinTask t s) ∧ (joinTask t s).mem = s.mem ∧ (joinTask t s).rng = s.rng ∧ (joinTask t s).cyc = s.cyc ∧
    (joinTask t s).cls = s.cls ∧ (joinTask t s).trust = s.trust ∧ (joinTask t s).col = s.col ∧ KeepsUnits s (joinTask t s) := by
  simp [joinTask]

@[simp] theorem joinTasks_frame (s : State) :
    KeepsRest s (joinTasks s) ∧ (joinTasks s).mem = s.mem ∧ (joinTasks s).rng = s.rng ∧ (joinTasks s).cyc = s.cyc ∧
    (joinTasks s).cls = s.cls ∧ (joinTasks s).trust = s.trust ∧ (joinTasks s).col = s.col ∧ KeepsUnits s (joinTasks s) := by
  simp [joinTasks]

@[simp] theorem reintStart_frame l (s : State) :
    KeepsRest s (reintStart l s) ∧ (reintStart l s).mem = s.mem ∧ (reintStart l s).rng = s.rng ∧ (reintStart l s).cyc = s.cyc ∧
    (reintStart l s).cls = s.cls ∧ (reintStart l s).trust = s.trust ∧ (reintStart l s).col = s.col ∧ (reintStart l s).rcd = s.rcd ∧
    (reintStart l s).flt = s.flt ∧ KeepsUnits s (reintStart l s) := by
  unfold reintStart
  dsimp only
  (repeat' split) <;> simp

@[simp] theorem reintResetDone_frame (s : State) :
    (reintResetDone s).otp = s.otp ∧ (reintResetDone s).pending = s.pending ∧ (reintResetDone s).image = s.image ∧
    (reintResetDone s).cfg = s.cfg ∧ (reintResetDone s).mem = s.mem ∧ (reintResetDone s).rng = s.rng ∧ (reintResetDone s).cyc = s.cyc ∧
    (reintResetDone s).cls = s.cls ∧ (reintResetDone s).col = s.col ∧ (reintResetDone s).rcd = s.rcd ∧ (reintResetDone s).flt = s.flt ∧
    KeepsUnits s (reintResetDone s) := by
  simp [reintResetDone]

@[simp] theorem copyRoundEnd_frame (s : State) :
    KeepsRest s (copyRoundEnd s) ∧ (copyRoundEnd s).mem = s.mem ∧ (copyRoundEnd s).rng = s.rng ∧ (copyRoundEnd s).cyc = s.cyc ∧
    (copyRoundEnd s).cls = s.cls ∧ (copyRoundEnd s).trust = s.trust ∧ (copyRoundEnd s).col = s.col ∧ (copyRoundEnd s).rcd = s.rcd ∧
    (copyRoundEnd s).flt = s.flt ∧ KeepsUnits s (copyRoundEnd s) := by
  simp [copyRoundEnd]

@[simp] theorem codeCopyEnd_frame (s : State) :
    KeepsRest s (codeCopyEnd s) ∧ (codeCopyEnd s).mem = s.mem ∧ (codeCopyEnd s).rng = s.rng ∧ (codeCopyEnd s).cyc = s.cyc ∧
    (codeCopyEnd s).cls = s.cls ∧ (codeCopyEnd s).trust = s.trust ∧ (codeCopyEnd s).col = s.col ∧ (codeCopyEnd s).rcd = s.rcd ∧
    (codeCopyEnd s).flt = s.flt ∧ KeepsUnits s (codeCopyEnd s) := by
  simp [codeCopyEnd]

@[simp] theorem loadEnd_frame (s : State) :
    KeepsRest s (loadEnd s) ∧ (loadEnd s).mem = s.mem ∧ (loadEnd s).rng = s.rng ∧ (loadEnd s).cyc = s.cyc ∧ (loadEnd s).cls = s.cls ∧
    (loadEnd s).trust = s.trust ∧ (loadEnd s).col = s.col ∧ (loadEnd s).rcd = s.rcd ∧ (loadEnd s).flt = s.flt ∧ KeepsUnits s (loadEnd s) := by
  simp [loadEnd]

@[simp] theorem reintFailed_frame l timeout (s : State) :
    KeepsRest s (reintFailed l timeout s) ∧ (reintFailed l timeout s).mem = s.mem ∧ (reintFailed l timeout s).rng = s.rng ∧
    (reintFailed l timeout s).cyc = s.cyc ∧ (reintFailed l timeout s).cls = s.cls ∧ (reintFailed l timeout s).trust = s.trust ∧
    (reintFailed l timeout s).col = s.col ∧ KeepsUnits s (reintFailed l timeout s) := by
  simp [reintFailed]

@[simp] theorem pairSelfTest_frame l found timeout (s : State) :
    KeepsRest s (pairSelfTest l found timeout s) ∧ (pairSelfTest l found timeout s).col = s.col ∧
    KeepsUnits s (pairSelfTest l found timeout s) := by
  simp [pairSelfTest]

@[simp] theorem voterSelfTest_frame ok (s : State) :
    KeepsRest s (voterSelfTest ok s) ∧ (voterSelfTest ok s).mem = s.mem ∧ (voterSelfTest ok s).rng = s.rng ∧
    (voterSelfTest ok s).cyc = s.cyc ∧ (voterSelfTest ok s).cls = s.cls ∧ (voterSelfTest ok s).trust = s.trust ∧
    (voterSelfTest ok s).col = s.col ∧ (voterSelfTest ok s).tim = s.tim ∧ (voterSelfTest ok s).stra = s.stra ∧
    (voterSelfTest ok s).eth = s.eth ∧ (voterSelfTest ok s).mvb = s.mvb ∧ (voterSelfTest ok s).chk = s.chk ∧
    (voterSelfTest ok s).mot = s.mot ∧ (voterSelfTest ok s).ana = s.ana ∧ (voterSelfTest ok s).fld = s.fld ∧
    (voterSelfTest ok s).pwr = s.pwr ∧ (voterSelfTest ok s).cross = s.cross := by
  unfold voterSelfTest
  dsimp only
  (repeat' split) <;> simp

@[simp] theorem laneAdmission_frame (s : State) :
    KeepsRest s (laneAdmission s) ∧ (laneAdmission s).mem = s.mem ∧ (laneAdmission s).rng = s.rng ∧ (laneAdmission s).cyc = s.cyc ∧
    (laneAdmission s).cls = s.cls ∧ (laneAdmission s).trust = s.trust ∧ (laneAdmission s).col = s.col ∧ (laneAdmission s).rcd = s.rcd ∧
    (laneAdmission s).flt = s.flt ∧ KeepsUnits s (laneAdmission s) := by
  simp [laneAdmission]

end Sys2Proof.Machine
end

