-- ==== Sys2Proof/Laws/FrameLine.lean ====
section
/-!
SUPPORT. What each operation leaves unchanged: the operations of the safe receivers and of the Strath line and node.
-/

namespace Sys2Proof.Machine

@[simp] theorem countUnit_frame u (s : State) :
    KeepsRest s (countUnit u s) ∧ KeepsCore s (countUnit u s) ∧ KeepsReports s (countUnit u s) ∧ (countUnit u s).tim = s.tim ∧
    (countUnit u s).stra = s.stra ∧ (countUnit u s).eth = s.eth ∧ (countUnit u s).mvb = s.mvb ∧ (countUnit u s).mot = s.mot ∧
    (countUnit u s).ana = s.ana ∧ (countUnit u s).fld = s.fld ∧ (countUnit u s).pwr = s.pwr ∧ (countUnit u s).cross = s.cross ∧
    (countUnit u s).regs = s.regs := by
  simp [countUnit]

@[simp] theorem copyFailed_frame n isB cls (s : State) :
    KeepsRest s (copyFailed n isB cls s) ∧ KeepsCore s (copyFailed n isB cls s) ∧ (copyFailed n isB cls s).tim = s.tim ∧
    (copyFailed n isB cls s).stra = s.stra ∧ (copyFailed n isB cls s).eth = s.eth ∧ (copyFailed n isB cls s).mvb = s.mvb ∧
    (copyFailed n isB cls s).mot = s.mot ∧ (copyFailed n isB cls s).ana = s.ana ∧ (copyFailed n isB cls s).fld = s.fld ∧
    (copyFailed n isB cls s).pwr = s.pwr ∧ (copyFailed n isB cls s).cross = s.cross ∧ (copyFailed n isB cls s).regs = s.regs := by
  unfold copyFailed
  dsimp only
  (repeat' split) <;> simp

@[simp] theorem checkCopy_frame role n c isB a (s : State) :
    KeepsRest s (checkCopy role n c isB a s) ∧ KeepsCore s (checkCopy role n c isB a s) ∧ (checkCopy role n c isB a s).tim = s.tim ∧
    (checkCopy role n c isB a s).stra = s.stra ∧ (checkCopy role n c isB a s).eth = s.eth ∧ (checkCopy role n c isB a s).mvb = s.mvb ∧
    (checkCopy role n c isB a s).mot = s.mot ∧ (checkCopy role n c isB a s).ana = s.ana ∧ (checkCopy role n c isB a s).fld = s.fld ∧
    (checkCopy role n c isB a s).pwr = s.pwr ∧ (checkCopy role n c isB a s).cross = s.cross ∧ (checkCopy role n c isB a s).regs = s.regs := by
  unfold checkCopy
  split <;> simp

@[simp] theorem arriveFrom_frame role item a (s : State) :
    KeepsRest s (arriveFrom role item a s) ∧ (arriveFrom role item a s).mem = s.mem ∧ (arriveFrom role item a s).vot = s.vot ∧
    (arriveFrom role item a s).rng = s.rng ∧ (arriveFrom role item a s).cls = s.cls ∧ (arriveFrom role item a s).trust = s.trust ∧
    (arriveFrom role item a s).col = s.col ∧ (arriveFrom role item a s).tim = s.tim ∧ (arriveFrom role item a s).stra = s.stra ∧
    (arriveFrom role item a s).eth = s.eth ∧ (arriveFrom role item a s).mvb = s.mvb ∧ (arriveFrom role item a s).mot = s.mot ∧
    (arriveFrom role item a s).ana = s.ana ∧ (arriveFrom role item a s).fld = s.fld ∧ (arriveFrom role item a s).pwr = s.pwr ∧
    (arriveFrom role item a s).cross = s.cross ∧ (arriveFrom role item a s).regs = s.regs := by
  unfold arriveFrom
  split <;> simp

@[simp] theorem rejectCopies_frame x0 (x1 : State) :
    KeepsRest x1 (rejectCopies x0 x1) ∧ KeepsCore x1 (rejectCopies x0 x1) ∧ (rejectCopies x0 x1).tim = x1.tim ∧
    (rejectCopies x0 x1).stra = x1.stra ∧ (rejectCopies x0 x1).eth = x1.eth ∧ (rejectCopies x0 x1).mvb = x1.mvb ∧
    (rejectCopies x0 x1).mot = x1.mot ∧ (rejectCopies x0 x1).ana = x1.ana ∧ (rejectCopies x0 x1).fld = x1.fld ∧
    (rejectCopies x0 x1).pwr = x1.pwr ∧ (rejectCopies x0 x1).cross = x1.cross ∧ (rejectCopies x0 x1).regs = x1.regs := by
  induction x0 generalizing x1 with
  | zero => simp [rejectCopies]
  | succ n ih =>
    unfold rejectCopies
    (repeat' split) <;> simp [ih]

@[simp] theorem setSafeBits_frame item b (s : State) :
    KeepsRest s (setSafeBits item b s) ∧ (setSafeBits item b s).mem = s.mem ∧ (setSafeBits item b s).vot = s.vot ∧
    (setSafeBits item b s).rng = s.rng ∧ (setSafeBits item b s).cls = s.cls ∧ (setSafeBits item b s).trust = s.trust ∧
    (setSafeBits item b s).col = s.col ∧ KeepsReports s (setSafeBits item b s) ∧ KeepsUnits s (setSafeBits item b s) := by
  simp [setSafeBits]

@[simp] theorem evaluateReceiver_frame (s : State) e :
    KeepsRest s (evaluateReceiver s e) ∧ (evaluateReceiver s e).mem = s.mem ∧ (evaluateReceiver s e).vot = s.vot ∧
    (evaluateReceiver s e).rng = s.rng ∧ (evaluateReceiver s e).cls = s.cls ∧ (evaluateReceiver s e).trust = s.trust ∧
    (evaluateReceiver s e).col = s.col ∧ (evaluateReceiver s e).tim = s.tim ∧ (evaluateReceiver s e).stra = s.stra ∧
    (evaluateReceiver s e).eth = s.eth ∧ (evaluateReceiver s e).mvb = s.mvb ∧ (evaluateReceiver s e).mot = s.mot ∧
    (evaluateReceiver s e).ana = s.ana ∧ (evaluateReceiver s e).fld = s.fld ∧ (evaluateReceiver s e).pwr = s.pwr ∧
    (evaluateReceiver s e).cross = s.cross ∧ (evaluateReceiver s e).regs = s.regs := by
  unfold evaluateReceiver
  dsimp only
  (repeat' split) <;> simp

@[simp] theorem evaluateReceivers_frame (s : State) :
    KeepsRest s (evaluateReceivers s) ∧ (evaluateReceivers s).mem = s.mem ∧ (evaluateReceivers s).vot = s.vot ∧
    (evaluateReceivers s).rng = s.rng ∧ (evaluateReceivers s).cls = s.cls ∧ (evaluateReceivers s).trust = s.trust ∧
    (evaluateReceivers s).col = s.col ∧ (evaluateReceivers s).tim = s.tim ∧ (evaluateReceivers s).stra = s.stra ∧
    (evaluateReceivers s).eth = s.eth ∧ (evaluateReceivers s).mvb = s.mvb ∧ (evaluateReceivers s).mot = s.mot ∧
    (evaluateReceivers s).ana = s.ana ∧ (evaluateReceivers s).fld = s.fld ∧ (evaluateReceivers s).pwr = s.pwr ∧
    (evaluateReceivers s).cross = s.cross ∧ (evaluateReceivers s).regs = s.regs := by
  simp [evaluateReceivers]

@[simp] theorem chkProgramStart_frame (s : State) :
    KeepsRest s (chkProgramStart s) ∧ KeepsCore s (chkProgramStart s) ∧ KeepsReports s (chkProgramStart s) ∧
    (chkProgramStart s).tim = s.tim ∧ (chkProgramStart s).stra = s.stra ∧ (chkProgramStart s).eth = s.eth ∧ (chkProgramStart s).mvb = s.mvb ∧
    (chkProgramStart s).mot = s.mot ∧ (chkProgramStart s).ana = s.ana ∧ (chkProgramStart s).fld = s.fld ∧ (chkProgramStart s).pwr = s.pwr ∧
    (chkProgramStart s).cross = s.cross ∧ (chkProgramStart s).regs = s.regs := by
  simp [chkProgramStart]

@[simp] theorem repStr_frame ch offset (s : State) :
    KeepsRest s (repStr ch offset s) ∧ KeepsCore s (repStr ch offset s) ∧ KeepsUnits s (repStr ch offset s) := by
  simp [repStr]

@[simp] theorem wrapPort_frame ch p heal (s : State) :
    KeepsRest s (wrapPort ch p heal s) ∧ KeepsCore s (wrapPort ch p heal s) ∧ (wrapPort ch p heal s).tim = s.tim ∧
    (wrapPort ch p heal s).eth = s.eth ∧ (wrapPort ch p heal s).mvb = s.mvb ∧ (wrapPort ch p heal s).chk = s.chk ∧
    (wrapPort ch p heal s).mot = s.mot ∧ (wrapPort ch p heal s).ana = s.ana ∧ (wrapPort ch p heal s).fld = s.fld ∧
    (wrapPort ch p heal s).pwr = s.pwr ∧ (wrapPort ch p heal s).cross = s.cross ∧ (wrapPort ch p heal s).regs = s.regs := by
  simp [wrapPort]

@[simp] theorem propose_frame ch (s : State) p :
    KeepsRest s (propose ch s p) ∧ KeepsCore s (propose ch s p) ∧ KeepsReports s (propose ch s p) ∧ (propose ch s p).tim = s.tim ∧
    (propose ch s p).eth = s.eth ∧ (propose ch s p).mvb = s.mvb ∧ (propose ch s p).chk = s.chk ∧ (propose ch s p).mot = s.mot ∧
    (propose ch s p).ana = s.ana ∧ (propose ch s p).fld = s.fld ∧ (propose ch s p).pwr = s.pwr ∧ (propose ch s p).cross = s.cross ∧
    (propose ch s p).regs = s.regs := by
  simp [propose]

@[simp] theorem proposeAll_frame ch (s : State) :
    KeepsRest s (proposeAll ch s) ∧ KeepsCore s (proposeAll ch s) ∧ KeepsReports s (proposeAll ch s) ∧ (proposeAll ch s).tim = s.tim ∧
    (proposeAll ch s).eth = s.eth ∧ (proposeAll ch s).mvb = s.mvb ∧ (proposeAll ch s).chk = s.chk ∧ (proposeAll ch s).mot = s.mot ∧
    (proposeAll ch s).ana = s.ana ∧ (proposeAll ch s).fld = s.fld ∧ (proposeAll ch s).pwr = s.pwr ∧ (proposeAll ch s).cross = s.cross ∧
    (proposeAll ch s).regs = s.regs := by
  simp [proposeAll]

@[simp] theorem unwrapPort_frame ch p (s : State) :
    KeepsRest s (unwrapPort ch p s) ∧ KeepsCore s (unwrapPort ch p s) ∧ (unwrapPort ch p s).tim = s.tim ∧ (unwrapPort ch p s).eth = s.eth ∧
    (unwrapPort ch p s).mvb = s.mvb ∧ (unwrapPort ch p s).chk = s.chk ∧ (unwrapPort ch p s).mot = s.mot ∧ (unwrapPort ch p s).ana = s.ana ∧
    (unwrapPort ch p s).fld = s.fld ∧ (unwrapPort ch p s).pwr = s.pwr ∧ (unwrapPort ch p s).cross = s.cross ∧
    (unwrapPort ch p s).regs = s.regs := by
  simp [unwrapPort]

@[simp] theorem closeReceived_frame ch p q (s0 : State) :
    KeepsRest s0 (closeReceived ch p q s0) ∧ KeepsCore s0 (closeReceived ch p q s0) ∧ KeepsReports s0 (closeReceived ch p q s0) ∧
    (closeReceived ch p q s0).tim = s0.tim ∧ (closeReceived ch p q s0).eth = s0.eth ∧ (closeReceived ch p q s0).mvb = s0.mvb ∧
    (closeReceived ch p q s0).chk = s0.chk ∧ (closeReceived ch p q s0).mot = s0.mot ∧ (closeReceived ch p q s0).ana = s0.ana ∧
    (closeReceived ch p q s0).fld = s0.fld ∧ (closeReceived ch p q s0).pwr = s0.pwr ∧ (closeReceived ch p q s0).cross = s0.cross ∧
    (closeReceived ch p q s0).regs = s0.regs := by
  unfold closeReceived
  dsimp only
  (repeat' split) <;> simp

@[simp] theorem closeNowReceived_frame ch p consecutive (s : State) :
    KeepsRest s (closeNowReceived ch p consecutive s) ∧ KeepsCore s (closeNowReceived ch p consecutive s) ∧
    (closeNowReceived ch p consecutive s).tim = s.tim ∧ (closeNowReceived ch p consecutive s).eth = s.eth ∧
    (closeNowReceived ch p consecutive s).mvb = s.mvb ∧ (closeNowReceived ch p consecutive s).chk = s.chk ∧
    (closeNowReceived ch p consecutive s).mot = s.mot ∧ (closeNowReceived ch p consecutive s).ana = s.ana ∧
    (closeNowReceived ch p consecutive s).fld = s.fld ∧ (closeNowReceived ch p consecutive s).pwr = s.pwr ∧
    (closeNowReceived ch p consecutive s).cross = s.cross ∧ (closeNowReceived ch p consecutive s).regs = s.regs := by
  simp [closeNowReceived]

@[simp] theorem signalDetected_frame ch p (s : State) :
    KeepsRest s (signalDetected ch p s) ∧ KeepsCore s (signalDetected ch p s) ∧ KeepsReports s (signalDetected ch p s) ∧
    (signalDetected ch p s).tim = s.tim ∧ (signalDetected ch p s).eth = s.eth ∧ (signalDetected ch p s).mvb = s.mvb ∧
    (signalDetected ch p s).chk = s.chk ∧ (signalDetected ch p s).mot = s.mot ∧ (signalDetected ch p s).ana = s.ana ∧
    (signalDetected ch p s).fld = s.fld ∧ (signalDetected ch p s).pwr = s.pwr ∧ (signalDetected ch p s).cross = s.cross ∧
    (signalDetected ch p s).regs = s.regs := by
  simp [signalDetected]

@[simp] theorem portUp_frame ch p (s : State) :
    KeepsRest s (portUp ch p s) ∧ KeepsCore s (portUp ch p s) ∧ KeepsReports s (portUp ch p s) ∧ (portUp ch p s).tim = s.tim ∧
    (portUp ch p s).eth = s.eth ∧ (portUp ch p s).mvb = s.mvb ∧ (portUp ch p s).chk = s.chk ∧ (portUp ch p s).mot = s.mot ∧
    (portUp ch p s).ana = s.ana ∧ (portUp ch p s).fld = s.fld ∧ (portUp ch p s).pwr = s.pwr ∧ (portUp ch p s).cross = s.cross ∧
    (portUp ch p s).regs = s.regs := by
  simp [portUp]

@[simp] theorem portFailed_frame ch p cause heal (s : State) :
    KeepsRest s (portFailed ch p cause heal s) ∧ KeepsCore s (portFailed ch p cause heal s) ∧ (portFailed ch p cause heal s).tim = s.tim ∧
    (portFailed ch p cause heal s).eth = s.eth ∧ (portFailed ch p cause heal s).mvb = s.mvb ∧ (portFailed ch p cause heal s).chk = s.chk ∧
    (portFailed ch p cause heal s).mot = s.mot ∧ (portFailed ch p cause heal s).ana = s.ana ∧ (portFailed ch p cause heal s).fld = s.fld ∧
    (portFailed ch p cause heal s).pwr = s.pwr ∧ (portFailed ch p cause heal s).cross = s.cross ∧ (portFailed ch p cause heal s).regs = s.regs := by
  simp [portFailed]

@[simp] theorem eyeMonitor_frame ch p h w boost taps (s : State) :
    KeepsRest s (eyeMonitor ch p h w boost taps s) ∧ KeepsCore s (eyeMonitor ch p h w boost taps s) ∧
    (eyeMonitor ch p h w boost taps s).tim = s.tim ∧ (eyeMonitor ch p h w boost taps s).eth = s.eth ∧
    (eyeMonitor ch p h w boost taps s).mvb = s.mvb ∧ (eyeMonitor ch p h w boost taps s).chk = s.chk ∧
    (eyeMonitor ch p h w boost taps s).mot = s.mot ∧ (eyeMonitor ch p h w boost taps s).ana = s.ana ∧
    (eyeMonitor ch p h w boost taps s).fld = s.fld ∧ (eyeMonitor ch p h w boost taps s).pwr = s.pwr ∧
    (eyeMonitor ch p h w boost taps s).cross = s.cross ∧ (eyeMonitor ch p h w boost taps s).regs = s.regs := by
  simp [eyeMonitor]

@[simp] theorem portEnWrite_frame ch p en (s : State) :
    KeepsRest s (portEnWrite ch p en s) ∧ KeepsCore s (portEnWrite ch p en s) ∧ (portEnWrite ch p en s).tim = s.tim ∧
    (portEnWrite ch p en s).eth = s.eth ∧ (portEnWrite ch p en s).mvb = s.mvb ∧ (portEnWrite ch p en s).chk = s.chk ∧
    (portEnWrite ch p en s).mot = s.mot ∧ (portEnWrite ch p en s).ana = s.ana ∧ (portEnWrite ch p en s).fld = s.fld ∧
    (portEnWrite ch p en s).pwr = s.pwr ∧ (portEnWrite ch p en s).cross = s.cross := by
  simp [portEnWrite]

@[simp] theorem forceWrapWrite_frame ch p v (s : State) :
    KeepsRest s (forceWrapWrite ch p v s) ∧ KeepsCore s (forceWrapWrite ch p v s) ∧ (forceWrapWrite ch p v s).tim = s.tim ∧
    (forceWrapWrite ch p v s).eth = s.eth ∧ (forceWrapWrite ch p v s).mvb = s.mvb ∧ (forceWrapWrite ch p v s).chk = s.chk ∧
    (forceWrapWrite ch p v s).mot = s.mot ∧ (forceWrapWrite ch p v s).ana = s.ana ∧ (forceWrapWrite ch p v s).fld = s.fld ∧
    (forceWrapWrite ch p v s).pwr = s.pwr ∧ (forceWrapWrite ch p v s).cross = s.cross := by
  simp [forceWrapWrite]

@[simp] theorem dlyReqSend_frame ch p phase (s : State) :
    KeepsRest s (dlyReqSend ch p phase s) ∧ KeepsCore s (dlyReqSend ch p phase s) ∧ KeepsReports s (dlyReqSend ch p phase s) ∧
    (dlyReqSend ch p phase s).tim = s.tim ∧ (dlyReqSend ch p phase s).eth = s.eth ∧ (dlyReqSend ch p phase s).mvb = s.mvb ∧
    (dlyReqSend ch p phase s).chk = s.chk ∧ (dlyReqSend ch p phase s).mot = s.mot ∧ (dlyReqSend ch p phase s).ana = s.ana ∧
    (dlyReqSend ch p phase s).fld = s.fld ∧ (dlyReqSend ch p phase s).pwr = s.pwr ∧ (dlyReqSend ch p phase s).cross = s.cross ∧
    (dlyReqSend ch p phase s).regs = s.regs := by
  simp [dlyReqSend]

@[simp] theorem dlyRspReceived_frame ch p phase turn (s : State) :
    KeepsRest s (dlyRspReceived ch p phase turn s) ∧ KeepsCore s (dlyRspReceived ch p phase turn s) ∧
    (dlyRspReceived ch p phase turn s).tim = s.tim ∧ (dlyRspReceived ch p phase turn s).eth = s.eth ∧
    (dlyRspReceived ch p phase turn s).mvb = s.mvb ∧ (dlyRspReceived ch p phase turn s).chk = s.chk ∧
    (dlyRspReceived ch p phase turn s).mot = s.mot ∧ (dlyRspReceived ch p phase turn s).ana = s.ana ∧
    (dlyRspReceived ch p phase turn s).fld = s.fld ∧ (dlyRspReceived ch p phase turn s).pwr = s.pwr ∧
    (dlyRspReceived ch p phase turn s).cross = s.cross ∧ (dlyRspReceived ch p phase turn s).regs = s.regs := by
  unfold dlyRspReceived
  split <;> simp

@[simp] theorem checkFailed_frame ch p n f (s : State) :
    KeepsRest s (checkFailed ch p n f s) ∧ KeepsCore s (checkFailed ch p n f s) ∧ (checkFailed ch p n f s).tim = s.tim ∧
    (checkFailed ch p n f s).eth = s.eth ∧ (checkFailed ch p n f s).mvb = s.mvb ∧ (checkFailed ch p n f s).chk = s.chk ∧
    (checkFailed ch p n f s).mot = s.mot ∧ (checkFailed ch p n f s).ana = s.ana ∧ (checkFailed ch p n f s).fld = s.fld ∧
    (checkFailed ch p n f s).pwr = s.pwr ∧ (checkFailed ch p n f s).cross = s.cross ∧ (checkFailed ch p n f s).regs = s.regs := by
  simp [checkFailed]

@[simp] theorem sendOn_frame ch p bytes abt (s : State) :
    KeepsRest s (sendOn ch p bytes abt s) ∧ KeepsCore s (sendOn ch p bytes abt s) ∧ KeepsReports s (sendOn ch p bytes abt s) ∧
    (sendOn ch p bytes abt s).tim = s.tim ∧ (sendOn ch p bytes abt s).eth = s.eth ∧ (sendOn ch p bytes abt s).mvb = s.mvb ∧
    (sendOn ch p bytes abt s).chk = s.chk ∧ (sendOn ch p bytes abt s).mot = s.mot ∧ (sendOn ch p bytes abt s).ana = s.ana ∧
    (sendOn ch p bytes abt s).fld = s.fld ∧ (sendOn ch p bytes abt s).pwr = s.pwr ∧ (sendOn ch p bytes abt s).cross = s.cross ∧
    (sendOn ch p bytes abt s).regs = s.regs := by
  simp [sendOn]

@[simp] theorem forward_frame ch p f abt (s : State) :
    KeepsRest s (forward ch p f abt s) ∧ KeepsCore s (forward ch p f abt s) ∧ (forward ch p f abt s).tim = s.tim ∧
    (forward ch p f abt s).eth = s.eth ∧ (forward ch p f abt s).mvb = s.mvb ∧ (forward ch p f abt s).chk = s.chk ∧
    (forward ch p f abt s).mot = s.mot ∧ (forward ch p f abt s).ana = s.ana ∧ (forward ch p f abt s).fld = s.fld ∧
    (forward ch p f abt s).pwr = s.pwr ∧ (forward ch p f abt s).cross = s.cross ∧ (forward ch p f abt s).regs = s.regs := by
  simp [forward]

@[simp] theorem deliverFrame_frame ch slot d (s : State) :
    KeepsRest s (deliverFrame ch slot d s) ∧ (deliverFrame ch slot d s).mem = s.mem ∧ (deliverFrame ch slot d s).vot = s.vot ∧
    (deliverFrame ch slot d s).rng = s.rng ∧ (deliverFrame ch slot d s).cls = s.cls ∧ (deliverFrame ch slot d s).trust = s.trust ∧
    (deliverFrame ch slot d s).col = s.col ∧ (deliverFrame ch slot d s).tim = s.tim ∧ (deliverFrame ch slot d s).eth = s.eth ∧
    (deliverFrame ch slot d s).mvb = s.mvb ∧ (deliverFrame ch slot d s).mot = s.mot ∧ (deliverFrame ch slot d s).ana = s.ana ∧
    (deliverFrame ch slot d s).fld = s.fld ∧ (deliverFrame ch slot d s).pwr = s.pwr ∧ (deliverFrame ch slot d s).cross = s.cross ∧
    (deliverFrame ch slot d s).regs = s.regs := by
  unfold deliverFrame
  dsimp only
  (repeat' split) <;> simp

@[simp] theorem deliver_frame ch p phase f (s : State) :
    KeepsRest s (deliver ch p phase f s) ∧ (deliver ch p phase f s).mem = s.mem ∧ (deliver ch p phase f s).vot = s.vot ∧
    (deliver ch p phase f s).rng = s.rng ∧ (deliver ch p phase f s).cls = s.cls ∧ (deliver ch p phase f s).trust = s.trust ∧
    (deliver ch p phase f s).col = s.col ∧ (deliver ch p phase f s).tim = s.tim ∧ (deliver ch p phase f s).eth = s.eth ∧
    (deliver ch p phase f s).mvb = s.mvb ∧ (deliver ch p phase f s).mot = s.mot ∧ (deliver ch p phase f s).ana = s.ana ∧
    (deliver ch p phase f s).fld = s.fld ∧ (deliver ch p phase f s).pwr = s.pwr ∧ (deliver ch p phase f s).cross = s.cross ∧
    (deliver ch p phase f s).regs = s.regs := by
  simp [deliver]

@[simp] theorem goodFrame_frame ch p phase f (s : State) :
    KeepsRest s (goodFrame ch p phase f s) ∧ (goodFrame ch p phase f s).mem = s.mem ∧ (goodFrame ch p phase f s).vot = s.vot ∧
    (goodFrame ch p phase f s).rng = s.rng ∧ (goodFrame ch p phase f s).cls = s.cls ∧ (goodFrame ch p phase f s).trust = s.trust ∧
    (goodFrame ch p phase f s).col = s.col ∧ (goodFrame ch p phase f s).tim = s.tim ∧ (goodFrame ch p phase f s).eth = s.eth ∧
    (goodFrame ch p phase f s).mvb = s.mvb ∧ (goodFrame ch p phase f s).mot = s.mot ∧ (goodFrame ch p phase f s).ana = s.ana ∧
    (goodFrame ch p phase f s).fld = s.fld ∧ (goodFrame ch p phase f s).pwr = s.pwr ∧ (goodFrame ch p phase f s).cross = s.cross ∧
    (goodFrame ch p phase f s).regs = s.regs := by
  simp [goodFrame]

@[simp] theorem frameReceived_frame ch p phase f (s : State) :
    KeepsRest s (frameReceived ch p phase f s) ∧ (frameReceived ch p phase f s).mem = s.mem ∧ (frameReceived ch p phase f s).vot = s.vot ∧
    (frameReceived ch p phase f s).rng = s.rng ∧ (frameReceived ch p phase f s).cls = s.cls ∧
    (frameReceived ch p phase f s).trust = s.trust ∧ (frameReceived ch p phase f s).col = s.col ∧
    (frameReceived ch p phase f s).tim = s.tim ∧ (frameReceived ch p phase f s).eth = s.eth ∧ (frameReceived ch p phase f s).mvb = s.mvb ∧
    (frameReceived ch p phase f s).mot = s.mot ∧ (frameReceived ch p phase f s).ana = s.ana ∧ (frameReceived ch p phase f s).fld = s.fld ∧
    (frameReceived ch p phase f s).pwr = s.pwr ∧ (frameReceived ch p phase f s).cross = s.cross ∧ (frameReceived ch p phase f s).regs = s.regs := by
  unfold frameReceived
  split <;> simp

@[simp] theorem strLinkReadOp_frame r d (s : State) :
    KeepsRest s (strLinkReadOp r d s) ∧ (strLinkReadOp r d s).mem = s.mem ∧ (strLinkReadOp r d s).vot = s.vot ∧
    (strLinkReadOp r d s).cyc = s.cyc ∧ (strLinkReadOp r d s).cls = s.cls ∧ (strLinkReadOp r d s).trust = s.trust ∧
    (strLinkReadOp r d s).col = s.col ∧ KeepsReports s (strLinkReadOp r d s) ∧ KeepsUnits s (strLinkReadOp r d s) := by
  simp [strLinkReadOp]

@[simp] theorem bezelAlign_frame ch origin (s : State) :
    KeepsRest s (bezelAlign ch origin s) ∧ KeepsCore s (bezelAlign ch origin s) ∧ KeepsReports s (bezelAlign ch origin s) ∧
    (bezelAlign ch origin s).tim = s.tim ∧ (bezelAlign ch origin s).eth = s.eth ∧ (bezelAlign ch origin s).mvb = s.mvb ∧
    (bezelAlign ch origin s).chk = s.chk ∧ (bezelAlign ch origin s).mot = s.mot ∧ (bezelAlign ch origin s).ana = s.ana ∧
    (bezelAlign ch origin s).fld = s.fld ∧ (bezelAlign ch origin s).pwr = s.pwr ∧ (bezelAlign ch origin s).cross = s.cross ∧
    (bezelAlign ch origin s).regs = s.regs := by
  simp [bezelAlign]

@[simp] theorem bezelHit_frame ch (s : State) :
    KeepsRest s (bezelHit ch s) ∧ KeepsCore s (bezelHit ch s) ∧ (bezelHit ch s).tim = s.tim ∧ (bezelHit ch s).eth = s.eth ∧
    (bezelHit ch s).mvb = s.mvb ∧ (bezelHit ch s).chk = s.chk ∧ (bezelHit ch s).mot = s.mot ∧ (bezelHit ch s).ana = s.ana ∧
    (bezelHit ch s).fld = s.fld ∧ (bezelHit ch s).pwr = s.pwr ∧ (bezelHit ch s).cross = s.cross ∧ (bezelHit ch s).regs = s.regs := by
  simp [bezelHit]

@[simp] theorem bezelTruncation_frame ch (s : State) :
    KeepsRest s (bezelTruncation ch s) ∧ KeepsCore s (bezelTruncation ch s) ∧ (bezelTruncation ch s).tim = s.tim ∧
    (bezelTruncation ch s).eth = s.eth ∧ (bezelTruncation ch s).mvb = s.mvb ∧ (bezelTruncation ch s).chk = s.chk ∧
    (bezelTruncation ch s).mot = s.mot ∧ (bezelTruncation ch s).ana = s.ana ∧ (bezelTruncation ch s).fld = s.fld ∧
    (bezelTruncation ch s).pwr = s.pwr ∧ (bezelTruncation ch s).cross = s.cross ∧ (bezelTruncation ch s).regs = s.regs := by
  unfold bezelTruncation
  split <;> simp

@[simp] theorem unlatch_frame ch (s : State) :
    KeepsRest s (unlatch ch s) ∧ KeepsCore s (unlatch ch s) ∧ KeepsReports s (unlatch ch s) ∧ (unlatch ch s).tim = s.tim ∧
    (unlatch ch s).eth = s.eth ∧ (unlatch ch s).mvb = s.mvb ∧ (unlatch ch s).chk = s.chk ∧ (unlatch ch s).mot = s.mot ∧
    (unlatch ch s).ana = s.ana ∧ (unlatch ch s).fld = s.fld ∧ (unlatch ch s).pwr = s.pwr ∧ (unlatch ch s).cross = s.cross ∧
    (unlatch ch s).regs = s.regs := by
  simp [unlatch]

@[simp] theorem sendOwn_frame ch slot kind payload mode phase (s : State) :
    KeepsRest s (sendOwn ch slot kind payload mode phase s) ∧ KeepsCore s (sendOwn ch slot kind payload mode phase s) ∧
    KeepsReports s (sendOwn ch slot kind payload mode phase s) ∧ (sendOwn ch slot kind payload mode phase s).tim = s.tim ∧
    (sendOwn ch slot kind payload mode phase s).eth = s.eth ∧ (sendOwn ch slot kind payload mode phase s).mvb = s.mvb ∧
    (sendOwn ch slot kind payload mode phase s).chk = s.chk ∧ (sendOwn ch slot kind payload mode phase s).mot = s.mot ∧
    (sendOwn ch slot kind payload mode phase s).ana = s.ana ∧ (sendOwn ch slot kind payload mode phase s).fld = s.fld ∧
    (sendOwn ch slot kind payload mode phase s).pwr = s.pwr ∧ (sendOwn ch slot kind payload mode phase s).cross = s.cross ∧
    (sendOwn ch slot kind payload mode phase s).regs = s.regs := by
  simp [sendOwn]

@[simp] theorem missOwn_frame ch (s : State) :
    KeepsRest s (missOwn ch s) ∧ KeepsCore s (missOwn ch s) ∧ (missOwn ch s).tim = s.tim ∧ (missOwn ch s).eth = s.eth ∧
    (missOwn ch s).mvb = s.mvb ∧ (missOwn ch s).chk = s.chk ∧ (missOwn ch s).mot = s.mot ∧ (missOwn ch s).ana = s.ana ∧
    (missOwn ch s).fld = s.fld ∧ (missOwn ch s).pwr = s.pwr ∧ (missOwn ch s).cross = s.cross ∧ (missOwn ch s).regs = s.regs := by
  simp [missOwn]

@[simp] theorem offerOwn_frame ch e slot kind payload mode phase bz since (s : State) :
    KeepsRest s (offerOwn ch e slot kind payload mode phase bz since s) ∧
    KeepsCore s (offerOwn ch e slot kind payload mode phase bz since s) ∧
    (offerOwn ch e slot kind payload mode phase bz since s).tim = s.tim ∧
    (offerOwn ch e slot kind payload mode phase bz since s).eth = s.eth ∧
    (offerOwn ch e slot kind payload mode phase bz since s).mvb = s.mvb ∧
    (offerOwn ch e slot kind payload mode phase bz since s).chk = s.chk ∧
    (offerOwn ch e slot kind payload mode phase bz since s).mot = s.mot ∧
    (offerOwn ch e slot kind payload mode phase bz since s).ana = s.ana ∧
    (offerOwn ch e slot kind payload mode phase bz since s).fld = s.fld ∧
    (offerOwn ch e slot kind payload mode phase bz since s).pwr = s.pwr ∧
    (offerOwn ch e slot kind payload mode phase bz since s).cross = s.cross ∧
    (offerOwn ch e slot kind payload mode phase bz since s).regs = s.regs := by
  simp [offerOwn]

@[simp] theorem ownSlotSend_frame ch slot phase bz since (s : State) :
    KeepsRest s (ownSlotSend ch slot phase bz since s) ∧ KeepsCore s (ownSlotSend ch slot phase bz since s) ∧
    (ownSlotSend ch slot phase bz since s).tim = s.tim ∧ (ownSlotSend ch slot phase bz since s).eth = s.eth ∧
    (ownSlotSend ch slot phase bz since s).mvb = s.mvb ∧ (ownSlotSend ch slot phase bz since s).chk = s.chk ∧
    (ownSlotSend ch slot phase bz since s).mot = s.mot ∧ (ownSlotSend ch slot phase bz since s).ana = s.ana ∧
    (ownSlotSend ch slot phase bz since s).fld = s.fld ∧ (ownSlotSend ch slot phase bz since s).pwr = s.pwr ∧
    (ownSlotSend ch slot phase bz since s).cross = s.cross ∧ (ownSlotSend ch slot phase bz since s).regs = s.regs := by
  unfold ownSlotSend
  dsimp only
  (repeat' split) <;> simp

@[simp] theorem restartListen_frame (s : State) :
    KeepsRest s (restartListen s) ∧ KeepsCore s (restartListen s) ∧ KeepsReports s (restartListen s) ∧ (restartListen s).tim = s.tim ∧
    (restartListen s).eth = s.eth ∧ (restartListen s).mvb = s.mvb ∧ (restartListen s).chk = s.chk ∧ (restartListen s).mot = s.mot ∧
    (restartListen s).ana = s.ana ∧ (restartListen s).fld = s.fld ∧ (restartListen s).pwr = s.pwr ∧ (restartListen s).cross = s.cross ∧
    (restartListen s).regs = s.regs := by
  simp [restartListen]

@[simp] theorem enterListen_frame (s : State) :
    KeepsRest s (enterListen s) ∧ KeepsCore s (enterListen s) ∧ KeepsReports s (enterListen s) ∧ (enterListen s).tim = s.tim ∧
    (enterListen s).eth = s.eth ∧ (enterListen s).mvb = s.mvb ∧ (enterListen s).chk = s.chk ∧ (enterListen s).mot = s.mot ∧
    (enterListen s).ana = s.ana ∧ (enterListen s).fld = s.fld ∧ (enterListen s).pwr = s.pwr ∧ (enterListen s).cross = s.cross ∧
    (enterListen s).regs = s.regs := by
  simp [enterListen]

@[simp] theorem yieldMaster_frame (s : State) :
    KeepsRest s (yieldMaster s) ∧ KeepsCore s (yieldMaster s) ∧ (yieldMaster s).rcd = s.rcd ∧ (yieldMaster s).flt = s.flt ∧
    (yieldMaster s).eth = s.eth ∧ (yieldMaster s).mvb = s.mvb ∧ (yieldMaster s).chk = s.chk ∧ (yieldMaster s).mot = s.mot ∧
    (yieldMaster s).ana = s.ana ∧ (yieldMaster s).fld = s.fld ∧ (yieldMaster s).pwr = s.pwr ∧ (yieldMaster s).cross = s.cross ∧
    (yieldMaster s).regs = s.regs := by
  simp [yieldMaster]

@[simp] theorem noteRef_frame ch d f (s : State) :
    KeepsRest s (noteRef ch d f s) ∧ KeepsCore s (noteRef ch d f s) ∧ KeepsReports s (noteRef ch d f s) ∧ (noteRef ch d f s).eth = s.eth ∧
    (noteRef ch d f s).mvb = s.mvb ∧ (noteRef ch d f s).chk = s.chk ∧ (noteRef ch d f s).mot = s.mot ∧ (noteRef ch d f s).ana = s.ana ∧
    (noteRef ch d f s).fld = s.fld ∧ (noteRef ch d f s).pwr = s.pwr ∧ (noteRef ch d f s).cross = s.cross ∧ (noteRef ch d f s).regs = s.regs := by
  simp [noteRef]

@[simp] theorem integrationComplete_frame f (s : State) :
    KeepsRest s (integrationComplete f s) ∧ KeepsCore s (integrationComplete f s) ∧ KeepsReports s (integrationComplete f s) ∧
    (integrationComplete f s).tim = s.tim ∧ (integrationComplete f s).eth = s.eth ∧ (integrationComplete f s).mvb = s.mvb ∧
    (integrationComplete f s).chk = s.chk ∧ (integrationComplete f s).mot = s.mot ∧ (integrationComplete f s).ana = s.ana ∧
    (integrationComplete f s).fld = s.fld ∧ (integrationComplete f s).pwr = s.pwr ∧ (integrationComplete f s).cross = s.cross ∧
    (integrationComplete f s).regs = s.regs := by
  simp [integrationComplete]

@[simp] theorem refInState_frame f (s : State) :
    KeepsRest s (refInState f s) ∧ KeepsCore s (refInState f s) ∧ (refInState f s).tim = s.tim ∧ (refInState f s).eth = s.eth ∧
    (refInState f s).mvb = s.mvb ∧ (refInState f s).chk = s.chk ∧ (refInState f s).mot = s.mot ∧ (refInState f s).ana = s.ana ∧
    (refInState f s).fld = s.fld ∧ (refInState f s).pwr = s.pwr ∧ (refInState f s).cross = s.cross ∧ (refInState f s).regs = s.regs := by
  unfold refInState
  split <;> simp

@[simp] theorem refReceived_frame ch d (s : State) :
    KeepsRest s (refReceived ch d s) ∧ KeepsCore s (refReceived ch d s) ∧ (refReceived ch d s).eth = s.eth ∧
    (refReceived ch d s).mvb = s.mvb ∧ (refReceived ch d s).chk = s.chk ∧ (refReceived ch d s).mot = s.mot ∧
    (refReceived ch d s).ana = s.ana ∧ (refReceived ch d s).fld = s.fld ∧ (refReceived ch d s).pwr = s.pwr ∧
    (refReceived ch d s).cross = s.cross ∧ (refReceived ch d s).regs = s.regs := by
  unfold refReceived
  split <;> simp

@[simp] theorem takeInbox_otp ch kind f (s : State) (h : ∀ d t, (f d t).otp = t.otp) :
    (takeInbox ch kind f s).otp = s.otp := by
  unfold takeInbox
  split <;> simp [h]
@[simp] theorem takeInbox_mem ch kind f (s : State) (h : ∀ d t, (f d t).mem = t.mem) :
    (takeInbox ch kind f s).mem = s.mem := by
  unfold takeInbox
  split <;> simp [h]
@[simp] theorem takeInbox_tim ch kind f (s : State) (h : ∀ d t, (f d t).tim = t.tim) :
    (takeInbox ch kind f s).tim = s.tim := by
  unfold takeInbox
  split <;> simp [h]
@[simp] theorem takeInbox_rcd ch kind f (s : State) (h : ∀ d t, (f d t).rcd = t.rcd) :
    (takeInbox ch kind f s).rcd = s.rcd := by
  unfold takeInbox
  split <;> simp [h]
@[simp] theorem takeInbox_flt ch kind f (s : State) (h : ∀ d t, (f d t).flt = t.flt) :
    (takeInbox ch kind f s).flt = s.flt := by
  unfold takeInbox
  split <;> simp [h]
@[simp] theorem takeInbox_lanes ch kind f (s : State) (h : ∀ d t, (f d t).lanes = t.lanes) :
    (takeInbox ch kind f s).lanes = s.lanes := by
  unfold takeInbox
  split <;> simp [h]
@[simp] theorem takeInbox_vot ch kind f (s : State) (h : ∀ d t, (f d t).vot = t.vot) :
    (takeInbox ch kind f s).vot = s.vot := by
  unfold takeInbox
  split <;> simp [h]
@[simp] theorem takeInbox_rng ch kind f (s : State) (h : ∀ d t, (f d t).rng = t.rng) :
    (takeInbox ch kind f s).rng = s.rng := by
  unfold takeInbox
  split <;> simp [h]
@[simp] theorem takeInbox_cyc ch kind f (s : State) (h : ∀ d t, (f d t).cyc = t.cyc) :
    (takeInbox ch kind f s).cyc = s.cyc := by
  unfold takeInbox
  split <;> simp [h]
@[simp] theorem takeInbox_eth ch kind f (s : State) (h : ∀ d t, (f d t).eth = t.eth) :
    (takeInbox ch kind f s).eth = s.eth := by
  unfold takeInbox
  split <;> simp [h]
@[simp] theorem takeInbox_mvb ch kind f (s : State) (h : ∀ d t, (f d t).mvb = t.mvb) :
    (takeInbox ch kind f s).mvb = s.mvb := by
  unfold takeInbox
  split <;> simp [h]
@[simp] theorem takeInbox_col ch kind f (s : State) (h : ∀ d t, (f d t).col = t.col) :
    (takeInbox ch kind f s).col = s.col := by
  unfold takeInbox
  split <;> simp [h]
@[simp] theorem takeInbox_chk ch kind f (s : State) (h : ∀ d t, (f d t).chk = t.chk) :
    (takeInbox ch kind f s).chk = s.chk := by
  unfold takeInbox
  split <;> simp [h]
@[simp] theorem takeInbox_mot ch kind f (s : State) (h : ∀ d t, (f d t).mot = t.mot) :
    (takeInbox ch kind f s).mot = s.mot := by
  unfold takeInbox
  split <;> simp [h]
@[simp] theorem takeInbox_ana ch kind f (s : State) (h : ∀ d t, (f d t).ana = t.ana) :
    (takeInbox ch kind f s).ana = s.ana := by
  unfold takeInbox
  split <;> simp [h]
@[simp] theorem takeInbox_fld ch kind f (s : State) (h : ∀ d t, (f d t).fld = t.fld) :
    (takeInbox ch kind f s).fld = s.fld := by
  unfold takeInbox
  split <;> simp [h]
@[simp] theorem takeInbox_cls ch kind f (s : State) (h : ∀ d t, (f d t).cls = t.cls) :
    (takeInbox ch kind f s).cls = s.cls := by
  unfold takeInbox
  split <;> simp [h]
@[simp] theorem takeInbox_pwr ch kind f (s : State) (h : ∀ d t, (f d t).pwr = t.pwr) :
    (takeInbox ch kind f s).pwr = s.pwr := by
  unfold takeInbox
  split <;> simp [h]
@[simp] theorem takeInbox_trust ch kind f (s : State) (h : ∀ d t, (f d t).trust = t.trust) :
    (takeInbox ch kind f s).trust = s.trust := by
  unfold takeInbox
  split <;> simp [h]
@[simp] theorem takeInbox_cross ch kind f (s : State) (h : ∀ d t, (f d t).cross = t.cross) :
    (takeInbox ch kind f s).cross = s.cross := by
  unfold takeInbox
  split <;> simp [h]
@[simp] theorem takeInbox_cfg ch kind f (s : State) (h : ∀ d t, (f d t).cfg = t.cfg) :
    (takeInbox ch kind f s).cfg = s.cfg := by
  unfold takeInbox
  split <;> simp [h]
@[simp] theorem takeInbox_image ch kind f (s : State) (h : ∀ d t, (f d t).image = t.image) :
    (takeInbox ch kind f s).image = s.image := by
  unfold takeInbox
  split <;> simp [h]
@[simp] theorem takeInbox_regs ch kind f (s : State) (h : ∀ d t, (f d t).regs = t.regs) :
    (takeInbox ch kind f s).regs = s.regs := by
  unfold takeInbox
  split <;> simp [h]
@[simp] theorem takeInbox_draws ch kind f (s : State) (h : ∀ d t, (f d t).draws = t.draws) :
    (takeInbox ch kind f s).draws = s.draws := by
  unfold takeInbox
  split <;> simp [h]
@[simp] theorem takeInbox_pending ch kind f (s : State) (h : ∀ d t, (f d t).pending = t.pending) :
    (takeInbox ch kind f s).pending = s.pending := by
  unfold takeInbox
  split <;> simp [h]

@[simp] theorem coldReceived_frame d (s : State) :
    KeepsRest s (coldReceived d s) ∧ KeepsCore s (coldReceived d s) ∧ (coldReceived d s).tim = s.tim ∧ (coldReceived d s).eth = s.eth ∧
    (coldReceived d s).mvb = s.mvb ∧ (coldReceived d s).chk = s.chk ∧ (coldReceived d s).mot = s.mot ∧ (coldReceived d s).ana = s.ana ∧
    (coldReceived d s).fld = s.fld ∧ (coldReceived d s).pwr = s.pwr ∧ (coldReceived d s).cross = s.cross ∧ (coldReceived d s).regs = s.regs := by
  unfold coldReceived
  split <;> simp

@[simp] theorem listenExpiry_frame (s : State) :
    KeepsRest s (listenExpiry s) ∧ KeepsCore s (listenExpiry s) ∧ (listenExpiry s).tim = s.tim ∧ (listenExpiry s).eth = s.eth ∧
    (listenExpiry s).mvb = s.mvb ∧ (listenExpiry s).chk = s.chk ∧ (listenExpiry s).mot = s.mot ∧ (listenExpiry s).ana = s.ana ∧
    (listenExpiry s).fld = s.fld ∧ (listenExpiry s).pwr = s.pwr ∧ (listenExpiry s).cross = s.cross ∧ (listenExpiry s).regs = s.regs := by
  simp [listenExpiry]

@[simp] theorem takeMaster_frame (s : State) :
    KeepsRest s (takeMaster s) ∧ KeepsCore s (takeMaster s) ∧ (takeMaster s).eth = s.eth ∧ (takeMaster s).mvb = s.mvb ∧
    (takeMaster s).chk = s.chk ∧ (takeMaster s).mot = s.mot ∧ (takeMaster s).ana = s.ana ∧ (takeMaster s).fld = s.fld ∧
    (takeMaster s).pwr = s.pwr ∧ (takeMaster s).cross = s.cross ∧ (takeMaster s).regs = s.regs := by
  simp [takeMaster]

@[simp] theorem coldstartComplete_frame (s : State) :
    KeepsRest s (coldstartComplete s) ∧ KeepsCore s (coldstartComplete s) ∧ (coldstartComplete s).eth = s.eth ∧
    (coldstartComplete s).mvb = s.mvb ∧ (coldstartComplete s).chk = s.chk ∧ (coldstartComplete s).mot = s.mot ∧
    (coldstartComplete s).ana = s.ana ∧ (coldstartComplete s).fld = s.fld ∧ (coldstartComplete s).pwr = s.pwr ∧
    (coldstartComplete s).cross = s.cross ∧ (coldstartComplete s).regs = s.regs := by
  simp [coldstartComplete]

@[simp] theorem masterTakeover_frame (s : State) :
    KeepsRest s (masterTakeover s) ∧ KeepsCore s (masterTakeover s) ∧ (masterTakeover s).eth = s.eth ∧ (masterTakeover s).mvb = s.mvb ∧
    (masterTakeover s).chk = s.chk ∧ (masterTakeover s).mot = s.mot ∧ (masterTakeover s).ana = s.ana ∧ (masterTakeover s).fld = s.fld ∧
    (masterTakeover s).pwr = s.pwr ∧ (masterTakeover s).cross = s.cross ∧ (masterTakeover s).regs = s.regs := by
  simp [masterTakeover]

@[simp] theorem modeSwitch_frame (s : State) :
    KeepsRest s (modeSwitch s) ∧ KeepsCore s (modeSwitch s) ∧ (modeSwitch s).tim = s.tim ∧ (modeSwitch s).eth = s.eth ∧
    (modeSwitch s).mvb = s.mvb ∧ (modeSwitch s).chk = s.chk ∧ (modeSwitch s).mot = s.mot ∧ (modeSwitch s).ana = s.ana ∧
    (modeSwitch s).fld = s.fld ∧ (modeSwitch s).pwr = s.pwr ∧ (modeSwitch s).cross = s.cross ∧ (modeSwitch s).regs = s.regs := by
  simp [modeSwitch]

@[simp] theorem silence_frame cause (s : State) :
    KeepsRest s (silence cause s) ∧ KeepsCore s (silence cause s) ∧ (silence cause s).tim = s.tim ∧ (silence cause s).eth = s.eth ∧
    (silence cause s).mvb = s.mvb ∧ (silence cause s).chk = s.chk ∧ (silence cause s).mot = s.mot ∧ (silence cause s).ana = s.ana ∧
    (silence cause s).fld = s.fld ∧ (silence cause s).pwr = s.pwr ∧ (silence cause s).cross = s.cross ∧ (silence cause s).regs = s.regs := by
  simp [silence]

@[simp] theorem txEnWrite_frame v (s : State) :
    KeepsRest s (txEnWrite v s) ∧ KeepsCore s (txEnWrite v s) ∧ (txEnWrite v s).tim = s.tim ∧ (txEnWrite v s).eth = s.eth ∧
    (txEnWrite v s).mvb = s.mvb ∧ (txEnWrite v s).chk = s.chk ∧ (txEnWrite v s).mot = s.mot ∧ (txEnWrite v s).ana = s.ana ∧
    (txEnWrite v s).fld = s.fld ∧ (txEnWrite v s).pwr = s.pwr ∧ (txEnWrite v s).cross = s.cross := by
  simp [txEnWrite]

@[simp] theorem nodeResume_frame (s : State) :
    KeepsRest s (nodeResume s) ∧ KeepsCore s (nodeResume s) ∧ (nodeResume s).tim = s.tim ∧ (nodeResume s).eth = s.eth ∧
    (nodeResume s).mvb = s.mvb ∧ (nodeResume s).chk = s.chk ∧ (nodeResume s).mot = s.mot ∧ (nodeResume s).ana = s.ana ∧
    (nodeResume s).fld = s.fld ∧ (nodeResume s).pwr = s.pwr ∧ (nodeResume s).cross = s.cross ∧ (nodeResume s).regs = s.regs := by
  unfold nodeResume
  split <;> simp

@[simp] theorem handleRequest_frame mode (s : State) :
    KeepsRest s (handleRequest mode s) ∧ KeepsCore s (handleRequest mode s) ∧ (handleRequest mode s).tim = s.tim ∧
    (handleRequest mode s).eth = s.eth ∧ (handleRequest mode s).mvb = s.mvb ∧ (handleRequest mode s).chk = s.chk ∧
    (handleRequest mode s).mot = s.mot ∧ (handleRequest mode s).ana = s.ana ∧ (handleRequest mode s).fld = s.fld ∧
    (handleRequest mode s).pwr = s.pwr ∧ (handleRequest mode s).cross = s.cross ∧ (handleRequest mode s).regs = s.regs := by
  simp [handleRequest]

@[simp] theorem modeFrameReceived_frame (s : State) :
    KeepsRest s (modeFrameReceived s) ∧ KeepsCore s (modeFrameReceived s) ∧ (modeFrameReceived s).tim = s.tim ∧
    (modeFrameReceived s).eth = s.eth ∧ (modeFrameReceived s).mvb = s.mvb ∧ (modeFrameReceived s).chk = s.chk ∧
    (modeFrameReceived s).mot = s.mot ∧ (modeFrameReceived s).ana = s.ana ∧ (modeFrameReceived s).fld = s.fld ∧
    (modeFrameReceived s).pwr = s.pwr ∧ (modeFrameReceived s).cross = s.cross ∧ (modeFrameReceived s).regs = s.regs := by
  unfold modeFrameReceived
  split <;> simp

@[simp] theorem finishRequest_frame q pend next switch (s : State) :
    KeepsRest s (finishRequest q pend next switch s) ∧ (finishRequest q pend next switch s).mem = s.mem ∧
    (finishRequest q pend next switch s).vot = s.vot ∧ (finishRequest q pend next switch s).cyc = s.cyc ∧
    (finishRequest q pend next switch s).cls = s.cls ∧ (finishRequest q pend next switch s).trust = s.trust ∧
    (finishRequest q pend next switch s).col = s.col ∧ KeepsReports s (finishRequest q pend next switch s) ∧
    (finishRequest q pend next switch s).tim = s.tim ∧ (finishRequest q pend next switch s).eth = s.eth ∧
    (finishRequest q pend next switch s).mvb = s.mvb ∧ (finishRequest q pend next switch s).chk = s.chk ∧
    (finishRequest q pend next switch s).mot = s.mot ∧ (finishRequest q pend next switch s).ana = s.ana ∧
    (finishRequest q pend next switch s).fld = s.fld ∧ (finishRequest q pend next switch s).pwr = s.pwr ∧
    (finishRequest q pend next switch s).cross = s.cross ∧ (finishRequest q pend next switch s).regs = s.regs := by
  simp [finishRequest]

@[simp] theorem ownRequest_frame q (s : State) :
    KeepsRest s (ownRequest q s) ∧ (ownRequest q s).mem = s.mem ∧ (ownRequest q s).vot = s.vot ∧ (ownRequest q s).cyc = s.cyc ∧
    (ownRequest q s).cls = s.cls ∧ (ownRequest q s).trust = s.trust ∧ (ownRequest q s).col = s.col ∧ (ownRequest q s).tim = s.tim ∧
    (ownRequest q s).eth = s.eth ∧ (ownRequest q s).mvb = s.mvb ∧ (ownRequest q s).chk = s.chk ∧ (ownRequest q s).mot = s.mot ∧
    (ownRequest q s).ana = s.ana ∧ (ownRequest q s).fld = s.fld ∧ (ownRequest q s).pwr = s.pwr ∧ (ownRequest q s).cross = s.cross ∧
    (ownRequest q s).regs = s.regs := by
  simp [ownRequest]

@[simp] theorem strModeReqOp_frame r d (s : State) :
    KeepsRest s (strModeReqOp r d s) ∧ (strModeReqOp r d s).mem = s.mem ∧ (strModeReqOp r d s).vot = s.vot ∧
    (strModeReqOp r d s).cyc = s.cyc ∧ (strModeReqOp r d s).cls = s.cls ∧ (strModeReqOp r d s).trust = s.trust ∧
    (strModeReqOp r d s).col = s.col ∧ (strModeReqOp r d s).tim = s.tim ∧ (strModeReqOp r d s).eth = s.eth ∧
    (strModeReqOp r d s).mvb = s.mvb ∧ (strModeReqOp r d s).chk = s.chk ∧ (strModeReqOp r d s).mot = s.mot ∧
    (strModeReqOp r d s).ana = s.ana ∧ (strModeReqOp r d s).fld = s.fld ∧ (strModeReqOp r d s).pwr = s.pwr ∧
    (strModeReqOp r d s).cross = s.cross ∧ (strModeReqOp r d s).regs = s.regs := by
  simp [strModeReqOp]

@[simp] theorem modeReqAnswer_frame (s : State) :
    KeepsRest s (modeReqAnswer s) ∧ (modeReqAnswer s).mem = s.mem ∧ (modeReqAnswer s).vot = s.vot ∧ (modeReqAnswer s).cyc = s.cyc ∧
    (modeReqAnswer s).cls = s.cls ∧ (modeReqAnswer s).trust = s.trust ∧ (modeReqAnswer s).col = s.col ∧ (modeReqAnswer s).tim = s.tim ∧
    (modeReqAnswer s).eth = s.eth ∧ (modeReqAnswer s).mvb = s.mvb ∧ (modeReqAnswer s).chk = s.chk ∧ (modeReqAnswer s).mot = s.mot ∧
    (modeReqAnswer s).ana = s.ana ∧ (modeReqAnswer s).fld = s.fld ∧ (modeReqAnswer s).pwr = s.pwr ∧ (modeReqAnswer s).cross = s.cross ∧
    (modeReqAnswer s).regs = s.regs := by
  unfold modeReqAnswer
  dsimp only
  (repeat' split) <;> simp

@[simp] theorem loadTxBuf_frame n b (s : State) :
    KeepsRest s (loadTxBuf n b s) ∧ KeepsCore s (loadTxBuf n b s) ∧ KeepsReports s (loadTxBuf n b s) ∧ (loadTxBuf n b s).tim = s.tim ∧
    (loadTxBuf n b s).eth = s.eth ∧ (loadTxBuf n b s).mvb = s.mvb ∧ (loadTxBuf n b s).chk = s.chk ∧ (loadTxBuf n b s).mot = s.mot ∧
    (loadTxBuf n b s).ana = s.ana ∧ (loadTxBuf n b s).fld = s.fld ∧ (loadTxBuf n b s).pwr = s.pwr ∧ (loadTxBuf n b s).cross = s.cross ∧
    (loadTxBuf n b s).regs = s.regs := by
  simp [loadTxBuf]

@[simp] theorem strSlotWriteOp_frame r d (s : State) :
    KeepsRest s (strSlotWriteOp r d s) ∧ (strSlotWriteOp r d s).mem = s.mem ∧ (strSlotWriteOp r d s).vot = s.vot ∧
    (strSlotWriteOp r d s).cyc = s.cyc ∧ (strSlotWriteOp r d s).cls = s.cls ∧ (strSlotWriteOp r d s).trust = s.trust ∧
    (strSlotWriteOp r d s).col = s.col ∧ (strSlotWriteOp r d s).tim = s.tim ∧ (strSlotWriteOp r d s).eth = s.eth ∧
    (strSlotWriteOp r d s).mvb = s.mvb ∧ (strSlotWriteOp r d s).chk = s.chk ∧ (strSlotWriteOp r d s).mot = s.mot ∧
    (strSlotWriteOp r d s).ana = s.ana ∧ (strSlotWriteOp r d s).fld = s.fld ∧ (strSlotWriteOp r d s).pwr = s.pwr ∧
    (strSlotWriteOp r d s).cross = s.cross ∧ (strSlotWriteOp r d s).regs = s.regs := by
  simp [strSlotWriteOp]

@[simp] theorem strSlotBindOp_frame r d (s : State) :
    KeepsRest s (strSlotBindOp r d s) ∧ (strSlotBindOp r d s).mem = s.mem ∧ (strSlotBindOp r d s).vot = s.vot ∧
    (strSlotBindOp r d s).cyc = s.cyc ∧ (strSlotBindOp r d s).cls = s.cls ∧ (strSlotBindOp r d s).trust = s.trust ∧
    (strSlotBindOp r d s).col = s.col ∧ KeepsReports s (strSlotBindOp r d s) ∧ (strSlotBindOp r d s).tim = s.tim ∧
    (strSlotBindOp r d s).eth = s.eth ∧ (strSlotBindOp r d s).mvb = s.mvb ∧ (strSlotBindOp r d s).chk = s.chk ∧
    (strSlotBindOp r d s).mot = s.mot ∧ (strSlotBindOp r d s).ana = s.ana ∧ (strSlotBindOp r d s).fld = s.fld ∧
    (strSlotBindOp r d s).pwr = s.pwr ∧ (strSlotBindOp r d s).cross = s.cross ∧ (strSlotBindOp r d s).regs = s.regs := by
  simp [strSlotBindOp]

@[simp] theorem cycleTurn_frame (s : State) :
    KeepsRest s (cycleTurn s) ∧ KeepsCore s (cycleTurn s) ∧ KeepsReports s (cycleTurn s) ∧ (cycleTurn s).tim = s.tim ∧
    (cycleTurn s).eth = s.eth ∧ (cycleTurn s).mvb = s.mvb ∧ (cycleTurn s).chk = s.chk ∧ (cycleTurn s).mot = s.mot ∧
    (cycleTurn s).ana = s.ana ∧ (cycleTurn s).fld = s.fld ∧ (cycleTurn s).pwr = s.pwr ∧ (cycleTurn s).cross = s.cross ∧
    (cycleTurn s).regs = s.regs := by
  simp [cycleTurn]

@[simp] theorem refMeasurement_frame (s : State) :
    KeepsRest s (refMeasurement s).1 ∧ KeepsCore s (refMeasurement s).1 ∧ (refMeasurement s).1.eth = s.eth ∧
    (refMeasurement s).1.mvb = s.mvb ∧ (refMeasurement s).1.chk = s.chk ∧ (refMeasurement s).1.mot = s.mot ∧
    (refMeasurement s).1.ana = s.ana ∧ (refMeasurement s).1.fld = s.fld ∧ (refMeasurement s).1.pwr = s.pwr ∧
    (refMeasurement s).1.cross = s.cross := by
  unfold refMeasurement
  dsimp only
  (repeat' split) <;> simp

end Sys2Proof.Machine
end

