-- ==== Sys2Proof/Laws/FrameBuses.lean ====
section
/-!
SUPPORT. What each operation leaves unchanged: the operations of the consist links, the backplane bridge, the safe senders and the containers.
-/

namespace Sys2Proof.Machine

@[simp] theorem ethTransmit_frame q t (s : State) :
    KeepsRest s (ethTransmit q t s) ∧ KeepsCore s (ethTransmit q t s) ∧ KeepsReports s (ethTransmit q t s) ∧
    (ethTransmit q t s).tim = s.tim ∧ (ethTransmit q t s).stra = s.stra ∧ (ethTransmit q t s).mvb = s.mvb ∧ (ethTransmit q t s).chk = s.chk ∧
    (ethTransmit q t s).mot = s.mot ∧ (ethTransmit q t s).ana = s.ana ∧ (ethTransmit q t s).fld = s.fld ∧ (ethTransmit q t s).pwr = s.pwr ∧
    (ethTransmit q t s).cross = s.cross ∧ (ethTransmit q t s).regs = s.regs := by
  simp [ethTransmit]

@[simp] theorem setPtpState_frame q st (s : State) :
    KeepsRest s (setPtpState q st s) ∧ KeepsCore s (setPtpState q st s) ∧ (setPtpState q st s).tim = s.tim ∧
    (setPtpState q st s).stra = s.stra ∧ (setPtpState q st s).mvb = s.mvb ∧ (setPtpState q st s).chk = s.chk ∧
    (setPtpState q st s).mot = s.mot ∧ (setPtpState q st s).ana = s.ana ∧ (setPtpState q st s).fld = s.fld ∧
    (setPtpState q st s).pwr = s.pwr ∧ (setPtpState q st s).cross = s.cross ∧ (setPtpState q st s).regs = s.regs := by
  simp [setPtpState]

@[simp] theorem ptpRoleChanged_frame q (s : State) :
    KeepsRest s (ptpRoleChanged q s) ∧ KeepsCore s (ptpRoleChanged q s) ∧ (ptpRoleChanged q s).tim = s.tim ∧
    (ptpRoleChanged q s).stra = s.stra ∧ (ptpRoleChanged q s).mvb = s.mvb ∧ (ptpRoleChanged q s).chk = s.chk ∧
    (ptpRoleChanged q s).mot = s.mot ∧ (ptpRoleChanged q s).ana = s.ana ∧ (ptpRoleChanged q s).fld = s.fld ∧
    (ptpRoleChanged q s).pwr = s.pwr ∧ (ptpRoleChanged q s).cross = s.cross ∧ (ptpRoleChanged q s).regs = s.regs := by
  unfold ptpRoleChanged
  split <;> simp

@[simp] theorem ethDrop_frame q (s : State) :
    KeepsRest s (ethDrop q s) ∧ KeepsCore s (ethDrop q s) ∧ KeepsReports s (ethDrop q s) ∧ (ethDrop q s).tim = s.tim ∧
    (ethDrop q s).stra = s.stra ∧ (ethDrop q s).mvb = s.mvb ∧ (ethDrop q s).chk = s.chk ∧ (ethDrop q s).mot = s.mot ∧
    (ethDrop q s).ana = s.ana ∧ (ethDrop q s).fld = s.fld ∧ (ethDrop q s).pwr = s.pwr ∧ (ethDrop q s).cross = s.cross ∧
    (ethDrop q s).regs = s.regs := by
  simp [ethDrop]

@[simp] theorem ethOverflow_frame q (s : State) :
    KeepsRest s (ethOverflow q s) ∧ KeepsCore s (ethOverflow q s) ∧ (ethOverflow q s).tim = s.tim ∧ (ethOverflow q s).stra = s.stra ∧
    (ethOverflow q s).mvb = s.mvb ∧ (ethOverflow q s).chk = s.chk ∧ (ethOverflow q s).mot = s.mot ∧ (ethOverflow q s).ana = s.ana ∧
    (ethOverflow q s).fld = s.fld ∧ (ethOverflow q s).pwr = s.pwr ∧ (ethOverflow q s).cross = s.cross ∧ (ethOverflow q s).regs = s.regs := by
  simp [ethOverflow]

@[simp] theorem pdArrival_frame q phase b src seq etb op payload (s : State) :
    KeepsRest s (pdArrival q phase b src seq etb op payload s) ∧ (pdArrival q phase b src seq etb op payload s).mem = s.mem ∧
    (pdArrival q phase b src seq etb op payload s).vot = s.vot ∧ (pdArrival q phase b src seq etb op payload s).rng = s.rng ∧
    (pdArrival q phase b src seq etb op payload s).cls = s.cls ∧ (pdArrival q phase b src seq etb op payload s).trust = s.trust ∧
    (pdArrival q phase b src seq etb op payload s).col = s.col ∧ (pdArrival q phase b src seq etb op payload s).tim = s.tim ∧
    (pdArrival q phase b src seq etb op payload s).stra = s.stra ∧ (pdArrival q phase b src seq etb op payload s).mvb = s.mvb ∧
    (pdArrival q phase b src seq etb op payload s).mot = s.mot ∧ (pdArrival q phase b src seq etb op payload s).ana = s.ana ∧
    (pdArrival q phase b src seq etb op payload s).fld = s.fld ∧ (pdArrival q phase b src seq etb op payload s).pwr = s.pwr ∧
    (pdArrival q phase b src seq etb op payload s).cross = s.cross ∧ (pdArrival q phase b src seq etb op payload s).regs = s.regs := by
  simp [pdArrival]

@[simp] theorem fillPost_frame q b kind comId src handle payload (s : State) :
    KeepsRest s (fillPost q b kind comId src handle payload s) ∧ (fillPost q b kind comId src handle payload s).vot = s.vot ∧
    (fillPost q b kind comId src handle payload s).cyc = s.cyc ∧ (fillPost q b kind comId src handle payload s).cls = s.cls ∧
    (fillPost q b kind comId src handle payload s).trust = s.trust ∧ (fillPost q b kind comId src handle payload s).col = s.col ∧
    KeepsReports s (fillPost q b kind comId src handle payload s) ∧ (fillPost q b kind comId src handle payload s).tim = s.tim ∧
    (fillPost q b kind comId src handle payload s).stra = s.stra ∧ (fillPost q b kind comId src handle payload s).mvb = s.mvb ∧
    (fillPost q b kind comId src handle payload s).chk = s.chk ∧ (fillPost q b kind comId src handle payload s).mot = s.mot ∧
    (fillPost q b kind comId src handle payload s).ana = s.ana ∧ (fillPost q b kind comId src handle payload s).fld = s.fld ∧
    (fillPost q b kind comId src handle payload s).pwr = s.pwr ∧ (fillPost q b kind comId src handle payload s).cross = s.cross ∧
    (fillPost q b kind comId src handle payload s).regs = s.regs := by
  simp [fillPost]

@[simp] theorem openSession_frame port comId peer op (s : State) :
    KeepsRest s (openSession port comId peer op s).2 ∧ KeepsCore s (openSession port comId peer op s).2 ∧
    KeepsReports s (openSession port comId peer op s).2 ∧ (openSession port comId peer op s).2.tim = s.tim ∧
    (openSession port comId peer op s).2.stra = s.stra ∧ (openSession port comId peer op s).2.mvb = s.mvb ∧
    (openSession port comId peer op s).2.chk = s.chk ∧ (openSession port comId peer op s).2.mot = s.mot ∧
    (openSession port comId peer op s).2.ana = s.ana ∧ (openSession port comId peer op s).2.fld = s.fld ∧
    (openSession port comId peer op s).2.pwr = s.pwr ∧ (openSession port comId peer op s).2.cross = s.cross ∧
    (openSession port comId peer op s).2.regs = s.regs := by
  simp [openSession]

@[simp] theorem closeSession_frame x (s : State) :
    KeepsRest s (closeSession x s) ∧ KeepsCore s (closeSession x s) ∧ KeepsReports s (closeSession x s) ∧ (closeSession x s).tim = s.tim ∧
    (closeSession x s).stra = s.stra ∧ (closeSession x s).mvb = s.mvb ∧ (closeSession x s).chk = s.chk ∧ (closeSession x s).mot = s.mot ∧
    (closeSession x s).ana = s.ana ∧ (closeSession x s).fld = s.fld ∧ (closeSession x s).pwr = s.pwr ∧ (closeSession x s).cross = s.cross ∧
    (closeSession x s).regs = s.regs := by
  simp [closeSession]

@[simp] theorem mdReceived_frame q kind comId src handle payload (s : State) :
    KeepsRest s (mdReceived q kind comId src handle payload s) ∧ (mdReceived q kind comId src handle payload s).vot = s.vot ∧
    (mdReceived q kind comId src handle payload s).cyc = s.cyc ∧ (mdReceived q kind comId src handle payload s).cls = s.cls ∧
    (mdReceived q kind comId src handle payload s).trust = s.trust ∧ (mdReceived q kind comId src handle payload s).col = s.col ∧
    KeepsReports s (mdReceived q kind comId src handle payload s) ∧ (mdReceived q kind comId src handle payload s).tim = s.tim ∧
    (mdReceived q kind comId src handle payload s).stra = s.stra ∧ (mdReceived q kind comId src handle payload s).mvb = s.mvb ∧
    (mdReceived q kind comId src handle payload s).chk = s.chk ∧ (mdReceived q kind comId src handle payload s).mot = s.mot ∧
    (mdReceived q kind comId src handle payload s).ana = s.ana ∧ (mdReceived q kind comId src handle payload s).fld = s.fld ∧
    (mdReceived q kind comId src handle payload s).pwr = s.pwr ∧ (mdReceived q kind comId src handle payload s).cross = s.cross ∧
    (mdReceived q kind comId src handle payload s).regs = s.regs := by
  unfold mdReceived
  dsimp only
  (repeat' split) <;> simp

@[simp] theorem acceptFrame_otp q full f (s : State) (h : ∀ t, (f t).otp = t.otp) :
    (acceptFrame q full f s).otp = s.otp := by
  unfold acceptFrame
  split <;> simp [h]
@[simp] theorem acceptFrame_mem q full f (s : State) (h : ∀ t, (f t).mem = t.mem) :
    (acceptFrame q full f s).mem = s.mem := by
  unfold acceptFrame
  split <;> simp [h]
@[simp] theorem acceptFrame_tim q full f (s : State) (h : ∀ t, (f t).tim = t.tim) :
    (acceptFrame q full f s).tim = s.tim := by
  unfold acceptFrame
  split <;> simp [h]
@[simp] theorem acceptFrame_vot q full f (s : State) (h : ∀ t, (f t).vot = t.vot) :
    (acceptFrame q full f s).vot = s.vot := by
  unfold acceptFrame
  split <;> simp [h]
@[simp] theorem acceptFrame_rng q full f (s : State) (h : ∀ t, (f t).rng = t.rng) :
    (acceptFrame q full f s).rng = s.rng := by
  unfold acceptFrame
  split <;> simp [h]
@[simp] theorem acceptFrame_cyc q full f (s : State) (h : ∀ t, (f t).cyc = t.cyc) :
    (acceptFrame q full f s).cyc = s.cyc := by
  unfold acceptFrame
  split <;> simp [h]
@[simp] theorem acceptFrame_stra q full f (s : State) (h : ∀ t, (f t).stra = t.stra) :
    (acceptFrame q full f s).stra = s.stra := by
  unfold acceptFrame
  split <;> simp [h]
@[simp] theorem acceptFrame_mvb q full f (s : State) (h : ∀ t, (f t).mvb = t.mvb) :
    (acceptFrame q full f s).mvb = s.mvb := by
  unfold acceptFrame
  split <;> simp [h]
@[simp] theorem acceptFrame_col q full f (s : State) (h : ∀ t, (f t).col = t.col) :
    (acceptFrame q full f s).col = s.col := by
  unfold acceptFrame
  split <;> simp [h]
@[simp] theorem acceptFrame_chk q full f (s : State) (h : ∀ t, (f t).chk = t.chk) :
    (acceptFrame q full f s).chk = s.chk := by
  unfold acceptFrame
  split <;> simp [h]
@[simp] theorem acceptFrame_mot q full f (s : State) (h : ∀ t, (f t).mot = t.mot) :
    (acceptFrame q full f s).mot = s.mot := by
  unfold acceptFrame
  split <;> simp [h]
@[simp] theorem acceptFrame_ana q full f (s : State) (h : ∀ t, (f t).ana = t.ana) :
    (acceptFrame q full f s).ana = s.ana := by
  unfold acceptFrame
  split <;> simp [h]
@[simp] theorem acceptFrame_fld q full f (s : State) (h : ∀ t, (f t).fld = t.fld) :
    (acceptFrame q full f s).fld = s.fld := by
  unfold acceptFrame
  split <;> simp [h]
@[simp] theorem acceptFrame_cls q full f (s : State) (h : ∀ t, (f t).cls = t.cls) :
    (acceptFrame q full f s).cls = s.cls := by
  unfold acceptFrame
  split <;> simp [h]
@[simp] theorem acceptFrame_pwr q full f (s : State) (h : ∀ t, (f t).pwr = t.pwr) :
    (acceptFrame q full f s).pwr = s.pwr := by
  unfold acceptFrame
  split <;> simp [h]
@[simp] theorem acceptFrame_trust q full f (s : State) (h : ∀ t, (f t).trust = t.trust) :
    (acceptFrame q full f s).trust = s.trust := by
  unfold acceptFrame
  split <;> simp [h]
@[simp] theorem acceptFrame_cross q full f (s : State) (h : ∀ t, (f t).cross = t.cross) :
    (acceptFrame q full f s).cross = s.cross := by
  unfold acceptFrame
  split <;> simp [h]
@[simp] theorem acceptFrame_cfg q full f (s : State) (h : ∀ t, (f t).cfg = t.cfg) :
    (acceptFrame q full f s).cfg = s.cfg := by
  unfold acceptFrame
  split <;> simp [h]
@[simp] theorem acceptFrame_image q full f (s : State) (h : ∀ t, (f t).image = t.image) :
    (acceptFrame q full f s).image = s.image := by
  unfold acceptFrame
  split <;> simp [h]
@[simp] theorem acceptFrame_regs q full f (s : State) (h : ∀ t, (f t).regs = t.regs) :
    (acceptFrame q full f s).regs = s.regs := by
  unfold acceptFrame
  split <;> simp [h]
@[simp] theorem acceptFrame_draws q full f (s : State) (h : ∀ t, (f t).draws = t.draws) :
    (acceptFrame q full f s).draws = s.draws := by
  unfold acceptFrame
  split <;> simp [h]
@[simp] theorem acceptFrame_pending q full f (s : State) (h : ∀ t, (f t).pending = t.pending) :
    (acceptFrame q full f s).pending = s.pending := by
  unfold acceptFrame
  split <;> simp [h]

@[simp] theorem ethFrameReceived_frame q phase full f (s : State) :
    KeepsRest s (ethFrameReceived q phase full f s) ∧ (ethFrameReceived q phase full f s).vot = s.vot ∧
    (ethFrameReceived q phase full f s).cls = s.cls ∧ (ethFrameReceived q phase full f s).trust = s.trust ∧
    (ethFrameReceived q phase full f s).col = s.col ∧ (ethFrameReceived q phase full f s).tim = s.tim ∧
    (ethFrameReceived q phase full f s).stra = s.stra ∧ (ethFrameReceived q phase full f s).mvb = s.mvb ∧
    (ethFrameReceived q phase full f s).mot = s.mot ∧ (ethFrameReceived q phase full f s).ana = s.ana ∧
    (ethFrameReceived q phase full f s).fld = s.fld ∧ (ethFrameReceived q phase full f s).pwr = s.pwr ∧
    (ethFrameReceived q phase full f s).cross = s.cross ∧ (ethFrameReceived q phase full f s).regs = s.regs := by
  unfold ethFrameReceived
  (repeat' split) <;> simp [*]

@[simp] theorem mdTimeout_frame handle (s : State) :
    KeepsRest s (mdTimeout handle s) ∧ (mdTimeout handle s).mem = s.mem ∧ (mdTimeout handle s).vot = s.vot ∧
    (mdTimeout handle s).cyc = s.cyc ∧ (mdTimeout handle s).cls = s.cls ∧ (mdTimeout handle s).trust = s.trust ∧
    (mdTimeout handle s).col = s.col ∧ KeepsReports s (mdTimeout handle s) ∧ (mdTimeout handle s).tim = s.tim ∧
    (mdTimeout handle s).stra = s.stra ∧ (mdTimeout handle s).mvb = s.mvb ∧ (mdTimeout handle s).chk = s.chk ∧
    (mdTimeout handle s).mot = s.mot ∧ (mdTimeout handle s).ana = s.ana ∧ (mdTimeout handle s).fld = s.fld ∧
    (mdTimeout handle s).pwr = s.pwr ∧ (mdTimeout handle s).cross = s.cross ∧ (mdTimeout handle s).regs = s.regs := by
  unfold mdTimeout
  (repeat' split) <;> simp [*]

@[simp] theorem loadPub_frame n b (s : State) :
    KeepsRest s (loadPub n b s) ∧ KeepsCore s (loadPub n b s) ∧ KeepsReports s (loadPub n b s) ∧ (loadPub n b s).tim = s.tim ∧
    (loadPub n b s).stra = s.stra ∧ (loadPub n b s).mvb = s.mvb ∧ (loadPub n b s).chk = s.chk ∧ (loadPub n b s).mot = s.mot ∧
    (loadPub n b s).ana = s.ana ∧ (loadPub n b s).fld = s.fld ∧ (loadPub n b s).pwr = s.pwr ∧ (loadPub n b s).cross = s.cross ∧
    (loadPub n b s).regs = s.regs := by
  simp [loadPub]

@[simp] theorem ethAtTick_frame (s : State) :
    KeepsRest s (ethAtTick s) ∧ KeepsCore s (ethAtTick s) ∧ KeepsReports s (ethAtTick s) ∧ (ethAtTick s).tim = s.tim ∧
    (ethAtTick s).stra = s.stra ∧ (ethAtTick s).mvb = s.mvb ∧ (ethAtTick s).chk = s.chk ∧ (ethAtTick s).mot = s.mot ∧
    (ethAtTick s).ana = s.ana ∧ (ethAtTick s).fld = s.fld ∧ (ethAtTick s).pwr = s.pwr ∧ (ethAtTick s).cross = s.cross ∧
    (ethAtTick s).regs = s.regs := by
  simp [ethAtTick]

@[simp] theorem pdSend_frame n (s : State) :
    KeepsRest s (pdSend n s) ∧ KeepsCore s (pdSend n s) ∧ KeepsReports s (pdSend n s) ∧ (pdSend n s).tim = s.tim ∧
    (pdSend n s).stra = s.stra ∧ (pdSend n s).mvb = s.mvb ∧ (pdSend n s).chk = s.chk ∧ (pdSend n s).mot = s.mot ∧ (pdSend n s).ana = s.ana ∧
    (pdSend n s).fld = s.fld ∧ (pdSend n s).pwr = s.pwr ∧ (pdSend n s).cross = s.cross ∧ (pdSend n s).regs = s.regs := by
  unfold pdSend
  dsimp only
  (repeat' split) <;> simp

@[simp] theorem ptpOffset_frame q origin rx (s : State) :
    KeepsRest s (ptpOffset q origin rx s) ∧ KeepsCore s (ptpOffset q origin rx s) ∧ KeepsReports s (ptpOffset q origin rx s) ∧
    (ptpOffset q origin rx s).tim = s.tim ∧ (ptpOffset q origin rx s).stra = s.stra ∧ (ptpOffset q origin rx s).mvb = s.mvb ∧
    (ptpOffset q origin rx s).chk = s.chk ∧ (ptpOffset q origin rx s).mot = s.mot ∧ (ptpOffset q origin rx s).ana = s.ana ∧
    (ptpOffset q origin rx s).fld = s.fld ∧ (ptpOffset q origin rx s).pwr = s.pwr ∧ (ptpOffset q origin rx s).cross = s.cross ∧
    (ptpOffset q origin rx s).regs = s.regs := by
  simp [ptpOffset]

@[simp] theorem ptpAnnounced_frame q st steps (s : State) :
    KeepsRest s (ptpAnnounced q st steps s) ∧ KeepsCore s (ptpAnnounced q st steps s) ∧ (ptpAnnounced q st steps s).tim = s.tim ∧
    (ptpAnnounced q st steps s).stra = s.stra ∧ (ptpAnnounced q st steps s).mvb = s.mvb ∧ (ptpAnnounced q st steps s).chk = s.chk ∧
    (ptpAnnounced q st steps s).mot = s.mot ∧ (ptpAnnounced q st steps s).ana = s.ana ∧ (ptpAnnounced q st steps s).fld = s.fld ∧
    (ptpAnnounced q st steps s).pwr = s.pwr ∧ (ptpAnnounced q st steps s).cross = s.cross ∧ (ptpAnnounced q st steps s).regs = s.regs := by
  unfold ptpAnnounced
  split <;> simp

@[simp] theorem ptpReceived_frame q phase domain m (s : State) :
    KeepsRest s (ptpReceived q phase domain m s) ∧ KeepsCore s (ptpReceived q phase domain m s) ∧
    (ptpReceived q phase domain m s).tim = s.tim ∧ (ptpReceived q phase domain m s).stra = s.stra ∧
    (ptpReceived q phase domain m s).mvb = s.mvb ∧ (ptpReceived q phase domain m s).chk = s.chk ∧
    (ptpReceived q phase domain m s).mot = s.mot ∧ (ptpReceived q phase domain m s).ana = s.ana ∧
    (ptpReceived q phase domain m s).fld = s.fld ∧ (ptpReceived q phase domain m s).pwr = s.pwr ∧
    (ptpReceived q phase domain m s).cross = s.cross ∧ (ptpReceived q phase domain m s).regs = s.regs := by
  unfold ptpReceived
  dsimp only
  (repeat' split) <;> simp

@[simp] theorem ptpSend_frame q phase k (s : State) :
    KeepsRest s (ptpSend q phase k s) ∧ KeepsCore s (ptpSend q phase k s) ∧ (ptpSend q phase k s).stra = s.stra ∧
    (ptpSend q phase k s).mvb = s.mvb ∧ (ptpSend q phase k s).chk = s.chk ∧ (ptpSend q phase k s).mot = s.mot ∧
    (ptpSend q phase k s).ana = s.ana ∧ (ptpSend q phase k s).fld = s.fld ∧ (ptpSend q phase k s).pwr = s.pwr ∧
    (ptpSend q phase k s).cross = s.cross ∧ (ptpSend q phase k s).regs = s.regs := by
  unfold ptpSend
  dsimp only
  (repeat' split) <;> simp

@[simp] theorem ptpFollowTime_frame (s : State) :
    KeepsRest s (ptpFollowTime s) ∧ KeepsCore s (ptpFollowTime s) ∧ (ptpFollowTime s).tim = s.tim ∧ (ptpFollowTime s).stra = s.stra ∧
    (ptpFollowTime s).mvb = s.mvb ∧ (ptpFollowTime s).chk = s.chk ∧ (ptpFollowTime s).mot = s.mot ∧ (ptpFollowTime s).ana = s.ana ∧
    (ptpFollowTime s).fld = s.fld ∧ (ptpFollowTime s).pwr = s.pwr ∧ (ptpFollowTime s).cross = s.cross ∧ (ptpFollowTime s).regs = s.regs := by
  simp [ptpFollowTime]

@[simp] theorem ethFrameOut_frame q b (s : State) :
    KeepsRest s (ethFrameOut q b s) ∧ KeepsCore s (ethFrameOut q b s) ∧ KeepsReports s (ethFrameOut q b s) ∧
    (ethFrameOut q b s).tim = s.tim ∧ (ethFrameOut q b s).stra = s.stra ∧ (ethFrameOut q b s).mvb = s.mvb ∧ (ethFrameOut q b s).chk = s.chk ∧
    (ethFrameOut q b s).mot = s.mot ∧ (ethFrameOut q b s).ana = s.ana ∧ (ethFrameOut q b s).fld = s.fld ∧ (ethFrameOut q b s).pwr = s.pwr ∧
    (ethFrameOut q b s).cross = s.cross ∧ (ethFrameOut q b s).regs = s.regs := by
  simp [ethFrameOut]

@[simp] theorem ethSendOp_frame r phase d0 (s : State) :
    KeepsRest s (ethSendOp r phase d0 s) ∧ (ethSendOp r phase d0 s).mem = s.mem ∧ (ethSendOp r phase d0 s).vot = s.vot ∧
    (ethSendOp r phase d0 s).cyc = s.cyc ∧ (ethSendOp r phase d0 s).cls = s.cls ∧ (ethSendOp r phase d0 s).trust = s.trust ∧
    (ethSendOp r phase d0 s).col = s.col ∧ (ethSendOp r phase d0 s).stra = s.stra ∧ (ethSendOp r phase d0 s).mvb = s.mvb ∧
    (ethSendOp r phase d0 s).chk = s.chk ∧ (ethSendOp r phase d0 s).mot = s.mot ∧ (ethSendOp r phase d0 s).ana = s.ana ∧
    (ethSendOp r phase d0 s).fld = s.fld ∧ (ethSendOp r phase d0 s).pwr = s.pwr ∧ (ethSendOp r phase d0 s).cross = s.cross ∧
    (ethSendOp r phase d0 s).regs = s.regs := by
  simp [ethSendOp]

@[simp] theorem trdpPdPubOp_frame r d0 (s : State) :
    KeepsRest s (trdpPdPubOp r d0 s) ∧ (trdpPdPubOp r d0 s).mem = s.mem ∧ (trdpPdPubOp r d0 s).vot = s.vot ∧
    (trdpPdPubOp r d0 s).cyc = s.cyc ∧ (trdpPdPubOp r d0 s).cls = s.cls ∧ (trdpPdPubOp r d0 s).trust = s.trust ∧
    (trdpPdPubOp r d0 s).col = s.col ∧ (trdpPdPubOp r d0 s).tim = s.tim ∧ (trdpPdPubOp r d0 s).stra = s.stra ∧
    (trdpPdPubOp r d0 s).mvb = s.mvb ∧ (trdpPdPubOp r d0 s).chk = s.chk ∧ (trdpPdPubOp r d0 s).mot = s.mot ∧
    (trdpPdPubOp r d0 s).ana = s.ana ∧ (trdpPdPubOp r d0 s).fld = s.fld ∧ (trdpPdPubOp r d0 s).pwr = s.pwr ∧
    (trdpPdPubOp r d0 s).cross = s.cross ∧ (trdpPdPubOp r d0 s).regs = s.regs := by
  simp [trdpPdPubOp]

@[simp] theorem trdpPdSubOp_frame r d (s : State) :
    KeepsRest s (trdpPdSubOp r d s) ∧ (trdpPdSubOp r d s).mem = s.mem ∧ (trdpPdSubOp r d s).vot = s.vot ∧ (trdpPdSubOp r d s).cyc = s.cyc ∧
    (trdpPdSubOp r d s).cls = s.cls ∧ (trdpPdSubOp r d s).trust = s.trust ∧ (trdpPdSubOp r d s).col = s.col ∧
    KeepsReports s (trdpPdSubOp r d s) ∧ (trdpPdSubOp r d s).tim = s.tim ∧ (trdpPdSubOp r d s).stra = s.stra ∧
    (trdpPdSubOp r d s).mvb = s.mvb ∧ (trdpPdSubOp r d s).chk = s.chk ∧ (trdpPdSubOp r d s).mot = s.mot ∧ (trdpPdSubOp r d s).ana = s.ana ∧
    (trdpPdSubOp r d s).fld = s.fld ∧ (trdpPdSubOp r d s).pwr = s.pwr ∧ (trdpPdSubOp r d s).cross = s.cross ∧
    (trdpPdSubOp r d s).regs = s.regs := by
  simp [trdpPdSubOp]

@[simp] theorem trdpMdSendOp_frame r d (s : State) :
    KeepsRest s (trdpMdSendOp r d s) ∧ (trdpMdSendOp r d s).mem = s.mem ∧ (trdpMdSendOp r d s).vot = s.vot ∧
    (trdpMdSendOp r d s).cyc = s.cyc ∧ (trdpMdSendOp r d s).cls = s.cls ∧ (trdpMdSendOp r d s).trust = s.trust ∧
    (trdpMdSendOp r d s).col = s.col ∧ KeepsReports s (trdpMdSendOp r d s) ∧ (trdpMdSendOp r d s).tim = s.tim ∧
    (trdpMdSendOp r d s).stra = s.stra ∧ (trdpMdSendOp r d s).mvb = s.mvb ∧ (trdpMdSendOp r d s).chk = s.chk ∧
    (trdpMdSendOp r d s).mot = s.mot ∧ (trdpMdSendOp r d s).ana = s.ana ∧ (trdpMdSendOp r d s).fld = s.fld ∧
    (trdpMdSendOp r d s).pwr = s.pwr ∧ (trdpMdSendOp r d s).cross = s.cross ∧ (trdpMdSendOp r d s).regs = s.regs := by
  unfold trdpMdSendOp
  dsimp only
  (repeat' split) <;> simp

@[simp] theorem trdpMdPostOp_frame r d (s : State) :
    KeepsRest s (trdpMdPostOp r d s) ∧ KeepsCore s (trdpMdPostOp r d s) ∧ KeepsReports s (trdpMdPostOp r d s) ∧
    (trdpMdPostOp r d s).tim = s.tim ∧ (trdpMdPostOp r d s).stra = s.stra ∧ (trdpMdPostOp r d s).mvb = s.mvb ∧
    (trdpMdPostOp r d s).chk = s.chk ∧ (trdpMdPostOp r d s).mot = s.mot ∧ (trdpMdPostOp r d s).ana = s.ana ∧
    (trdpMdPostOp r d s).fld = s.fld ∧ (trdpMdPostOp r d s).pwr = s.pwr ∧ (trdpMdPostOp r d s).cross = s.cross ∧
    (trdpMdPostOp r d s).regs = s.regs := by
  simp [trdpMdPostOp]

@[simp] theorem ptpReadOp_frame r d (s : State) :
    KeepsRest s (ptpReadOp r d s) ∧ (ptpReadOp r d s).mem = s.mem ∧ (ptpReadOp r d s).vot = s.vot ∧ (ptpReadOp r d s).cyc = s.cyc ∧
    (ptpReadOp r d s).cls = s.cls ∧ (ptpReadOp r d s).trust = s.trust ∧ (ptpReadOp r d s).col = s.col ∧ KeepsReports s (ptpReadOp r d s) ∧
    KeepsUnits s (ptpReadOp r d s) := by
  simp [ptpReadOp]

@[simp] theorem mvbMasterFrame_frame addr (s : State) :
    KeepsRest s (mvbMasterFrame addr s) ∧ KeepsCore s (mvbMasterFrame addr s) ∧ KeepsReports s (mvbMasterFrame addr s) ∧
    (mvbMasterFrame addr s).tim = s.tim ∧ (mvbMasterFrame addr s).stra = s.stra ∧ (mvbMasterFrame addr s).eth = s.eth ∧
    (mvbMasterFrame addr s).chk = s.chk ∧ (mvbMasterFrame addr s).mot = s.mot ∧ (mvbMasterFrame addr s).ana = s.ana ∧
    (mvbMasterFrame addr s).fld = s.fld ∧ (mvbMasterFrame addr s).pwr = s.pwr ∧ (mvbMasterFrame addr s).cross = s.cross ∧
    (mvbMasterFrame addr s).regs = s.regs := by
  unfold mvbMasterFrame
  split <;> simp

@[simp] theorem mvbSlaveFrame_frame lineB phase f (s : State) :
    KeepsRest s (mvbSlaveFrame lineB phase f s) ∧ (mvbSlaveFrame lineB phase f s).mem = s.mem ∧ (mvbSlaveFrame lineB phase f s).vot = s.vot ∧
    (mvbSlaveFrame lineB phase f s).rng = s.rng ∧ (mvbSlaveFrame lineB phase f s).cls = s.cls ∧
    (mvbSlaveFrame lineB phase f s).trust = s.trust ∧ (mvbSlaveFrame lineB phase f s).col = s.col ∧
    (mvbSlaveFrame lineB phase f s).tim = s.tim ∧ (mvbSlaveFrame lineB phase f s).stra = s.stra ∧
    (mvbSlaveFrame lineB phase f s).eth = s.eth ∧ (mvbSlaveFrame lineB phase f s).mot = s.mot ∧ (mvbSlaveFrame lineB phase f s).ana = s.ana ∧
    (mvbSlaveFrame lineB phase f s).fld = s.fld ∧ (mvbSlaveFrame lineB phase f s).pwr = s.pwr ∧
    (mvbSlaveFrame lineB phase f s).cross = s.cross ∧ (mvbSlaveFrame lineB phase f s).regs = s.regs := by
  unfold mvbSlaveFrame
  (repeat' split) <;> simp [*]

@[simp] theorem mvbBasicPeriod_frame msgSlot (s : State) :
    KeepsRest s (mvbBasicPeriod msgSlot s) ∧ (mvbBasicPeriod msgSlot s).mem = s.mem ∧ (mvbBasicPeriod msgSlot s).vot = s.vot ∧
    (mvbBasicPeriod msgSlot s).cyc = s.cyc ∧ (mvbBasicPeriod msgSlot s).cls = s.cls ∧ (mvbBasicPeriod msgSlot s).trust = s.trust ∧
    (mvbBasicPeriod msgSlot s).col = s.col ∧ KeepsReports s (mvbBasicPeriod msgSlot s) ∧ (mvbBasicPeriod msgSlot s).tim = s.tim ∧
    (mvbBasicPeriod msgSlot s).stra = s.stra ∧ (mvbBasicPeriod msgSlot s).eth = s.eth ∧ (mvbBasicPeriod msgSlot s).chk = s.chk ∧
    (mvbBasicPeriod msgSlot s).mot = s.mot ∧ (mvbBasicPeriod msgSlot s).ana = s.ana ∧ (mvbBasicPeriod msgSlot s).fld = s.fld ∧
    (mvbBasicPeriod msgSlot s).pwr = s.pwr ∧ (mvbBasicPeriod msgSlot s).cross = s.cross ∧ (mvbBasicPeriod msgSlot s).regs = s.regs := by
  unfold mvbBasicPeriod
  dsimp only
  (repeat' split) <;> simp

@[simp] theorem loadMvb_frame addr b (s : State) :
    KeepsRest s (loadMvb addr b s) ∧ KeepsCore s (loadMvb addr b s) ∧ KeepsReports s (loadMvb addr b s) ∧ (loadMvb addr b s).tim = s.tim ∧
    (loadMvb addr b s).stra = s.stra ∧ (loadMvb addr b s).eth = s.eth ∧ (loadMvb addr b s).chk = s.chk ∧ (loadMvb addr b s).mot = s.mot ∧
    (loadMvb addr b s).ana = s.ana ∧ (loadMvb addr b s).fld = s.fld ∧ (loadMvb addr b s).pwr = s.pwr ∧ (loadMvb addr b s).cross = s.cross ∧
    (loadMvb addr b s).regs = s.regs := by
  simp [loadMvb]

@[simp] theorem mvbPortWriteOp_frame r d0 (s : State) :
    KeepsRest s (mvbPortWriteOp r d0 s) ∧ (mvbPortWriteOp r d0 s).mem = s.mem ∧ (mvbPortWriteOp r d0 s).vot = s.vot ∧
    (mvbPortWriteOp r d0 s).cyc = s.cyc ∧ (mvbPortWriteOp r d0 s).cls = s.cls ∧ (mvbPortWriteOp r d0 s).trust = s.trust ∧
    (mvbPortWriteOp r d0 s).col = s.col ∧ (mvbPortWriteOp r d0 s).tim = s.tim ∧ (mvbPortWriteOp r d0 s).stra = s.stra ∧
    (mvbPortWriteOp r d0 s).eth = s.eth ∧ (mvbPortWriteOp r d0 s).chk = s.chk ∧ (mvbPortWriteOp r d0 s).mot = s.mot ∧
    (mvbPortWriteOp r d0 s).ana = s.ana ∧ (mvbPortWriteOp r d0 s).fld = s.fld ∧ (mvbPortWriteOp r d0 s).pwr = s.pwr ∧
    (mvbPortWriteOp r d0 s).cross = s.cross ∧ (mvbPortWriteOp r d0 s).regs = s.regs := by
  simp [mvbPortWriteOp]

@[simp] theorem mvbPortBindOp_frame r d (s : State) :
    KeepsRest s (mvbPortBindOp r d s) ∧ (mvbPortBindOp r d s).mem = s.mem ∧ (mvbPortBindOp r d s).vot = s.vot ∧
    (mvbPortBindOp r d s).cyc = s.cyc ∧ (mvbPortBindOp r d s).cls = s.cls ∧ (mvbPortBindOp r d s).trust = s.trust ∧
    (mvbPortBindOp r d s).col = s.col ∧ KeepsReports s (mvbPortBindOp r d s) ∧ (mvbPortBindOp r d s).tim = s.tim ∧
    (mvbPortBindOp r d s).stra = s.stra ∧ (mvbPortBindOp r d s).eth = s.eth ∧ (mvbPortBindOp r d s).chk = s.chk ∧
    (mvbPortBindOp r d s).mot = s.mot ∧ (mvbPortBindOp r d s).ana = s.ana ∧ (mvbPortBindOp r d s).fld = s.fld ∧
    (mvbPortBindOp r d s).pwr = s.pwr ∧ (mvbPortBindOp r d s).cross = s.cross ∧ (mvbPortBindOp r d s).regs = s.regs := by
  simp [mvbPortBindOp]

@[simp] theorem mvbMsgSendOp_frame r d (s : State) :
    KeepsRest s (mvbMsgSendOp r d s) ∧ KeepsCore s (mvbMsgSendOp r d s) ∧ KeepsReports s (mvbMsgSendOp r d s) ∧
    (mvbMsgSendOp r d s).tim = s.tim ∧ (mvbMsgSendOp r d s).stra = s.stra ∧ (mvbMsgSendOp r d s).eth = s.eth ∧
    (mvbMsgSendOp r d s).chk = s.chk ∧ (mvbMsgSendOp r d s).mot = s.mot ∧ (mvbMsgSendOp r d s).ana = s.ana ∧
    (mvbMsgSendOp r d s).fld = s.fld ∧ (mvbMsgSendOp r d s).pwr = s.pwr ∧ (mvbMsgSendOp r d s).cross = s.cross ∧
    (mvbMsgSendOp r d s).regs = s.regs := by
  simp [mvbMsgSendOp]

@[simp] theorem issue_frame n ps ans (s : State) :
    KeepsRest s (issue n ps ans s).2 ∧ (issue n ps ans s).2.mem = s.mem ∧ (issue n ps ans s).2.vot = s.vot ∧
    (issue n ps ans s).2.rng = s.rng ∧ (issue n ps ans s).2.cyc = s.cyc ∧ (issue n ps ans s).2.cls = s.cls ∧
    (issue n ps ans s).2.trust = s.trust ∧ KeepsUnits s (issue n ps ans s).2 := by
  simp [issue]

@[simp] theorem withRoute_otp r d f (s : State) (h : ∀ x t, (f x t).otp = t.otp) :
    (withRoute r d f s).otp = s.otp := by
  unfold withRoute
  dsimp only
  (repeat' split) <;> simp [*]
@[simp] theorem withRoute_mem r d f (s : State) (h : ∀ x t, (f x t).mem = t.mem) :
    (withRoute r d f s).mem = s.mem := by
  unfold withRoute
  dsimp only
  (repeat' split) <;> simp [*]
@[simp] theorem withRoute_tim r d f (s : State) (h : ∀ x t, (f x t).tim = t.tim) :
    (withRoute r d f s).tim = s.tim := by
  unfold withRoute
  dsimp only
  (repeat' split) <;> simp [*]
@[simp] theorem withRoute_vot r d f (s : State) (h : ∀ x t, (f x t).vot = t.vot) :
    (withRoute r d f s).vot = s.vot := by
  unfold withRoute
  dsimp only
  (repeat' split) <;> simp [*]
@[simp] theorem withRoute_cyc r d f (s : State) (h : ∀ x t, (f x t).cyc = t.cyc) :
    (withRoute r d f s).cyc = s.cyc := by
  unfold withRoute
  dsimp only
  (repeat' split) <;> simp [*]
@[simp] theorem withRoute_stra r d f (s : State) (h : ∀ x t, (f x t).stra = t.stra) :
    (withRoute r d f s).stra = s.stra := by
  unfold withRoute
  dsimp only
  (repeat' split) <;> simp [*]
@[simp] theorem withRoute_eth r d f (s : State) (h : ∀ x t, (f x t).eth = t.eth) :
    (withRoute r d f s).eth = s.eth := by
  unfold withRoute
  dsimp only
  (repeat' split) <;> simp [*]
@[simp] theorem withRoute_mvb r d f (s : State) (h : ∀ x t, (f x t).mvb = t.mvb) :
    (withRoute r d f s).mvb = s.mvb := by
  unfold withRoute
  dsimp only
  (repeat' split) <;> simp [*]
@[simp] theorem withRoute_col r d f (s : State) (h : ∀ x t, (f x t).col = t.col) :
    (withRoute r d f s).col = s.col := by
  unfold withRoute
  dsimp only
  (repeat' split) <;> simp [*]
@[simp] theorem withRoute_chk r d f (s : State) (h : ∀ x t, (f x t).chk = t.chk) :
    (withRoute r d f s).chk = s.chk := by
  unfold withRoute
  dsimp only
  (repeat' split) <;> simp [*]
@[simp] theorem withRoute_mot r d f (s : State) (h : ∀ x t, (f x t).mot = t.mot) :
    (withRoute r d f s).mot = s.mot := by
  unfold withRoute
  dsimp only
  (repeat' split) <;> simp [*]
@[simp] theorem withRoute_ana r d f (s : State) (h : ∀ x t, (f x t).ana = t.ana) :
    (withRoute r d f s).ana = s.ana := by
  unfold withRoute
  dsimp only
  (repeat' split) <;> simp [*]
@[simp] theorem withRoute_fld r d f (s : State) (h : ∀ x t, (f x t).fld = t.fld) :
    (withRoute r d f s).fld = s.fld := by
  unfold withRoute
  dsimp only
  (repeat' split) <;> simp [*]
@[simp] theorem withRoute_cls r d f (s : State) (h : ∀ x t, (f x t).cls = t.cls) :
    (withRoute r d f s).cls = s.cls := by
  unfold withRoute
  dsimp only
  (repeat' split) <;> simp [*]
@[simp] theorem withRoute_pwr r d f (s : State) (h : ∀ x t, (f x t).pwr = t.pwr) :
    (withRoute r d f s).pwr = s.pwr := by
  unfold withRoute
  dsimp only
  (repeat' split) <;> simp [*]
@[simp] theorem withRoute_trust r d f (s : State) (h : ∀ x t, (f x t).trust = t.trust) :
    (withRoute r d f s).trust = s.trust := by
  unfold withRoute
  dsimp only
  (repeat' split) <;> simp [*]
@[simp] theorem withRoute_cross r d f (s : State) (h : ∀ x t, (f x t).cross = t.cross) :
    (withRoute r d f s).cross = s.cross := by
  unfold withRoute
  dsimp only
  (repeat' split) <;> simp [*]
@[simp] theorem withRoute_cfg r d f (s : State) (h : ∀ x t, (f x t).cfg = t.cfg) :
    (withRoute r d f s).cfg = s.cfg := by
  unfold withRoute
  dsimp only
  (repeat' split) <;> simp [*]
@[simp] theorem withRoute_image r d f (s : State) (h : ∀ x t, (f x t).image = t.image) :
    (withRoute r d f s).image = s.image := by
  unfold withRoute
  dsimp only
  (repeat' split) <;> simp [*]
@[simp] theorem withRoute_regs r d f (s : State) (h : ∀ x t, (f x t).regs = t.regs) :
    (withRoute r d f s).regs = s.regs := by
  unfold withRoute
  dsimp only
  (repeat' split) <;> simp [*]
@[simp] theorem withRoute_draws r d f (s : State) (h : ∀ x t, (f x t).draws = t.draws) :
    (withRoute r d f s).draws = s.draws := by
  unfold withRoute
  dsimp only
  (repeat' split) <;> simp [*]
@[simp] theorem withRoute_pending r d f (s : State) (h : ∀ x t, (f x t).pending = t.pending) :
    (withRoute r d f s).pending = s.pending := by
  unfold withRoute
  dsimp only
  (repeat' split) <;> simp [*]

@[simp] theorem busOpFailed_frame r d x p kind (s : State) :
    KeepsRest s (busOpFailed r d x p kind s) ∧ (busOpFailed r d x p kind s).mem = s.mem ∧ (busOpFailed r d x p kind s).vot = s.vot ∧
    (busOpFailed r d x p kind s).cyc = s.cyc ∧ (busOpFailed r d x p kind s).cls = s.cls ∧ (busOpFailed r d x p kind s).trust = s.trust ∧
    (busOpFailed r d x p kind s).col = s.col ∧ KeepsReports s (busOpFailed r d x p kind s) ∧ KeepsUnits s (busOpFailed r d x p kind s) := by
  simp [busOpFailed]

@[simp] theorem colReadRun_frame r ans d x (s : State) :
    KeepsRest s (colReadRun r ans d x s) ∧ (colReadRun r ans d x s).vot = s.vot ∧ (colReadRun r ans d x s).cyc = s.cyc ∧
    (colReadRun r ans d x s).cls = s.cls ∧ (colReadRun r ans d x s).trust = s.trust ∧ KeepsUnits s (colReadRun r ans d x s) := by
  unfold colReadRun
  dsimp only
  (repeat' split) <;> simp

@[simp] theorem colReadOp_frame r ans d (s : State) :
    KeepsRest s (colReadOp r ans d s) ∧ (colReadOp r ans d s).vot = s.vot ∧ (colReadOp r ans d s).cyc = s.cyc ∧
    (colReadOp r ans d s).cls = s.cls ∧ (colReadOp r ans d s).trust = s.trust ∧ KeepsUnits s (colReadOp r ans d s) := by
  simp [colReadOp]

@[simp] theorem withheld_frame r d (s : State) :
    KeepsRest s (withheld r d s) ∧ (withheld r d s).mem = s.mem ∧ (withheld r d s).vot = s.vot ∧ (withheld r d s).cyc = s.cyc ∧
    (withheld r d s).cls = s.cls ∧ (withheld r d s).trust = s.trust ∧ (withheld r d s).col = s.col ∧ KeepsReports s (withheld r d s) ∧
    KeepsUnits s (withheld r d s) := by
  simp [withheld]

@[simp] theorem colWriteOp_frame r d (s : State) :
    KeepsRest s (colWriteOp r d s) ∧ (colWriteOp r d s).mem = s.mem ∧ (colWriteOp r d s).vot = s.vot ∧ (colWriteOp r d s).cyc = s.cyc ∧
    (colWriteOp r d s).cls = s.cls ∧ (colWriteOp r d s).trust = s.trust ∧ KeepsUnits s (colWriteOp r d s) := by
  simp [colWriteOp]

@[simp] theorem colWriteNpRun_frame r ans d x (s : State) :
    KeepsRest s (colWriteNpRun r ans d x s) ∧ (colWriteNpRun r ans d x s).mem = s.mem ∧ (colWriteNpRun r ans d x s).vot = s.vot ∧
    (colWriteNpRun r ans d x s).cyc = s.cyc ∧ (colWriteNpRun r ans d x s).cls = s.cls ∧ (colWriteNpRun r ans d x s).trust = s.trust ∧
    KeepsUnits s (colWriteNpRun r ans d x s) := by
  unfold colWriteNpRun
  dsimp only
  (repeat' split) <;> simp

@[simp] theorem colWriteNpRoute_frame r ans d x (s : State) :
    KeepsRest s (colWriteNpRoute r ans d x s) ∧ (colWriteNpRoute r ans d x s).mem = s.mem ∧ (colWriteNpRoute r ans d x s).vot = s.vot ∧
    (colWriteNpRoute r ans d x s).cyc = s.cyc ∧ (colWriteNpRoute r ans d x s).cls = s.cls ∧ (colWriteNpRoute r ans d x s).trust = s.trust ∧
    KeepsUnits s (colWriteNpRoute r ans d x s) := by
  simp [colWriteNpRoute]

@[simp] theorem colWriteNpOp_frame r ans d (s : State) :
    KeepsRest s (colWriteNpOp r ans d s) ∧ (colWriteNpOp r ans d s).mem = s.mem ∧ (colWriteNpOp r ans d s).vot = s.vot ∧
    (colWriteNpOp r ans d s).cyc = s.cyc ∧ (colWriteNpOp r ans d s).cls = s.cls ∧ (colWriteNpOp r ans d s).trust = s.trust ∧
    KeepsUnits s (colWriteNpOp r ans d s) := by
  simp [colWriteNpOp]

@[simp] theorem releaseColWrite_frame r d (s : State) :
    KeepsRest s (releaseColWrite r d s) ∧ (releaseColWrite r d s).vot = s.vot ∧ (releaseColWrite r d s).cyc = s.cyc ∧
    (releaseColWrite r d s).cls = s.cls ∧ (releaseColWrite r d s).trust = s.trust ∧ KeepsUnits s (releaseColWrite r d s) := by
  simp [releaseColWrite]

@[simp] theorem colLvBindOp_frame r d (s : State) :
    KeepsRest s (colLvBindOp r d s) ∧ (colLvBindOp r d s).mem = s.mem ∧ (colLvBindOp r d s).vot = s.vot ∧ (colLvBindOp r d s).cyc = s.cyc ∧
    (colLvBindOp r d s).cls = s.cls ∧ (colLvBindOp r d s).trust = s.trust ∧ KeepsReports s (colLvBindOp r d s) ∧
    KeepsUnits s (colLvBindOp r d s) := by
  simp [colLvBindOp]

@[simp] theorem postedWriteIssue_frame ans (s : State) :
    KeepsRest s (postedWriteIssue ans s) ∧ (postedWriteIssue ans s).vot = s.vot ∧ (postedWriteIssue ans s).cyc = s.cyc ∧
    (postedWriteIssue ans s).cls = s.cls ∧ (postedWriteIssue ans s).trust = s.trust ∧ KeepsUnits s (postedWriteIssue ans s) := by
  unfold postedWriteIssue
  dsimp only
  (repeat' split) <;> simp [*]

@[simp] theorem holdTimeout_frame op (s : State) :
    KeepsRest s (holdTimeout op s) ∧ (holdTimeout op s).vot = s.vot ∧ (holdTimeout op s).cyc = s.cyc ∧ (holdTimeout op s).cls = s.cls ∧
    (holdTimeout op s).trust = s.trust ∧ KeepsUnits s (holdTimeout op s) := by
  unfold holdTimeout
  dsimp only
  (repeat' split) <;> simp [*]

@[simp] theorem takeSeq_frame (s : State) :
    KeepsRest s (takeSeq s).2 ∧ (takeSeq s).2.mem = s.mem ∧ (takeSeq s).2.vot = s.vot ∧ (takeSeq s).2.rng = s.rng ∧
    (takeSeq s).2.cyc = s.cyc ∧ (takeSeq s).2.cls = s.cls ∧ (takeSeq s).2.trust = s.trust ∧ KeepsReports s (takeSeq s).2 ∧
    KeepsUnits s (takeSeq s).2 := by
  simp [takeSeq]

@[simp] theorem markServed_frame n (s : State) :
    KeepsRest s (markServed n s) ∧ (markServed n s).mem = s.mem ∧ (markServed n s).vot = s.vot ∧ (markServed n s).rng = s.rng ∧
    (markServed n s).cyc = s.cyc ∧ (markServed n s).cls = s.cls ∧ (markServed n s).trust = s.trust ∧ KeepsReports s (markServed n s) ∧
    KeepsUnits s (markServed n s) := by
  simp [markServed]

@[simp] theorem latestRead_frame n ans (s : State) :
    KeepsRest s (latestRead n ans s) ∧ (latestRead n ans s).mem = s.mem ∧ (latestRead n ans s).vot = s.vot ∧
    (latestRead n ans s).rng = s.rng ∧ (latestRead n ans s).cls = s.cls ∧ (latestRead n ans s).trust = s.trust ∧
    (latestRead n ans s).tim = s.tim ∧ (latestRead n ans s).stra = s.stra ∧ (latestRead n ans s).eth = s.eth ∧
    (latestRead n ans s).mvb = s.mvb ∧ (latestRead n ans s).mot = s.mot ∧ (latestRead n ans s).ana = s.ana ∧
    (latestRead n ans s).fld = s.fld ∧ (latestRead n ans s).pwr = s.pwr ∧ (latestRead n ans s).cross = s.cross ∧
    (latestRead n ans s).regs = s.regs := by
  unfold latestRead
  dsimp only
  (repeat' split) <;> simp [*]

@[simp] theorem privilegedOverrun_frame n ans (s : State) :
    KeepsRest s (privilegedOverrun n ans s) ∧ (privilegedOverrun n ans s).mem = s.mem ∧ (privilegedOverrun n ans s).vot = s.vot ∧
    (privilegedOverrun n ans s).rng = s.rng ∧ (privilegedOverrun n ans s).cyc = s.cyc ∧ (privilegedOverrun n ans s).cls = s.cls ∧
    (privilegedOverrun n ans s).trust = s.trust ∧ KeepsUnits s (privilegedOverrun n ans s) := by
  unfold privilegedOverrun
  dsimp only
  (repeat' split) <;> simp [*]

@[simp] theorem latestWrite_frame n ans (s : State) :
    KeepsRest s (latestWrite n ans s) ∧ (latestWrite n ans s).vot = s.vot ∧ (latestWrite n ans s).cyc = s.cyc ∧
    (latestWrite n ans s).cls = s.cls ∧ (latestWrite n ans s).trust = s.trust ∧ KeepsUnits s (latestWrite n ans s) := by
  unfold latestWrite
  dsimp only
  (repeat' split) <;> simp [*]

@[simp] theorem colAtTick_frame (s : State) :
    KeepsRest s (colAtTick s) ∧ (colAtTick s).mem = s.mem ∧ (colAtTick s).vot = s.vot ∧ (colAtTick s).rng = s.rng ∧
    (colAtTick s).cyc = s.cyc ∧ (colAtTick s).cls = s.cls ∧ (colAtTick s).trust = s.trust ∧ KeepsReports s (colAtTick s) ∧
    KeepsUnits s (colAtTick s) := by
  simp [colAtTick]

@[simp] theorem inboundAccess_frame addr data (s : State) :
    KeepsRest s (inboundAccess addr data s) ∧ (inboundAccess addr data s).mem = s.mem ∧ (inboundAccess addr data s).vot = s.vot ∧
    (inboundAccess addr data s).rng = s.rng ∧ (inboundAccess addr data s).cls = s.cls ∧ (inboundAccess addr data s).trust = s.trust ∧
    (inboundAccess addr data s).tim = s.tim ∧ (inboundAccess addr data s).stra = s.stra ∧ (inboundAccess addr data s).eth = s.eth ∧
    (inboundAccess addr data s).mvb = s.mvb ∧ (inboundAccess addr data s).mot = s.mot ∧ (inboundAccess addr data s).ana = s.ana ∧
    (inboundAccess addr data s).fld = s.fld ∧ (inboundAccess addr data s).pwr = s.pwr ∧ (inboundAccess addr data s).cross = s.cross ∧
    (inboundAccess addr data s).regs = s.regs := by
  unfold inboundAccess
  dsimp only
  (repeat' split) <;> simp

@[simp] theorem endOnBus_frame onBus kind status (s : State) :
    KeepsRest s (endOnBus onBus kind status s) ∧ (endOnBus onBus kind status s).mem = s.mem ∧ (endOnBus onBus kind status s).vot = s.vot ∧
    (endOnBus onBus kind status s).cyc = s.cyc ∧ (endOnBus onBus kind status s).cls = s.cls ∧
    (endOnBus onBus kind status s).trust = s.trust ∧ (endOnBus onBus kind status s).col = s.col ∧
    KeepsReports s (endOnBus onBus kind status s) ∧ KeepsUnits s (endOnBus onBus kind status s) := by
  unfold endOnBus
  dsimp only
  (repeat' split) <;> simp

@[simp] theorem bpReset_frame onBus (s : State) :
    KeepsRest s (bpReset onBus s) ∧ (bpReset onBus s).vot = s.vot ∧ (bpReset onBus s).cyc = s.cyc ∧ (bpReset onBus s).cls = s.cls ∧
    (bpReset onBus s).trust = s.trust ∧ KeepsUnits s (bpReset onBus s) := by
  simp [bpReset]

@[simp] theorem onRingUnit_otp r u d f (s : State) (h : ∀ t, (f t).otp = t.otp) :
    (onRingUnit r u d f s).otp = s.otp := by
  unfold onRingUnit
  dsimp only
  (repeat' split) <;> simp [*]
@[simp] theorem onRingUnit_mem r u d f (s : State) (h : ∀ t, (f t).mem = t.mem) :
    (onRingUnit r u d f s).mem = s.mem := by
  unfold onRingUnit
  dsimp only
  (repeat' split) <;> simp [*]
@[simp] theorem onRingUnit_tim r u d f (s : State) (h : ∀ t, (f t).tim = t.tim) :
    (onRingUnit r u d f s).tim = s.tim := by
  unfold onRingUnit
  dsimp only
  (repeat' split) <;> simp [*]
@[simp] theorem onRingUnit_rcd r u d f (s : State) (h : ∀ t, (f t).rcd = t.rcd) :
    (onRingUnit r u d f s).rcd = s.rcd := by
  unfold onRingUnit
  dsimp only
  (repeat' split) <;> simp [*]
@[simp] theorem onRingUnit_flt r u d f (s : State) (h : ∀ t, (f t).flt = t.flt) :
    (onRingUnit r u d f s).flt = s.flt := by
  unfold onRingUnit
  dsimp only
  (repeat' split) <;> simp [*]
@[simp] theorem onRingUnit_lanes r u d f (s : State) (h : ∀ t, (f t).lanes = t.lanes) :
    (onRingUnit r u d f s).lanes = s.lanes := by
  unfold onRingUnit
  dsimp only
  (repeat' split) <;> simp [*]
@[simp] theorem onRingUnit_vot r u d f (s : State) (h : ∀ t, (f t).vot = t.vot) :
    (onRingUnit r u d f s).vot = s.vot := by
  unfold onRingUnit
  dsimp only
  (repeat' split) <;> simp [*]
@[simp] theorem onRingUnit_cyc r u d f (s : State) (h : ∀ t, (f t).cyc = t.cyc) :
    (onRingUnit r u d f s).cyc = s.cyc := by
  unfold onRingUnit
  dsimp only
  (repeat' split) <;> simp [*]
@[simp] theorem onRingUnit_stra r u d f (s : State) (h : ∀ t, (f t).stra = t.stra) :
    (onRingUnit r u d f s).stra = s.stra := by
  unfold onRingUnit
  dsimp only
  (repeat' split) <;> simp [*]
@[simp] theorem onRingUnit_eth r u d f (s : State) (h : ∀ t, (f t).eth = t.eth) :
    (onRingUnit r u d f s).eth = s.eth := by
  unfold onRingUnit
  dsimp only
  (repeat' split) <;> simp [*]
@[simp] theorem onRingUnit_mvb r u d f (s : State) (h : ∀ t, (f t).mvb = t.mvb) :
    (onRingUnit r u d f s).mvb = s.mvb := by
  unfold onRingUnit
  dsimp only
  (repeat' split) <;> simp [*]
@[simp] theorem onRingUnit_col r u d f (s : State) (h : ∀ t, (f t).col = t.col) :
    (onRingUnit r u d f s).col = s.col := by
  unfold onRingUnit
  dsimp only
  (repeat' split) <;> simp [*]
@[simp] theorem onRingUnit_mot r u d f (s : State) (h : ∀ t, (f t).mot = t.mot) :
    (onRingUnit r u d f s).mot = s.mot := by
  unfold onRingUnit
  dsimp only
  (repeat' split) <;> simp [*]
@[simp] theorem onRingUnit_ana r u d f (s : State) (h : ∀ t, (f t).ana = t.ana) :
    (onRingUnit r u d f s).ana = s.ana := by
  unfold onRingUnit
  dsimp only
  (repeat' split) <;> simp [*]
@[simp] theorem onRingUnit_fld r u d f (s : State) (h : ∀ t, (f t).fld = t.fld) :
    (onRingUnit r u d f s).fld = s.fld := by
  unfold onRingUnit
  dsimp only
  (repeat' split) <;> simp [*]
@[simp] theorem onRingUnit_cls r u d f (s : State) (h : ∀ t, (f t).cls = t.cls) :
    (onRingUnit r u d f s).cls = s.cls := by
  unfold onRingUnit
  dsimp only
  (repeat' split) <;> simp [*]
@[simp] theorem onRingUnit_pwr r u d f (s : State) (h : ∀ t, (f t).pwr = t.pwr) :
    (onRingUnit r u d f s).pwr = s.pwr := by
  unfold onRingUnit
  dsimp only
  (repeat' split) <;> simp [*]
@[simp] theorem onRingUnit_trust r u d f (s : State) (h : ∀ t, (f t).trust = t.trust) :
    (onRingUnit r u d f s).trust = s.trust := by
  unfold onRingUnit
  dsimp only
  (repeat' split) <;> simp [*]
@[simp] theorem onRingUnit_cross r u d f (s : State) (h : ∀ t, (f t).cross = t.cross) :
    (onRingUnit r u d f s).cross = s.cross := by
  unfold onRingUnit
  dsimp only
  (repeat' split) <;> simp [*]
@[simp] theorem onRingUnit_cfg r u d f (s : State) (h : ∀ t, (f t).cfg = t.cfg) :
    (onRingUnit r u d f s).cfg = s.cfg := by
  unfold onRingUnit
  dsimp only
  (repeat' split) <;> simp [*]
@[simp] theorem onRingUnit_image r u d f (s : State) (h : ∀ t, (f t).image = t.image) :
    (onRingUnit r u d f s).image = s.image := by
  unfold onRingUnit
  dsimp only
  (repeat' split) <;> simp [*]
@[simp] theorem onRingUnit_regs r u d f (s : State) (h : ∀ t, (f t).regs = t.regs) :
    (onRingUnit r u d f s).regs = s.regs := by
  unfold onRingUnit
  dsimp only
  (repeat' split) <;> simp [*]
@[simp] theorem onRingUnit_draws r u d f (s : State) (h : ∀ t, (f t).draws = t.draws) :
    (onRingUnit r u d f s).draws = s.draws := by
  unfold onRingUnit
  dsimp only
  (repeat' split) <;> simp [*]
@[simp] theorem onRingUnit_pending r u d f (s : State) (h : ∀ t, (f t).pending = t.pending) :
    (onRingUnit r u d f s).pending = s.pending := by
  unfold onRingUnit
  dsimp only
  (repeat' split) <;> simp [*]

@[simp] theorem writeAt_frame off b (s : State) :
    KeepsRest s (writeAt off b s) ∧ (writeAt off b s).vot = s.vot ∧ (writeAt off b s).rng = s.rng ∧ (writeAt off b s).cyc = s.cyc ∧
    (writeAt off b s).cls = s.cls ∧ (writeAt off b s).trust = s.trust ∧ (writeAt off b s).col = s.col ∧ KeepsReports s (writeAt off b s) ∧
    KeepsUnits s (writeAt off b s) := by
  simp [writeAt]

@[simp] theorem chkComputeOp_frame append r u d (s : State) :
    KeepsRest s (chkComputeOp append r u d s) ∧ (chkComputeOp append r u d s).vot = s.vot ∧ (chkComputeOp append r u d s).cyc = s.cyc ∧
    (chkComputeOp append r u d s).cls = s.cls ∧ (chkComputeOp append r u d s).trust = s.trust ∧ (chkComputeOp append r u d s).col = s.col ∧
    KeepsReports s (chkComputeOp append r u d s) ∧ (chkComputeOp append r u d s).tim = s.tim ∧ (chkComputeOp append r u d s).stra = s.stra ∧
    (chkComputeOp append r u d s).eth = s.eth ∧ (chkComputeOp append r u d s).mvb = s.mvb ∧ (chkComputeOp append r u d s).mot = s.mot ∧
    (chkComputeOp append r u d s).ana = s.ana ∧ (chkComputeOp append r u d s).fld = s.fld ∧ (chkComputeOp append r u d s).pwr = s.pwr ∧
    (chkComputeOp append r u d s).cross = s.cross ∧ (chkComputeOp append r u d s).regs = s.regs := by
  simp [chkComputeOp]

@[simp] theorem chkStripOp_frame r u d (s : State) :
    KeepsRest s (chkStripOp r u d s) ∧ (chkStripOp r u d s).vot = s.vot ∧ (chkStripOp r u d s).cyc = s.cyc ∧
    (chkStripOp r u d s).cls = s.cls ∧ (chkStripOp r u d s).trust = s.trust ∧ (chkStripOp r u d s).col = s.col ∧
    (chkStripOp r u d s).tim = s.tim ∧ (chkStripOp r u d s).stra = s.stra ∧ (chkStripOp r u d s).eth = s.eth ∧
    (chkStripOp r u d s).mvb = s.mvb ∧ (chkStripOp r u d s).mot = s.mot ∧ (chkStripOp r u d s).ana = s.ana ∧
    (chkStripOp r u d s).fld = s.fld ∧ (chkStripOp r u d s).pwr = s.pwr ∧ (chkStripOp r u d s).cross = s.cross ∧
    (chkStripOp r u d s).regs = s.regs := by
  simp [chkStripOp]

@[simp] theorem wrapRelease_frame (s : State) item value :
    KeepsRest s (wrapRelease s item value).2 ∧ KeepsCore s (wrapRelease s item value).2 ∧ KeepsReports s (wrapRelease s item value).2 ∧
    (wrapRelease s item value).2.tim = s.tim ∧ (wrapRelease s item value).2.stra = s.stra ∧ (wrapRelease s item value).2.eth = s.eth ∧
    (wrapRelease s item value).2.mvb = s.mvb ∧ (wrapRelease s item value).2.mot = s.mot ∧ (wrapRelease s item value).2.ana = s.ana ∧
    (wrapRelease s item value).2.fld = s.fld ∧ (wrapRelease s item value).2.pwr = s.pwr ∧ (wrapRelease s item value).2.cross = s.cross ∧
    (wrapRelease s item value).2.regs = s.regs := by
  unfold wrapRelease
  dsimp only
  (repeat' split) <;> simp

@[simp] theorem noteLate_frame (s : State) o :
    KeepsRest s (noteLate s o) ∧ KeepsCore s (noteLate s o) ∧ (noteLate s o).tim = s.tim ∧ (noteLate s o).stra = s.stra ∧
    (noteLate s o).eth = s.eth ∧ (noteLate s o).mvb = s.mvb ∧ (noteLate s o).mot = s.mot ∧ (noteLate s o).ana = s.ana ∧
    (noteLate s o).fld = s.fld ∧ (noteLate s o).pwr = s.pwr ∧ (noteLate s o).cross = s.cross ∧ (noteLate s o).regs = s.regs := by
  unfold noteLate
  split <;> simp

@[simp] theorem reportLate_frame dest (s : State) :
    KeepsRest s (reportLate dest s) ∧ KeepsCore s (reportLate dest s) ∧ (reportLate dest s).tim = s.tim ∧ (reportLate dest s).stra = s.stra ∧
    (reportLate dest s).eth = s.eth ∧ (reportLate dest s).mvb = s.mvb ∧ (reportLate dest s).mot = s.mot ∧ (reportLate dest s).ana = s.ana ∧
    (reportLate dest s).fld = s.fld ∧ (reportLate dest s).pwr = s.pwr ∧ (reportLate dest s).cross = s.cross ∧
    (reportLate dest s).regs = s.regs := by
  simp [reportLate]

@[simp] theorem rejectContainer_frame reason (s : State) :
    KeepsRest s (rejectContainer reason s) ∧ (rejectContainer reason s).mem = s.mem ∧ (rejectContainer reason s).vot = s.vot ∧
    (rejectContainer reason s).rng = s.rng ∧ (rejectContainer reason s).cyc = s.cyc ∧ (rejectContainer reason s).cls = s.cls ∧
    (rejectContainer reason s).col = s.col ∧ KeepsUnits s (rejectContainer reason s) := by
  simp [rejectContainer]

end Sys2Proof.Machine
end

