-- ==== Sys2Proof/Laws/FrameProgram.lean ====
section
/-!
SUPPORT. What each operation leaves unchanged: the operations on registers, of the voter and of the cyclic program.
-/

namespace Sys2Proof.Machine

@[simp] theorem enterJoin_frame (s : State) :
    KeepsRest s (enterJoin s) ∧ (enterJoin s).vot = s.vot ∧ (enterJoin s).trust = s.trust ∧ (enterJoin s).col = s.col ∧
    KeepsUnits s (enterJoin s) := by
  simp [enterJoin]

@[simp] theorem yieldNow_frame (s : State) :
    KeepsRest s (yieldNow s) ∧ (yieldNow s).mem = s.mem ∧ (yieldNow s).vot = s.vot ∧ (yieldNow s).rng = s.rng ∧ (yieldNow s).cyc = s.cyc ∧
    (yieldNow s).trust = s.trust ∧ (yieldNow s).col = s.col ∧ KeepsUnits s (yieldNow s) := by
  simp [yieldNow]

@[simp] theorem resyncNow_frame (s : State) :
    KeepsRest s (resyncNow s) ∧ (resyncNow s).vot = s.vot ∧ (resyncNow s).trust = s.trust ∧ (resyncNow s).col = s.col ∧
    KeepsUnits s (resyncNow s) := by
  simp [resyncNow]

@[simp] theorem readEffect_frame l a (s : State) :
    KeepsRest s (readEffect l a s) ∧ KeepsCore s (readEffect l a s) ∧ (readEffect l a s).rcd = s.rcd ∧ (readEffect l a s).flt = s.flt ∧
    KeepsUnits s (readEffect l a s) := by
  simp [readEffect]

@[simp] theorem laneRegRead_frame l c a (s : State) :
    KeepsRest s (laneRegRead l c a s).2 ∧ KeepsCore s (laneRegRead l c a s).2 ∧ (laneRegRead l c a s).2.rcd = s.rcd ∧
    (laneRegRead l c a s).2.flt = s.flt ∧ KeepsUnits s (laneRegRead l c a s).2 := by
  simp [laneRegRead]

@[simp] theorem ringCommit_frame r k w (s : State) :
    KeepsRest s (ringCommit r k w s) ∧ (ringCommit r k w s).vot = s.vot ∧ (ringCommit r k w s).cyc = s.cyc ∧
    (ringCommit r k w s).cls = s.cls ∧ (ringCommit r k w s).col = s.col ∧ KeepsUnits s (ringCommit r k w s) := by
  unfold ringCommit
  split <;> simp

@[simp] theorem ucalRefused_frame (s : State) :
    KeepsRest s (ucalRefused s) ∧ (ucalRefused s).mem = s.mem ∧ (ucalRefused s).vot = s.vot ∧ (ucalRefused s).rng = s.rng ∧
    (ucalRefused s).cyc = s.cyc ∧ (ucalRefused s).cls = s.cls ∧ (ucalRefused s).col = s.col ∧ KeepsUnits s (ucalRefused s) := by
  simp [ucalRefused]

@[simp] theorem ucalCommand_frame store (s : State) :
    KeepsRest s (ucalCommand store s) ∧ (ucalCommand store s).mem = s.mem ∧ (ucalCommand store s).vot = s.vot ∧
    (ucalCommand store s).rng = s.rng ∧ (ucalCommand store s).cyc = s.cyc ∧ (ucalCommand store s).cls = s.cls ∧
    (ucalCommand store s).col = s.col ∧ KeepsUnits s (ucalCommand store s) := by
  simp [ucalCommand]

@[simp] theorem clearCrossings_frame mask (s : State) :
    KeepsRest s (clearCrossings mask s) ∧ KeepsCore s (clearCrossings mask s) ∧ KeepsReports s (clearCrossings mask s) ∧
    (clearCrossings mask s).tim = s.tim ∧ (clearCrossings mask s).stra = s.stra ∧ (clearCrossings mask s).eth = s.eth ∧
    (clearCrossings mask s).mvb = s.mvb ∧ (clearCrossings mask s).chk = s.chk ∧ (clearCrossings mask s).mot = s.mot ∧
    (clearCrossings mask s).ana = s.ana ∧ (clearCrossings mask s).fld = s.fld ∧ (clearCrossings mask s).pwr = s.pwr ∧
    (clearCrossings mask s).regs = s.regs := by
  simp [clearCrossings]

@[simp] theorem clearPin_frame (s : State) :
    KeepsRest s (clearPin s) ∧ KeepsCore s (clearPin s) ∧ KeepsUnits s (clearPin s) := by
  simp [clearPin]

@[simp] theorem maskedCommit_frame a w (s : State) :
    KeepsRest s (maskedCommit a w s) ∧ KeepsCore s (maskedCommit a w s) ∧ KeepsReports s (maskedCommit a w s) ∧
    (maskedCommit a w s).tim = s.tim ∧ (maskedCommit a w s).stra = s.stra ∧ (maskedCommit a w s).eth = s.eth ∧
    (maskedCommit a w s).mvb = s.mvb ∧ (maskedCommit a w s).chk = s.chk ∧ (maskedCommit a w s).mot = s.mot ∧
    (maskedCommit a w s).ana = s.ana ∧ (maskedCommit a w s).fld = s.fld ∧ (maskedCommit a w s).pwr = s.pwr ∧
    (maskedCommit a w s).cross = s.cross := by
  unfold maskedCommit
  (repeat' split) <;> simp [*]

@[simp] theorem strCommit_frame ch a w (s : State) :
    KeepsRest s (strCommit ch a w s) ∧ KeepsCore s (strCommit ch a w s) ∧ (strCommit ch a w s).tim = s.tim ∧
    (strCommit ch a w s).eth = s.eth ∧ (strCommit ch a w s).mvb = s.mvb ∧ (strCommit ch a w s).chk = s.chk ∧
    (strCommit ch a w s).mot = s.mot ∧ (strCommit ch a w s).ana = s.ana ∧ (strCommit ch a w s).fld = s.fld ∧
    (strCommit ch a w s).pwr = s.pwr ∧ (strCommit ch a w s).cross = s.cross := by
  unfold strCommit
  simp [onlyIf]

@[simp] theorem ethCommit_frame a w (s : State) :
    KeepsRest s (ethCommit a w s) ∧ KeepsCore s (ethCommit a w s) ∧ (ethCommit a w s).tim = s.tim ∧ (ethCommit a w s).stra = s.stra ∧
    (ethCommit a w s).mvb = s.mvb ∧ (ethCommit a w s).chk = s.chk ∧ (ethCommit a w s).mot = s.mot ∧ (ethCommit a w s).ana = s.ana ∧
    (ethCommit a w s).fld = s.fld ∧ (ethCommit a w s).pwr = s.pwr ∧ (ethCommit a w s).cross = s.cross := by
  simp [ethCommit]

theorem actionCommit_frame {a : Nat} {w : Word} {s t : State} (h : actionCommit a w s = some t) :
    KeepsRest s t ∧ t.vot = s.vot ∧ t.col = s.col ∧ t.stra = s.stra ∧ t.eth = s.eth ∧ t.mvb = s.mvb ∧ t.chk = s.chk ∧ t.mot = s.mot ∧
    t.ana = s.ana ∧ t.pwr = s.pwr := by
  unfold actionCommit at h
  dsimp only at h
  (repeat' split at h) <;> simp only [Option.some.injEq, reduceCtorEq] at h <;> subst h <;> simp [onlyIf] <;> split <;> simp

@[simp] theorem commitReg_frame a w (s : State) :
    KeepsRest s (commitReg a w s) ∧ (commitReg a w s).vot = s.vot ∧ (commitReg a w s).col = s.col ∧ (commitReg a w s).mvb = s.mvb ∧
    (commitReg a w s).chk = s.chk ∧ (commitReg a w s).mot = s.mot ∧ (commitReg a w s).ana = s.ana ∧ (commitReg a w s).pwr = s.pwr := by
  unfold commitReg
  split
  · rename_i t h
    simp [actionCommit_frame h]
  · (repeat' split) <;> simp

@[simp] theorem laneRegWrite_frame l a w (s : State) :
    KeepsRest s (laneRegWrite l a w s) ∧ (laneRegWrite l a w s).col = s.col ∧ KeepsUnits s (laneRegWrite l a w s) := by
  unfold laneRegWrite
  dsimp only
  (repeat' split) <;> simp [*]

@[simp] theorem ownMemWrite_frame a (s : State) :
    KeepsRest s (ownMemWrite a s) ∧ (ownMemWrite a s).vot = s.vot ∧ (ownMemWrite a s).cyc = s.cyc ∧ (ownMemWrite a s).cls = s.cls ∧
    (ownMemWrite a s).trust = s.trust ∧ (ownMemWrite a s).col = s.col ∧ KeepsUnits s (ownMemWrite a s) := by
  unfold ownMemWrite
  dsimp only
  (repeat' split) <;> simp

@[simp] theorem ownWrite_frame l a (s : State) :
    KeepsRest s (ownWrite l a s) ∧ (ownWrite l a s).col = s.col ∧ KeepsUnits s (ownWrite l a s) := by
  simp [ownWrite]

@[simp] theorem nextKey_frame l ctx (s : State) :
    KeepsRest s (nextKey l ctx s).2 ∧ (nextKey l ctx s).2.mem = s.mem ∧ (nextKey l ctx s).2.rng = s.rng ∧ (nextKey l ctx s).2.cyc = s.cyc ∧
    (nextKey l ctx s).2.cls = s.cls ∧ (nextKey l ctx s).2.trust = s.trust ∧ (nextKey l ctx s).2.col = s.col ∧
    (nextKey l ctx s).2.rcd = s.rcd ∧ (nextKey l ctx s).2.flt = s.flt ∧ KeepsUnits s (nextKey l ctx s).2 := by
  unfold nextKey
  split <;> simp

@[simp] theorem releaseEntry_frame l (s : State) e :
    KeepsRest s (releaseEntry l s e) ∧ (releaseEntry l s e).col = s.col ∧ KeepsUnits s (releaseEntry l s e) := by
  unfold releaseEntry
  split <;> simp

@[simp] theorem readAccess_frame l a (s : State) :
    KeepsRest s (readAccess l a s) ∧ KeepsCore s (readAccess l a s) ∧ (readAccess l a s).rcd = s.rcd ∧ (readAccess l a s).flt = s.flt ∧
    KeepsUnits s (readAccess l a s) := by
  simp [readAccess]

@[simp] theorem holdEntry_frame l e i (s : State) :
    KeepsRest s (holdEntry l e i s) ∧ KeepsCore s (holdEntry l e i s) ∧ KeepsUnits s (holdEntry l e i s) := by
  simp [holdEntry]

@[simp] theorem compareEntry_frame l (s : State) :
    KeepsRest s (compareEntry l s) ∧ (compareEntry l s).col = s.col ∧ KeepsUnits s (compareEntry l s) := by
  unfold compareEntry
  dsimp only
  (repeat' split) <;> simp

@[simp] theorem endInstance_frame l i released (s : State) :
    KeepsRest s (endInstance l i released s) ∧ (endInstance l i released s).mem = s.mem ∧ (endInstance l i released s).vot = s.vot ∧
    (endInstance l i released s).rng = s.rng ∧ (endInstance l i released s).cls = s.cls ∧ (endInstance l i released s).trust = s.trust ∧
    (endInstance l i released s).col = s.col ∧ (endInstance l i released s).rcd = s.rcd ∧ (endInstance l i released s).flt = s.flt ∧
    KeepsUnits s (endInstance l i released s) := by
  simp [endInstance]

@[simp] theorem discardedInstance_frame l t i (s : State) :
    KeepsRest s (discardedInstance l t i s) ∧ (discardedInstance l t i s).mem = s.mem ∧ (discardedInstance l t i s).vot = s.vot ∧
    (discardedInstance l t i s).rng = s.rng ∧ (discardedInstance l t i s).cls = s.cls ∧ (discardedInstance l t i s).trust = s.trust ∧
    (discardedInstance l t i s).col = s.col ∧ KeepsUnits s (discardedInstance l t i s) := by
  unfold discardedInstance
  split <;> simp

@[simp] theorem crossCheck_frame t (s : State) :
    KeepsRest s (crossCheck t s) ∧ (crossCheck t s).mem = s.mem ∧ (crossCheck t s).vot = s.vot ∧ (crossCheck t s).rng = s.rng ∧
    (crossCheck t s).cyc = s.cyc ∧ (crossCheck t s).trust = s.trust ∧ (crossCheck t s).col = s.col ∧ KeepsUnits s (crossCheck t s) := by
  unfold crossCheck
  split <;> simp

@[simp] theorem noteDigest_frame l t start d (s : State) :
    KeepsRest s (noteDigest l t start d s) ∧ (noteDigest l t start d s).mem = s.mem ∧ (noteDigest l t start d s).vot = s.vot ∧
    (noteDigest l t start d s).rng = s.rng ∧ (noteDigest l t start d s).cyc = s.cyc ∧ (noteDigest l t start d s).trust = s.trust ∧
    (noteDigest l t start d s).col = s.col ∧ KeepsUnits s (noteDigest l t start d s) := by
  simp [noteDigest]

@[simp] theorem digestCompare_frame l t (s : State) :
    KeepsRest s (digestCompare l t s) ∧ (digestCompare l t s).col = s.col ∧ KeepsUnits s (digestCompare l t s) := by
  unfold digestCompare
  dsimp only
  (repeat' split) <;> simp

@[simp] theorem registerWrite_frame l a data (s : State) :
    KeepsRest s (registerWrite l a data s) ∧ (registerWrite l a data s).col = s.col ∧ KeepsUnits s (registerWrite l a data s) := by
  simp [registerWrite]

@[simp] theorem voteEvent_frame kind l k addr (s : State) :
    KeepsRest s (voteEvent kind l k addr s) ∧ (voteEvent kind l k addr s).mem = s.mem ∧ (voteEvent kind l k addr s).rng = s.rng ∧
    (voteEvent kind l k addr s).cyc = s.cyc ∧ (voteEvent kind l k addr s).cls = s.cls ∧ (voteEvent kind l k addr s).trust = s.trust ∧
    (voteEvent kind l k addr s).col = s.col ∧ (voteEvent kind l k addr s).rcd = s.rcd ∧ (voteEvent kind l k addr s).flt = s.flt ∧
    KeepsUnits s (voteEvent kind l k addr s) := by
  simp [voteEvent]

@[simp] theorem expelLane_frame kind code l k addr (s : State) :
    KeepsRest s (expelLane kind code l k addr s) ∧ (expelLane kind code l k addr s).col = s.col ∧
    KeepsUnits s (expelLane kind code l k addr s) := by
  simp [expelLane]

@[simp] theorem noMajority_frame l k addr (s : State) :
    KeepsRest s (noMajority l k addr s) ∧ (noMajority l k addr s).col = s.col ∧ KeepsUnits s (noMajority l k addr s) := by
  simp [noMajority]

@[simp] theorem markDone_frame k (s : State) :
    KeepsRest s (markDone k s) ∧ (markDone k s).mem = s.mem ∧ (markDone k s).rng = s.rng ∧ (markDone k s).cyc = s.cyc ∧
    (markDone k s).cls = s.cls ∧ (markDone k s).trust = s.trust ∧ (markDone k s).col = s.col ∧ KeepsReports s (markDone k s) ∧
    KeepsUnits s (markDone k s) := by
  unfold markDone
  split <;> simp

@[simp] theorem commitAccess_frame a (s : State) :
    KeepsRest s (commitAccess a s) ∧ (commitAccess a s).vot = s.vot ∧ (commitAccess a s).col = s.col ∧ (commitAccess a s).mvb = s.mvb ∧
    (commitAccess a s).chk = s.chk ∧ (commitAccess a s).mot = s.mot ∧ (commitAccess a s).ana = s.ana ∧ (commitAccess a s).pwr = s.pwr := by
  simp [commitAccess]

@[simp] theorem sweepVotes_frame (s : State) :
    KeepsRest s (sweepVotes s) ∧ (sweepVotes s).mem = s.mem ∧ (sweepVotes s).rng = s.rng ∧ (sweepVotes s).cyc = s.cyc ∧
    (sweepVotes s).cls = s.cls ∧ (sweepVotes s).trust = s.trust ∧ (sweepVotes s).col = s.col ∧ KeepsReports s (sweepVotes s) ∧
    KeepsUnits s (sweepVotes s) := by
  simp [sweepVotes]

@[simp] theorem commitVotes_frame x0 (x1 : State) :
    KeepsRest x1 (commitVotes x0 x1) ∧ (commitVotes x0 x1).col = x1.col ∧ (commitVotes x0 x1).mvb = x1.mvb ∧
    (commitVotes x0 x1).chk = x1.chk ∧ (commitVotes x0 x1).mot = x1.mot ∧ (commitVotes x0 x1).ana = x1.ana ∧ (commitVotes x0 x1).pwr = x1.pwr := by
  induction x0 generalizing x1 with
  | zero => simp [commitVotes]
  | succ n ih =>
    unfold commitVotes
    (repeat' split) <;> simp [ih]

@[simp] theorem settleVotes_frame (s : State) :
    KeepsRest s (settleVotes s) ∧ (settleVotes s).col = s.col ∧ (settleVotes s).mvb = s.mvb ∧ (settleVotes s).chk = s.chk ∧
    (settleVotes s).mot = s.mot ∧ (settleVotes s).ana = s.ana ∧ (settleVotes s).pwr = s.pwr := by
  simp [settleVotes]

@[simp] theorem putVote_frame v (s : State) :
    KeepsRest s (putVote v s) ∧ (putVote v s).mem = s.mem ∧ (putVote v s).rng = s.rng ∧ (putVote v s).cyc = s.cyc ∧
    (putVote v s).cls = s.cls ∧ (putVote v s).trust = s.trust ∧ (putVote v s).col = s.col ∧ KeepsReports s (putVote v s) ∧
    KeepsUnits s (putVote v s) := by
  simp [putVote]

@[simp] theorem joinAgreed_frame l v a c (s : State) :
    KeepsRest s (joinAgreed l v a c s) ∧ (joinAgreed l v a c s).col = s.col ∧ KeepsUnits s (joinAgreed l v a c s) := by
  simp [joinAgreed]

@[simp] theorem joinOpen_frame l v a (s : State) :
    KeepsRest s (joinOpen l v a s) ∧ (joinOpen l v a s).col = s.col ∧ (joinOpen l v a s).mvb = s.mvb ∧ (joinOpen l v a s).chk = s.chk ∧
    (joinOpen l v a s).mot = s.mot ∧ (joinOpen l v a s).ana = s.ana ∧ (joinOpen l v a s).pwr = s.pwr := by
  simp [joinOpen]

@[simp] theorem openVote_frame l p (s : State) :
    KeepsRest s (openVote l p s) ∧ (openVote l p s).mem = s.mem ∧ (openVote l p s).rng = s.rng ∧ (openVote l p s).cyc = s.cyc ∧
    (openVote l p s).cls = s.cls ∧ (openVote l p s).trust = s.trust ∧ (openVote l p s).col = s.col ∧ KeepsUnits s (openVote l p s) := by
  simp [openVote]

@[simp] theorem forbidWrite_frame l p (s : State) :
    KeepsRest s (forbidWrite l p s) ∧ (forbidWrite l p s).col = s.col ∧ (forbidWrite l p s).mvb = s.mvb ∧ (forbidWrite l p s).chk = s.chk ∧
    (forbidWrite l p s).mot = s.mot ∧ (forbidWrite l p s).ana = s.ana ∧ (forbidWrite l p s).pwr = s.pwr := by
  simp [forbidWrite]

@[simp] theorem arrival_frame l p (s : State) :
    KeepsRest s (arrival l p s) ∧ (arrival l p s).col = s.col ∧ (arrival l p s).mvb = s.mvb ∧ (arrival l p s).chk = s.chk ∧
    (arrival l p s).mot = s.mot ∧ (arrival l p s).ana = s.ana ∧ (arrival l p s).pwr = s.pwr := by
  unfold arrival
  (repeat' split) <;> simp [*]

@[simp] theorem closeWindow_frame k (s : State) :
    KeepsRest s (closeWindow k s) ∧ (closeWindow k s).col = s.col ∧ KeepsUnits s (closeWindow k s) := by
  unfold closeWindow
  (repeat' split) <;> simp [*]

@[simp] theorem absentLane_frame k l (s : State) :
    KeepsRest s (absentLane k l s) ∧ (absentLane k l s).col = s.col ∧ KeepsUnits s (absentLane k l s) := by
  unfold absentLane
  split <;> simp

@[simp] theorem swapItem_frame (s : State) c :
    KeepsRest s (swapItem s c) ∧ (swapItem s c).mem = s.mem ∧ (swapItem s c).vot = s.vot ∧ (swapItem s c).rng = s.rng ∧
    (swapItem s c).cls = s.cls ∧ (swapItem s c).trust = s.trust ∧ (swapItem s c).col = s.col ∧ KeepsUnits s (swapItem s c) := by
  simp [swapItem]

@[simp] theorem swapItems_frame (s : State) :
    KeepsRest s (swapItems s) ∧ (swapItems s).mem = s.mem ∧ (swapItems s).vot = s.vot ∧ (swapItems s).rng = s.rng ∧
    (swapItems s).cls = s.cls ∧ (swapItems s).trust = s.trust ∧ (swapItems s).col = s.col ∧ KeepsUnits s (swapItems s) := by
  simp [swapItems]

@[simp] theorem countRelease_frame (s : State) t :
    KeepsRest s (countRelease s t) ∧ (countRelease s t).mem = s.mem ∧ (countRelease s t).vot = s.vot ∧ (countRelease s t).rng = s.rng ∧
    (countRelease s t).cls = s.cls ∧ (countRelease s t).trust = s.trust ∧ (countRelease s t).col = s.col ∧ KeepsUnits s (countRelease s t) := by
  unfold countRelease
  dsimp only
  (repeat' split) <;> simp

@[simp] theorem noteRelease_frame (s : State) r :
    KeepsRest s (noteRelease s r) ∧ (noteRelease s r).mem = s.mem ∧ (noteRelease s r).vot = s.vot ∧ (noteRelease s r).rng = s.rng ∧
    (noteRelease s r).cls = s.cls ∧ (noteRelease s r).trust = s.trust ∧ (noteRelease s r).col = s.col ∧ KeepsReports s (noteRelease s r) ∧
    KeepsUnits s (noteRelease s r) := by
  simp [noteRelease]

@[simp] theorem initOutputs_frame (s : State) :
    KeepsRest s (initOutputs s) ∧ (initOutputs s).mem = s.mem ∧ (initOutputs s).vot = s.vot ∧ (initOutputs s).rng = s.rng ∧
    (initOutputs s).cls = s.cls ∧ (initOutputs s).trust = s.trust ∧ (initOutputs s).col = s.col ∧ KeepsReports s (initOutputs s) ∧
    KeepsUnits s (initOutputs s) := by
  simp [initOutputs]

@[simp] theorem feedInternal_frame (s : State) r :
    KeepsRest s (feedInternal s r) ∧ (feedInternal s r).mem = s.mem ∧ (feedInternal s r).vot = s.vot ∧ (feedInternal s r).rng = s.rng ∧
    (feedInternal s r).cls = s.cls ∧ (feedInternal s r).trust = s.trust ∧ (feedInternal s r).col = s.col ∧
    KeepsReports s (feedInternal s r) ∧ KeepsUnits s (feedInternal s r) := by
  simp [feedInternal]

@[simp] theorem startInLane_frame t run (s : State) l :
    KeepsRest s (startInLane t run s l) ∧ (startInLane t run s l).col = s.col ∧ KeepsUnits s (startInLane t run s l) := by
  simp [startInLane]

@[simp] theorem noteOwnerLatch_frame t (s : State) :
    KeepsRest s (noteOwnerLatch t s) ∧ (noteOwnerLatch t s).mem = s.mem ∧ (noteOwnerLatch t s).vot = s.vot ∧
    (noteOwnerLatch t s).cyc = s.cyc ∧ (noteOwnerLatch t s).cls = s.cls ∧ (noteOwnerLatch t s).trust = s.trust ∧
    (noteOwnerLatch t s).col = s.col ∧ KeepsReports s (noteOwnerLatch t s) ∧ KeepsUnits s (noteOwnerLatch t s) := by
  simp [noteOwnerLatch]

@[simp] theorem startInstance_frame (s : State) t :
    KeepsRest s (startInstance s t) ∧ (startInstance s t).col = s.col ∧ (startInstance s t).tim = s.tim ∧ (startInstance s t).stra = s.stra ∧
    (startInstance s t).eth = s.eth ∧ (startInstance s t).mvb = s.mvb ∧ (startInstance s t).chk = s.chk ∧ (startInstance s t).ana = s.ana ∧
    (startInstance s t).fld = s.fld ∧ (startInstance s t).pwr = s.pwr ∧ (startInstance s t).cross = s.cross ∧
    (startInstance s t).regs = s.regs := by
  simp [startInstance]

@[simp] theorem startInstances_frame (s : State) :
    KeepsRest s (startInstances s) ∧ (startInstances s).col = s.col ∧ (startInstances s).tim = s.tim ∧ (startInstances s).stra = s.stra ∧
    (startInstances s).eth = s.eth ∧ (startInstances s).mvb = s.mvb ∧ (startInstances s).chk = s.chk ∧ (startInstances s).ana = s.ana ∧
    (startInstances s).fld = s.fld ∧ (startInstances s).pwr = s.pwr ∧ (startInstances s).cross = s.cross ∧ (startInstances s).regs = s.regs := by
  simp [startInstances]

@[simp] theorem checkRetained_frame (s : State) l :
    KeepsRest s (checkRetained s l) ∧ KeepsCore s (checkRetained s l) ∧ KeepsUnits s (checkRetained s l) := by
  unfold checkRetained
  dsimp only
  (repeat' split) <;> simp

@[simp] theorem commitStart_frame recs (s : State) :
    KeepsRest s (commitStart recs s) ∧ (commitStart recs s).col = s.col ∧ KeepsUnits s (commitStart recs s) := by
  unfold commitStart
  dsimp only
  (repeat' split) <;> simp

@[simp] theorem resetParams_frame (s : State) :
    KeepsRest s (resetParams s) ∧ (resetParams s).mem = s.mem ∧ (resetParams s).vot = s.vot ∧ (resetParams s).rng = s.rng ∧
    (resetParams s).cls = s.cls ∧ (resetParams s).trust = s.trust ∧ (resetParams s).col = s.col ∧ (resetParams s).rcd = s.rcd ∧
    (resetParams s).flt = s.flt ∧ KeepsUnits s (resetParams s) := by
  simp [resetParams]

@[simp] theorem applyBaselines_frame (s : State) :
    KeepsRest s (applyBaselines s) ∧ KeepsCore s (applyBaselines s) ∧ KeepsReports s (applyBaselines s) ∧ (applyBaselines s).tim = s.tim ∧
    (applyBaselines s).stra = s.stra ∧ (applyBaselines s).eth = s.eth ∧ (applyBaselines s).mvb = s.mvb ∧ (applyBaselines s).chk = s.chk ∧
    (applyBaselines s).mot = s.mot ∧ (applyBaselines s).ana = s.ana ∧ (applyBaselines s).pwr = s.pwr ∧ (applyBaselines s).cross = s.cross ∧
    (applyBaselines s).regs = s.regs := by
  simp [applyBaselines]

@[simp] theorem feedCalItems_frame (s : State) :
    KeepsRest s (feedCalItems s) ∧ (feedCalItems s).mem = s.mem ∧ (feedCalItems s).vot = s.vot ∧ (feedCalItems s).rng = s.rng ∧
    (feedCalItems s).cls = s.cls ∧ (feedCalItems s).trust = s.trust ∧ (feedCalItems s).col = s.col ∧ KeepsReports s (feedCalItems s) ∧
    KeepsUnits s (feedCalItems s) := by
  unfold feedCalItems
  split <;> simp

@[simp] theorem noteTrialStart_frame (s : State) :
    KeepsRest s (noteTrialStart s) ∧ (noteTrialStart s).mem = s.mem ∧ (noteTrialStart s).vot = s.vot ∧ (noteTrialStart s).rng = s.rng ∧
    (noteTrialStart s).cyc = s.cyc ∧ (noteTrialStart s).cls = s.cls ∧ (noteTrialStart s).col = s.col ∧ KeepsReports s (noteTrialStart s) ∧
    KeepsUnits s (noteTrialStart s) := by
  simp [noteTrialStart]

@[simp] theorem programStart_frame (s : State) :
    KeepsRest s (programStart s) ∧ (programStart s).col = s.col ∧ (programStart s).tim = s.tim ∧ (programStart s).stra = s.stra ∧
    (programStart s).eth = s.eth ∧ (programStart s).mvb = s.mvb ∧ (programStart s).chk = s.chk ∧ (programStart s).mot = s.mot ∧
    (programStart s).ana = s.ana ∧ (programStart s).pwr = s.pwr ∧ (programStart s).cross = s.cross ∧ (programStart s).regs = s.regs := by
  simp [programStart]

@[simp] theorem beginProgram_frame tick (s : State) :
    KeepsRest s (beginProgram tick s) ∧ (beginProgram tick s).mem = s.mem ∧ (beginProgram tick s).vot = s.vot ∧
    (beginProgram tick s).rng = s.rng ∧ (beginProgram tick s).cls = s.cls ∧ (beginProgram tick s).col = s.col ∧
    (beginProgram tick s).flt = s.flt ∧ (beginProgram tick s).lanes = s.lanes ∧ (beginProgram tick s).tim = s.tim ∧
    (beginProgram tick s).stra = s.stra ∧ (beginProgram tick s).eth = s.eth ∧ (beginProgram tick s).mvb = s.mvb ∧
    (beginProgram tick s).ana = s.ana ∧ (beginProgram tick s).fld = s.fld ∧ (beginProgram tick s).pwr = s.pwr ∧
    (beginProgram tick s).cross = s.cross ∧ (beginProgram tick s).regs = s.regs := by
  simp [beginProgram]

@[simp] theorem startAtTick_frame (s : State) :
    KeepsRest s (startAtTick s) ∧ (startAtTick s).mem = s.mem ∧ (startAtTick s).vot = s.vot ∧ (startAtTick s).rng = s.rng ∧
    (startAtTick s).cls = s.cls ∧ (startAtTick s).col = s.col ∧ (startAtTick s).flt = s.flt ∧ (startAtTick s).lanes = s.lanes ∧
    (startAtTick s).tim = s.tim ∧ (startAtTick s).stra = s.stra ∧ (startAtTick s).eth = s.eth ∧ (startAtTick s).mvb = s.mvb ∧
    (startAtTick s).ana = s.ana ∧ (startAtTick s).fld = s.fld ∧ (startAtTick s).pwr = s.pwr ∧ (startAtTick s).cross = s.cross ∧
    (startAtTick s).regs = s.regs := by
  unfold startAtTick
  split <;> simp

@[simp] theorem skipInstances_frame first (s : State) :
    KeepsRest s (skipInstances first s) ∧ (skipInstances first s).mem = s.mem ∧ (skipInstances first s).vot = s.vot ∧
    (skipInstances first s).rng = s.rng ∧ (skipInstances first s).cls = s.cls ∧ (skipInstances first s).trust = s.trust ∧
    (skipInstances first s).col = s.col ∧ KeepsUnits s (skipInstances first s) := by
  simp [skipInstances]

@[simp] theorem applyChanges_frame t (s : State) :
    KeepsRest s (applyChanges t s) ∧ (applyChanges t s).mem = s.mem ∧ (applyChanges t s).vot = s.vot ∧ (applyChanges t s).rng = s.rng ∧
    (applyChanges t s).cls = s.cls ∧ (applyChanges t s).trust = s.trust ∧ (applyChanges t s).col = s.col ∧ KeepsUnits s (applyChanges t s) := by
  simp [applyChanges]

@[simp] theorem swapLoadComplete_frame (s : State) :
    KeepsRest s (swapLoadComplete s) ∧ (swapLoadComplete s).mem = s.mem ∧ (swapLoadComplete s).vot = s.vot ∧
    (swapLoadComplete s).rng = s.rng ∧ (swapLoadComplete s).cls = s.cls ∧ (swapLoadComplete s).trust = s.trust ∧
    (swapLoadComplete s).col = s.col ∧ KeepsUnits s (swapLoadComplete s) := by
  unfold swapLoadComplete
  split <;> simp

@[simp] theorem exchangeCheck_frame (s : State) l :
    KeepsRest s (exchangeCheck s l) ∧ (exchangeCheck s l).col = s.col ∧ KeepsUnits s (exchangeCheck s l) := by
  unfold exchangeCheck
  dsimp only
  (repeat' split) <;> simp

@[simp] theorem conversionComplete_frame (s : State) :
    (conversionComplete s).otp = s.otp ∧ (conversionComplete s).pending = s.pending ∧ (conversionComplete s).draws = s.draws ∧
    (conversionComplete s).cfg = s.cfg ∧ (conversionComplete s).col = s.col ∧ KeepsUnits s (conversionComplete s) := by
  unfold conversionComplete
  split <;> simp

@[simp] theorem conversionTimeout_frame (s : State) :
    KeepsRest s (conversionTimeout s) ∧ (conversionTimeout s).mem = s.mem ∧ (conversionTimeout s).vot = s.vot ∧
    (conversionTimeout s).rng = s.rng ∧ (conversionTimeout s).cls = s.cls ∧ (conversionTimeout s).trust = s.trust ∧
    (conversionTimeout s).col = s.col ∧ KeepsUnits s (conversionTimeout s) := by
  simp [conversionTimeout]

@[simp] theorem swapAtTick_frame (s : State) :
    (swapAtTick s).otp = s.otp ∧ (swapAtTick s).pending = s.pending ∧ (swapAtTick s).draws = s.draws ∧ (swapAtTick s).cfg = s.cfg ∧
    (swapAtTick s).col = s.col ∧ KeepsUnits s (swapAtTick s) := by
  unfold swapAtTick
  split <;> simp

end Sys2Proof.Machine
end

