-- ==== Sys2Proof/Laws/FrameModule.lean ====
section
/-!
SUPPORT. What each operation leaves unchanged: the operations of the pair, the releases, start-up, power, the crossings and Signet.
-/

namespace Sys2Proof.Machine

@[simp] theorem reportLine_frame claims i r (s : State) :
    KeepsRest s (reportLine claims i r s) ∧ (reportLine claims i r s).mem = s.mem ∧ (reportLine claims i r s).vot = s.vot ∧
    (reportLine claims i r s).rng = s.rng ∧ (reportLine claims i r s).cyc = s.cyc ∧ (reportLine claims i r s).trust = s.trust ∧
    (reportLine claims i r s).col = s.col ∧ KeepsUnits s (reportLine claims i r s) := by
  simp [reportLine]

@[simp] theorem enterListenRole_frame (s : State) :
    KeepsRest s (enterListenRole s) ∧ (enterListenRole s).mem = s.mem ∧ (enterListenRole s).vot = s.vot ∧ (enterListenRole s).rng = s.rng ∧
    (enterListenRole s).cyc = s.cyc ∧ (enterListenRole s).trust = s.trust ∧ (enterListenRole s).col = s.col ∧ KeepsUnits s (enterListenRole s) := by
  simp [enterListenRole]

@[simp] theorem winFrame_frame (s : State) :
    KeepsRest s (winFrame s) ∧ (winFrame s).mem = s.mem ∧ (winFrame s).vot = s.vot ∧ (winFrame s).rng = s.rng ∧ (winFrame s).cyc = s.cyc ∧
    (winFrame s).trust = s.trust ∧ (winFrame s).col = s.col ∧ KeepsUnits s (winFrame s) := by
  unfold winFrame
  dsimp only
  (repeat' split) <;> simp

@[simp] theorem loseFrame_frame (s : State) :
    KeepsRest s (loseFrame s) ∧ (loseFrame s).vot = s.vot ∧ (loseFrame s).trust = s.trust ∧ (loseFrame s).col = s.col ∧
    KeepsUnits s (loseFrame s) := by
  unfold loseFrame
  split <;> simp

@[simp] theorem joinClaimer_frame winner (s : State) :
    KeepsRest s (joinClaimer winner s) ∧ (joinClaimer winner s).vot = s.vot ∧ (joinClaimer winner s).trust = s.trust ∧
    (joinClaimer winner s).col = s.col ∧ KeepsUnits s (joinClaimer winner s) := by
  simp [joinClaimer]

@[simp] theorem claspFrame_frame a b (s : State) :
    KeepsRest s (claspFrame a b s) ∧ (claspFrame a b s).vot = s.vot ∧ (claspFrame a b s).trust = s.trust ∧ (claspFrame a b s).col = s.col ∧
    KeepsUnits s (claspFrame a b s) := by
  simp [claspFrame]

@[simp] theorem repOnce_frame i code (s : State) :
    KeepsRest s (repOnce i code s) ∧ (repOnce i code s).mem = s.mem ∧ (repOnce i code s).vot = s.vot ∧ (repOnce i code s).rng = s.rng ∧
    (repOnce i code s).cyc = s.cyc ∧ (repOnce i code s).trust = s.trust ∧ (repOnce i code s).col = s.col ∧ KeepsUnits s (repOnce i code s) := by
  simp [repOnce]

@[simp] theorem enterContend_frame (s : State) :
    KeepsRest s (enterContend s) ∧ (enterContend s).mem = s.mem ∧ (enterContend s).vot = s.vot ∧ (enterContend s).rng = s.rng ∧
    (enterContend s).cyc = s.cyc ∧ (enterContend s).trust = s.trust ∧ (enterContend s).col = s.col ∧ KeepsUnits s (enterContend s) := by
  simp [enterContend]

@[simp] theorem listenTo_frame m (s : State) :
    KeepsRest s (listenTo m s) ∧ (listenTo m s).mem = s.mem ∧ (listenTo m s).vot = s.vot ∧ (listenTo m s).rng = s.rng ∧
    (listenTo m s).cyc = s.cyc ∧ (listenTo m s).trust = s.trust ∧ (listenTo m s).col = s.col ∧ KeepsUnits s (listenTo m s) := by
  simp [listenTo]

@[simp] theorem dualWin_frame m (s : State) :
    KeepsRest s (dualWin m s) ∧ (dualWin m s).vot = s.vot ∧ (dualWin m s).trust = s.trust ∧ (dualWin m s).col = s.col ∧
    KeepsUnits s (dualWin m s) := by
  simp [dualWin]

@[simp] theorem partnerLeaves_frame was m (s : State) :
    KeepsRest s (partnerLeaves was m s) ∧ (partnerLeaves was m s).mem = s.mem ∧ (partnerLeaves was m s).vot = s.vot ∧
    (partnerLeaves was m s).rng = s.rng ∧ (partnerLeaves was m s).cyc = s.cyc ∧ (partnerLeaves was m s).trust = s.trust ∧
    (partnerLeaves was m s).col = s.col ∧ KeepsReports s (partnerLeaves was m s) ∧ KeepsUnits s (partnerLeaves was m s) := by
  simp [partnerLeaves]

@[simp] theorem noteXchk_frame m (s : State) :
    KeepsRest s (noteXchk m s) ∧ (noteXchk m s).mem = s.mem ∧ (noteXchk m s).vot = s.vot ∧ (noteXchk m s).rng = s.rng ∧
    (noteXchk m s).cyc = s.cyc ∧ (noteXchk m s).trust = s.trust ∧ (noteXchk m s).col = s.col ∧ KeepsUnits s (noteXchk m s) := by
  unfold noteXchk
  split <;> simp

@[simp] theorem pairMessage_frame m (s : State) :
    KeepsRest s (pairMessage m s) ∧ (pairMessage m s).vot = s.vot ∧ (pairMessage m s).trust = s.trust ∧ (pairMessage m s).col = s.col ∧
    KeepsUnits s (pairMessage m s) := by
  simp [pairMessage]

@[simp] theorem pairDown_frame (s : State) :
    KeepsRest s (pairDown s) ∧ (pairDown s).mem = s.mem ∧ (pairDown s).vot = s.vot ∧ (pairDown s).rng = s.rng ∧ (pairDown s).cyc = s.cyc ∧
    (pairDown s).trust = s.trust ∧ (pairDown s).col = s.col ∧ KeepsReports s (pairDown s) ∧ KeepsUnits s (pairDown s) := by
  simp [pairDown]

@[simp] theorem partnerAbsent_frame (s : State) :
    KeepsRest s (partnerAbsent s) ∧ (partnerAbsent s).mem = s.mem ∧ (partnerAbsent s).vot = s.vot ∧ (partnerAbsent s).rng = s.rng ∧
    (partnerAbsent s).cyc = s.cyc ∧ (partnerAbsent s).trust = s.trust ∧ (partnerAbsent s).col = s.col ∧ KeepsUnits s (partnerAbsent s) := by
  simp [partnerAbsent]

@[simp] theorem checkpointWrites_frame writes (s : State) :
    KeepsRest s (checkpointWrites writes s) ∧ KeepsCore s (checkpointWrites writes s) ∧ (checkpointWrites writes s).rcd = s.rcd ∧
    (checkpointWrites writes s).flt = s.flt ∧ KeepsUnits s (checkpointWrites writes s) := by
  simp [checkpointWrites]

@[simp] theorem checkpointRound_frame writes began final (s : State) :
    KeepsRest s (checkpointRound writes began final s) ∧ (checkpointRound writes began final s).mem = s.mem ∧
    (checkpointRound writes began final s).vot = s.vot ∧ (checkpointRound writes began final s).rng = s.rng ∧
    (checkpointRound writes began final s).cyc = s.cyc ∧ (checkpointRound writes began final s).trust = s.trust ∧
    (checkpointRound writes began final s).col = s.col ∧ (checkpointRound writes began final s).rcd = s.rcd ∧
    (checkpointRound writes began final s).flt = s.flt ∧ KeepsUnits s (checkpointRound writes began final s) := by
  unfold checkpointRound
  dsimp only
  (repeat' split) <;> simp

@[simp] theorem checkpointStart_frame (s : State) t :
    KeepsRest s (checkpointStart s t) ∧ (checkpointStart s t).mem = s.mem ∧ (checkpointStart s t).vot = s.vot ∧
    (checkpointStart s t).rng = s.rng ∧ (checkpointStart s t).col = s.col ∧ (checkpointStart s t).flt = s.flt ∧
    (checkpointStart s t).lanes = s.lanes ∧ (checkpointStart s t).tim = s.tim ∧ (checkpointStart s t).stra = s.stra ∧
    (checkpointStart s t).eth = s.eth ∧ (checkpointStart s t).mvb = s.mvb ∧ (checkpointStart s t).ana = s.ana ∧
    (checkpointStart s t).fld = s.fld ∧ (checkpointStart s t).pwr = s.pwr ∧ (checkpointStart s t).cross = s.cross ∧
    (checkpointStart s t).regs = s.regs := by
  unfold checkpointStart
  split <;> simp

@[simp] theorem checkpointStarts_frame (s : State) :
    KeepsRest s (checkpointStarts s) ∧ (checkpointStarts s).mem = s.mem ∧ (checkpointStarts s).vot = s.vot ∧
    (checkpointStarts s).rng = s.rng ∧ (checkpointStarts s).col = s.col ∧ (checkpointStarts s).flt = s.flt ∧
    (checkpointStarts s).lanes = s.lanes ∧ (checkpointStarts s).tim = s.tim ∧ (checkpointStarts s).stra = s.stra ∧
    (checkpointStarts s).eth = s.eth ∧ (checkpointStarts s).mvb = s.mvb ∧ (checkpointStarts s).ana = s.ana ∧
    (checkpointStarts s).fld = s.fld ∧ (checkpointStarts s).pwr = s.pwr ∧ (checkpointStarts s).cross = s.cross ∧
    (checkpointStarts s).regs = s.regs := by
  simp [checkpointStarts]

@[simp] theorem takeMotion_frame p (s : State) :
    KeepsRest s (takeMotion p s) ∧ KeepsCore s (takeMotion p s) ∧ (takeMotion p s).rcd = s.rcd ∧ (takeMotion p s).flt = s.flt ∧
    KeepsUnits s (takeMotion p s) := by
  simp [takeMotion]

@[simp] theorem queueHeaders_frame (s : State) :
    KeepsRest s (queueHeaders s) ∧ KeepsCore s (queueHeaders s) ∧ (queueHeaders s).rcd = s.rcd ∧ (queueHeaders s).flt = s.flt ∧
    KeepsUnits s (queueHeaders s) := by
  simp [queueHeaders]

@[simp] theorem checkpointComplete_frame p (s : State) :
    KeepsRest s (checkpointComplete p s) ∧ (checkpointComplete p s).mem = s.mem ∧ (checkpointComplete p s).vot = s.vot ∧
    (checkpointComplete p s).rng = s.rng ∧ (checkpointComplete p s).cyc = s.cyc ∧ (checkpointComplete p s).trust = s.trust ∧
    (checkpointComplete p s).col = s.col ∧ KeepsUnits s (checkpointComplete p s) := by
  simp [checkpointComplete]

@[simp] theorem checkpointJoin_frame t d p (s : State) :
    KeepsRest s (checkpointJoin t d p s) ∧ (checkpointJoin t d p s).mem = s.mem ∧ (checkpointJoin t d p s).vot = s.vot ∧
    (checkpointJoin t d p s).rng = s.rng ∧ (checkpointJoin t d p s).cyc = s.cyc ∧ (checkpointJoin t d p s).trust = s.trust ∧
    (checkpointJoin t d p s).col = s.col ∧ KeepsUnits s (checkpointJoin t d p s) := by
  simp [checkpointJoin]

@[simp] theorem checkpointFailed_frame why (s : State) :
    KeepsRest s (checkpointFailed why s) ∧ (checkpointFailed why s).vot = s.vot ∧ (checkpointFailed why s).trust = s.trust ∧
    (checkpointFailed why s).col = s.col ∧ KeepsUnits s (checkpointFailed why s) := by
  simp [checkpointFailed]

@[simp] theorem changeEpoch_frame e (s : State) :
    KeepsRest s (changeEpoch e s) ∧ (changeEpoch e s).mem = s.mem ∧ (changeEpoch e s).vot = s.vot ∧ (changeEpoch e s).rng = s.rng ∧
    (changeEpoch e s).cyc = s.cyc ∧ (changeEpoch e s).trust = s.trust ∧ (changeEpoch e s).col = s.col ∧ KeepsUnits s (changeEpoch e s) := by
  simp [changeEpoch]

@[simp] theorem epochAtTick_frame (s : State) :
    KeepsRest s (epochAtTick s) ∧ (epochAtTick s).mem = s.mem ∧ (epochAtTick s).vot = s.vot ∧ (epochAtTick s).rng = s.rng ∧
    (epochAtTick s).cyc = s.cyc ∧ (epochAtTick s).trust = s.trust ∧ (epochAtTick s).col = s.col ∧ KeepsUnits s (epochAtTick s) := by
  simp [epochAtTick]

@[simp] theorem waitAtTick_frame (s : State) :
    KeepsRest s (waitAtTick s) ∧ (waitAtTick s).mem = s.mem ∧ (waitAtTick s).vot = s.vot ∧ (waitAtTick s).rng = s.rng ∧
    (waitAtTick s).cyc = s.cyc ∧ (waitAtTick s).trust = s.trust ∧ (waitAtTick s).col = s.col ∧ KeepsReports s (waitAtTick s) ∧
    KeepsUnits s (waitAtTick s) := by
  simp [waitAtTick]

@[simp] theorem claspAtTick_frame (s : State) :
    KeepsRest s (claspAtTick s) ∧ (claspAtTick s).mem = s.mem ∧ (claspAtTick s).vot = s.vot ∧ (claspAtTick s).rng = s.rng ∧
    (claspAtTick s).cyc = s.cyc ∧ (claspAtTick s).trust = s.trust ∧ (claspAtTick s).col = s.col ∧ KeepsUnits s (claspAtTick s) := by
  simp [claspAtTick]

@[simp] theorem evaluateSelector_frame (s : State) c :
    KeepsRest s (evaluateSelector s c) ∧ (evaluateSelector s c).mem = s.mem ∧ (evaluateSelector s c).vot = s.vot ∧
    (evaluateSelector s c).rng = s.rng ∧ (evaluateSelector s c).cls = s.cls ∧ (evaluateSelector s c).trust = s.trust ∧
    (evaluateSelector s c).col = s.col ∧ KeepsReports s (evaluateSelector s c) ∧ KeepsUnits s (evaluateSelector s c) := by
  unfold evaluateSelector
  dsimp only
  (repeat' split) <;> simp

@[simp] theorem evaluateSelectors_frame (s : State) :
    KeepsRest s (evaluateSelectors s) ∧ (evaluateSelectors s).mem = s.mem ∧ (evaluateSelectors s).vot = s.vot ∧
    (evaluateSelectors s).rng = s.rng ∧ (evaluateSelectors s).cls = s.cls ∧ (evaluateSelectors s).trust = s.trust ∧
    (evaluateSelectors s).col = s.col ∧ KeepsReports s (evaluateSelectors s) ∧ KeepsUnits s (evaluateSelectors s) := by
  simp [evaluateSelectors]

@[simp] theorem deliverValue_frame d v (s : State) :
    KeepsRest s (deliverValue d v s) ∧ KeepsCore s (deliverValue d v s) ∧ KeepsReports s (deliverValue d v s) ∧
    (deliverValue d v s).tim = s.tim ∧ (deliverValue d v s).chk = s.chk ∧ (deliverValue d v s).mot = s.mot ∧
    (deliverValue d v s).ana = s.ana ∧ (deliverValue d v s).pwr = s.pwr ∧ (deliverValue d v s).cross = s.cross ∧
    (deliverValue d v s).regs = s.regs := by
  unfold deliverValue
  split <;> simp

@[simp] theorem releaseOutput_frame (s : State) r :
    KeepsRest s (releaseOutput s r) ∧ (releaseOutput s r).mem = s.mem ∧ (releaseOutput s r).vot = s.vot ∧ (releaseOutput s r).rng = s.rng ∧
    (releaseOutput s r).cls = s.cls ∧ (releaseOutput s r).trust = s.trust ∧ (releaseOutput s r).col = s.col ∧
    KeepsReports s (releaseOutput s r) ∧ (releaseOutput s r).tim = s.tim ∧ (releaseOutput s r).mot = s.mot ∧
    (releaseOutput s r).ana = s.ana ∧ (releaseOutput s r).pwr = s.pwr ∧ (releaseOutput s r).cross = s.cross ∧
    (releaseOutput s r).regs = s.regs := by
  unfold releaseOutput
  dsimp only
  (repeat' split) <;> simp

@[simp] theorem releaseAll_frame rs (s : State) :
    KeepsRest s (releaseAll rs s) ∧ (releaseAll rs s).mem = s.mem ∧ (releaseAll rs s).vot = s.vot ∧ (releaseAll rs s).rng = s.rng ∧
    (releaseAll rs s).cls = s.cls ∧ (releaseAll rs s).trust = s.trust ∧ (releaseAll rs s).col = s.col ∧ KeepsReports s (releaseAll rs s) ∧
    (releaseAll rs s).tim = s.tim ∧ (releaseAll rs s).mot = s.mot ∧ (releaseAll rs s).ana = s.ana ∧ (releaseAll rs s).pwr = s.pwr ∧
    (releaseAll rs s).cross = s.cross ∧ (releaseAll rs s).regs = s.regs := by
  simp [releaseAll]

@[simp] theorem holdSafe_frame (s : State) o :
    KeepsRest s (holdSafe s o) ∧ KeepsCore s (holdSafe s o) ∧ KeepsReports s (holdSafe s o) ∧ (holdSafe s o).tim = s.tim ∧
    (holdSafe s o).chk = s.chk ∧ (holdSafe s o).mot = s.mot ∧ (holdSafe s o).ana = s.ana ∧ (holdSafe s o).pwr = s.pwr ∧
    (holdSafe s o).cross = s.cross ∧ (holdSafe s o).regs = s.regs := by
  unfold holdSafe
  split <;> simp

@[simp] theorem deliverSafe_frame (s : State) :
    KeepsRest s (deliverSafe s) ∧ KeepsCore s (deliverSafe s) ∧ KeepsReports s (deliverSafe s) ∧ (deliverSafe s).tim = s.tim ∧
    (deliverSafe s).chk = s.chk ∧ (deliverSafe s).mot = s.mot ∧ (deliverSafe s).ana = s.ana ∧ (deliverSafe s).pwr = s.pwr ∧
    (deliverSafe s).cross = s.cross ∧ (deliverSafe s).regs = s.regs := by
  simp [deliverSafe]

@[simp] theorem keptState_frame (s : State) :
    (keptState s).otp = s.otp ∧ (keptState s).pending = s.pending ∧ (keptState s).draws = s.draws := by
  simp [keptState]

@[simp] theorem holdReset_frame cause (s : State) :
    (holdReset cause s).otp = s.otp ∧ (holdReset cause s).pending = s.pending ∧ (holdReset cause s).draws = s.draws := by
  simp [holdReset]

@[simp] theorem warmReset_frame cause (s : State) :
    (warmReset cause s).otp = s.otp ∧ (warmReset cause s).pending = s.pending ∧ (warmReset cause s).draws = s.draws := by
  simp [warmReset]

@[simp] theorem advanceSvn_frame target (s : State) :
    KeepsRest s (advanceSvn target s) ∧ (advanceSvn target s).mem = s.mem ∧ (advanceSvn target s).vot = s.vot ∧
    (advanceSvn target s).rng = s.rng ∧ (advanceSvn target s).cyc = s.cyc ∧ (advanceSvn target s).cls = s.cls ∧
    (advanceSvn target s).col = s.col ∧ KeepsUnits s (advanceSvn target s) := by
  simp [advanceSvn]

@[simp] theorem completeCommit_frame (s : State) :
    KeepsRest s (completeCommit s) ∧ (completeCommit s).mem = s.mem ∧ (completeCommit s).vot = s.vot ∧ (completeCommit s).rng = s.rng ∧
    (completeCommit s).cyc = s.cyc ∧ (completeCommit s).cls = s.cls ∧ (completeCommit s).col = s.col ∧ KeepsUnits s (completeCommit s) := by
  unfold completeCommit
  split <;> simp

@[simp] theorem endTrial_frame (s : State) :
    KeepsRest s (endTrial s) ∧ (endTrial s).mem = s.mem ∧ (endTrial s).vot = s.vot ∧ (endTrial s).rng = s.rng ∧ (endTrial s).cyc = s.cyc ∧
    (endTrial s).cls = s.cls ∧ (endTrial s).col = s.col ∧ KeepsUnits s (endTrial s) := by
  simp [endTrial]

@[simp] theorem wantedBank_frame (s : State) :
    KeepsRest s (wantedBank s).2 ∧ (wantedBank s).2.mem = s.mem ∧ (wantedBank s).2.vot = s.vot ∧ (wantedBank s).2.rng = s.rng ∧
    (wantedBank s).2.cyc = s.cyc ∧ (wantedBank s).2.cls = s.cls ∧ (wantedBank s).2.col = s.col ∧ KeepsUnits s (wantedBank s).2 := by
  unfold wantedBank
  dsimp only
  (repeat' split) <;> simp

@[simp] theorem bootFirmware_frame (s : State) :
    KeepsRest s (bootFirmware s) ∧ (bootFirmware s).mem = s.mem ∧ (bootFirmware s).vot = s.vot ∧ (bootFirmware s).rng = s.rng ∧
    (bootFirmware s).cyc = s.cyc ∧ (bootFirmware s).cls = s.cls ∧ (bootFirmware s).col = s.col ∧ KeepsUnits s (bootFirmware s) := by
  simp [bootFirmware]

@[simp] theorem setSlot_frame i x (s : State) :
    KeepsRest s (setSlot i x s) ∧ (setSlot i x s).mem = s.mem ∧ (setSlot i x s).vot = s.vot ∧ (setSlot i x s).rng = s.rng ∧
    (setSlot i x s).cyc = s.cyc ∧ (setSlot i x s).cls = s.cls ∧ (setSlot i x s).col = s.col ∧ KeepsReports s (setSlot i x s) ∧
    KeepsUnits s (setSlot i x s) := by
  simp [setSlot]

@[simp] theorem refuseActive_frame i cause (s : State) :
    KeepsRest s (refuseActive i cause s) ∧ (refuseActive i cause s).mem = s.mem ∧ (refuseActive i cause s).vot = s.vot ∧
    (refuseActive i cause s).rng = s.rng ∧ (refuseActive i cause s).cyc = s.cyc ∧ (refuseActive i cause s).cls = s.cls ∧
    (refuseActive i cause s).col = s.col ∧ KeepsUnits s (refuseActive i cause s) := by
  simp [refuseActive]

@[simp] theorem migrateUcal_frame (s : State) :
    KeepsRest s (migrateUcal s) ∧ (migrateUcal s).mem = s.mem ∧ (migrateUcal s).vot = s.vot ∧ (migrateUcal s).rng = s.rng ∧
    (migrateUcal s).cyc = s.cyc ∧ (migrateUcal s).cls = s.cls ∧ (migrateUcal s).col = s.col ∧ KeepsUnits s (migrateUcal s) := by
  simp [migrateUcal]

@[simp] theorem pwrLoad_frame (s : State) :
    KeepsRest s (pwrLoad s) ∧ KeepsCore s (pwrLoad s) ∧ KeepsReports s (pwrLoad s) ∧ (pwrLoad s).tim = s.tim ∧ (pwrLoad s).stra = s.stra ∧
    (pwrLoad s).eth = s.eth ∧ (pwrLoad s).mvb = s.mvb ∧ (pwrLoad s).chk = s.chk ∧ (pwrLoad s).mot = s.mot ∧ (pwrLoad s).ana = s.ana ∧
    (pwrLoad s).fld = s.fld ∧ (pwrLoad s).cross = s.cross ∧ (pwrLoad s).regs = s.regs := by
  simp [pwrLoad]

@[simp] theorem loadEngines_frame (s : State) :
    KeepsRest s (loadEngines s) ∧ (loadEngines s).mem = s.mem ∧ (loadEngines s).vot = s.vot ∧ (loadEngines s).rng = s.rng ∧
    (loadEngines s).cls = s.cls ∧ (loadEngines s).trust = s.trust ∧ (loadEngines s).col = s.col ∧ (loadEngines s).tim = s.tim ∧
    (loadEngines s).chk = s.chk ∧ (loadEngines s).cross = s.cross ∧ (loadEngines s).regs = s.regs := by
  simp [loadEngines]

@[simp] theorem adopt_frame c img migrated (s : State) :
    (adopt c img migrated s).otp = s.otp ∧ (adopt c img migrated s).pending = s.pending ∧ (adopt c img migrated s).draws = s.draws ∧
    (adopt c img migrated s).mem = s.mem ∧ (adopt c img migrated s).vot = s.vot ∧ (adopt c img migrated s).rng = s.rng ∧
    (adopt c img migrated s).cls = s.cls ∧ (adopt c img migrated s).col = s.col ∧ (adopt c img migrated s).tim = s.tim ∧
    (adopt c img migrated s).chk = s.chk ∧ (adopt c img migrated s).cross = s.cross ∧ (adopt c img migrated s).regs = s.regs := by
  simp [adopt]

@[simp] theorem loadActive_frame (s : State) :
    (loadActive s).otp = s.otp ∧ (loadActive s).pending = s.pending ∧ (loadActive s).draws = s.draws ∧ (loadActive s).mem = s.mem ∧
    (loadActive s).vot = s.vot ∧ (loadActive s).rng = s.rng ∧ (loadActive s).cls = s.cls ∧ (loadActive s).col = s.col ∧
    (loadActive s).tim = s.tim ∧ (loadActive s).chk = s.chk ∧ (loadActive s).cross = s.cross ∧ (loadActive s).regs = s.regs := by
  unfold loadActive
  dsimp only
  (repeat' split) <;> simp

@[simp] theorem supervisorStart_frame (s : State) :
    KeepsRest s (supervisorStart s) ∧ KeepsCore s (supervisorStart s) ∧ (supervisorStart s).eth = s.eth ∧ (supervisorStart s).mvb = s.mvb ∧
    (supervisorStart s).chk = s.chk ∧ (supervisorStart s).mot = s.mot ∧ (supervisorStart s).ana = s.ana ∧ (supervisorStart s).fld = s.fld ∧
    (supervisorStart s).regs = s.regs := by
  simp [supervisorStart]

@[simp] theorem startUp_frame (s : State) :
    (startUp s).otp = s.otp ∧ (startUp s).pending = s.pending ∧ (startUp s).draws = s.draws ∧ (startUp s).mem = s.mem ∧
    (startUp s).vot = s.vot ∧ (startUp s).rng = s.rng ∧ (startUp s).cls = s.cls ∧ (startUp s).col = s.col ∧ (startUp s).chk = s.chk ∧
    (startUp s).regs = s.regs := by
  simp [startUp]

@[simp] theorem softwareReset_frame sub (s : State) :
    (softwareReset sub s).otp = s.otp ∧ (softwareReset sub s).pending = s.pending ∧ (softwareReset sub s).draws = s.draws := by
  simp [softwareReset]

@[simp] theorem supplyReading_frame vin vstore (s : State) :
    KeepsRest s (supplyReading vin vstore s) ∧ KeepsCore s (supplyReading vin vstore s) ∧ KeepsReports s (supplyReading vin vstore s) ∧
    (supplyReading vin vstore s).tim = s.tim ∧ (supplyReading vin vstore s).stra = s.stra ∧ (supplyReading vin vstore s).eth = s.eth ∧
    (supplyReading vin vstore s).mvb = s.mvb ∧ (supplyReading vin vstore s).chk = s.chk ∧ (supplyReading vin vstore s).mot = s.mot ∧
    (supplyReading vin vstore s).ana = s.ana ∧ (supplyReading vin vstore s).fld = s.fld ∧ (supplyReading vin vstore s).cross = s.cross ∧
    (supplyReading vin vstore s).regs = s.regs := by
  simp [supplyReading]

@[simp] theorem powerWarning_frame vin vstore (s : State) :
    KeepsRest s (powerWarning vin vstore s) ∧ KeepsCore s (powerWarning vin vstore s) ∧ (powerWarning vin vstore s).tim = s.tim ∧
    (powerWarning vin vstore s).stra = s.stra ∧ (powerWarning vin vstore s).eth = s.eth ∧ (powerWarning vin vstore s).mvb = s.mvb ∧
    (powerWarning vin vstore s).chk = s.chk ∧ (powerWarning vin vstore s).mot = s.mot ∧ (powerWarning vin vstore s).ana = s.ana ∧
    (powerWarning vin vstore s).fld = s.fld ∧ (powerWarning vin vstore s).cross = s.cross ∧ (powerWarning vin vstore s).regs = s.regs := by
  simp [powerWarning]

@[simp] theorem powerRecovered_frame vin vstore us (s : State) :
    KeepsRest s (powerRecovered vin vstore us s) ∧ KeepsCore s (powerRecovered vin vstore us s) ∧
    (powerRecovered vin vstore us s).tim = s.tim ∧ (powerRecovered vin vstore us s).stra = s.stra ∧
    (powerRecovered vin vstore us s).eth = s.eth ∧ (powerRecovered vin vstore us s).mvb = s.mvb ∧
    (powerRecovered vin vstore us s).chk = s.chk ∧ (powerRecovered vin vstore us s).mot = s.mot ∧
    (powerRecovered vin vstore us s).ana = s.ana ∧ (powerRecovered vin vstore us s).fld = s.fld ∧
    (powerRecovered vin vstore us s).cross = s.cross ∧ (powerRecovered vin vstore us s).regs = s.regs := by
  simp [powerRecovered]

@[simp] theorem holdLanes_frame (s : State) :
    KeepsRest s (holdLanes s) ∧ KeepsCore s (holdLanes s) ∧ (holdLanes s).rcd = s.rcd ∧ (holdLanes s).flt = s.flt ∧ KeepsUnits s (holdLanes s) := by
  simp [holdLanes]

@[simp] theorem powerFail_frame (s : State) :
    KeepsRest s (powerFail s) ∧ (powerFail s).vot = s.vot ∧ (powerFail s).trust = s.trust ∧ (powerFail s).col = s.col ∧
    (powerFail s).tim = s.tim ∧ (powerFail s).stra = s.stra ∧ (powerFail s).eth = s.eth ∧ (powerFail s).mvb = s.mvb ∧
    (powerFail s).chk = s.chk ∧ (powerFail s).mot = s.mot ∧ (powerFail s).ana = s.ana ∧ (powerFail s).fld = s.fld ∧
    (powerFail s).cross = s.cross ∧ (powerFail s).regs = s.regs := by
  simp [powerFail]

@[simp] theorem convertersOff_frame vstore (s : State) :
    (convertersOff vstore s).otp = s.otp ∧ (convertersOff vstore s).pending = s.pending ∧ (convertersOff vstore s).draws = s.draws := by
  simp [convertersOff]

@[simp] theorem powerOnReset_frame why (s : State) :
    (powerOnReset why s).otp = s.otp ∧ (powerOnReset why s).pending = s.pending ∧ (powerOnReset why s).draws = s.draws := by
  simp [powerOnReset]

@[simp] theorem recordVInit_frame vNow (s : State) :
    KeepsRest s (recordVInit vNow s) ∧ KeepsCore s (recordVInit vNow s) ∧ KeepsReports s (recordVInit vNow s) ∧
    (recordVInit vNow s).tim = s.tim ∧ (recordVInit vNow s).stra = s.stra ∧ (recordVInit vNow s).eth = s.eth ∧
    (recordVInit vNow s).mvb = s.mvb ∧ (recordVInit vNow s).chk = s.chk ∧ (recordVInit vNow s).mot = s.mot ∧
    (recordVInit vNow s).ana = s.ana ∧ (recordVInit vNow s).fld = s.fld ∧ (recordVInit vNow s).cross = s.cross ∧
    (recordVInit vNow s).regs = s.regs := by
  simp [recordVInit]

@[simp] theorem resetRelease_frame vin vstore waited elapsed vNow (s : State) :
    (resetRelease vin vstore waited elapsed vNow s).otp = s.otp ∧ (resetRelease vin vstore waited elapsed vNow s).pending = s.pending ∧
    (resetRelease vin vstore waited elapsed vNow s).draws = s.draws ∧ (resetRelease vin vstore waited elapsed vNow s).mem = s.mem ∧
    (resetRelease vin vstore waited elapsed vNow s).vot = s.vot ∧ (resetRelease vin vstore waited elapsed vNow s).rng = s.rng ∧
    (resetRelease vin vstore waited elapsed vNow s).cls = s.cls ∧ (resetRelease vin vstore waited elapsed vNow s).col = s.col ∧
    (resetRelease vin vstore waited elapsed vNow s).chk = s.chk ∧ (resetRelease vin vstore waited elapsed vNow s).regs = s.regs := by
  simp [resetRelease]

@[simp] theorem heartbeatLost_frame c (s : State) :
    KeepsRest s (heartbeatLost c s) ∧ KeepsCore s (heartbeatLost c s) ∧ (heartbeatLost c s).tim = s.tim ∧ (heartbeatLost c s).stra = s.stra ∧
    (heartbeatLost c s).eth = s.eth ∧ (heartbeatLost c s).mvb = s.mvb ∧ (heartbeatLost c s).chk = s.chk ∧ (heartbeatLost c s).mot = s.mot ∧
    (heartbeatLost c s).ana = s.ana ∧ (heartbeatLost c s).fld = s.fld ∧ (heartbeatLost c s).cross = s.cross ∧
    (heartbeatLost c s).regs = s.regs := by
  simp [heartbeatLost]

@[simp] theorem failRingOps_frame r (s : State) :
    KeepsRest s (failRingOps r s) ∧ (failRingOps r s).vot = s.vot ∧ (failRingOps r s).cyc = s.cyc ∧ (failRingOps r s).cls = s.cls ∧
    (failRingOps r s).trust = s.trust ∧ (failRingOps r s).col = s.col ∧ (failRingOps r s).rcd = s.rcd ∧ (failRingOps r s).flt = s.flt ∧
    KeepsUnits s (failRingOps r s) := by
  simp [failRingOps]

@[simp] theorem coreRestart_frame c (s : State) :
    KeepsRest s (coreRestart c s) ∧ (coreRestart c s).mem = s.mem ∧ (coreRestart c s).vot = s.vot ∧ (coreRestart c s).rng = s.rng ∧
    (coreRestart c s).cyc = s.cyc ∧ (coreRestart c s).cls = s.cls ∧ (coreRestart c s).col = s.col ∧ KeepsReports s (coreRestart c s) ∧
    (coreRestart c s).tim = s.tim ∧ (coreRestart c s).eth = s.eth ∧ (coreRestart c s).mvb = s.mvb ∧ (coreRestart c s).chk = s.chk ∧
    (coreRestart c s).ana = s.ana ∧ (coreRestart c s).pwr = s.pwr ∧ (coreRestart c s).cross = s.cross ∧ (coreRestart c s).regs = s.regs := by
  unfold coreRestart
  split <;> simp

@[simp] theorem engineRestartEnd_frame c (s : State) :
    KeepsRest s (engineRestartEnd c s) ∧ (engineRestartEnd c s).vot = s.vot ∧ (engineRestartEnd c s).cyc = s.cyc ∧
    (engineRestartEnd c s).cls = s.cls ∧ (engineRestartEnd c s).col = s.col ∧ (engineRestartEnd c s).rcd = s.rcd ∧
    (engineRestartEnd c s).flt = s.flt ∧ (engineRestartEnd c s).tim = s.tim ∧ (engineRestartEnd c s).eth = s.eth ∧
    (engineRestartEnd c s).mvb = s.mvb ∧ (engineRestartEnd c s).chk = s.chk ∧ (engineRestartEnd c s).ana = s.ana ∧
    (engineRestartEnd c s).cross = s.cross ∧ (engineRestartEnd c s).regs = s.regs := by
  simp [engineRestartEnd]

@[simp] theorem healthReadOp_frame r d (s : State) :
    KeepsRest s (healthReadOp r d s) ∧ (healthReadOp r d s).mem = s.mem ∧ (healthReadOp r d s).vot = s.vot ∧
    (healthReadOp r d s).cls = s.cls ∧ (healthReadOp r d s).trust = s.trust ∧ (healthReadOp r d s).col = s.col ∧
    KeepsReports s (healthReadOp r d s) ∧ KeepsUnits s (healthReadOp r d s) := by
  unfold healthReadOp
  dsimp only
  (repeat' split) <;> simp

@[simp] theorem stateReqOp_frame r d (s : State) :
    KeepsRest s (stateReqOp r d s) ∧ (stateReqOp r d s).mem = s.mem ∧ (stateReqOp r d s).vot = s.vot ∧ (stateReqOp r d s).cyc = s.cyc ∧
    (stateReqOp r d s).cls = s.cls ∧ (stateReqOp r d s).trust = s.trust ∧ (stateReqOp r d s).col = s.col ∧
    KeepsReports s (stateReqOp r d s) ∧ (stateReqOp r d s).tim = s.tim ∧ (stateReqOp r d s).stra = s.stra ∧ (stateReqOp r d s).eth = s.eth ∧
    (stateReqOp r d s).mvb = s.mvb ∧ (stateReqOp r d s).chk = s.chk ∧ (stateReqOp r d s).mot = s.mot ∧ (stateReqOp r d s).ana = s.ana ∧
    (stateReqOp r d s).fld = s.fld ∧ (stateReqOp r d s).cross = s.cross ∧ (stateReqOp r d s).regs = s.regs := by
  simp [stateReqOp]

@[simp] theorem finishMirrors_frame (s : State) :
    KeepsRest s (finishMirrors s) ∧ KeepsCore s (finishMirrors s) ∧ (finishMirrors s).rcd = s.rcd ∧ (finishMirrors s).flt = s.flt ∧
    KeepsUnits s (finishMirrors s) := by
  simp [finishMirrors]

@[simp] theorem quiesce_frame (s : State) :
    KeepsRest s (quiesce s) ∧ (quiesce s).vot = s.vot ∧ (quiesce s).trust = s.trust ∧ (quiesce s).col = s.col ∧ KeepsUnits s (quiesce s) := by
  simp [quiesce]

@[simp] theorem enterParked_frame (s : State) :
    (enterParked s).otp = s.otp ∧ (enterParked s).pending = s.pending ∧ (enterParked s).draws = s.draws := by
  simp [enterParked]

@[simp] theorem enterKeepAlive_frame (s : State) :
    (enterKeepAlive s).otp = s.otp ∧ (enterKeepAlive s).pending = s.pending ∧ (enterKeepAlive s).draws = s.draws := by
  simp [enterKeepAlive]

@[simp] theorem lowPowerEntry_frame (s : State) :
    (lowPowerEntry s).otp = s.otp ∧ (lowPowerEntry s).pending = s.pending ∧ (lowPowerEntry s).draws = s.draws := by
  unfold lowPowerEntry
  split <;> simp

@[simp] theorem noteWake_frame code w (s : State) :
    KeepsRest s (noteWake code w s) ∧ KeepsCore s (noteWake code w s) ∧ (noteWake code w s).tim = s.tim ∧ (noteWake code w s).stra = s.stra ∧
    (noteWake code w s).eth = s.eth ∧ (noteWake code w s).mvb = s.mvb ∧ (noteWake code w s).chk = s.chk ∧ (noteWake code w s).mot = s.mot ∧
    (noteWake code w s).ana = s.ana ∧ (noteWake code w s).fld = s.fld ∧ (noteWake code w s).cross = s.cross ∧
    (noteWake code w s).regs = s.regs := by
  simp [noteWake]

@[simp] theorem wakeParked_frame w (s : State) :
    (wakeParked w s).otp = s.otp ∧ (wakeParked w s).pending = s.pending ∧ (wakeParked w s).draws = s.draws ∧ (wakeParked w s).mem = s.mem ∧
    (wakeParked w s).vot = s.vot ∧ (wakeParked w s).rng = s.rng ∧ (wakeParked w s).cls = s.cls ∧ (wakeParked w s).col = s.col ∧
    (wakeParked w s).tim = s.tim ∧ (wakeParked w s).chk = s.chk ∧ (wakeParked w s).regs = s.regs := by
  simp [wakeParked]

@[simp] theorem wakeKeepAlive_frame w (s : State) :
    KeepsRest s (wakeKeepAlive w s) ∧ KeepsCore s (wakeKeepAlive w s) ∧ (wakeKeepAlive w s).tim = s.tim ∧ (wakeKeepAlive w s).stra = s.stra ∧
    (wakeKeepAlive w s).eth = s.eth ∧ (wakeKeepAlive w s).mvb = s.mvb ∧ (wakeKeepAlive w s).chk = s.chk ∧ (wakeKeepAlive w s).mot = s.mot ∧
    (wakeKeepAlive w s).ana = s.ana ∧ (wakeKeepAlive w s).fld = s.fld ∧ (wakeKeepAlive w s).cross = s.cross ∧
    (wakeKeepAlive w s).regs = s.regs := by
  simp [wakeKeepAlive]

@[simp] theorem wake_frame w elapsed (s : State) :
    (wake w elapsed s).otp = s.otp ∧ (wake w elapsed s).pending = s.pending ∧ (wake w elapsed s).draws = s.draws ∧
    (wake w elapsed s).mem = s.mem ∧ (wake w elapsed s).vot = s.vot ∧ (wake w elapsed s).rng = s.rng ∧ (wake w elapsed s).cls = s.cls ∧
    (wake w elapsed s).col = s.col ∧ (wake w elapsed s).tim = s.tim ∧ (wake w elapsed s).chk = s.chk ∧ (wake w elapsed s).regs = s.regs := by
  unfold wake
  split <;> simp

@[simp] theorem modRail_frame r f (s : State) :
    KeepsRest s (modRail r f s) ∧ KeepsCore s (modRail r f s) ∧ KeepsReports s (modRail r f s) ∧ (modRail r f s).tim = s.tim ∧
    (modRail r f s).stra = s.stra ∧ (modRail r f s).eth = s.eth ∧ (modRail r f s).mvb = s.mvb ∧ (modRail r f s).chk = s.chk ∧
    (modRail r f s).mot = s.mot ∧ (modRail r f s).ana = s.ana ∧ (modRail r f s).fld = s.fld ∧ (modRail r f s).cross = s.cross ∧
    (modRail r f s).regs = s.regs := by
  simp [modRail]

@[simp] theorem modTemp_frame i f (s : State) :
    KeepsRest s (modTemp i f s) ∧ KeepsCore s (modTemp i f s) ∧ KeepsReports s (modTemp i f s) ∧ (modTemp i f s).tim = s.tim ∧
    (modTemp i f s).stra = s.stra ∧ (modTemp i f s).eth = s.eth ∧ (modTemp i f s).mvb = s.mvb ∧ (modTemp i f s).chk = s.chk ∧
    (modTemp i f s).mot = s.mot ∧ (modTemp i f s).ana = s.ana ∧ (modTemp i f s).fld = s.fld ∧ (modTemp i f s).cross = s.cross ∧
    (modTemp i f s).regs = s.regs := by
  simp [modTemp]

@[simp] theorem railOut_frame r v (s : State) :
    KeepsRest s (railOut r v s) ∧ KeepsCore s (railOut r v s) ∧ (railOut r v s).tim = s.tim ∧ (railOut r v s).stra = s.stra ∧
    (railOut r v s).eth = s.eth ∧ (railOut r v s).mvb = s.mvb ∧ (railOut r v s).chk = s.chk ∧ (railOut r v s).mot = s.mot ∧
    (railOut r v s).ana = s.ana ∧ (railOut r v s).fld = s.fld ∧ (railOut r v s).cross = s.cross ∧ (railOut r v s).regs = s.regs := by
  simp [railOut]

@[simp] theorem tempReading_frame i v (s : State) :
    KeepsRest s (tempReading i v s) ∧ KeepsCore s (tempReading i v s) ∧ KeepsReports s (tempReading i v s) ∧
    (tempReading i v s).tim = s.tim ∧ (tempReading i v s).stra = s.stra ∧ (tempReading i v s).eth = s.eth ∧ (tempReading i v s).mvb = s.mvb ∧
    (tempReading i v s).chk = s.chk ∧ (tempReading i v s).mot = s.mot ∧ (tempReading i v s).ana = s.ana ∧ (tempReading i v s).fld = s.fld ∧
    (tempReading i v s).cross = s.cross ∧ (tempReading i v s).regs = s.regs := by
  simp [tempReading]

@[simp] theorem tempWarning_frame i v (s : State) :
    KeepsRest s (tempWarning i v s) ∧ KeepsCore s (tempWarning i v s) ∧ (tempWarning i v s).tim = s.tim ∧ (tempWarning i v s).stra = s.stra ∧
    (tempWarning i v s).eth = s.eth ∧ (tempWarning i v s).mvb = s.mvb ∧ (tempWarning i v s).chk = s.chk ∧ (tempWarning i v s).mot = s.mot ∧
    (tempWarning i v s).ana = s.ana ∧ (tempWarning i v s).fld = s.fld ∧ (tempWarning i v s).cross = s.cross ∧
    (tempWarning i v s).regs = s.regs := by
  simp [tempWarning]

@[simp] theorem overTemperature_frame i v (s : State) :
    KeepsRest s (overTemperature i v s) ∧ KeepsCore s (overTemperature i v s) ∧ (overTemperature i v s).tim = s.tim ∧
    (overTemperature i v s).stra = s.stra ∧ (overTemperature i v s).eth = s.eth ∧ (overTemperature i v s).mvb = s.mvb ∧
    (overTemperature i v s).chk = s.chk ∧ (overTemperature i v s).mot = s.mot ∧ (overTemperature i v s).ana = s.ana ∧
    (overTemperature i v s).fld = s.fld ∧ (overTemperature i v s).cross = s.cross ∧ (overTemperature i v s).regs = s.regs := by
  simp [overTemperature]

@[simp] theorem modAvs_frame l f (s : State) :
    KeepsRest s (modAvs l f s) ∧ KeepsCore s (modAvs l f s) ∧ KeepsReports s (modAvs l f s) ∧ (modAvs l f s).tim = s.tim ∧
    (modAvs l f s).stra = s.stra ∧ (modAvs l f s).eth = s.eth ∧ (modAvs l f s).mvb = s.mvb ∧ (modAvs l f s).chk = s.chk ∧
    (modAvs l f s).mot = s.mot ∧ (modAvs l f s).ana = s.ana ∧ (modAvs l f s).fld = s.fld ∧ (modAvs l f s).cross = s.cross ∧
    (modAvs l f s).regs = s.regs := by
  simp [modAvs]

@[simp] theorem avsStep_frame l (s : State) :
    KeepsRest s (avsStep l s) ∧ KeepsCore s (avsStep l s) ∧ (avsStep l s).tim = s.tim ∧ (avsStep l s).stra = s.stra ∧
    (avsStep l s).eth = s.eth ∧ (avsStep l s).mvb = s.mvb ∧ (avsStep l s).chk = s.chk ∧ (avsStep l s).mot = s.mot ∧
    (avsStep l s).ana = s.ana ∧ (avsStep l s).fld = s.fld ∧ (avsStep l s).cross = s.cross ∧ (avsStep l s).regs = s.regs := by
  simp [avsStep]

@[simp] theorem avsAtTick_frame margins (s : State) :
    KeepsRest s (avsAtTick margins s) ∧ KeepsCore s (avsAtTick margins s) ∧ KeepsReports s (avsAtTick margins s) ∧
    (avsAtTick margins s).tim = s.tim ∧ (avsAtTick margins s).stra = s.stra ∧ (avsAtTick margins s).eth = s.eth ∧
    (avsAtTick margins s).mvb = s.mvb ∧ (avsAtTick margins s).chk = s.chk ∧ (avsAtTick margins s).mot = s.mot ∧
    (avsAtTick margins s).ana = s.ana ∧ (avsAtTick margins s).fld = s.fld ∧ (avsAtTick margins s).cross = s.cross ∧
    (avsAtTick margins s).regs = s.regs := by
  simp [avsAtTick]

@[simp] theorem ageingStep_frame l vNow (s : State) :
    KeepsRest s (ageingStep l vNow s) ∧ KeepsCore s (ageingStep l vNow s) ∧ (ageingStep l vNow s).tim = s.tim ∧
    (ageingStep l vNow s).stra = s.stra ∧ (ageingStep l vNow s).eth = s.eth ∧ (ageingStep l vNow s).mvb = s.mvb ∧
    (ageingStep l vNow s).chk = s.chk ∧ (ageingStep l vNow s).mot = s.mot ∧ (ageingStep l vNow s).ana = s.ana ∧
    (ageingStep l vNow s).fld = s.fld ∧ (ageingStep l vNow s).cross = s.cross ∧ (ageingStep l vNow s).regs = s.regs := by
  unfold ageingStep
  dsimp only
  (repeat' split) <;> simp

@[simp] theorem locketAtTick_frame (s : State) :
    KeepsRest s (locketAtTick s) ∧ KeepsCore s (locketAtTick s) ∧ KeepsReports s (locketAtTick s) ∧ (locketAtTick s).tim = s.tim ∧
    (locketAtTick s).stra = s.stra ∧ (locketAtTick s).eth = s.eth ∧ (locketAtTick s).mvb = s.mvb ∧ (locketAtTick s).chk = s.chk ∧
    (locketAtTick s).mot = s.mot ∧ (locketAtTick s).ana = s.ana ∧ (locketAtTick s).fld = s.fld ∧ (locketAtTick s).cross = s.cross ∧
    (locketAtTick s).regs = s.regs := by
  simp [locketAtTick]

@[simp] theorem modDom_frame d f (s : State) :
    KeepsRest s (modDom d f s) ∧ KeepsCore s (modDom d f s) ∧ KeepsReports s (modDom d f s) ∧ (modDom d f s).tim = s.tim ∧
    (modDom d f s).stra = s.stra ∧ (modDom d f s).eth = s.eth ∧ (modDom d f s).mvb = s.mvb ∧ (modDom d f s).chk = s.chk ∧
    (modDom d f s).mot = s.mot ∧ (modDom d f s).ana = s.ana ∧ (modDom d f s).fld = s.fld ∧ (modDom d f s).pwr = s.pwr ∧
    (modDom d f s).regs = s.regs := by
  simp [modDom]

@[simp] theorem repDom_frame code d (s : State) :
    KeepsRest s (repDom code d s) ∧ KeepsCore s (repDom code d s) ∧ KeepsUnits s (repDom code d s) := by
  simp [repDom]

@[simp] theorem modBezels_frame f (s : State) :
    KeepsRest s (modBezels f s) ∧ KeepsCore s (modBezels f s) ∧ KeepsReports s (modBezels f s) ∧ (modBezels f s).tim = s.tim ∧
    (modBezels f s).eth = s.eth ∧ (modBezels f s).mvb = s.mvb ∧ (modBezels f s).chk = s.chk ∧ (modBezels f s).mot = s.mot ∧
    (modBezels f s).ana = s.ana ∧ (modBezels f s).fld = s.fld ∧ (modBezels f s).pwr = s.pwr ∧ (modBezels f s).cross = s.cross ∧
    (modBezels f s).regs = s.regs := by
  simp [modBezels]

@[simp] theorem failOldest_frame (s : State) :
    KeepsRest s (failOldest s) ∧ (failOldest s).vot = s.vot ∧ (failOldest s).cyc = s.cyc ∧ (failOldest s).cls = s.cls ∧
    (failOldest s).trust = s.trust ∧ KeepsUnits s (failOldest s) := by
  unfold failOldest
  split <;> simp

@[simp] theorem clockLostEffect_frame d onBus posted (s : State) :
    KeepsRest s (clockLostEffect d onBus posted s) ∧ (clockLostEffect d onBus posted s).vot = s.vot ∧
    (clockLostEffect d onBus posted s).cyc = s.cyc ∧ (clockLostEffect d onBus posted s).cls = s.cls ∧
    (clockLostEffect d onBus posted s).trust = s.trust ∧ (clockLostEffect d onBus posted s).tim = s.tim ∧
    (clockLostEffect d onBus posted s).eth = s.eth ∧ (clockLostEffect d onBus posted s).mvb = s.mvb ∧
    (clockLostEffect d onBus posted s).chk = s.chk ∧ (clockLostEffect d onBus posted s).mot = s.mot ∧
    (clockLostEffect d onBus posted s).ana = s.ana ∧ (clockLostEffect d onBus posted s).fld = s.fld ∧
    (clockLostEffect d onBus posted s).pwr = s.pwr ∧ (clockLostEffect d onBus posted s).cross = s.cross ∧
    (clockLostEffect d onBus posted s).regs = s.regs := by
  unfold clockLostEffect
  split <;> simp

@[simp] theorem clockLost_frame d onBus posted (s : State) :
    KeepsRest s (clockLost d onBus posted s) ∧ (clockLost d onBus posted s).vot = s.vot ∧ (clockLost d onBus posted s).cyc = s.cyc ∧
    (clockLost d onBus posted s).cls = s.cls ∧ (clockLost d onBus posted s).trust = s.trust ∧ (clockLost d onBus posted s).tim = s.tim ∧
    (clockLost d onBus posted s).eth = s.eth ∧ (clockLost d onBus posted s).mvb = s.mvb ∧ (clockLost d onBus posted s).chk = s.chk ∧
    (clockLost d onBus posted s).mot = s.mot ∧ (clockLost d onBus posted s).ana = s.ana ∧ (clockLost d onBus posted s).fld = s.fld ∧
    (clockLost d onBus posted s).pwr = s.pwr ∧ (clockLost d onBus posted s).regs = s.regs := by
  simp [clockLost]

@[simp] theorem clockRestored_frame d (s : State) :
    KeepsRest s (clockRestored d s) ∧ KeepsCore s (clockRestored d s) ∧ (clockRestored d s).tim = s.tim ∧ (clockRestored d s).eth = s.eth ∧
    (clockRestored d s).mvb = s.mvb ∧ (clockRestored d s).chk = s.chk ∧ (clockRestored d s).mot = s.mot ∧ (clockRestored d s).ana = s.ana ∧
    (clockRestored d s).fld = s.fld ∧ (clockRestored d s).pwr = s.pwr ∧ (clockRestored d s).regs = s.regs := by
  simp [clockRestored]

@[simp] theorem fabricClockLost_frame (s : State) :
    (fabricClockLost s).otp = s.otp ∧ (fabricClockLost s).pending = s.pending ∧ (fabricClockLost s).draws = s.draws := by
  simp [fabricClockLost]

@[simp] theorem crossingStalled_frame d events counts (s : State) :
    KeepsRest s (crossingStalled d events counts s) ∧ KeepsCore s (crossingStalled d events counts s) ∧
    (crossingStalled d events counts s).tim = s.tim ∧ (crossingStalled d events counts s).stra = s.stra ∧
    (crossingStalled d events counts s).eth = s.eth ∧ (crossingStalled d events counts s).mvb = s.mvb ∧
    (crossingStalled d events counts s).chk = s.chk ∧ (crossingStalled d events counts s).mot = s.mot ∧
    (crossingStalled d events counts s).ana = s.ana ∧ (crossingStalled d events counts s).fld = s.fld ∧
    (crossingStalled d events counts s).pwr = s.pwr ∧ (crossingStalled d events counts s).regs = s.regs := by
  simp [crossingStalled]

@[simp] theorem attestation_frame seed nonce (s : State) :
    (attestation seed nonce s).2.otp = s.otp ∧ (attestation seed nonce s).2.pending = s.pending ∧
    (attestation seed nonce s).2.image = s.image ∧ (attestation seed nonce s).2.cfg = s.cfg ∧ (attestation seed nonce s).2.mem = s.mem ∧
    (attestation seed nonce s).2.vot = s.vot ∧ (attestation seed nonce s).2.rng = s.rng ∧ (attestation seed nonce s).2.cyc = s.cyc ∧
    (attestation seed nonce s).2.cls = s.cls ∧ (attestation seed nonce s).2.col = s.col ∧ KeepsReports s (attestation seed nonce s).2 ∧
    KeepsUnits s (attestation seed nonce s).2 := by
  simp [attestation]

@[simp] theorem sigHashOp_frame r d (s : State) :
    KeepsRest s (sigHashOp r d s) ∧ (sigHashOp r d s).vot = s.vot ∧ (sigHashOp r d s).cyc = s.cyc ∧ (sigHashOp r d s).cls = s.cls ∧
    (sigHashOp r d s).trust = s.trust ∧ (sigHashOp r d s).col = s.col ∧ KeepsReports s (sigHashOp r d s) ∧ KeepsUnits s (sigHashOp r d s) := by
  simp [sigHashOp]

@[simp] theorem sigRandomOp_frame r d (s : State) :
    (sigRandomOp r d s).otp = s.otp ∧ (sigRandomOp r d s).pending = s.pending ∧ (sigRandomOp r d s).image = s.image ∧
    (sigRandomOp r d s).cfg = s.cfg ∧ (sigRandomOp r d s).mem = s.mem ∧ (sigRandomOp r d s).vot = s.vot ∧ (sigRandomOp r d s).cls = s.cls ∧
    (sigRandomOp r d s).col = s.col ∧ KeepsReports s (sigRandomOp r d s) ∧ KeepsUnits s (sigRandomOp r d s) := by
  simp [sigRandomOp]

@[simp] theorem sigAttestOp_frame r d (s : State) :
    (sigAttestOp r d s).otp = s.otp ∧ (sigAttestOp r d s).pending = s.pending ∧ (sigAttestOp r d s).image = s.image ∧
    (sigAttestOp r d s).cfg = s.cfg ∧ (sigAttestOp r d s).mem = s.mem ∧ (sigAttestOp r d s).vot = s.vot ∧ (sigAttestOp r d s).cls = s.cls ∧
    (sigAttestOp r d s).col = s.col ∧ KeepsReports s (sigAttestOp r d s) ∧ KeepsUnits s (sigAttestOp r d s) := by
  unfold sigAttestOp
  dsimp only
  (repeat' split) <;> simp

@[simp] theorem sigVerifyOp_frame r d (s : State) :
    KeepsRest s (sigVerifyOp r d s) ∧ (sigVerifyOp r d s).mem = s.mem ∧ (sigVerifyOp r d s).vot = s.vot ∧ (sigVerifyOp r d s).cyc = s.cyc ∧
    (sigVerifyOp r d s).cls = s.cls ∧ (sigVerifyOp r d s).col = s.col ∧ KeepsUnits s (sigVerifyOp r d s) := by
  simp [sigVerifyOp]

@[simp] theorem ucalDone_frame (s : State) :
    KeepsRest s (ucalDone s) ∧ (ucalDone s).mem = s.mem ∧ (ucalDone s).vot = s.vot ∧ (ucalDone s).rng = s.rng ∧ (ucalDone s).cyc = s.cyc ∧
    (ucalDone s).cls = s.cls ∧ (ucalDone s).col = s.col ∧ KeepsUnits s (ucalDone s) := by
  unfold ucalDone
  split <;> simp

end Sys2Proof.Machine
end

