-- ==== Sys2Proof/Laws/FrameService.lean ====
section
/-!
SUPPORT. What each operation leaves unchanged: the operations of Utmus, the updates, the fetches and the tick event.
-/

namespace Sys2Proof.Machine

@[simp] theorem refuse_frame status (s : State) :
    KeepsRest s (refuse status s).st ∧ KeepsCore s (refuse status s).st ∧ KeepsReports s (refuse status s).st ∧
    KeepsUnits s (refuse status s).st := by
  simp [refuse]

@[simp] theorem refuseContainer_frame reason (s : State) :
    KeepsRest s (refuseContainer reason s).st ∧ (refuseContainer reason s).st.mem = s.mem ∧ (refuseContainer reason s).st.vot = s.vot ∧
    (refuseContainer reason s).st.rng = s.rng ∧ (refuseContainer reason s).st.cyc = s.cyc ∧ (refuseContainer reason s).st.cls = s.cls ∧
    (refuseContainer reason s).st.col = s.col ∧ KeepsUnits s (refuseContainer reason s).st := by
  simp [refuseContainer]

@[simp] theorem respond_frame cmd q session (r : Reply) :
    KeepsRest r.st (respond cmd q session r) ∧ (respond cmd q session r).mem = r.st.mem ∧ (respond cmd q session r).vot = r.st.vot ∧
    (respond cmd q session r).rng = r.st.rng ∧ (respond cmd q session r).cyc = r.st.cyc ∧ (respond cmd q session r).cls = r.st.cls ∧
    (respond cmd q session r).col = r.st.col ∧ KeepsUnits r.st (respond cmd q session r) := by
  simp [respond]

@[simp] theorem noteSeq_frame q S (s : State) :
    KeepsRest s (noteSeq q S s) ∧ (noteSeq q S s).mem = s.mem ∧ (noteSeq q S s).vot = s.vot ∧ (noteSeq q S s).rng = s.rng ∧
    (noteSeq q S s).cyc = s.cyc ∧ (noteSeq q S s).cls = s.cls ∧ (noteSeq q S s).col = s.col ∧ KeepsReports s (noteSeq q S s) ∧
    KeepsUnits s (noteSeq q S s) := by
  simp [noteSeq]

@[simp] theorem checked_otp cmd perm type q f (s : State) (h : ∀ t, (f t).st.otp = t.otp) :
    (checked cmd perm type q f s).st.otp = s.otp := by
  unfold checked
  dsimp only
  (repeat' split) <;> simp [*]
@[simp] theorem checked_mem cmd perm type q f (s : State) (h : ∀ t, (f t).st.mem = t.mem) :
    (checked cmd perm type q f s).st.mem = s.mem := by
  unfold checked
  dsimp only
  (repeat' split) <;> simp [*]
@[simp] theorem checked_tim cmd perm type q f (s : State) (h : ∀ t, (f t).st.tim = t.tim) :
    (checked cmd perm type q f s).st.tim = s.tim := by
  unfold checked
  dsimp only
  (repeat' split) <;> simp [*]
@[simp] theorem checked_rcd cmd perm type q f (s : State) (h : ∀ t, (f t).st.rcd = t.rcd) :
    (checked cmd perm type q f s).st.rcd = s.rcd := by
  unfold checked
  dsimp only
  (repeat' split) <;> simp [*]
@[simp] theorem checked_flt cmd perm type q f (s : State) (h : ∀ t, (f t).st.flt = t.flt) :
    (checked cmd perm type q f s).st.flt = s.flt := by
  unfold checked
  dsimp only
  (repeat' split) <;> simp [*]
@[simp] theorem checked_lanes cmd perm type q f (s : State) (h : ∀ t, (f t).st.lanes = t.lanes) :
    (checked cmd perm type q f s).st.lanes = s.lanes := by
  unfold checked
  dsimp only
  (repeat' split) <;> simp [*]
@[simp] theorem checked_vot cmd perm type q f (s : State) (h : ∀ t, (f t).st.vot = t.vot) :
    (checked cmd perm type q f s).st.vot = s.vot := by
  unfold checked
  dsimp only
  (repeat' split) <;> simp [*]
@[simp] theorem checked_rng cmd perm type q f (s : State) (h : ∀ t, (f t).st.rng = t.rng) :
    (checked cmd perm type q f s).st.rng = s.rng := by
  unfold checked
  dsimp only
  (repeat' split) <;> simp [*]
@[simp] theorem checked_cyc cmd perm type q f (s : State) (h : ∀ t, (f t).st.cyc = t.cyc) :
    (checked cmd perm type q f s).st.cyc = s.cyc := by
  unfold checked
  dsimp only
  (repeat' split) <;> simp [*]
@[simp] theorem checked_stra cmd perm type q f (s : State) (h : ∀ t, (f t).st.stra = t.stra) :
    (checked cmd perm type q f s).st.stra = s.stra := by
  unfold checked
  dsimp only
  (repeat' split) <;> simp [*]
@[simp] theorem checked_eth cmd perm type q f (s : State) (h : ∀ t, (f t).st.eth = t.eth) :
    (checked cmd perm type q f s).st.eth = s.eth := by
  unfold checked
  dsimp only
  (repeat' split) <;> simp [*]
@[simp] theorem checked_mvb cmd perm type q f (s : State) (h : ∀ t, (f t).st.mvb = t.mvb) :
    (checked cmd perm type q f s).st.mvb = s.mvb := by
  unfold checked
  dsimp only
  (repeat' split) <;> simp [*]
@[simp] theorem checked_col cmd perm type q f (s : State) (h : ∀ t, (f t).st.col = t.col) :
    (checked cmd perm type q f s).st.col = s.col := by
  unfold checked
  dsimp only
  (repeat' split) <;> simp [*]
@[simp] theorem checked_chk cmd perm type q f (s : State) (h : ∀ t, (f t).st.chk = t.chk) :
    (checked cmd perm type q f s).st.chk = s.chk := by
  unfold checked
  dsimp only
  (repeat' split) <;> simp [*]
@[simp] theorem checked_mot cmd perm type q f (s : State) (h : ∀ t, (f t).st.mot = t.mot) :
    (checked cmd perm type q f s).st.mot = s.mot := by
  unfold checked
  dsimp only
  (repeat' split) <;> simp [*]
@[simp] theorem checked_ana cmd perm type q f (s : State) (h : ∀ t, (f t).st.ana = t.ana) :
    (checked cmd perm type q f s).st.ana = s.ana := by
  unfold checked
  dsimp only
  (repeat' split) <;> simp [*]
@[simp] theorem checked_fld cmd perm type q f (s : State) (h : ∀ t, (f t).st.fld = t.fld) :
    (checked cmd perm type q f s).st.fld = s.fld := by
  unfold checked
  dsimp only
  (repeat' split) <;> simp [*]
@[simp] theorem checked_cls cmd perm type q f (s : State) (h : ∀ t, (f t).st.cls = t.cls) :
    (checked cmd perm type q f s).st.cls = s.cls := by
  unfold checked
  dsimp only
  (repeat' split) <;> simp [*]
@[simp] theorem checked_pwr cmd perm type q f (s : State) (h : ∀ t, (f t).st.pwr = t.pwr) :
    (checked cmd perm type q f s).st.pwr = s.pwr := by
  unfold checked
  dsimp only
  (repeat' split) <;> simp [*]
@[simp] theorem checked_cross cmd perm type q f (s : State) (h : ∀ t, (f t).st.cross = t.cross) :
    (checked cmd perm type q f s).st.cross = s.cross := by
  unfold checked
  dsimp only
  (repeat' split) <;> simp [*]
@[simp] theorem checked_cfg cmd perm type q f (s : State) (h : ∀ t, (f t).st.cfg = t.cfg) :
    (checked cmd perm type q f s).st.cfg = s.cfg := by
  unfold checked
  dsimp only
  (repeat' split) <;> simp [*]
@[simp] theorem checked_image cmd perm type q f (s : State) (h : ∀ t, (f t).st.image = t.image) :
    (checked cmd perm type q f s).st.image = s.image := by
  unfold checked
  dsimp only
  (repeat' split) <;> simp [*]
@[simp] theorem checked_regs cmd perm type q f (s : State) (h : ∀ t, (f t).st.regs = t.regs) :
    (checked cmd perm type q f s).st.regs = s.regs := by
  unfold checked
  dsimp only
  (repeat' split) <;> simp [*]
@[simp] theorem checked_draws cmd perm type q f (s : State) (h : ∀ t, (f t).st.draws = t.draws) :
    (checked cmd perm type q f s).st.draws = s.draws := by
  unfold checked
  dsimp only
  (repeat' split) <;> simp [*]
@[simp] theorem checked_pending cmd perm type q f (s : State) (h : ∀ t, (f t).st.pending = t.pending) :
    (checked cmd perm type q f s).st.pending = s.pending := by
  unfold checked
  dsimp only
  (repeat' split) <;> simp [*]

@[simp] theorem utmus_otp cmd perm q f (s : State) (h : ∀ t, (f t).st.otp = t.otp) :
    (utmus cmd perm q f s).otp = s.otp := by
  simp [utmus, h]
@[simp] theorem utmus_mem cmd perm q f (s : State) (h : ∀ t, (f t).st.mem = t.mem) :
    (utmus cmd perm q f s).mem = s.mem := by
  simp [utmus, h]
@[simp] theorem utmus_tim cmd perm q f (s : State) (h : ∀ t, (f t).st.tim = t.tim) :
    (utmus cmd perm q f s).tim = s.tim := by
  simp [utmus, h]
@[simp] theorem utmus_vot cmd perm q f (s : State) (h : ∀ t, (f t).st.vot = t.vot) :
    (utmus cmd perm q f s).vot = s.vot := by
  simp [utmus, h]
@[simp] theorem utmus_rng cmd perm q f (s : State) (h : ∀ t, (f t).st.rng = t.rng) :
    (utmus cmd perm q f s).rng = s.rng := by
  simp [utmus, h]
@[simp] theorem utmus_cyc cmd perm q f (s : State) (h : ∀ t, (f t).st.cyc = t.cyc) :
    (utmus cmd perm q f s).cyc = s.cyc := by
  simp [utmus, h]
@[simp] theorem utmus_stra cmd perm q f (s : State) (h : ∀ t, (f t).st.stra = t.stra) :
    (utmus cmd perm q f s).stra = s.stra := by
  simp [utmus, h]
@[simp] theorem utmus_eth cmd perm q f (s : State) (h : ∀ t, (f t).st.eth = t.eth) :
    (utmus cmd perm q f s).eth = s.eth := by
  simp [utmus, h]
@[simp] theorem utmus_mvb cmd perm q f (s : State) (h : ∀ t, (f t).st.mvb = t.mvb) :
    (utmus cmd perm q f s).mvb = s.mvb := by
  simp [utmus, h]
@[simp] theorem utmus_col cmd perm q f (s : State) (h : ∀ t, (f t).st.col = t.col) :
    (utmus cmd perm q f s).col = s.col := by
  simp [utmus, h]
@[simp] theorem utmus_chk cmd perm q f (s : State) (h : ∀ t, (f t).st.chk = t.chk) :
    (utmus cmd perm q f s).chk = s.chk := by
  simp [utmus, h]
@[simp] theorem utmus_mot cmd perm q f (s : State) (h : ∀ t, (f t).st.mot = t.mot) :
    (utmus cmd perm q f s).mot = s.mot := by
  simp [utmus, h]
@[simp] theorem utmus_ana cmd perm q f (s : State) (h : ∀ t, (f t).st.ana = t.ana) :
    (utmus cmd perm q f s).ana = s.ana := by
  simp [utmus, h]
@[simp] theorem utmus_fld cmd perm q f (s : State) (h : ∀ t, (f t).st.fld = t.fld) :
    (utmus cmd perm q f s).fld = s.fld := by
  simp [utmus, h]
@[simp] theorem utmus_cls cmd perm q f (s : State) (h : ∀ t, (f t).st.cls = t.cls) :
    (utmus cmd perm q f s).cls = s.cls := by
  simp [utmus, h]
@[simp] theorem utmus_pwr cmd perm q f (s : State) (h : ∀ t, (f t).st.pwr = t.pwr) :
    (utmus cmd perm q f s).pwr = s.pwr := by
  simp [utmus, h]
@[simp] theorem utmus_cross cmd perm q f (s : State) (h : ∀ t, (f t).st.cross = t.cross) :
    (utmus cmd perm q f s).cross = s.cross := by
  simp [utmus, h]
@[simp] theorem utmus_cfg cmd perm q f (s : State) (h : ∀ t, (f t).st.cfg = t.cfg) :
    (utmus cmd perm q f s).cfg = s.cfg := by
  simp [utmus, h]
@[simp] theorem utmus_image cmd perm q f (s : State) (h : ∀ t, (f t).st.image = t.image) :
    (utmus cmd perm q f s).image = s.image := by
  simp [utmus, h]
@[simp] theorem utmus_regs cmd perm q f (s : State) (h : ∀ t, (f t).st.regs = t.regs) :
    (utmus cmd perm q f s).regs = s.regs := by
  simp [utmus, h]
@[simp] theorem utmus_draws cmd perm q f (s : State) (h : ∀ t, (f t).st.draws = t.draws) :
    (utmus cmd perm q f s).draws = s.draws := by
  simp [utmus, h]
@[simp] theorem utmus_pending cmd perm q f (s : State) (h : ∀ t, (f t).st.pending = t.pending) :
    (utmus cmd perm q f s).pending = s.pending := by
  simp [utmus, h]

@[simp] theorem hello_frame q (s : State) :
    (hello q s).otp = s.otp ∧ (hello q s).pending = s.pending ∧ (hello q s).image = s.image ∧ (hello q s).cfg = s.cfg ∧
    (hello q s).mem = s.mem ∧ (hello q s).vot = s.vot ∧ (hello q s).rng = s.rng ∧ (hello q s).cyc = s.cyc ∧ (hello q s).cls = s.cls ∧
    (hello q s).col = s.col ∧ KeepsUnits s (hello q s) := by
  simp [hello]

@[simp] theorem identify_frame q (s : State) :
    KeepsRest s (identify q s) ∧ (identify q s).mem = s.mem ∧ (identify q s).vot = s.vot ∧ (identify q s).rng = s.rng ∧
    (identify q s).cyc = s.cyc ∧ (identify q s).cls = s.cls ∧ (identify q s).col = s.col ∧ KeepsUnits s (identify q s) := by
  unfold identify
  dsimp only
  (repeat' split) <;> simp

@[simp] theorem utmusRecords_frame q bad (s : State) :
    KeepsRest s (utmusRecords q bad s).st ∧ KeepsCore s (utmusRecords q bad s).st ∧ KeepsUnits s (utmusRecords q bad s).st := by
  unfold utmusRecords
  dsimp only
  (repeat' split) <;> simp

@[simp] theorem utmusAttest_frame q (s : State) :
    (utmusAttest q s).st.otp = s.otp ∧ (utmusAttest q s).st.pending = s.pending ∧ (utmusAttest q s).st.image = s.image ∧
    (utmusAttest q s).st.cfg = s.cfg ∧ (utmusAttest q s).st.mem = s.mem ∧ (utmusAttest q s).st.vot = s.vot ∧
    (utmusAttest q s).st.rng = s.rng ∧ (utmusAttest q s).st.cyc = s.cyc ∧ (utmusAttest q s).st.cls = s.cls ∧
    (utmusAttest q s).st.col = s.col ∧ KeepsReports s (utmusAttest q s).st ∧ KeepsUnits s (utmusAttest q s).st := by
  unfold utmusAttest
  dsimp only
  (repeat' split) <;> simp

@[simp] theorem endSession_frame (s : State) :
    KeepsRest s (endSession s) ∧ (endSession s).mem = s.mem ∧ (endSession s).vot = s.vot ∧ (endSession s).rng = s.rng ∧
    (endSession s).cyc = s.cyc ∧ (endSession s).cls = s.cls ∧ (endSession s).col = s.col ∧ KeepsReports s (endSession s) ∧
    KeepsUnits s (endSession s) := by
  simp [endSession]

@[simp] theorem setTransfer_frame t (s : State) :
    KeepsRest s (setTransfer t s) ∧ (setTransfer t s).mem = s.mem ∧ (setTransfer t s).vot = s.vot ∧ (setTransfer t s).rng = s.rng ∧
    (setTransfer t s).cyc = s.cyc ∧ (setTransfer t s).cls = s.cls ∧ (setTransfer t s).col = s.col ∧ KeepsReports s (setTransfer t s) ∧
    KeepsUnits s (setTransfer t s) := by
  simp [setTransfer]

@[simp] theorem loadBegin_frame q (s : State) :
    KeepsRest s (loadBegin q s).st ∧ (loadBegin q s).st.mem = s.mem ∧ (loadBegin q s).st.vot = s.vot ∧ (loadBegin q s).st.rng = s.rng ∧
    (loadBegin q s).st.cyc = s.cyc ∧ (loadBegin q s).st.cls = s.cls ∧ (loadBegin q s).st.col = s.col ∧ KeepsReports s (loadBegin q s).st ∧
    KeepsUnits s (loadBegin q s).st := by
  unfold loadBegin
  (repeat' split) <;> simp [*]

@[simp] theorem chunk_frame q (s : State) :
    KeepsRest s (chunk q s).st ∧ (chunk q s).st.mem = s.mem ∧ (chunk q s).st.vot = s.vot ∧ (chunk q s).st.rng = s.rng ∧
    (chunk q s).st.cyc = s.cyc ∧ (chunk q s).st.cls = s.cls ∧ (chunk q s).st.col = s.col ∧ KeepsReports s (chunk q s).st ∧
    KeepsUnits s (chunk q s).st := by
  unfold chunk
  dsimp only
  (repeat' split) <;> simp

@[simp] theorem storeContainer_frame slot c (s : State) :
    KeepsRest s (storeContainer slot c s).st ∧ (storeContainer slot c s).st.mem = s.mem ∧ (storeContainer slot c s).st.vot = s.vot ∧
    (storeContainer slot c s).st.rng = s.rng ∧ (storeContainer slot c s).st.cyc = s.cyc ∧ (storeContainer slot c s).st.cls = s.cls ∧
    (storeContainer slot c s).st.col = s.col ∧ KeepsReports s (storeContainer slot c s).st ∧ KeepsUnits s (storeContainer slot c s).st := by
  unfold storeContainer
  dsimp only
  (repeat' split) <;> simp

@[simp] theorem loadEndCommand_frame (s : State) :
    KeepsRest s (loadEndCommand s).st ∧ (loadEndCommand s).st.mem = s.mem ∧ (loadEndCommand s).st.vot = s.vot ∧
    (loadEndCommand s).st.rng = s.rng ∧ (loadEndCommand s).st.cyc = s.cyc ∧ (loadEndCommand s).st.cls = s.cls ∧
    (loadEndCommand s).st.col = s.col ∧ KeepsUnits s (loadEndCommand s).st := by
  unfold loadEndCommand
  dsimp only
  (repeat' split) <;> simp

@[simp] theorem setLife_frame n (s : State) :
    (setLife n s).pending = s.pending ∧ (setLife n s).draws = s.draws ∧ (setLife n s).image = s.image ∧ (setLife n s).cfg = s.cfg ∧
    KeepsCore s (setLife n s) ∧ KeepsUnits s (setLife n s) := by
  simp [setLife]

@[simp] theorem haltProgram_frame (s : State) :
    KeepsRest s (haltProgram s) ∧ (haltProgram s).vot = s.vot ∧ (haltProgram s).trust = s.trust ∧ (haltProgram s).col = s.col ∧
    KeepsUnits s (haltProgram s) := by
  simp [haltProgram]

@[simp] theorem eraseOwner_frame (s : State) :
    KeepsRest s (eraseOwner s) ∧ (eraseOwner s).vot = s.vot ∧ (eraseOwner s).col = s.col ∧ KeepsUnits s (eraseOwner s) := by
  simp [eraseOwner]

@[simp] theorem provision_frame (s : State) :
    (provision s).st.pending = s.pending ∧ (provision s).st.image = s.image ∧ (provision s).st.cfg = s.cfg ∧ (provision s).st.mem = s.mem ∧
    (provision s).st.vot = s.vot ∧ (provision s).st.rng = s.rng ∧ (provision s).st.cyc = s.cyc ∧ (provision s).st.cls = s.cls ∧
    (provision s).st.col = s.col ∧ KeepsUnits s (provision s).st := by
  unfold provision
  split <;> simp

@[simp] theorem enrol_frame q (s : State) :
    (enrol q s).st.pending = s.pending ∧ (enrol q s).st.draws = s.draws ∧ (enrol q s).st.image = s.image ∧ (enrol q s).st.cfg = s.cfg ∧
    (enrol q s).st.vot = s.vot ∧ (enrol q s).st.col = s.col ∧ KeepsUnits s (enrol q s).st := by
  unfold enrol
  dsimp only
  (repeat' split) <;> simp

@[simp] theorem relinquish_frame (s : State) :
    (relinquish s).st.pending = s.pending ∧ (relinquish s).st.draws = s.draws ∧ (relinquish s).st.image = s.image ∧
    (relinquish s).st.cfg = s.cfg ∧ (relinquish s).st.vot = s.vot ∧ (relinquish s).st.col = s.col ∧ KeepsUnits s (relinquish s).st := by
  unfold relinquish
  split <;> simp

@[simp] theorem retire_frame (s : State) :
    (retire s).st.pending = s.pending ∧ (retire s).st.draws = s.draws ∧ (retire s).st.image = s.image ∧ (retire s).st.cfg = s.cfg ∧
    (retire s).st.mem = s.mem ∧ (retire s).st.vot = s.vot ∧ (retire s).st.rng = s.rng ∧ (retire s).st.cyc = s.cyc ∧
    (retire s).st.cls = s.cls ∧ (retire s).st.col = s.col ∧ KeepsUnits s (retire s).st := by
  simp [retire]

@[simp] theorem vendorRevoke_frame q (s : State) :
    KeepsRest s (vendorRevoke q s).st ∧ (vendorRevoke q s).st.mem = s.mem ∧ (vendorRevoke q s).st.vot = s.vot ∧
    (vendorRevoke q s).st.rng = s.rng ∧ (vendorRevoke q s).st.cyc = s.cyc ∧ (vendorRevoke q s).st.cls = s.cls ∧
    (vendorRevoke q s).st.col = s.col ∧ KeepsReports s (vendorRevoke q s).st ∧ KeepsUnits s (vendorRevoke q s).st := by
  unfold vendorRevoke
  dsimp only
  (repeat' split) <;> simp

@[simp] theorem activationFailed_frame (r : Reply) :
    KeepsRest r.st (activationFailed r).st ∧ (activationFailed r).st.mem = r.st.mem ∧ (activationFailed r).st.vot = r.st.vot ∧
    (activationFailed r).st.rng = r.st.rng ∧ (activationFailed r).st.cls = r.st.cls ∧ (activationFailed r).st.trust = r.st.trust ∧
    (activationFailed r).st.col = r.st.col ∧ KeepsUnits r.st (activationFailed r).st := by
  simp [activationFailed]

@[simp] theorem activateSlot_frame i revert (s : State) :
    (activateSlot i revert s).st.otp = s.otp ∧ (activateSlot i revert s).st.pending = s.pending ∧ (activateSlot i revert s).st.draws = s.draws := by
  unfold activateSlot
  dsimp only
  (repeat' split) <;> simp

@[simp] theorem activate_frame q (s : State) :
    (activate q s).st.otp = s.otp ∧ (activate q s).st.pending = s.pending ∧ (activate q s).st.draws = s.draws := by
  unfold activate
  dsimp only
  (repeat' split) <;> simp

@[simp] theorem revert_frame (s : State) :
    (revert s).st.otp = s.otp ∧ (revert s).st.pending = s.pending ∧ (revert s).st.draws = s.draws := by
  unfold revert
  (repeat' split) <;> simp [*]

@[simp] theorem slotErase_frame q (s : State) :
    KeepsRest s (slotErase q s).st ∧ (slotErase q s).st.mem = s.mem ∧ (slotErase q s).st.vot = s.vot ∧ (slotErase q s).st.rng = s.rng ∧
    (slotErase q s).st.cyc = s.cyc ∧ (slotErase q s).st.cls = s.cls ∧ (slotErase q s).st.col = s.col ∧ KeepsReports s (slotErase q s).st ∧
    KeepsUnits s (slotErase q s).st := by
  unfold slotErase
  dsimp only
  (repeat' split) <;> simp

@[simp] theorem swapLoad_frame q (s : State) :
    KeepsRest s (swapLoad q s).st ∧ (swapLoad q s).st.mem = s.mem ∧ (swapLoad q s).st.vot = s.vot ∧ (swapLoad q s).st.rng = s.rng ∧
    (swapLoad q s).st.cls = s.cls ∧ (swapLoad q s).st.col = s.col ∧ KeepsUnits s (swapLoad q s).st := by
  unfold swapLoad
  dsimp only
  (repeat' split) <;> simp

@[simp] theorem swapCommand_frame (s : State) :
    KeepsRest s (swapCommand s).st ∧ (swapCommand s).st.mem = s.mem ∧ (swapCommand s).st.vot = s.vot ∧ (swapCommand s).st.rng = s.rng ∧
    (swapCommand s).st.cls = s.cls ∧ (swapCommand s).st.trust = s.trust ∧ (swapCommand s).st.col = s.col ∧ KeepsUnits s (swapCommand s).st := by
  unfold swapCommand
  dsimp only
  (repeat' split) <;> simp

@[simp] theorem swapCommitted_frame (s : State) :
    KeepsRest s (swapCommitted s) ∧ (swapCommitted s).mem = s.mem ∧ (swapCommitted s).vot = s.vot ∧ (swapCommitted s).rng = s.rng ∧
    (swapCommitted s).cls = s.cls ∧ (swapCommitted s).col = s.col ∧ KeepsUnits s (swapCommitted s) := by
  simp [swapCommitted]

@[simp] theorem fwInstall_frame q (s : State) :
    KeepsRest s (fwInstall q s).st ∧ (fwInstall q s).st.mem = s.mem ∧ (fwInstall q s).st.vot = s.vot ∧ (fwInstall q s).st.rng = s.rng ∧
    (fwInstall q s).st.cyc = s.cyc ∧ (fwInstall q s).st.cls = s.cls ∧ (fwInstall q s).st.col = s.col ∧ KeepsUnits s (fwInstall q s).st := by
  unfold fwInstall
  dsimp only
  (repeat' split) <;> simp

@[simp] theorem fwTrial_frame (s : State) :
    (fwTrial s).st.otp = s.otp ∧ (fwTrial s).st.pending = s.pending ∧ (fwTrial s).st.draws = s.draws := by
  unfold fwTrial
  dsimp only
  (repeat' split) <;> simp

@[simp] theorem fwCommit_frame (s : State) :
    KeepsRest s (fwCommit s).st ∧ (fwCommit s).st.mem = s.mem ∧ (fwCommit s).st.vot = s.vot ∧ (fwCommit s).st.rng = s.rng ∧
    (fwCommit s).st.cyc = s.cyc ∧ (fwCommit s).st.cls = s.cls ∧ (fwCommit s).st.col = s.col ∧ KeepsUnits s (fwCommit s).st := by
  unfold fwCommit
  dsimp only
  (repeat' split) <;> simp

@[simp] theorem fwRollback_frame (s : State) :
    (fwRollback s).st.otp = s.otp ∧ (fwRollback s).st.pending = s.pending ∧ (fwRollback s).st.draws = s.draws := by
  unfold fwRollback
  split <;> simp

@[simp] theorem laneRelease_frame q (s : State) :
    KeepsRest s (laneRelease q s).st ∧ (laneRelease q s).st.mem = s.mem ∧ (laneRelease q s).st.rng = s.rng ∧
    (laneRelease q s).st.cyc = s.cyc ∧ (laneRelease q s).st.cls = s.cls ∧ (laneRelease q s).st.trust = s.trust ∧
    (laneRelease q s).st.col = s.col ∧ KeepsReports s (laneRelease q s).st ∧ KeepsUnits s (laneRelease q s).st := by
  unfold laneRelease
  dsimp only
  (repeat' split) <;> simp

@[simp] theorem onlineChange_frame q (s : State) :
    KeepsRest s (onlineChange q s).st ∧ (onlineChange q s).st.mem = s.mem ∧ (onlineChange q s).st.vot = s.vot ∧
    (onlineChange q s).st.rng = s.rng ∧ (onlineChange q s).st.cls = s.cls ∧ (onlineChange q s).st.trust = s.trust ∧
    (onlineChange q s).st.col = s.col ∧ KeepsUnits s (onlineChange q s).st := by
  unfold onlineChange
  dsimp only
  (repeat' split) <;> simp

@[simp] theorem ucalWrite_frame q (s : State) :
    KeepsRest s (ucalWrite q s).st ∧ (ucalWrite q s).st.mem = s.mem ∧ (ucalWrite q s).st.vot = s.vot ∧ (ucalWrite q s).st.rng = s.rng ∧
    (ucalWrite q s).st.cyc = s.cyc ∧ (ucalWrite q s).st.cls = s.cls ∧ (ucalWrite q s).st.col = s.col ∧ KeepsUnits s (ucalWrite q s).st := by
  unfold ucalWrite
  dsimp only
  (repeat' split) <;> simp

@[simp] theorem restoreFactory_frame (s : State) :
    KeepsRest s (restoreFactory s).st ∧ (restoreFactory s).st.mem = s.mem ∧ (restoreFactory s).st.vot = s.vot ∧
    (restoreFactory s).st.rng = s.rng ∧ (restoreFactory s).st.cyc = s.cyc ∧ (restoreFactory s).st.cls = s.cls ∧
    (restoreFactory s).st.col = s.col ∧ KeepsUnits s (restoreFactory s).st := by
  unfold restoreFactory
  split <;> simp

@[simp] theorem failTag_frame r tag status notify (s : State) :
    KeepsRest s (failTag r tag status notify s) ∧ (failTag r tag status notify s).vot = s.vot ∧ (failTag r tag status notify s).cyc = s.cyc ∧
    (failTag r tag status notify s).cls = s.cls ∧ (failTag r tag status notify s).trust = s.trust ∧
    (failTag r tag status notify s).col = s.col ∧ (failTag r tag status notify s).rcd = s.rcd ∧ (failTag r tag status notify s).flt = s.flt ∧
    KeepsUnits s (failTag r tag status notify s) := by
  simp [failTag]

@[simp] theorem fetchFailed_frame r idx d status offset (s : State) :
    KeepsRest s (fetchFailed r idx d status offset s) ∧ (fetchFailed r idx d status offset s).vot = s.vot ∧
    (fetchFailed r idx d status offset s).cyc = s.cyc ∧ (fetchFailed r idx d status offset s).cls = s.cls ∧
    (fetchFailed r idx d status offset s).trust = s.trust ∧ (fetchFailed r idx d status offset s).col = s.col ∧
    KeepsUnits s (fetchFailed r idx d status offset s) := by
  simp [fetchFailed]

@[simp] theorem captured_frame d (s : State) :
    KeepsRest s (captured d s).2 ∧ (captured d s).2.mem = s.mem ∧ (captured d s).2.vot = s.vot ∧ (captured d s).2.rng = s.rng ∧
    (captured d s).2.cyc = s.cyc ∧ (captured d s).2.cls = s.cls ∧ (captured d s).2.trust = s.trust ∧ KeepsReports s (captured d s).2 ∧
    KeepsUnits s (captured d s).2 := by
  unfold captured
  dsimp only
  (repeat' split) <;> simp

@[simp] theorem startOp_frame r d (s : State) :
    KeepsRest s (startOp r d s) ∧ (startOp r d s).mem = s.mem ∧ (startOp r d s).vot = s.vot ∧ (startOp r d s).cyc = s.cyc ∧
    (startOp r d s).cls = s.cls ∧ (startOp r d s).trust = s.trust ∧ KeepsReports s (startOp r d s) ∧ KeepsUnits s (startOp r d s) := by
  simp [startOp]

@[simp] theorem fetchFrom_frame r (s : State) :
    KeepsRest s (fetchFrom r s) ∧ (fetchFrom r s).vot = s.vot ∧ (fetchFrom r s).cyc = s.cyc ∧ (fetchFrom r s).cls = s.cls ∧
    (fetchFrom r s).trust = s.trust ∧ KeepsUnits s (fetchFrom r s) := by
  unfold fetchFrom
  dsimp only
  (repeat' split) <;> simp

@[simp] theorem descriptorFetch_frame e (s : State) :
    KeepsRest s (descriptorFetch e s) ∧ (descriptorFetch e s).vot = s.vot ∧ (descriptorFetch e s).cyc = s.cyc ∧
    (descriptorFetch e s).cls = s.cls ∧ (descriptorFetch e s).trust = s.trust ∧ KeepsUnits s (descriptorFetch e s) := by
  unfold descriptorFetch
  split <;> simp

@[simp] theorem restartFaultItem_frame made (s : State) :
    KeepsRest s (restartFaultItem made s) ∧ KeepsCore s (restartFaultItem made s) ∧ (restartFaultItem made s).rcd = s.rcd ∧
    (restartFaultItem made s).lanes = s.lanes ∧ KeepsUnits s (restartFaultItem made s) := by
  simp [restartFaultItem]

@[simp] theorem summariseReports_frame (s : State) :
    KeepsRest s (summariseReports s) ∧ (summariseReports s).mem = s.mem ∧ (summariseReports s).rng = s.rng ∧
    (summariseReports s).cyc = s.cyc ∧ (summariseReports s).cls = s.cls ∧ (summariseReports s).trust = s.trust ∧
    (summariseReports s).col = s.col ∧ KeepsUnits s (summariseReports s) := by
  simp [summariseReports]

@[simp] theorem releaseHeld_frame (s : State) h :
    KeepsRest s (releaseHeld s h) ∧ (releaseHeld s h).vot = s.vot ∧ (releaseHeld s h).cyc = s.cyc ∧ (releaseHeld s h).cls = s.cls ∧
    (releaseHeld s h).trust = s.trust ∧ (releaseHeld s h).tim = s.tim ∧ (releaseHeld s h).chk = s.chk ∧ (releaseHeld s h).mot = s.mot ∧
    (releaseHeld s h).pwr = s.pwr ∧ (releaseHeld s h).cross = s.cross ∧ (releaseHeld s h).regs = s.regs := by
  unfold releaseHeld
  dsimp only
  (repeat' split) <;> simp

@[simp] theorem timedReleases_frame (s : State) :
    KeepsRest s (timedReleases s) ∧ (timedReleases s).vot = s.vot ∧ (timedReleases s).cyc = s.cyc ∧ (timedReleases s).cls = s.cls ∧
    (timedReleases s).trust = s.trust ∧ (timedReleases s).tim = s.tim ∧ (timedReleases s).chk = s.chk ∧ (timedReleases s).mot = s.mot ∧
    (timedReleases s).pwr = s.pwr ∧ (timedReleases s).cross = s.cross ∧ (timedReleases s).regs = s.regs := by
  simp [timedReleases]

@[simp] theorem upsetBytes_frame us (s : State) :
    KeepsRest s (upsetBytes us s) ∧ KeepsCore s (upsetBytes us s) ∧ (upsetBytes us s).rcd = s.rcd ∧ (upsetBytes us s).flt = s.flt ∧
    KeepsUnits s (upsetBytes us s) := by
  simp [upsetBytes]

@[simp] theorem scrubLane_frame (s : State) l :
    KeepsRest s (scrubLane s l) ∧ (scrubLane s l).col = s.col ∧ KeepsUnits s (scrubLane s l) := by
  unfold scrubLane
  dsimp only
  (repeat' split) <;> simp

@[simp] theorem anchorAtTick_frame (s : State) :
    KeepsRest s (anchorAtTick s) ∧ KeepsCore s (anchorAtTick s) ∧ (anchorAtTick s).flt = s.flt ∧ (anchorAtTick s).lanes = s.lanes ∧
    KeepsUnits s (anchorAtTick s) := by
  simp [anchorAtTick]

@[simp] theorem tickReleases_frame inp (s : State) :
    (tickReleases inp s).1.otp = s.otp ∧ (tickReleases inp s).1.pending = s.pending ∧ (tickReleases inp s).1.draws = s.draws ∧
    (tickReleases inp s).1.cfg = s.cfg ∧ (tickReleases inp s).1.tim = s.tim ∧ (tickReleases inp s).1.pwr = s.pwr ∧
    (tickReleases inp s).1.cross = s.cross ∧ (tickReleases inp s).1.regs = s.regs := by
  simp [tickReleases]

@[simp] theorem tickInputs_frame rels fault (s : State) :
    KeepsRest s (tickInputs rels fault s) ∧ (tickInputs rels fault s).mem = s.mem ∧ (tickInputs rels fault s).vot = s.vot ∧
    (tickInputs rels fault s).rng = s.rng ∧ (tickInputs rels fault s).cls = s.cls ∧ (tickInputs rels fault s).trust = s.trust ∧
    (tickInputs rels fault s).col = s.col ∧ (tickInputs rels fault s).tim = s.tim ∧ (tickInputs rels fault s).stra = s.stra ∧
    (tickInputs rels fault s).eth = s.eth ∧ (tickInputs rels fault s).mvb = s.mvb ∧ (tickInputs rels fault s).mot = s.mot ∧
    (tickInputs rels fault s).ana = s.ana ∧ (tickInputs rels fault s).fld = s.fld ∧ (tickInputs rels fault s).pwr = s.pwr ∧
    (tickInputs rels fault s).cross = s.cross ∧ (tickInputs rels fault s).regs = s.regs := by
  unfold tickInputs
  split <;> simp

@[simp] theorem tickEvent_frame inp (s : State) :
    (tickEvent inp s).otp = s.otp ∧ (tickEvent inp s).pending = s.pending ∧ (tickEvent inp s).draws = s.draws ∧
    (tickEvent inp s).cfg = s.cfg ∧ (tickEvent inp s).tim = s.tim ∧ (tickEvent inp s).cross = s.cross ∧ (tickEvent inp s).regs = s.regs := by
  simp [tickEvent]

@[simp] theorem parkedTick_frame (s : State) :
    KeepsRest s (parkedTick s) ∧ KeepsCore s (parkedTick s) ∧ KeepsReports s (parkedTick s) ∧ (parkedTick s).tim = s.tim ∧
    (parkedTick s).eth = s.eth ∧ (parkedTick s).mvb = s.mvb ∧ (parkedTick s).chk = s.chk ∧ (parkedTick s).mot = s.mot ∧
    (parkedTick s).ana = s.ana ∧ (parkedTick s).fld = s.fld ∧ (parkedTick s).cross = s.cross ∧ (parkedTick s).regs = s.regs := by
  simp [parkedTick]

@[simp] theorem tickHere_frame inp (s : State) :
    (tickHere inp s).otp = s.otp ∧ (tickHere inp s).pending = s.pending ∧ (tickHere inp s).draws = s.draws ∧ (tickHere inp s).cfg = s.cfg ∧
    (tickHere inp s).tim = s.tim ∧ (tickHere inp s).cross = s.cross ∧ (tickHere inp s).regs = s.regs := by
  simp [tickHere]

@[simp] theorem countToBoundary_frame (s : State) :
    KeepsRest s (countToBoundary s) ∧ KeepsCore s (countToBoundary s) ∧ KeepsReports s (countToBoundary s) ∧
    (countToBoundary s).stra = s.stra ∧ (countToBoundary s).eth = s.eth ∧ (countToBoundary s).mvb = s.mvb ∧ (countToBoundary s).chk = s.chk ∧
    (countToBoundary s).mot = s.mot ∧ (countToBoundary s).ana = s.ana ∧ (countToBoundary s).fld = s.fld ∧ (countToBoundary s).pwr = s.pwr ∧
    (countToBoundary s).cross = s.cross ∧ (countToBoundary s).regs = s.regs := by
  unfold countToBoundary
  exact ⟨⟨rfl, rfl, rfl, rfl, rfl⟩, ⟨rfl, rfl, rfl, rfl, rfl, rfl, rfl⟩, ⟨rfl, rfl, rfl⟩, rfl, rfl, rfl, rfl, rfl, rfl, rfl, rfl, rfl, rfl⟩

@[simp] theorem afterStep_frame (before : State) inp (s : State) :
    (afterStep before inp s).otp = s.otp ∧ (afterStep before inp s).pending = s.pending ∧ (afterStep before inp s).draws = s.draws ∧
    (afterStep before inp s).cfg = s.cfg ∧ (afterStep before inp s).cross = s.cross ∧ (afterStep before inp s).regs = s.regs := by
  simp [afterStep]

@[simp] theorem idleCycle_frame (s : State) :
    KeepsRest s (idleCycle s) ∧ KeepsCore s (idleCycle s) ∧ KeepsReports s (idleCycle s) ∧ (idleCycle s).stra = s.stra ∧
    (idleCycle s).eth = s.eth ∧ (idleCycle s).mvb = s.mvb ∧ (idleCycle s).chk = s.chk ∧ (idleCycle s).mot = s.mot ∧
    (idleCycle s).ana = s.ana ∧ (idleCycle s).fld = s.fld ∧ (idleCycle s).pwr = s.pwr ∧ (idleCycle s).cross = s.cross ∧
    (idleCycle s).regs = s.regs := by
  simp [idleCycle]

end Sys2Proof.Machine
end

