-- ==== Sys2Proof/Laws/Bodies.lean ====
section
/-!
SUPPORT. Operations that change nothing of the lanes but their pending interrupt sources (R85).
-/

namespace Sys2Proof.Machine

@[simp] theorem ite_body (c : Prop) [Decidable c] (x y : Vector Lane 3) :
    (if c then x else y).map Lane.body = if c then x.map Lane.body else y.map Lane.body := by split <;> rfl

@[simp] theorem foldl_body {α : Type} (g : State → α → State) (h : ∀ s a, (g s a).lanes.map Lane.body = s.lanes.map Lane.body) (l : List α)
    (s : State) : (l.foldl g s).lanes.map Lane.body = s.lanes.map Lane.body := foldl_keeps (fun u => u.lanes.map Lane.body) g h l s

@[simp] theorem Lane.body_raise (L : Lane) (b : Nat) : (L.raise b).body = L.body := rfl

@[simp] theorem raiseAll_body b (s : State) : (raiseAll b s).lanes.map Lane.body = s.lanes.map Lane.body := by
  show (s.lanes.map (fun L => L.raise b)).map Lane.body = _
  rw [Vector.map_map]
  rfl

@[simp] theorem map_body_vset (v : Vector Lane 3) (l : LaneId) (L : Lane) (h : L.body = (vget v l).body) :
    (vset v l L).map Lane.body = v.map Lane.body := by
  apply Vector.ext
  intro i hi
  show ((v.set l.val L l.isLt).map Lane.body)[i] = _
  rw [Vector.getElem_map, Vector.getElem_set, Vector.getElem_map]
  split
  · rename_i e
    subst e
    exact h
  · rfl

@[simp] theorem ringDone_body r (s : State) : (ringDone r s).lanes.map Lane.body = s.lanes.map Lane.body := by
  unfold ringDone
  split
  · exact map_body_vset _ _ _ rfl
  · split <;> simp

@[simp] theorem reportOnly_body code origin data (s : State) :
    (reportOnly code origin data s).lanes.map Lane.body = s.lanes.map Lane.body := by
  simp [reportOnly]

@[simp] theorem report_body code origin data (s : State) :
    (report code origin data s).lanes.map Lane.body = s.lanes.map Lane.body := by
  simp [report]

@[simp] theorem rep_body code (s : State) :
    (rep code s).lanes.map Lane.body = s.lanes.map Lane.body := by
  simp [rep]

@[simp] theorem repLane_body code l (s : State) :
    (repLane code l s).lanes.map Lane.body = s.lanes.map Lane.body := by
  simp [repLane]

@[simp] theorem repRing_body code engine (s : State) :
    (repRing code engine s).lanes.map Lane.body = s.lanes.map Lane.body := by
  simp [repRing]

@[simp] theorem ringComplete_body r tag status ra rb notify (s : State) :
    (ringComplete r tag status ra rb notify s).lanes.map Lane.body = s.lanes.map Lane.body := by
  simp [ringComplete]

@[simp] theorem abortHeld_body r (s : State) :
    (abortHeld r s).lanes.map Lane.body = s.lanes.map Lane.body := by
  simp [abortHeld]

@[simp] theorem drainRing_body r (s : State) :
    (drainRing r s).lanes.map Lane.body = s.lanes.map Lane.body := by
  simp [drainRing]

@[simp] theorem setRole_body r (s : State) :
    (setRole r s).lanes.map Lane.body = s.lanes.map Lane.body := by
  simp [setRole]

@[simp] theorem configFault_body cause (s : State) :
    (configFault cause s).lanes.map Lane.body = s.lanes.map Lane.body := by
  simp [configFault]

@[simp] theorem withdrawClaim_body (s : State) :
    (withdrawClaim s).lanes.map Lane.body = s.lanes.map Lane.body := by
  simp [withdrawClaim]

@[simp] theorem abortReint_body (s : State) :
    (abortReint s).lanes.map Lane.body = s.lanes.map Lane.body := by
  simp [abortReint]

@[simp] theorem postedError_body p entry off be kind (s : State) :
    (postedError p entry off be kind s).lanes.map Lane.body = s.lanes.map Lane.body := by
  simp [postedError]

@[simp] theorem failPosted_body kind (s : State) :
    (failPosted kind s).lanes.map Lane.body = s.lanes.map Lane.body := by
  simp [failPosted]

@[simp] theorem followEnable_body (s : State) :
    (followEnable s).lanes.map Lane.body = s.lanes.map Lane.body := by
  simp [followEnable]

@[simp] theorem stageCycle_body (s : State) :
    (stageCycle s).lanes.map Lane.body = s.lanes.map Lane.body := by
  simp [stageCycle]

@[simp] theorem runOp_body r tag opcode f (s : State) (hf : ∀ d t, (f d t).lanes.map Lane.body = (t : State).lanes.map Lane.body) :
    (runOp r tag opcode f s).lanes.map Lane.body = s.lanes.map Lane.body := by
  unfold runOp
  (repeat' split) <;> simp [hf]

@[simp] theorem runTimed_body r d ra rb f (s : State) (hf : ∀ t, (f t).lanes.map Lane.body = (t : State).lanes.map Lane.body) :
    (runTimed r d ra rb f s).lanes.map Lane.body = s.lanes.map Lane.body := by
  unfold runTimed
  (repeat' split) <;> simp [hf]

@[simp] theorem endFlush_body ok (s : State) :
    (endFlush ok s).lanes.map Lane.body = s.lanes.map Lane.body := by
  simp [endFlush]

@[simp] theorem startRecorder_body cause (s : State) :
    (startRecorder cause s).lanes.map Lane.body = s.lanes.map Lane.body := by
  simp [startRecorder]

@[simp] theorem reportUnreadable_body rs (s : State) :
    (reportUnreadable rs s).lanes.map Lane.body = s.lanes.map Lane.body := by
  simp [reportUnreadable]

@[simp] theorem recWriteOp_body r d (s : State) :
    (recWriteOp r d s).lanes.map Lane.body = s.lanes.map Lane.body := by
  simp [recWriteOp]

@[simp] theorem recReadOp_body r bad d (s : State) :
    (recReadOp r bad d s).lanes.map Lane.body = s.lanes.map Lane.body := by
  unfold recReadOp
  dsimp only
  (repeat' split) <;> simp

@[simp] theorem setTimState_body t (s : State) :
    (setTimState t s).lanes.map Lane.body = s.lanes.map Lane.body := by
  simp [setTimState]

@[simp] theorem acceptMeasurement_body ch theta (s : State) :
    (acceptMeasurement ch theta s).lanes.map Lane.body = s.lanes.map Lane.body := by
  simp [acceptMeasurement]

@[simp] theorem refuseMeasurement_body theta (s : State) :
    (refuseMeasurement theta s).lanes.map Lane.body = s.lanes.map Lane.body := by
  simp [refuseMeasurement]

@[simp] theorem applyStep_body theta (s : State) :
    (applyStep theta s).lanes.map Lane.body = s.lanes.map Lane.body := by
  simp [applyStep]

@[simp] theorem steppedMeasurement_body theta (s : State) :
    (steppedMeasurement theta s).1.lanes.map Lane.body = s.lanes.map Lane.body := by
  unfold steppedMeasurement
  dsimp only
  (repeat' split) <;> simp

@[simp] theorem measure_body ch theta (s : State) :
    (measure ch theta s).1.lanes.map Lane.body = s.lanes.map Lane.body := by
  unfold measure
  dsimp only
  (repeat' split) <;> simp

@[simp] theorem enterHoldover_body (s : State) :
    (enterHoldover s).lanes.map Lane.body = s.lanes.map Lane.body := by
  simp [enterHoldover]

@[simp] theorem becomeMaster_body (s : State) :
    (becomeMaster s).lanes.map Lane.body = s.lanes.map Lane.body := by
  unfold becomeMaster
  split <;> simp

@[simp] theorem loseMaster_body (s : State) :
    (loseMaster s).lanes.map Lane.body = s.lanes.map Lane.body := by
  simp [loseMaster]

@[simp] theorem pushTxTs_body q ident ts (s : State) :
    (pushTxTs q ident ts s).1.lanes.map Lane.body = s.lanes.map Lane.body := by
  unfold pushTxTs
  dsimp only
  (repeat' split) <;> simp

@[simp] theorem failCal_body status (s : State) :
    (failCal status s).lanes.map Lane.body = s.lanes.map Lane.body := by
  unfold failCal
  split <;> simp

@[simp] theorem endCal_body c a b (s : State) :
    (endCal c a b s).lanes.map Lane.body = s.lanes.map Lane.body := by
  simp [endCal]

@[simp] theorem calMark_body input ts before (s : State) :
    (calMark input ts before s).lanes.map Lane.body = s.lanes.map Lane.body := by
  unfold calMark
  dsimp only
  (repeat' split) <;> simp

@[simp] theorem calEdge_body ts d (s : State) :
    (calEdge ts d s).lanes.map Lane.body = s.lanes.map Lane.body := by
  unfold calEdge
  dsimp only
  (repeat' split) <;> simp

@[simp] theorem calDisturbed_body status hit (s : State) :
    (calDisturbed status hit s).lanes.map Lane.body = s.lanes.map Lane.body := by
  unfold calDisturbed
  split <;> simp

@[simp] theorem calTimeout_body (s : State) :
    (calTimeout s).lanes.map Lane.body = s.lanes.map Lane.body := by
  unfold calTimeout
  (repeat' split) <;> simp

@[simp] theorem motCalRun_body r d (s : State) :
    (motCalRun r d s).lanes.map Lane.body = s.lanes.map Lane.body := by
  unfold motCalRun
  split <;> simp

@[simp] theorem deriveCount_body j e d (s : State) :
    (deriveCount j e d s).lanes.map Lane.body = s.lanes.map Lane.body := by
  unfold deriveCount
  dsimp only
  (repeat' split) <;> simp

@[simp] theorem deriveMark_body i c (s : State) :
    (deriveMark i c s).lanes.map Lane.body = s.lanes.map Lane.body := by
  simp [deriveMark]

@[simp] theorem decimatorReset_body src (s : State) :
    (decimatorReset src s).lanes.map Lane.body = s.lanes.map Lane.body := by
  simp [decimatorReset]

@[simp] theorem anaStep_body from_ upto (s : State) :
    (anaStep from_ upto s).lanes.map Lane.body = s.lanes.map Lane.body := by
  simp [anaStep]

@[simp] theorem auxSelOp_body r d (s : State) :
    (auxSelOp r d s).lanes.map Lane.body = s.lanes.map Lane.body := by
  simp [auxSelOp]

@[simp] theorem blockWrite_body c first raws (s : State) :
    (blockWrite c first raws s).lanes.map Lane.body = s.lanes.map Lane.body := by
  simp [blockWrite]

@[simp] theorem modulatorFault_body c begins (s : State) :
    (modulatorFault c begins s).lanes.map Lane.body = s.lanes.map Lane.body := by
  simp [modulatorFault]

@[simp] theorem coarseValue_body c v (s : State) :
    (coarseValue c v s).lanes.map Lane.body = s.lanes.map Lane.body := by
  simp [coarseValue]

@[simp] theorem coarseReadOp_body r values d (s : State) :
    (coarseReadOp r values d s).lanes.map Lane.body = s.lanes.map Lane.body := by
  simp [coarseReadOp]

@[simp] theorem anaRelease_body d (s : State) :
    (anaRelease d s).lanes.map Lane.body = s.lanes.map Lane.body := by
  unfold anaRelease
  split <;> simp

@[simp] theorem anaLoad_body hasCal (s : State) :
    (anaLoad hasCal s).lanes.map Lane.body = s.lanes.map Lane.body := by
  simp [anaLoad]

@[simp] theorem fldOutSet_body r d (s : State) :
    (fldOutSet r d s).lanes.map Lane.body = s.lanes.map Lane.body := by
  simp [fldOutSet]

@[simp] theorem repNum_body code n (s : State) :
    (repNum code n s).lanes.map Lane.body = s.lanes.map Lane.body := by
  simp [repNum]

@[simp] theorem overload_body n begins (s : State) :
    (overload n begins s).lanes.map Lane.body = s.lanes.map Lane.body := by
  simp [overload]

@[simp] theorem flagEdge_body code n was now f (s : State) :
    (flagEdge code n was now f s).lanes.map Lane.body = s.lanes.map Lane.body := by
  simp [flagEdge]

@[simp] theorem openWire_body n onState reading (s : State) :
    (openWire n onState reading s).lanes.map Lane.body = s.lanes.map Lane.body := by
  simp [openWire]

@[simp] theorem elementFault_body v (s : State) :
    (elementFault v s).lanes.map Lane.body = s.lanes.map Lane.body := by
  simp [elementFault]

@[simp] theorem columnTest_body v l closedShown openShown current (s : State) :
    (columnTest v l closedShown openShown current s).lanes.map Lane.body = s.lanes.map Lane.body := by
  simp [columnTest]

@[simp] theorem readbackFault_body v sense (s : State) :
    (readbackFault v sense s).lanes.map Lane.body = s.lanes.map Lane.body := by
  simp [readbackFault]

@[simp] theorem checkElements_body low high (s : State) :
    (checkElements low high s).lanes.map Lane.body = s.lanes.map Lane.body := by
  simp [checkElements]

@[simp] theorem evalMonitor_body dt (s : State) f :
    (evalMonitor dt s f).lanes.map Lane.body = s.lanes.map Lane.body := by
  unfold evalMonitor
  dsimp only
  (repeat' split) <;> simp

@[simp] theorem evalMonitors_body (s : State) :
    (evalMonitors s).lanes.map Lane.body = s.lanes.map Lane.body := by
  simp [evalMonitors]

@[simp] theorem fieldSample_body sense (s : State) :
    (fieldSample sense s).lanes.map Lane.body = s.lanes.map Lane.body := by
  unfold fieldSample
  dsimp only
  (repeat' split) <;> simp

@[simp] theorem fieldAtTick_body currents supplies voCurrents low high (s : State) :
    (fieldAtTick currents supplies voCurrents low high s).lanes.map Lane.body = s.lanes.map Lane.body := by
  simp [fieldAtTick]

@[simp] theorem countFault_body l code t start (s : State) :
    (countFault l code t start s).lanes.map Lane.body = s.lanes.map Lane.body := by
  simp [countFault]

@[simp] theorem enableRing_body r (s : State) :
    (enableRing r s).lanes.map Lane.body = s.lanes.map Lane.body := by
  simp [enableRing]

@[simp] theorem disableRing_body r (s : State) :
    (disableRing r s).lanes.map Lane.body = s.lanes.map Lane.body := by
  simp [disableRing]

@[simp] theorem writeSlot_body r off bs (s : State) :
    (writeSlot r off bs s).lanes.map Lane.body = s.lanes.map Lane.body := by
  simp [writeSlot]

@[simp] theorem descriptorWrite_body off bs (s : State) :
    (descriptorWrite off bs s).lanes.map Lane.body = s.lanes.map Lane.body := by
  unfold descriptorWrite
  split <;> simp

@[simp] theorem doorbell_body r prod (s : State) :
    (doorbell r prod s).lanes.map Lane.body = s.lanes.map Lane.body := by
  simp [doorbell]

@[simp] theorem writeHead_body r head (s : State) :
    (writeHead r head s).lanes.map Lane.body = s.lanes.map Lane.body := by
  simp [writeHead]

@[simp] theorem stallRing_body r (s : State) :
    (stallRing r s).lanes.map Lane.body = s.lanes.map Lane.body := by
  simp [stallRing]

@[simp] theorem completeOp_body r tag (s : State) :
    (completeOp r tag s).lanes.map Lane.body = s.lanes.map Lane.body := by
  unfold completeOp
  dsimp only
  (repeat' split) <;> simp

@[simp] theorem engineBudgets_body busyUs (s : State) :
    (engineBudgets busyUs s).lanes.map Lane.body = s.lanes.map Lane.body := by
  simp [engineBudgets]

@[simp] theorem voterSelfTest_body ok (s : State) :
    (voterSelfTest ok s).lanes.map Lane.body = s.lanes.map Lane.body := by
  unfold voterSelfTest
  dsimp only
  (repeat' split) <;> simp

@[simp] theorem copyFailed_body n isB cls (s : State) :
    (copyFailed n isB cls s).lanes.map Lane.body = s.lanes.map Lane.body := by
  unfold copyFailed
  dsimp only
  (repeat' split) <;> simp

@[simp] theorem checkCopy_body role n c isB a (s : State) :
    (checkCopy role n c isB a s).lanes.map Lane.body = s.lanes.map Lane.body := by
  unfold checkCopy
  split <;> simp

@[simp] theorem arriveFrom_body role item a (s : State) :
    (arriveFrom role item a s).lanes.map Lane.body = s.lanes.map Lane.body := by
  unfold arriveFrom
  split <;> simp

@[simp] theorem rejectCopies_body x0 (x1 : State) :
    (rejectCopies x0 x1).lanes.map Lane.body = x1.lanes.map Lane.body := by
  induction x0 generalizing x1 with
  | zero => simp [rejectCopies]
  | succ n ih => simp [rejectCopies, ih]

@[simp] theorem evaluateReceiver_body (s : State) e :
    (evaluateReceiver s e).lanes.map Lane.body = s.lanes.map Lane.body := by
  unfold evaluateReceiver
  dsimp only
  (repeat' split) <;> simp

@[simp] theorem evaluateReceivers_body (s : State) :
    (evaluateReceivers s).lanes.map Lane.body = s.lanes.map Lane.body := by
  simp [evaluateReceivers]

@[simp] theorem repStr_body ch offset (s : State) :
    (repStr ch offset s).lanes.map Lane.body = s.lanes.map Lane.body := by
  simp [repStr]

@[simp] theorem wrapPort_body ch p heal (s : State) :
    (wrapPort ch p heal s).lanes.map Lane.body = s.lanes.map Lane.body := by
  simp [wrapPort]

@[simp] theorem unwrapPort_body ch p (s : State) :
    (unwrapPort ch p s).lanes.map Lane.body = s.lanes.map Lane.body := by
  simp [unwrapPort]

@[simp] theorem closeNowReceived_body ch p consecutive (s : State) :
    (closeNowReceived ch p consecutive s).lanes.map Lane.body = s.lanes.map Lane.body := by
  simp [closeNowReceived]

@[simp] theorem portFailed_body ch p cause heal (s : State) :
    (portFailed ch p cause heal s).lanes.map Lane.body = s.lanes.map Lane.body := by
  simp [portFailed]

@[simp] theorem eyeMonitor_body ch p h w boost taps (s : State) :
    (eyeMonitor ch p h w boost taps s).lanes.map Lane.body = s.lanes.map Lane.body := by
  simp [eyeMonitor]

@[simp] theorem portEnWrite_body ch p en (s : State) :
    (portEnWrite ch p en s).lanes.map Lane.body = s.lanes.map Lane.body := by
  simp [portEnWrite]

@[simp] theorem forceWrapWrite_body ch p v (s : State) :
    (forceWrapWrite ch p v s).lanes.map Lane.body = s.lanes.map Lane.body := by
  simp [forceWrapWrite]

@[simp] theorem dlyRspReceived_body ch p phase turn (s : State) :
    (dlyRspReceived ch p phase turn s).lanes.map Lane.body = s.lanes.map Lane.body := by
  unfold dlyRspReceived
  split <;> simp

@[simp] theorem checkFailed_body ch p n f (s : State) :
    (checkFailed ch p n f s).lanes.map Lane.body = s.lanes.map Lane.body := by
  simp [checkFailed]

@[simp] theorem forward_body ch p f abt (s : State) :
    (forward ch p f abt s).lanes.map Lane.body = s.lanes.map Lane.body := by
  simp [forward]

@[simp] theorem deliverFrame_body ch slot d (s : State) :
    (deliverFrame ch slot d s).lanes.map Lane.body = s.lanes.map Lane.body := by
  unfold deliverFrame
  dsimp only
  (repeat' split) <;> simp

@[simp] theorem deliver_body ch p phase f (s : State) :
    (deliver ch p phase f s).lanes.map Lane.body = s.lanes.map Lane.body := by
  simp [deliver]

@[simp] theorem goodFrame_body ch p phase f (s : State) :
    (goodFrame ch p phase f s).lanes.map Lane.body = s.lanes.map Lane.body := by
  simp [goodFrame]

@[simp] theorem frameReceived_body ch p phase f (s : State) :
    (frameReceived ch p phase f s).lanes.map Lane.body = s.lanes.map Lane.body := by
  unfold frameReceived
  split <;> simp

@[simp] theorem bezelHit_body ch (s : State) :
    (bezelHit ch s).lanes.map Lane.body = s.lanes.map Lane.body := by
  simp [bezelHit]

@[simp] theorem bezelTruncation_body ch (s : State) :
    (bezelTruncation ch s).lanes.map Lane.body = s.lanes.map Lane.body := by
  unfold bezelTruncation
  split <;> simp

@[simp] theorem missOwn_body ch (s : State) :
    (missOwn ch s).lanes.map Lane.body = s.lanes.map Lane.body := by
  simp [missOwn]

@[simp] theorem offerOwn_body ch e slot kind payload mode phase bz since (s : State) :
    (offerOwn ch e slot kind payload mode phase bz since s).lanes.map Lane.body = s.lanes.map Lane.body := by
  simp [offerOwn]

@[simp] theorem ownSlotSend_body ch slot phase bz since (s : State) :
    (ownSlotSend ch slot phase bz since s).lanes.map Lane.body = s.lanes.map Lane.body := by
  unfold ownSlotSend
  dsimp only
  (repeat' split) <;> simp

@[simp] theorem yieldMaster_body (s : State) :
    (yieldMaster s).lanes.map Lane.body = s.lanes.map Lane.body := by
  simp [yieldMaster]

@[simp] theorem refInState_body f (s : State) :
    (refInState f s).lanes.map Lane.body = s.lanes.map Lane.body := by
  unfold refInState
  split <;> simp

@[simp] theorem refReceived_body ch d (s : State) :
    (refReceived ch d s).lanes.map Lane.body = s.lanes.map Lane.body := by
  unfold refReceived
  split <;> simp

@[simp] theorem takeInbox_body ch kind f (s : State) (hf : ∀ d t, (f d t).lanes.map Lane.body = (t : State).lanes.map Lane.body) :
    (takeInbox ch kind f s).lanes.map Lane.body = s.lanes.map Lane.body := by
  unfold takeInbox
  (repeat' split) <;> simp [hf]

@[simp] theorem coldReceived_body d (s : State) :
    (coldReceived d s).lanes.map Lane.body = s.lanes.map Lane.body := by
  unfold coldReceived
  split <;> simp

@[simp] theorem listenExpiry_body (s : State) :
    (listenExpiry s).lanes.map Lane.body = s.lanes.map Lane.body := by
  simp [listenExpiry]

@[simp] theorem takeMaster_body (s : State) :
    (takeMaster s).lanes.map Lane.body = s.lanes.map Lane.body := by
  simp [takeMaster]

@[simp] theorem coldstartComplete_body (s : State) :
    (coldstartComplete s).lanes.map Lane.body = s.lanes.map Lane.body := by
  simp [coldstartComplete]

@[simp] theorem masterTakeover_body (s : State) :
    (masterTakeover s).lanes.map Lane.body = s.lanes.map Lane.body := by
  simp [masterTakeover]

@[simp] theorem modeSwitch_body (s : State) :
    (modeSwitch s).lanes.map Lane.body = s.lanes.map Lane.body := by
  simp [modeSwitch]

@[simp] theorem silence_body cause (s : State) :
    (silence cause s).lanes.map Lane.body = s.lanes.map Lane.body := by
  simp [silence]

@[simp] theorem txEnWrite_body v (s : State) :
    (txEnWrite v s).lanes.map Lane.body = s.lanes.map Lane.body := by
  simp [txEnWrite]

@[simp] theorem nodeResume_body (s : State) :
    (nodeResume s).lanes.map Lane.body = s.lanes.map Lane.body := by
  unfold nodeResume
  split <;> simp

@[simp] theorem handleRequest_body mode (s : State) :
    (handleRequest mode s).lanes.map Lane.body = s.lanes.map Lane.body := by
  simp [handleRequest]

@[simp] theorem modeFrameReceived_body (s : State) :
    (modeFrameReceived s).lanes.map Lane.body = s.lanes.map Lane.body := by
  unfold modeFrameReceived
  split <;> simp

@[simp] theorem ownRequest_body q (s : State) :
    (ownRequest q s).lanes.map Lane.body = s.lanes.map Lane.body := by
  simp [ownRequest]

@[simp] theorem strModeReqOp_body r d (s : State) :
    (strModeReqOp r d s).lanes.map Lane.body = s.lanes.map Lane.body := by
  simp [strModeReqOp]

@[simp] theorem modeReqAnswer_body (s : State) :
    (modeReqAnswer s).lanes.map Lane.body = s.lanes.map Lane.body := by
  unfold modeReqAnswer
  dsimp only
  (repeat' split) <;> simp

@[simp] theorem strSlotWriteOp_body r d (s : State) :
    (strSlotWriteOp r d s).lanes.map Lane.body = s.lanes.map Lane.body := by
  simp [strSlotWriteOp]

@[simp] theorem refMeasurement_body (s : State) :
    (refMeasurement s).1.lanes.map Lane.body = s.lanes.map Lane.body := by
  unfold refMeasurement
  dsimp only
  (repeat' split) <;> simp

@[simp] theorem setPtpState_body q st (s : State) :
    (setPtpState q st s).lanes.map Lane.body = s.lanes.map Lane.body := by
  simp [setPtpState]

@[simp] theorem ptpRoleChanged_body q (s : State) :
    (ptpRoleChanged q s).lanes.map Lane.body = s.lanes.map Lane.body := by
  unfold ptpRoleChanged
  split <;> simp

@[simp] theorem ethOverflow_body q (s : State) :
    (ethOverflow q s).lanes.map Lane.body = s.lanes.map Lane.body := by
  simp [ethOverflow]

@[simp] theorem pdArrival_body q phase b src seq etb op payload (s : State) :
    (pdArrival q phase b src seq etb op payload s).lanes.map Lane.body = s.lanes.map Lane.body := by
  simp [pdArrival]

@[simp] theorem acceptFrame_body q full f (s : State) (hf : ∀ t, (f t).lanes.map Lane.body = (t : State).lanes.map Lane.body) :
    (acceptFrame q full f s).lanes.map Lane.body = s.lanes.map Lane.body := by
  unfold acceptFrame
  (repeat' split) <;> simp [hf]

@[simp] theorem ethFrameReceived_body q phase full f (s : State) :
    (ethFrameReceived q phase full f s).lanes.map Lane.body = s.lanes.map Lane.body := by
  unfold ethFrameReceived
  (repeat' split) <;> simp

@[simp] theorem ptpAnnounced_body q st steps (s : State) :
    (ptpAnnounced q st steps s).lanes.map Lane.body = s.lanes.map Lane.body := by
  unfold ptpAnnounced
  split <;> simp

@[simp] theorem ptpReceived_body q phase domain m (s : State) :
    (ptpReceived q phase domain m s).lanes.map Lane.body = s.lanes.map Lane.body := by
  unfold ptpReceived
  dsimp only
  (repeat' split) <;> simp

@[simp] theorem ptpSend_body q phase k (s : State) :
    (ptpSend q phase k s).lanes.map Lane.body = s.lanes.map Lane.body := by
  unfold ptpSend
  dsimp only
  (repeat' split) <;> simp

@[simp] theorem ptpFollowTime_body (s : State) :
    (ptpFollowTime s).lanes.map Lane.body = s.lanes.map Lane.body := by
  simp [ptpFollowTime]

@[simp] theorem ethSendOp_body r phase d0 (s : State) :
    (ethSendOp r phase d0 s).lanes.map Lane.body = s.lanes.map Lane.body := by
  simp [ethSendOp]

@[simp] theorem trdpPdPubOp_body r d0 (s : State) :
    (trdpPdPubOp r d0 s).lanes.map Lane.body = s.lanes.map Lane.body := by
  simp [trdpPdPubOp]

@[simp] theorem mvbSlaveFrame_body lineB phase f (s : State) :
    (mvbSlaveFrame lineB phase f s).lanes.map Lane.body = s.lanes.map Lane.body := by
  unfold mvbSlaveFrame
  (repeat' split) <;> simp

@[simp] theorem mvbPortWriteOp_body r d0 (s : State) :
    (mvbPortWriteOp r d0 s).lanes.map Lane.body = s.lanes.map Lane.body := by
  simp [mvbPortWriteOp]

@[simp] theorem issue_body n ps ans (s : State) :
    (issue n ps ans s).2.lanes.map Lane.body = s.lanes.map Lane.body := by
  simp [issue]

@[simp] theorem withRoute_body r d f (s : State) (hf : ∀ x t, (f x t).lanes.map Lane.body = (t : State).lanes.map Lane.body) :
    (withRoute r d f s).lanes.map Lane.body = s.lanes.map Lane.body := by
  unfold withRoute
  (repeat' split) <;> simp [hf]

@[simp] theorem colReadRun_body r ans d x (s : State) :
    (colReadRun r ans d x s).lanes.map Lane.body = s.lanes.map Lane.body := by
  unfold colReadRun
  dsimp only
  (repeat' split) <;> simp

@[simp] theorem colReadOp_body r ans d (s : State) :
    (colReadOp r ans d s).lanes.map Lane.body = s.lanes.map Lane.body := by
  simp [colReadOp]

@[simp] theorem colWriteOp_body r d (s : State) :
    (colWriteOp r d s).lanes.map Lane.body = s.lanes.map Lane.body := by
  simp [colWriteOp]

@[simp] theorem colWriteNpRun_body r ans d x (s : State) :
    (colWriteNpRun r ans d x s).lanes.map Lane.body = s.lanes.map Lane.body := by
  unfold colWriteNpRun
  dsimp only
  (repeat' split) <;> simp

@[simp] theorem colWriteNpRoute_body r ans d x (s : State) :
    (colWriteNpRoute r ans d x s).lanes.map Lane.body = s.lanes.map Lane.body := by
  simp [colWriteNpRoute]

@[simp] theorem colWriteNpOp_body r ans d (s : State) :
    (colWriteNpOp r ans d s).lanes.map Lane.body = s.lanes.map Lane.body := by
  simp [colWriteNpOp]

@[simp] theorem releaseColWrite_body r d (s : State) :
    (releaseColWrite r d s).lanes.map Lane.body = s.lanes.map Lane.body := by
  simp [releaseColWrite]

@[simp] theorem postedWriteIssue_body ans (s : State) :
    (postedWriteIssue ans s).lanes.map Lane.body = s.lanes.map Lane.body := by
  unfold postedWriteIssue
  dsimp only
  (repeat' split) <;> simp

@[simp] theorem holdTimeout_body op (s : State) :
    (holdTimeout op s).lanes.map Lane.body = s.lanes.map Lane.body := by
  unfold holdTimeout
  dsimp only
  (repeat' split) <;> simp

@[simp] theorem latestRead_body n ans (s : State) :
    (latestRead n ans s).lanes.map Lane.body = s.lanes.map Lane.body := by
  unfold latestRead
  dsimp only
  (repeat' split) <;> simp

@[simp] theorem privilegedOverrun_body n ans (s : State) :
    (privilegedOverrun n ans s).lanes.map Lane.body = s.lanes.map Lane.body := by
  unfold privilegedOverrun
  split <;> simp

@[simp] theorem latestWrite_body n ans (s : State) :
    (latestWrite n ans s).lanes.map Lane.body = s.lanes.map Lane.body := by
  unfold latestWrite
  dsimp only
  (repeat' split) <;> simp

@[simp] theorem inboundAccess_body addr data (s : State) :
    (inboundAccess addr data s).lanes.map Lane.body = s.lanes.map Lane.body := by
  unfold inboundAccess
  dsimp only
  (repeat' split) <;> simp

@[simp] theorem bpReset_body onBus (s : State) :
    (bpReset onBus s).lanes.map Lane.body = s.lanes.map Lane.body := by
  simp [bpReset]

@[simp] theorem onRingUnit_body r u d f (s : State) (hf : ∀ t, (f t).lanes.map Lane.body = (t : State).lanes.map Lane.body) :
    (onRingUnit r u d f s).lanes.map Lane.body = s.lanes.map Lane.body := by
  unfold onRingUnit
  (repeat' split) <;> simp [hf]

@[simp] theorem chkStripOp_body r u d (s : State) :
    (chkStripOp r u d s).lanes.map Lane.body = s.lanes.map Lane.body := by
  simp [chkStripOp]

@[simp] theorem noteLate_body (s : State) o :
    (noteLate s o).lanes.map Lane.body = s.lanes.map Lane.body := by
  unfold noteLate
  split <;> simp

@[simp] theorem reportLate_body dest (s : State) :
    (reportLate dest s).lanes.map Lane.body = s.lanes.map Lane.body := by
  simp [reportLate]

@[simp] theorem rejectContainer_body reason (s : State) :
    (rejectContainer reason s).lanes.map Lane.body = s.lanes.map Lane.body := by
  simp [rejectContainer]

@[simp] theorem yieldNow_body (s : State) :
    (yieldNow s).lanes.map Lane.body = s.lanes.map Lane.body := by
  simp [yieldNow]

@[simp] theorem ringCommit_body r k w (s : State) :
    (ringCommit r k w s).lanes.map Lane.body = s.lanes.map Lane.body := by
  unfold ringCommit
  split <;> simp

@[simp] theorem ucalRefused_body (s : State) :
    (ucalRefused s).lanes.map Lane.body = s.lanes.map Lane.body := by
  simp [ucalRefused]

@[simp] theorem ucalCommand_body store (s : State) :
    (ucalCommand store s).lanes.map Lane.body = s.lanes.map Lane.body := by
  simp [ucalCommand]

@[simp] theorem clearPin_body (s : State) :
    (clearPin s).lanes.map Lane.body = s.lanes.map Lane.body := by
  simp [clearPin]

@[simp] theorem strCommit_body ch a w (s : State) :
    (strCommit ch a w s).lanes.map Lane.body = s.lanes.map Lane.body := by
  simp [strCommit, onlyIf]

@[simp] theorem ethCommit_body a w (s : State) :
    (ethCommit a w s).lanes.map Lane.body = s.lanes.map Lane.body := by
  simp [ethCommit]

@[simp] theorem ownMemWrite_body a (s : State) :
    (ownMemWrite a s).lanes.map Lane.body = s.lanes.map Lane.body := by
  unfold ownMemWrite
  dsimp only
  (repeat' split) <;> simp

@[simp] theorem discardedInstance_body l t i (s : State) :
    (discardedInstance l t i s).lanes.map Lane.body = s.lanes.map Lane.body := by
  unfold discardedInstance
  split <;> simp

@[simp] theorem crossCheck_body t (s : State) :
    (crossCheck t s).lanes.map Lane.body = s.lanes.map Lane.body := by
  unfold crossCheck
  split <;> simp

@[simp] theorem voteEvent_body kind l k addr (s : State) :
    (voteEvent kind l k addr s).lanes.map Lane.body = s.lanes.map Lane.body := by
  simp [voteEvent]

@[simp] theorem swapItem_body (s : State) c :
    (swapItem s c).lanes.map Lane.body = s.lanes.map Lane.body := by
  simp [swapItem]

@[simp] theorem swapItems_body (s : State) :
    (swapItems s).lanes.map Lane.body = s.lanes.map Lane.body := by
  simp [swapItems]

@[simp] theorem countRelease_body (s : State) t :
    (countRelease s t).lanes.map Lane.body = s.lanes.map Lane.body := by
  unfold countRelease
  dsimp only
  (repeat' split) <;> simp

@[simp] theorem skipInstances_body first (s : State) :
    (skipInstances first s).lanes.map Lane.body = s.lanes.map Lane.body := by
  simp [skipInstances]

@[simp] theorem reportLine_body claims i r (s : State) :
    (reportLine claims i r s).lanes.map Lane.body = s.lanes.map Lane.body := by
  simp [reportLine]

@[simp] theorem enterListenRole_body (s : State) :
    (enterListenRole s).lanes.map Lane.body = s.lanes.map Lane.body := by
  simp [enterListenRole]

@[simp] theorem winFrame_body (s : State) :
    (winFrame s).lanes.map Lane.body = s.lanes.map Lane.body := by
  unfold winFrame
  dsimp only
  (repeat' split) <;> simp

@[simp] theorem repOnce_body i code (s : State) :
    (repOnce i code s).lanes.map Lane.body = s.lanes.map Lane.body := by
  simp [repOnce]

@[simp] theorem enterContend_body (s : State) :
    (enterContend s).lanes.map Lane.body = s.lanes.map Lane.body := by
  simp [enterContend]

@[simp] theorem listenTo_body m (s : State) :
    (listenTo m s).lanes.map Lane.body = s.lanes.map Lane.body := by
  simp [listenTo]

@[simp] theorem noteXchk_body m (s : State) :
    (noteXchk m s).lanes.map Lane.body = s.lanes.map Lane.body := by
  unfold noteXchk
  split <;> simp

@[simp] theorem partnerAbsent_body (s : State) :
    (partnerAbsent s).lanes.map Lane.body = s.lanes.map Lane.body := by
  simp [partnerAbsent]

@[simp] theorem advanceSvn_body target (s : State) :
    (advanceSvn target s).lanes.map Lane.body = s.lanes.map Lane.body := by
  simp [advanceSvn]

@[simp] theorem completeCommit_body (s : State) :
    (completeCommit s).lanes.map Lane.body = s.lanes.map Lane.body := by
  unfold completeCommit
  split <;> simp

@[simp] theorem endTrial_body (s : State) :
    (endTrial s).lanes.map Lane.body = s.lanes.map Lane.body := by
  simp [endTrial]

@[simp] theorem wantedBank_body (s : State) :
    (wantedBank s).2.lanes.map Lane.body = s.lanes.map Lane.body := by
  unfold wantedBank
  dsimp only
  (repeat' split) <;> simp

@[simp] theorem bootFirmware_body (s : State) :
    (bootFirmware s).lanes.map Lane.body = s.lanes.map Lane.body := by
  simp [bootFirmware]

@[simp] theorem refuseActive_body i cause (s : State) :
    (refuseActive i cause s).lanes.map Lane.body = s.lanes.map Lane.body := by
  simp [refuseActive]

@[simp] theorem migrateUcal_body (s : State) :
    (migrateUcal s).lanes.map Lane.body = s.lanes.map Lane.body := by
  simp [migrateUcal]

@[simp] theorem loadEngines_body (s : State) :
    (loadEngines s).lanes.map Lane.body = s.lanes.map Lane.body := by
  simp [loadEngines]

@[simp] theorem adopt_body c img migrated (s : State) :
    (adopt c img migrated s).lanes.map Lane.body = s.lanes.map Lane.body := by
  simp [adopt]

@[simp] theorem loadActive_body (s : State) :
    (loadActive s).lanes.map Lane.body = s.lanes.map Lane.body := by
  unfold loadActive
  dsimp only
  (repeat' split) <;> simp

@[simp] theorem supervisorStart_body (s : State) :
    (supervisorStart s).lanes.map Lane.body = s.lanes.map Lane.body := by
  simp [supervisorStart]

@[simp] theorem startUp_body (s : State) :
    (startUp s).lanes.map Lane.body = s.lanes.map Lane.body := by
  simp [startUp]

@[simp] theorem powerWarning_body vin vstore (s : State) :
    (powerWarning vin vstore s).lanes.map Lane.body = s.lanes.map Lane.body := by
  simp [powerWarning]

@[simp] theorem powerRecovered_body vin vstore us (s : State) :
    (powerRecovered vin vstore us s).lanes.map Lane.body = s.lanes.map Lane.body := by
  simp [powerRecovered]

@[simp] theorem resetRelease_body vin vstore waited elapsed vNow (s : State) :
    (resetRelease vin vstore waited elapsed vNow s).lanes.map Lane.body = s.lanes.map Lane.body := by
  simp [resetRelease]

@[simp] theorem heartbeatLost_body c (s : State) :
    (heartbeatLost c s).lanes.map Lane.body = s.lanes.map Lane.body := by
  simp [heartbeatLost]

@[simp] theorem failRingOps_body r (s : State) :
    (failRingOps r s).lanes.map Lane.body = s.lanes.map Lane.body := by
  simp [failRingOps]

@[simp] theorem engineRestartEnd_body c (s : State) :
    (engineRestartEnd c s).lanes.map Lane.body = s.lanes.map Lane.body := by
  simp [engineRestartEnd]

@[simp] theorem noteWake_body code w (s : State) :
    (noteWake code w s).lanes.map Lane.body = s.lanes.map Lane.body := by
  simp [noteWake]

@[simp] theorem wakeParked_body w (s : State) :
    (wakeParked w s).lanes.map Lane.body = s.lanes.map Lane.body := by
  simp [wakeParked]

@[simp] theorem wakeKeepAlive_body w (s : State) :
    (wakeKeepAlive w s).lanes.map Lane.body = s.lanes.map Lane.body := by
  simp [wakeKeepAlive]

@[simp] theorem wake_body w elapsed (s : State) :
    (wake w elapsed s).lanes.map Lane.body = s.lanes.map Lane.body := by
  unfold wake
  split <;> simp

@[simp] theorem railOut_body r v (s : State) :
    (railOut r v s).lanes.map Lane.body = s.lanes.map Lane.body := by
  simp [railOut]

@[simp] theorem tempWarning_body i v (s : State) :
    (tempWarning i v s).lanes.map Lane.body = s.lanes.map Lane.body := by
  simp [tempWarning]

@[simp] theorem overTemperature_body i v (s : State) :
    (overTemperature i v s).lanes.map Lane.body = s.lanes.map Lane.body := by
  simp [overTemperature]

@[simp] theorem avsStep_body l (s : State) :
    (avsStep l s).lanes.map Lane.body = s.lanes.map Lane.body := by
  simp [avsStep]

@[simp] theorem ageingStep_body l vNow (s : State) :
    (ageingStep l vNow s).lanes.map Lane.body = s.lanes.map Lane.body := by
  unfold ageingStep
  dsimp only
  (repeat' split) <;> simp

@[simp] theorem repDom_body code d (s : State) :
    (repDom code d s).lanes.map Lane.body = s.lanes.map Lane.body := by
  simp [repDom]

@[simp] theorem failOldest_body (s : State) :
    (failOldest s).lanes.map Lane.body = s.lanes.map Lane.body := by
  unfold failOldest
  split <;> simp

@[simp] theorem clockLostEffect_body d onBus posted (s : State) :
    (clockLostEffect d onBus posted s).lanes.map Lane.body = s.lanes.map Lane.body := by
  unfold clockLostEffect
  split <;> simp

@[simp] theorem clockLost_body d onBus posted (s : State) :
    (clockLost d onBus posted s).lanes.map Lane.body = s.lanes.map Lane.body := by
  simp [clockLost]

@[simp] theorem clockRestored_body d (s : State) :
    (clockRestored d s).lanes.map Lane.body = s.lanes.map Lane.body := by
  simp [clockRestored]

@[simp] theorem crossingStalled_body d events counts (s : State) :
    (crossingStalled d events counts s).lanes.map Lane.body = s.lanes.map Lane.body := by
  simp [crossingStalled]

@[simp] theorem sigVerifyOp_body r d (s : State) :
    (sigVerifyOp r d s).lanes.map Lane.body = s.lanes.map Lane.body := by
  simp [sigVerifyOp]

@[simp] theorem ucalDone_body (s : State) :
    (ucalDone s).lanes.map Lane.body = s.lanes.map Lane.body := by
  unfold ucalDone
  split <;> simp

@[simp] theorem refuseContainer_body reason (s : State) :
    (refuseContainer reason s).st.lanes.map Lane.body = s.lanes.map Lane.body := by
  simp [refuseContainer]

@[simp] theorem respond_body cmd q session (r : Reply) :
    (respond cmd q session r).lanes.map Lane.body = r.st.lanes.map Lane.body := by
  simp [respond]

@[simp] theorem checked_body cmd perm type q f (s : State) (hf : ∀ t, (f t).st.lanes.map Lane.body = (t : State).lanes.map Lane.body) :
    (checked cmd perm type q f s).st.lanes.map Lane.body = s.lanes.map Lane.body := by
  unfold checked
  dsimp only
  (repeat' split) <;> simp [hf]

@[simp] theorem utmus_body cmd perm q f (s : State) (hf : ∀ t, (f t).st.lanes.map Lane.body = (t : State).lanes.map Lane.body) :
    (utmus cmd perm q f s).lanes.map Lane.body = s.lanes.map Lane.body := by
  simp [utmus, hf]

@[simp] theorem hello_body q (s : State) :
    (hello q s).lanes.map Lane.body = s.lanes.map Lane.body := by
  simp [hello]

@[simp] theorem identify_body q (s : State) :
    (identify q s).lanes.map Lane.body = s.lanes.map Lane.body := by
  unfold identify
  dsimp only
  (repeat' split) <;> simp

@[simp] theorem utmusRecords_body q bad (s : State) :
    (utmusRecords q bad s).st.lanes.map Lane.body = s.lanes.map Lane.body := by
  unfold utmusRecords
  dsimp only
  (repeat' split) <;> simp

@[simp] theorem loadEndCommand_body (s : State) :
    (loadEndCommand s).st.lanes.map Lane.body = s.lanes.map Lane.body := by
  unfold loadEndCommand
  dsimp only
  (repeat' split) <;> simp

@[simp] theorem setLife_body n (s : State) :
    (setLife n s).lanes.map Lane.body = s.lanes.map Lane.body := by
  simp [setLife]

@[simp] theorem provision_body (s : State) :
    (provision s).st.lanes.map Lane.body = s.lanes.map Lane.body := by
  unfold provision
  split <;> simp

@[simp] theorem retire_body (s : State) :
    (retire s).st.lanes.map Lane.body = s.lanes.map Lane.body := by
  simp [retire]

@[simp] theorem activationFailed_body (r : Reply) :
    (activationFailed r).st.lanes.map Lane.body = r.st.lanes.map Lane.body := by
  simp [activationFailed]

@[simp] theorem swapLoad_body q (s : State) :
    (swapLoad q s).st.lanes.map Lane.body = s.lanes.map Lane.body := by
  unfold swapLoad
  dsimp only
  (repeat' split) <;> simp

@[simp] theorem swapCommand_body (s : State) :
    (swapCommand s).st.lanes.map Lane.body = s.lanes.map Lane.body := by
  unfold swapCommand
  dsimp only
  (repeat' split) <;> simp

@[simp] theorem fwInstall_body q (s : State) :
    (fwInstall q s).st.lanes.map Lane.body = s.lanes.map Lane.body := by
  unfold fwInstall
  dsimp only
  (repeat' split) <;> simp

@[simp] theorem fwCommit_body (s : State) :
    (fwCommit s).st.lanes.map Lane.body = s.lanes.map Lane.body := by
  unfold fwCommit
  dsimp only
  (repeat' split) <;> simp

@[simp] theorem onlineChange_body q (s : State) :
    (onlineChange q s).st.lanes.map Lane.body = s.lanes.map Lane.body := by
  unfold onlineChange
  dsimp only
  (repeat' split) <;> simp

@[simp] theorem ucalWrite_body q (s : State) :
    (ucalWrite q s).st.lanes.map Lane.body = s.lanes.map Lane.body := by
  unfold ucalWrite
  dsimp only
  (repeat' split) <;> simp

@[simp] theorem restoreFactory_body (s : State) :
    (restoreFactory s).st.lanes.map Lane.body = s.lanes.map Lane.body := by
  unfold restoreFactory
  split <;> simp

@[simp] theorem failTag_body r tag status notify (s : State) :
    (failTag r tag status notify s).lanes.map Lane.body = s.lanes.map Lane.body := by
  simp [failTag]

@[simp] theorem fetchFailed_body r idx d status offset (s : State) :
    (fetchFailed r idx d status offset s).lanes.map Lane.body = s.lanes.map Lane.body := by
  simp [fetchFailed]

@[simp] theorem fetchFrom_body r (s : State) :
    (fetchFrom r s).lanes.map Lane.body = s.lanes.map Lane.body := by
  unfold fetchFrom
  dsimp only
  (repeat' split) <;> simp

@[simp] theorem descriptorFetch_body e (s : State) :
    (descriptorFetch e s).lanes.map Lane.body = s.lanes.map Lane.body := by
  unfold descriptorFetch
  split <;> simp

@[simp] theorem summariseReports_body (s : State) :
    (summariseReports s).lanes.map Lane.body = s.lanes.map Lane.body := by
  simp [summariseReports]

@[simp] theorem releaseHeld_body (s : State) h :
    (releaseHeld s h).lanes.map Lane.body = s.lanes.map Lane.body := by
  unfold releaseHeld
  dsimp only
  (repeat' split) <;> simp

@[simp] theorem timedReleases_body (s : State) :
    (timedReleases s).lanes.map Lane.body = s.lanes.map Lane.body := by
  simp [timedReleases]

@[simp] theorem tickInputs_body rels fault (s : State) :
    (tickInputs rels fault s).lanes.map Lane.body = s.lanes.map Lane.body := by
  unfold tickInputs
  split <;> simp

end Sys2Proof.Machine
end

