-- ==== Sys2Proof/Laws/Memory.lean ====
section
/-!
SUPPORT. Laws of the sparse tables and of the byte memories: what is read after a write, and that every memory operation keeps the canonical
form.
-/

namespace Sys2Proof.Machine

/-! ## Tables -/

/-- Every key of a table is above a number. -/
def keysAbove {α : Type} (k : Nat) (m : Table α) : Prop := ∀ e ∈ m, k < e.1

theorem tSorted_cons {α : Type} (j : Nat) (x : α) (r : Table α) :
    tSorted ((j, x) :: r) = true ↔ keysAbove j r ∧ tSorted r = true := by
  induction r generalizing j x with
  | nil => simp [tSorted, keysAbove]
  | cons e r ih =>
    obtain ⟨k, y⟩ := e
    simp only [tSorted, Bool.and_eq_true, decide_eq_true_eq, keysAbove, List.mem_cons, forall_eq_or_imp]
    constructor
    · rintro ⟨hjk, hs⟩
      refine ⟨⟨hjk, fun e he => ?_⟩, hs⟩
      exact lt_trans hjk ((ih k y).mp hs |>.1 e he)
    · rintro ⟨⟨hjk, _⟩, hs⟩
      exact ⟨hjk, hs⟩

theorem tget?_of_above {α : Type} (m : Table α) (k : Nat) (h : keysAbove k m) : tget? m k = none := by
  induction m with
  | nil => rfl
  | cons e r ih =>
    obtain ⟨j, x⟩ := e
    have hj : k < j := h (j, x) List.mem_cons_self
    simp only [tget?, if_neg (Nat.ne_of_gt hj)]
    exact ih (fun e he => h e (List.mem_cons_of_mem _ he))

@[simp] theorem tget?_tset_self {α : Type} (m : Table α) (k : Nat) (x : α) : tget? (tset m k x) k = some x := by
  induction m with
  | nil => simp [tset, tget?]
  | cons e r ih =>
    obtain ⟨j, y⟩ := e
    simp only [tset]
    split
    · simp [tget?]
    · split
      · simp [tget?]
      · rename_i h1 h2
        simp [tget?, Ne.symm h2, ih]

theorem tget?_tset_other {α : Type} (m : Table α) (k a : Nat) (x : α) (h : a ≠ k) : tget? (tset m k x) a = tget? m a := by
  induction m with
  | nil => simp [tset, tget?, Ne.symm h]
  | cons e r ih =>
    obtain ⟨j, y⟩ := e
    simp only [tset]
    split
    · simp [tget?, Ne.symm h]
    · split
      · rename_i h1 h2
        subst h2
        simp [tget?, Ne.symm h]
      · simp [tget?, ih]

@[simp] theorem tget?_terase_self {α : Type} (m : Table α) (k : Nat) : tget? (terase m k) k = none := by
  induction m with
  | nil => rfl
  | cons e r ih =>
    obtain ⟨j, y⟩ := e
    simp only [terase]
    split
    · exact ih
    · rename_i hj
      simp [tget?, hj, ih]

theorem tget?_terase_other {α : Type} (m : Table α) (k a : Nat) (h : a ≠ k) : tget? (terase m k) a = tget? m a := by
  induction m with
  | nil => rfl
  | cons e r ih =>
    obtain ⟨j, y⟩ := e
    simp only [terase]
    split
    · rename_i hj
      subst hj
      simp [tget?, Ne.symm h, ih]
    · simp [tget?, ih]

theorem keysAbove_tset {α : Type} (m : Table α) (b k : Nat) (x : α) (h : keysAbove b m) (hk : b < k) : keysAbove b (tset m k x) := by
  induction m with
  | nil =>
    intro e he
    simp only [tset, List.mem_singleton] at he
    simpa [he] using hk
  | cons e r ih =>
    obtain ⟨j, y⟩ := e
    have hj : b < j := h (j, y) List.mem_cons_self
    have hr : keysAbove b r := fun e he => h e (List.mem_cons_of_mem _ he)
    simp only [tset]
    split
    · intro e he
      rcases List.mem_cons.mp he with rfl | he
      · exact hk
      · exact h e he
    · split
      · intro e he
        rcases List.mem_cons.mp he with rfl | he
        · exact hk
        · exact hr e he
      · intro e he
        rcases List.mem_cons.mp he with rfl | he
        · exact hj
        · exact ih hr e he

theorem tSorted_tset {α : Type} (m : Table α) (k : Nat) (x : α) (h : tSorted m = true) : tSorted (tset m k x) = true := by
  induction m with
  | nil => rfl
  | cons e r ih =>
    obtain ⟨j, y⟩ := e
    have h' := (tSorted_cons j y r).mp h
    simp only [tset]
    split
    · rename_i hk
      rw [tSorted_cons]
      refine ⟨fun e he => ?_, h⟩
      rcases List.mem_cons.mp he with rfl | he
      · exact hk
      · exact lt_trans hk (h'.1 e he)
    · split
      · rename_i hk
        subst hk
        rw [tSorted_cons]
        exact h'
      · rename_i h1 h2
        rw [tSorted_cons]
        exact ⟨keysAbove_tset r j k x h'.1 (by omega), ih h'.2⟩

theorem terase_subset {α : Type} (m : Table α) (k : Nat) : ∀ e ∈ terase m k, e ∈ m := by
  induction m with
  | nil => intro e he; exact he
  | cons p r ih =>
    obtain ⟨j, y⟩ := p
    intro e he
    simp only [terase] at he
    split at he
    · exact List.mem_cons_of_mem _ (ih e he)
    · rcases List.mem_cons.mp he with rfl | he
      · exact List.mem_cons_self
      · exact List.mem_cons_of_mem _ (ih e he)

theorem tSorted_terase {α : Type} (m : Table α) (k : Nat) (h : tSorted m = true) : tSorted (terase m k) = true := by
  induction m with
  | nil => rfl
  | cons e r ih =>
    obtain ⟨j, y⟩ := e
    have h' := (tSorted_cons j y r).mp h
    simp only [terase]
    split
    · exact ih h'.2
    · rw [tSorted_cons]
      exact ⟨fun e he => h'.1 e (terase_subset r k e he), ih h'.2⟩

theorem tSorted_filter {α : Type} (m : Table α) (p : Nat × α → Bool) (h : tSorted m = true) : tSorted (m.filter p) = true := by
  induction m with
  | nil => rfl
  | cons e r ih =>
    obtain ⟨j, y⟩ := e
    have h' := (tSorted_cons j y r).mp h
    by_cases hp : p (j, y) = true
    · rw [List.filter_cons_of_pos hp, tSorted_cons]
      exact ⟨fun e he => h'.1 e (List.mem_of_mem_filter he), ih h'.2⟩
    · rw [List.filter_cons_of_neg hp]
      exact ih h'.2

theorem mem_tset {α : Type} (m : Table α) (k : Nat) (x : α) : ∀ e ∈ tset m k x, e = (k, x) ∨ e ∈ m := by
  induction m with
  | nil => intro e he; exact Or.inl (List.mem_singleton.mp he)
  | cons p r ih =>
    obtain ⟨j, y⟩ := p
    intro e he
    simp only [tset] at he
    split at he
    · rcases List.mem_cons.mp he with h | h
      · exact Or.inl h
      · exact Or.inr h
    · split at he
      · rcases List.mem_cons.mp he with h | h
        · exact Or.inl h
        · exact Or.inr (List.mem_cons_of_mem _ h)
      · rcases List.mem_cons.mp he with h | h
        · exact Or.inr (h ▸ List.mem_cons_self)
        · rcases ih e h with h | h
          · exact Or.inl h
          · exact Or.inr (List.mem_cons_of_mem _ h)

/-! ## Bytes -/

/-- Reading back a written byte. -/
@[simp] theorem memGet_memSet_self (m : Mem) (a : Nat) (b : Byte) : memGet (memSet m a b) a = b := by
  unfold memGet memSet tsetD tgetD
  split <;> simp [*]

/-- Every other byte keeps its value. -/
theorem memGet_memSet_other (m : Mem) (a c : Nat) (b : Byte) (h : c ≠ a) : memGet (memSet m a b) c = memGet m c := by
  unfold memGet memSet tsetD tgetD
  split
  · rw [tget?_terase_other m a c h]
  · rw [tget?_tset_other m a c b h]

/-- Writing a byte keeps the canonical form. -/
@[simp] theorem memSet_wf (m : Mem) (a : Nat) (b : Byte) (h : Memory.wf m = true) : Memory.wf (memSet m a b) = true := by
  simp only [Memory.wf, Bool.and_eq_true, List.all_eq_true] at h ⊢
  unfold memSet tsetD
  split
  · exact ⟨tSorted_terase m a h.1, fun e he => h.2 e (terase_subset m a e he)⟩
  · rename_i hb
    refine ⟨tSorted_tset m a b h.1, fun e he => ?_⟩
    rcases mem_tset m a b e he with rfl | he
    · simpa using hb
    · exact h.2 e he

/-- Writing consecutive bytes keeps the canonical form. -/
@[simp] theorem memWrite_wf (bs : List Byte) (m : Mem) (a : Nat) (h : Memory.wf m = true) : Memory.wf (memWrite m a bs) = true := by
  induction bs generalizing m a with
  | nil => exact h
  | cons b bs ih => exact ih _ _ (memSet_wf m a b h)

/-- Single-byte writes keep the canonical form. -/
@[simp] theorem memWrites_wf (ws : List (Nat × Byte)) (m : Mem) (h : Memory.wf m = true) : Memory.wf (memWrites m ws) = true := by
  induction ws generalizing m with
  | nil => exact h
  | cons w ws ih =>
    obtain ⟨a, b⟩ := w
    exact ih _ (memSet_wf m a b h)

/-- Clearing a range keeps the canonical form. -/
@[simp] theorem memClear_wf (m : Mem) (lo hi : Nat) (h : Memory.wf m = true) : Memory.wf (memClear m lo hi) = true := by
  simp only [Memory.wf, Bool.and_eq_true, List.all_eq_true] at h ⊢
  exact ⟨tSorted_filter m _ h.1, fun e he => h.2 e (List.mem_of_mem_filter he)⟩

/-- A byte outside the written range keeps its value. -/
theorem memGet_memWrite_outside (bs : List Byte) (m : Mem) (a c : Nat) (h : c < a ∨ a + bs.length ≤ c) :
    memGet (memWrite m a bs) c = memGet m c := by
  induction bs generalizing m a with
  | nil => rfl
  | cons b bs ih =>
    simp only [memWrite]
    simp only [List.length_cons] at h
    rw [ih (memSet m a b) (a + 1) (by omega), memGet_memSet_other m a c b (by omega)]

/-- A byte inside the written range is the one written there. -/
theorem memGet_memWrite_inside (bs : List Byte) (m : Mem) (a i : Nat) (hi : i < bs.length) :
    memGet (memWrite m a bs) (a + i) = bs[i] := by
  induction bs generalizing m a i with
  | nil => simp at hi
  | cons b bs ih =>
    simp only [memWrite]
    cases i with
    | zero =>
      show memGet (memWrite (memSet m a b) (a + 1) bs) a = b
      rw [memGet_memWrite_outside bs _ (a + 1) a (by omega), memGet_memSet_self m a b]
    | succ i =>
      have := ih (memSet m a b) (a + 1) i (by simpa using hi)
      rw [show a + (i + 1) = a + 1 + i by omega, this]
      rfl

@[simp] theorem memRead_length (n : Nat) (m : Mem) (a : Nat) : (memRead m a n).length = n := by
  induction n generalizing a with
  | zero => rfl
  | succ n ih => simp [memRead, ih]

/-- What is written is read back. -/
theorem memRead_memWrite (bs : List Byte) (m : Mem) (a : Nat) : memRead (memWrite m a bs) a bs.length = bs := by
  induction bs generalizing m a with
  | nil => rfl
  | cons b bs ih =>
    simp only [List.length_cons, memRead, memWrite]
    rw [ih, memGet_memWrite_outside bs _ (a + 1) a (by omega), memGet_memSet_self m a b]

end Sys2Proof.Machine
end

