-- ==== Sys2Proof/Laws/MemoryWf.lean ====
section
/-!
SUPPORT. Every operation keeps exchange memory in its canonical form.
-/

namespace Sys2Proof.Machine

@[simp] theorem ite_wf (c : Prop) [Decidable c] (m n : Mem) (h : Memory.wf m = true) (k : Memory.wf n = true) :
    Memory.wf (if c then m else n) = true := by split <;> assumption
@[simp] theorem foldl_wf {α : Type} (g : State → α → State) (hg : ∀ s a, Memory.wf s.mem = true → Memory.wf (g s a).mem = true) (l : List α)
    (s : State) (h : Memory.wf s.mem = true) : Memory.wf (l.foldl g s).mem = true := by
  induction l generalizing s with
  | nil => exact h
  | cons a l ih => exact ih _ (hg s a h)

@[simp] theorem ringComplete_wf r tag status ra rb notify (s : State) (hw : Memory.wf s.mem = true) : Memory.wf (ringComplete r tag status ra rb notify s).mem = true := by
  simp [ringComplete, hw]

@[simp] theorem abortHeld_wf r (s : State) (hw : Memory.wf s.mem = true) : Memory.wf (abortHeld r s).mem = true := by
  unfold abortHeld
  dsimp only
  (repeat' split) <;> simp_all

@[simp] theorem drainRing_wf r (s : State) (hw : Memory.wf s.mem = true) : Memory.wf (drainRing r s).mem = true := by
  simp [drainRing, hw]

@[simp] theorem stopProgram_wf (s : State) (hw : Memory.wf s.mem = true) : Memory.wf (stopProgram s).mem = true := by
  unfold stopProgram
  dsimp only
  (repeat' split) <;> simp_all

@[simp] theorem forceLane_wf l (s : State) (hw : Memory.wf s.mem = true) : Memory.wf (forceLane l s).mem = true := by
  unfold forceLane
  dsimp only
  (repeat' split) <;> simp_all

@[simp] theorem moduleFault_wf every (s : State) (hw : Memory.wf s.mem = true) : Memory.wf (moduleFault every s).mem = true := by
  unfold moduleFault
  split
  · exact hw
  · simp only [rep_frame, withdrawClaim_frame]
    refine stopProgram_wf _ ?_
    simp only [swapLaneLost_frame, abortReint_frame]
    refine foldl_wf _ (fun t a ht => ?_) _ _ hw
    split
    · exact forceLane_wf _ _ ht
    · exact ht

@[simp] theorem leaveCounted_wf l (s : State) (hw : Memory.wf s.mem = true) : Memory.wf (leaveCounted l s).mem = true := by
  unfold leaveCounted
  dsimp only
  split
  · exact hw
  · split
    · simpa using hw
    · simp only [rep_frame, withdrawClaim_frame]
      refine stopProgram_wf _ ?_
      simp only [swapLaneLost_frame, abortReint_frame]
      refine foldl_wf _ (fun t a ht => ?_) _ _ hw
      split
      · exact forceLane_wf _ _ ht
      · exact ht
    · exact hw
    · exact hw

@[simp] theorem laneSafe_wf l kind task entry addr forced (s : State) (hw : Memory.wf s.mem = true) : Memory.wf (laneSafe l kind task entry addr forced s).mem = true := by
  unfold laneSafe
  split
  · dsimp only
    refine leaveCounted_wf _ _ ?_
    simp only [leaveJoining_frame, State.modVot_frame]
    exact foldl_wf _ (fun t _ ht => drainRing_wf _ _ ht) _ _ (by simpa using hw)
  · exact hw

@[simp] theorem laneFinding_wf l kind task entry addr (s : State) (hw : Memory.wf s.mem = true) : Memory.wf (laneFinding l kind task entry addr s).mem = true := by
  simp [laneFinding, hw]

@[simp] theorem postedError_wf p entry off be kind (s : State) (hw : Memory.wf s.mem = true) : Memory.wf (postedError p entry off be kind s).mem = true := by
  unfold postedError
  dsimp only
  (repeat' split) <;> simp [hw]

@[simp] theorem failPosted_wf kind (s : State) (hw : Memory.wf s.mem = true) : Memory.wf (failPosted kind s).mem = true := by
  unfold failPosted
  dsimp only
  (repeat' split) <;> simp_all

@[simp] theorem followEnable_wf (s : State) (hw : Memory.wf s.mem = true) : Memory.wf (followEnable s).mem = true := by
  unfold followEnable
  split <;> simp [hw]

@[simp] theorem takeModuleSafe_wf (s : State) (hw : Memory.wf s.mem = true) : Memory.wf (takeModuleSafe s).mem = true := by
  simp [takeModuleSafe, hw]

@[simp] theorem endCycle_wf (s : State) (hw : Memory.wf s.mem = true) : Memory.wf (endCycle s).mem = true := by
  simp [endCycle, hw]

@[simp] theorem writeBuffer_wf addr bs (s : State) (hw : Memory.wf s.mem = true) : Memory.wf (writeBuffer addr bs s).mem = true := by
  simp [writeBuffer, hw]

@[simp] theorem runOp_wf r tag opcode f (s : State) (hf : ∀ d t, Memory.wf (t : State).mem = true → Memory.wf (f d t).mem = true) (hw : Memory.wf s.mem = true) : Memory.wf (runOp r tag opcode f s).mem = true := by
  unfold runOp
  repeat' split
  all_goals first | exact hw | exact hf _ _ (by simpa using hw) | exact hf _ (by simpa using hw) | simp [hw]

@[simp] theorem runTimed_wf r d ra rb f (s : State) (hf : ∀ t, Memory.wf (t : State).mem = true → Memory.wf (f t).mem = true) (hw : Memory.wf s.mem = true) : Memory.wf (runTimed r d ra rb f s).mem = true := by
  unfold runTimed
  (repeat' split) <;> simp [hf, hw]

@[simp] theorem recReadOp_wf r bad d (s : State) (hw : Memory.wf s.mem = true) : Memory.wf (recReadOp r bad d s).mem = true := by
  unfold recReadOp
  dsimp only
  (repeat' split) <;> simp [hw]

@[simp] theorem coarseReadOp_wf r values d (s : State) (hw : Memory.wf s.mem = true) : Memory.wf (coarseReadOp r values d s).mem = true := by
  simp [coarseReadOp, hw]

@[simp] theorem diagRead_wf r ms start d (s : State) (hw : Memory.wf s.mem = true) : Memory.wf (diagRead r ms start d s).mem = true := by
  simp [diagRead, hw]

@[simp] theorem eccUncorrectable_wf l c line scrub (s : State) (hw : Memory.wf s.mem = true) : Memory.wf (eccUncorrectable l c line scrub s).mem = true := by
  simp [eccUncorrectable, hw]

@[simp] theorem forceSafeWrite_wf l lag (s : State) (hw : Memory.wf s.mem = true) : Memory.wf (forceSafeWrite l lag s).mem = true := by
  simp [forceSafeWrite, hw]

@[simp] theorem pairTimeout_wf l (s : State) (hw : Memory.wf s.mem = true) : Memory.wf (pairTimeout l s).mem = true := by
  unfold pairTimeout
  dsimp only
  (repeat' split) <;> simp [hw]

@[simp] theorem interruptLag_wf l (s : State) (hw : Memory.wf s.mem = true) : Memory.wf (interruptLag l s).mem = true := by
  simp [interruptLag, hw]

@[simp] theorem irqSnapshots_wf (s : State) (hw : Memory.wf s.mem = true) : Memory.wf (irqSnapshots s).mem = true := by
  unfold irqSnapshots
  dsimp only
  (repeat' split) <;> simp_all

@[simp] theorem endTimeout_wf l c ctx (s : State) (hw : Memory.wf s.mem = true) : Memory.wf (endTimeout l c ctx s).mem = true := by
  unfold endTimeout
  dsimp only
  (repeat' split) <;> simp [hw]

@[simp] theorem endMark_wf l c writes (s : State) (hw : Memory.wf s.mem = true) : Memory.wf (endMark l c writes s).mem = true := by
  unfold endMark
  split <;> simp [hw]

@[simp] theorem taskFault_wf l c writes (s : State) (hw : Memory.wf s.mem = true) : Memory.wf (taskFault l c writes s).mem = true := by
  unfold taskFault
  split <;> simp [hw]

@[simp] theorem sweepEnd_wf l (s : State) x2 (hw : Memory.wf s.mem = true) : Memory.wf (sweepEnd l s x2).mem = true := by
  unfold sweepEnd
  dsimp only
  (repeat' split) <;> simp [hw]

@[simp] theorem sweepComplete_wf l (s : State) (hw : Memory.wf s.mem = true) : Memory.wf (sweepComplete l s).mem = true := by
  unfold sweepComplete
  split <;> simp [hw]

@[simp] theorem enableRing_wf r (s : State) (hw : Memory.wf s.mem = true) : Memory.wf (enableRing r s).mem = true := by
  unfold enableRing
  split <;> simp [hw]

@[simp] theorem disableRing_wf r (s : State) (hw : Memory.wf s.mem = true) : Memory.wf (disableRing r s).mem = true := by
  simp [disableRing, hw]

@[simp] theorem writeSlot_wf r off bs (s : State) (hw : Memory.wf s.mem = true) : Memory.wf (writeSlot r off bs s).mem = true := by
  unfold writeSlot
  dsimp only
  (repeat' split) <;> simp [hw]

@[simp] theorem descriptorWrite_wf off bs (s : State) (hw : Memory.wf s.mem = true) : Memory.wf (descriptorWrite off bs s).mem = true := by
  unfold descriptorWrite
  split <;> simp [hw]

@[simp] theorem completeOp_wf r tag (s : State) (hw : Memory.wf s.mem = true) : Memory.wf (completeOp r tag s).mem = true := by
  unfold completeOp
  dsimp only
  (repeat' split) <;> simp [hw]

@[simp] theorem pairSelfTest_wf l found timeout (s : State) (hw : Memory.wf s.mem = true) : Memory.wf (pairSelfTest l found timeout s).mem = true := by
  unfold pairSelfTest
  split <;> simp [hw]

@[simp] theorem takeInbox_wf ch kind f (s : State) (hf : ∀ d t, Memory.wf (t : State).mem = true → Memory.wf (f d t).mem = true) (hw : Memory.wf s.mem = true) : Memory.wf (takeInbox ch kind f s).mem = true := by
  unfold takeInbox
  repeat' split
  all_goals first | exact hw | exact hf _ _ (by simpa using hw) | exact hf _ (by simpa using hw) | simp [hw]

@[simp] theorem fillPost_wf q b kind comId src handle payload (s : State) (hw : Memory.wf s.mem = true) : Memory.wf (fillPost q b kind comId src handle payload s).mem = true := by
  simp [fillPost, hw]

@[simp] theorem mdReceived_wf q kind comId src handle payload (s : State) (hw : Memory.wf s.mem = true) : Memory.wf (mdReceived q kind comId src handle payload s).mem = true := by
  unfold mdReceived
  dsimp only
  (repeat' split) <;> simp [hw]

@[simp] theorem acceptFrame_wf q full f (s : State) (hf : ∀ t, Memory.wf (t : State).mem = true → Memory.wf (f t).mem = true) (hw : Memory.wf s.mem = true) : Memory.wf (acceptFrame q full f s).mem = true := by
  unfold acceptFrame
  repeat' split
  all_goals first | exact hw | exact hf _ _ (by simpa using hw) | exact hf _ (by simpa using hw) | simp [hw]

@[simp] theorem ethFrameReceived_wf q phase full f (s : State) (hw : Memory.wf s.mem = true) : Memory.wf (ethFrameReceived q phase full f s).mem = true := by
  unfold ethFrameReceived
  repeat' split
  all_goals first | exact hw | simp [hw] | skip

@[simp] theorem withRoute_wf r d f (s : State) (hf : ∀ x t, Memory.wf (t : State).mem = true → Memory.wf (f x t).mem = true) (hw : Memory.wf s.mem = true) : Memory.wf (withRoute r d f s).mem = true := by
  unfold withRoute
  split
  · simp [hw]
  · dsimp only
    split
    · simp [hw]
    · exact hf _ _ hw

@[simp] theorem colReadRun_wf r ans d x (s : State) (hw : Memory.wf s.mem = true) : Memory.wf (colReadRun r ans d x s).mem = true := by
  unfold colReadRun
  dsimp only
  (repeat' split) <;> simp [hw]

@[simp] theorem colReadOp_wf r ans d (s : State) (hw : Memory.wf s.mem = true) : Memory.wf (colReadOp r ans d s).mem = true := by
  exact withRoute_wf _ _ _ _ (fun x t ht => colReadRun_wf r ans d x t ht) hw

@[simp] theorem releaseColWrite_wf r d (s : State) (hw : Memory.wf s.mem = true) : Memory.wf (releaseColWrite r d s).mem = true := by
  simp [releaseColWrite, hw]

@[simp] theorem postedWriteIssue_wf ans (s : State) (hw : Memory.wf s.mem = true) : Memory.wf (postedWriteIssue ans s).mem = true := by
  unfold postedWriteIssue
  dsimp only
  (repeat' split) <;> simp [hw]

@[simp] theorem holdTimeout_wf op (s : State) (hw : Memory.wf s.mem = true) : Memory.wf (holdTimeout op s).mem = true := by
  unfold holdTimeout
  dsimp only
  (repeat' split) <;> simp [hw]

@[simp] theorem latestWrite_wf n ans (s : State) (hw : Memory.wf s.mem = true) : Memory.wf (latestWrite n ans s).mem = true := by
  unfold latestWrite
  dsimp only
  (repeat' split) <;> simp [hw]

@[simp] theorem bpReset_wf onBus (s : State) (hw : Memory.wf s.mem = true) : Memory.wf (bpReset onBus s).mem = true := by
  simp [bpReset, hw]

@[simp] theorem onRingUnit_wf r u d f (s : State) (hf : ∀ t, Memory.wf (t : State).mem = true → Memory.wf (f t).mem = true) (hw : Memory.wf s.mem = true) : Memory.wf (onRingUnit r u d f s).mem = true := by
  unfold onRingUnit
  split
  · simp [hw]
  · dsimp only
    split
    · exact hf _ (by simpa using hw)
    · exact hw

@[simp] theorem writeAt_wf off b (s : State) (hw : Memory.wf s.mem = true) : Memory.wf (writeAt off b s).mem = true := by
  simp [writeAt, hw]

@[simp] theorem chkComputeOp_wf append r u d (s : State) (hw : Memory.wf s.mem = true) : Memory.wf (chkComputeOp append r u d s).mem = true := by
  unfold chkComputeOp
  dsimp only
  (repeat' split) <;> simp_all

@[simp] theorem chkStripOp_wf r u d (s : State) (hw : Memory.wf s.mem = true) : Memory.wf (chkStripOp r u d s).mem = true := by
  refine onRingUnit_wf _ _ _ _ _ (fun t ht => ?_) hw
  dsimp only
  split <;> simp [ht]

@[simp] theorem enterJoin_wf (s : State) (hw : Memory.wf s.mem = true) : Memory.wf (enterJoin s).mem = true := by
  simp [enterJoin, hw]

@[simp] theorem resyncNow_wf (s : State) (hw : Memory.wf s.mem = true) : Memory.wf (resyncNow s).mem = true := by
  simp [resyncNow, hw]

@[simp] theorem ringCommit_wf r k w (s : State) (hw : Memory.wf s.mem = true) : Memory.wf (ringCommit r k w s).mem = true := by
  unfold ringCommit
  dsimp only
  (repeat' split) <;> simp [hw]

theorem actionCommit_wf {a : Nat} {w : Word} {s t : State} (h : actionCommit a w s = some t) (hw : Memory.wf s.mem = true) :
    Memory.wf t.mem = true := by
  unfold actionCommit at h
  dsimp only at h
  (repeat' split at h) <;> simp only [Option.some.injEq, reduceCtorEq] at h <;> subst h <;> simp [onlyIf, hw]

@[simp] theorem commitReg_wf a w (s : State) (hw : Memory.wf s.mem = true) : Memory.wf (commitReg a w s).mem = true := by
  unfold commitReg
  split
  · rename_i t h
    exact actionCommit_wf h hw
  · repeat' split
    · exact ringCommit_wf _ _ _ _ hw
    all_goals simpa using hw

@[simp] theorem laneRegWrite_wf l a w (s : State) (hw : Memory.wf s.mem = true) : Memory.wf (laneRegWrite l a w s).mem = true := by
  unfold laneRegWrite
  dsimp only
  repeat' split
  · exact ringCommit_wf _ _ _ _ hw
  all_goals first | (simpa using hw) | skip
  all_goals (refine forceSafeWrite_wf _ _ _ ?_; (repeat' split) <;> simpa using hw)

@[simp] theorem ownMemWrite_wf a (s : State) (hw : Memory.wf s.mem = true) : Memory.wf (ownMemWrite a s).mem = true := by
  unfold ownMemWrite
  dsimp only
  (repeat' split) <;> simp [hw]

@[simp] theorem ownWrite_wf l a (s : State) (hw : Memory.wf s.mem = true) : Memory.wf (ownWrite l a s).mem = true := by
  unfold ownWrite
  split
  · exact ownMemWrite_wf _ _ hw
  · exact foldl_wf _ (fun t p ht => laneRegWrite_wf _ _ _ _ ht) _ _ hw

@[simp] theorem releaseEntry_wf l (s : State) e (hw : Memory.wf s.mem = true) : Memory.wf (releaseEntry l s e).mem = true := by
  unfold releaseEntry
  split <;> simp [hw]

@[simp] theorem compareEntry_wf l (s : State) (hw : Memory.wf s.mem = true) : Memory.wf (compareEntry l s).mem = true := by
  unfold compareEntry
  dsimp only
  (repeat' split) <;> simp [hw]

@[simp] theorem digestCompare_wf l t (s : State) (hw : Memory.wf s.mem = true) : Memory.wf (digestCompare l t s).mem = true := by
  unfold digestCompare
  dsimp only
  (repeat' split) <;> simp_all

@[simp] theorem registerWrite_wf l a data (s : State) (hw : Memory.wf s.mem = true) : Memory.wf (registerWrite l a data s).mem = true := by
  simp [registerWrite, hw]

@[simp] theorem expelLane_wf kind code l k addr (s : State) (hw : Memory.wf s.mem = true) : Memory.wf (expelLane kind code l k addr s).mem = true := by
  simp [expelLane, hw]

@[simp] theorem noMajority_wf l k addr (s : State) (hw : Memory.wf s.mem = true) : Memory.wf (noMajority l k addr s).mem = true := by
  simp [noMajority, hw]

@[simp] theorem commitAccess_wf a (s : State) (hw : Memory.wf s.mem = true) : Memory.wf (commitAccess a s).mem = true := by
  unfold commitAccess
  split
  · exact ownMemWrite_wf _ _ hw
  · exact foldl_wf _ (fun t p ht => commitReg_wf _ _ _ ht) _ _ hw

@[simp] theorem commitVotes_wf x0 (x1 : State) (hw : Memory.wf x1.mem = true) : Memory.wf (commitVotes x0 x1).mem = true := by
  induction x0 generalizing x1 with
  | zero => exact hw
  | succ n ih =>
    unfold commitVotes
    repeat' split
    · exact hw
    · exact ih _ (commitAccess_wf _ _ (by simpa using hw))
    · simpa using hw

@[simp] theorem settleVotes_wf (s : State) (hw : Memory.wf s.mem = true) : Memory.wf (settleVotes s).mem = true := by
  simp [settleVotes, hw]

@[simp] theorem joinAgreed_wf l v a c (s : State) (hw : Memory.wf s.mem = true) : Memory.wf (joinAgreed l v a c s).mem = true := by
  simp [joinAgreed, hw]

@[simp] theorem joinOpen_wf l v a (s : State) (hw : Memory.wf s.mem = true) : Memory.wf (joinOpen l v a s).mem = true := by
  unfold joinOpen
  dsimp only
  (repeat' split) <;> simp_all

@[simp] theorem forbidWrite_wf l p (s : State) (hw : Memory.wf s.mem = true) : Memory.wf (forbidWrite l p s).mem = true := by
  simp [forbidWrite, hw]

@[simp] theorem arrival_wf l p (s : State) (hw : Memory.wf s.mem = true) : Memory.wf (arrival l p s).mem = true := by
  unfold arrival
  repeat' split
  all_goals first | exact hw | simp [hw]

@[simp] theorem closeWindow_wf k (s : State) (hw : Memory.wf s.mem = true) : Memory.wf (closeWindow k s).mem = true := by
  unfold closeWindow
  repeat' split
  all_goals first | exact hw | simp [hw]

@[simp] theorem absentLane_wf k l (s : State) (hw : Memory.wf s.mem = true) : Memory.wf (absentLane k l s).mem = true := by
  unfold absentLane
  split <;> simp [hw]

@[simp] theorem startInLane_wf t run (s : State) l (hw : Memory.wf s.mem = true) : Memory.wf (startInLane t run s l).mem = true := by
  unfold startInLane
  split <;> simp [hw]

@[simp] theorem startInstance_wf (s : State) t (hw : Memory.wf s.mem = true) : Memory.wf (startInstance s t).mem = true := by
  unfold startInstance
  dsimp only
  (repeat' split) <;> simp_all

@[simp] theorem startInstances_wf (s : State) (hw : Memory.wf s.mem = true) : Memory.wf (startInstances s).mem = true := by
  unfold startInstances
  dsimp only
  (repeat' split) <;> simp_all

@[simp] theorem commitStart_wf recs (s : State) (hw : Memory.wf s.mem = true) : Memory.wf (commitStart recs s).mem = true := by
  unfold commitStart
  dsimp only
  (repeat' split) <;> simp_all

@[simp] theorem programStart_wf (s : State) (hw : Memory.wf s.mem = true) : Memory.wf (programStart s).mem = true := by
  unfold programStart
  split <;> simp [hw]

@[simp] theorem exchangeCheck_wf (s : State) l (hw : Memory.wf s.mem = true) : Memory.wf (exchangeCheck s l).mem = true := by
  unfold exchangeCheck
  dsimp only
  (repeat' split) <;> simp [hw]

@[simp] theorem conversionComplete_wf (s : State) (hw : Memory.wf s.mem = true) : Memory.wf (conversionComplete s).mem = true := by
  unfold conversionComplete
  dsimp only
  (repeat' split) <;> simp_all

@[simp] theorem swapAtTick_wf (s : State) (hw : Memory.wf s.mem = true) : Memory.wf (swapAtTick s).mem = true := by
  unfold swapAtTick
  dsimp only
  (repeat' split) <;> simp_all

@[simp] theorem loseFrame_wf (s : State) (hw : Memory.wf s.mem = true) : Memory.wf (loseFrame s).mem = true := by
  unfold loseFrame
  split <;> simp [hw]

@[simp] theorem joinClaimer_wf winner (s : State) (hw : Memory.wf s.mem = true) : Memory.wf (joinClaimer winner s).mem = true := by
  simp [joinClaimer, hw]

@[simp] theorem claspFrame_wf a b (s : State) (hw : Memory.wf s.mem = true) : Memory.wf (claspFrame a b s).mem = true := by
  unfold claspFrame
  dsimp only
  (repeat' split) <;> simp [hw]

@[simp] theorem dualWin_wf m (s : State) (hw : Memory.wf s.mem = true) : Memory.wf (dualWin m s).mem = true := by
  simp [dualWin, hw]

@[simp] theorem pairMessage_wf m (s : State) (hw : Memory.wf s.mem = true) : Memory.wf (pairMessage m s).mem = true := by
  simp [pairMessage, hw]

@[simp] theorem checkpointFailed_wf why (s : State) (hw : Memory.wf s.mem = true) : Memory.wf (checkpointFailed why s).mem = true := by
  simp [checkpointFailed, hw]

@[simp] theorem keptState_wf (s : State) (hw : Memory.wf s.mem = true) : Memory.wf (keptState s).mem = true := by
  rfl

@[simp] theorem holdReset_wf cause (s : State) (hw : Memory.wf s.mem = true) : Memory.wf (holdReset cause s).mem = true := by
  simp [holdReset, hw]

@[simp] theorem warmReset_wf cause (s : State) (hw : Memory.wf s.mem = true) : Memory.wf (warmReset cause s).mem = true := by
  simp [warmReset, hw]

@[simp] theorem softwareReset_wf sub (s : State) (hw : Memory.wf s.mem = true) : Memory.wf (softwareReset sub s).mem = true := by
  simp [softwareReset, hw]

@[simp] theorem powerFail_wf (s : State) (hw : Memory.wf s.mem = true) : Memory.wf (powerFail s).mem = true := by
  simp [powerFail, hw]

@[simp] theorem convertersOff_wf vstore (s : State) (hw : Memory.wf s.mem = true) : Memory.wf (convertersOff vstore s).mem = true := by
  simp [convertersOff, hw]

@[simp] theorem powerOnReset_wf why (s : State) (hw : Memory.wf s.mem = true) : Memory.wf (powerOnReset why s).mem = true := by
  simp [powerOnReset, hw]

@[simp] theorem failRingOps_wf r (s : State) (hw : Memory.wf s.mem = true) : Memory.wf (failRingOps r s).mem = true := by
  unfold failRingOps
  exact foldl_wf _ (fun t d ht => ringComplete_wf _ _ _ _ _ _ _ ht) _ _ (by simpa using hw)

@[simp] theorem engineRestartEnd_wf c (s : State) (hw : Memory.wf s.mem = true) : Memory.wf (engineRestartEnd c s).mem = true := by
  unfold engineRestartEnd
  dsimp only
  (repeat' split) <;> simp_all

@[simp] theorem quiesce_wf (s : State) (hw : Memory.wf s.mem = true) : Memory.wf (quiesce s).mem = true := by
  simp [quiesce, hw]

@[simp] theorem enterParked_wf (s : State) (hw : Memory.wf s.mem = true) : Memory.wf (enterParked s).mem = true := by
  simp [enterParked, hw]

@[simp] theorem enterKeepAlive_wf (s : State) (hw : Memory.wf s.mem = true) : Memory.wf (enterKeepAlive s).mem = true := by
  simp [enterKeepAlive, hw]

@[simp] theorem lowPowerEntry_wf (s : State) (hw : Memory.wf s.mem = true) : Memory.wf (lowPowerEntry s).mem = true := by
  unfold lowPowerEntry
  split
  · split
    · split
      · exact enterKeepAlive_wf _ (quiesce_wf _ hw)
      · exact enterParked_wf _ (quiesce_wf _ hw)
    · exact hw
  · exact hw

@[simp] theorem failOldest_wf (s : State) (hw : Memory.wf s.mem = true) : Memory.wf (failOldest s).mem = true := by
  unfold failOldest
  split <;> simp [hw]

@[simp] theorem clockLostEffect_wf d onBus posted (s : State) (hw : Memory.wf s.mem = true) : Memory.wf (clockLostEffect d onBus posted s).mem = true := by
  unfold clockLostEffect
  split <;> simp [hw]

@[simp] theorem clockLost_wf d onBus posted (s : State) (hw : Memory.wf s.mem = true) : Memory.wf (clockLost d onBus posted s).mem = true := by
  simp [clockLost, hw]

@[simp] theorem fabricClockLost_wf (s : State) (hw : Memory.wf s.mem = true) : Memory.wf (fabricClockLost s).mem = true := by
  simp [fabricClockLost, hw]

@[simp] theorem sigHashOp_wf r d (s : State) (hw : Memory.wf s.mem = true) : Memory.wf (sigHashOp r d s).mem = true := by
  simp [sigHashOp, hw]

@[simp] theorem checked_wf cmd perm type q f (s : State) (hf : ∀ t, Memory.wf (t : State).mem = true → Memory.wf (f t).st.mem = true) (hw : Memory.wf s.mem = true) : Memory.wf (checked cmd perm type q f s).st.mem = true := by
  unfold checked
  dsimp only
  repeat' split
  all_goals first | exact hf _ (by simpa using hw) | simpa using hw

@[simp] theorem utmus_wf cmd perm q f (s : State) (hf : ∀ t, Memory.wf (t : State).mem = true → Memory.wf (f t).st.mem = true) (hw : Memory.wf s.mem = true) : Memory.wf (utmus cmd perm q f s).mem = true := by
  simpa [utmus] using checked_wf _ _ _ _ _ _ hf hw

@[simp] theorem haltProgram_wf (s : State) (hw : Memory.wf s.mem = true) : Memory.wf (haltProgram s).mem = true := by
  simp [haltProgram, hw]

@[simp] theorem eraseOwner_wf (s : State) (hw : Memory.wf s.mem = true) : Memory.wf (eraseOwner s).mem = true := by
  simp [eraseOwner, hw]

@[simp] theorem enrol_wf q (s : State) (hw : Memory.wf s.mem = true) : Memory.wf (enrol q s).st.mem = true := by
  unfold enrol
  dsimp only
  (repeat' split) <;> simp [hw]

@[simp] theorem relinquish_wf (s : State) (hw : Memory.wf s.mem = true) : Memory.wf (relinquish s).st.mem = true := by
  unfold relinquish
  split <;> simp [hw]

@[simp] theorem activateSlot_wf i revert (s : State) (hw : Memory.wf s.mem = true) : Memory.wf (activateSlot i revert s).st.mem = true := by
  unfold activateSlot
  dsimp only
  (repeat' split) <;> simp [hw]

@[simp] theorem activate_wf q (s : State) (hw : Memory.wf s.mem = true) : Memory.wf (activate q s).st.mem = true := by
  unfold activate
  dsimp only
  (repeat' split) <;> simp [hw]

@[simp] theorem revert_wf (s : State) (hw : Memory.wf s.mem = true) : Memory.wf (revert s).st.mem = true := by
  unfold revert
  repeat' split
  all_goals first | exact hw | simp [hw]

@[simp] theorem fwTrial_wf (s : State) (hw : Memory.wf s.mem = true) : Memory.wf (fwTrial s).st.mem = true := by
  unfold fwTrial
  dsimp only
  (repeat' split) <;> simp [hw]

@[simp] theorem fwRollback_wf (s : State) (hw : Memory.wf s.mem = true) : Memory.wf (fwRollback s).st.mem = true := by
  unfold fwRollback
  split <;> simp [hw]

@[simp] theorem failTag_wf r tag status notify (s : State) (hw : Memory.wf s.mem = true) : Memory.wf (failTag r tag status notify s).mem = true := by
  simp [failTag, hw]

@[simp] theorem fetchFailed_wf r idx d status offset (s : State) (hw : Memory.wf s.mem = true) : Memory.wf (fetchFailed r idx d status offset s).mem = true := by
  simp [fetchFailed, hw]

@[simp] theorem fetchFrom_wf r (s : State) (hw : Memory.wf s.mem = true) : Memory.wf (fetchFrom r s).mem = true := by
  unfold fetchFrom
  dsimp only
  (repeat' split) <;> simp [hw]

@[simp] theorem descriptorFetch_wf e (s : State) (hw : Memory.wf s.mem = true) : Memory.wf (descriptorFetch e s).mem = true := by
  unfold descriptorFetch
  split <;> simp [hw]

@[simp] theorem releaseHeld_wf (s : State) h (hw : Memory.wf s.mem = true) : Memory.wf (releaseHeld s h).mem = true := by
  unfold releaseHeld
  dsimp only
  (repeat' split) <;> simp [hw]

@[simp] theorem timedReleases_wf (s : State) (hw : Memory.wf s.mem = true) : Memory.wf (timedReleases s).mem = true := by
  unfold timedReleases
  exact foldl_wf _ (fun t h ht => releaseHeld_wf _ _ ht) _ _ hw

@[simp] theorem scrubLane_wf (s : State) l (hw : Memory.wf s.mem = true) : Memory.wf (scrubLane s l).mem = true := by
  unfold scrubLane
  dsimp only
  (repeat' split) <;> simp [hw]

@[simp] theorem tickReleases_wf inp (s : State) (hw : Memory.wf s.mem = true) : Memory.wf (tickReleases inp s).1.mem = true := by
  unfold tickReleases
  dsimp only
  refine swapAtTick_wf _ (timedReleases_wf _ ?_)
  simp [hw]

@[simp] theorem tickEvent_wf inp (s : State) (hw : Memory.wf s.mem = true) : Memory.wf (tickEvent inp s).mem = true := by
  unfold tickEvent
  simp
  refine foldl_wf _ (fun t l ht => scrubLane_wf _ _ ht) _ _ ?_
  simp [hw]

@[simp] theorem tickHere_wf inp (s : State) (hw : Memory.wf s.mem = true) : Memory.wf (tickHere inp s).mem = true := by
  simp [tickHere, hw]

@[simp] theorem afterStep_wf (before : State) inp (s : State) (hw : Memory.wf s.mem = true) : Memory.wf (afterStep before inp s).mem = true := by
  simp [afterStep, hw]

end Sys2Proof.Machine
end

