-- ==== Sys2Proof/Laws/Cycle.lean ====
section
/-!
SUPPORT. The three kinds of command, the end of a fabric cycle, and what a command keeps through both.
-/

namespace Sys2Proof.Machine

/-! ## The three kinds of command -/

theorem act_next {f : State → State} {s : State} (h : Operational s) : act f s = .next (endCycle (f s)) := by
  obtain ⟨h1, h2 | h2⟩ := h <;> simp [act, h1, h2]

theorem actLine_next {f : State → State} {s : State} (h : LineRuns s) : actLine f s = .next (endCycle (f s)) := by
  obtain ⟨h1, h2⟩ := h
  simp [actLine, h1, h2]

theorem actAny_next {f : State → State} {s : State} : actAny f s = .next (endCycle (f s)) := rfl

/-- Where the module acts, the line and the time base act. -/
theorem Operational.lineRuns {s : State} (h : Operational s) : LineRuns s := by
  obtain ⟨h1, h2 | h2⟩ := h <;> exact ⟨h1, by simp [h2]⟩

/-- What a command answers: nothing has changed, or its effect with the end of the fabric cycle. -/
theorem act_cases {f : State → State} {s t : State} (h : act f s = .next t) : t = s ∨ t = endCycle (f s) := by
  unfold act at h
  simp only [Host.Outcome.next.injEq] at h
  subst h
  split
  · exact Or.inr rfl
  · exact Or.inl rfl

theorem actLine_cases {f : State → State} {s t : State} (h : actLine f s = .next t) : t = s ∨ t = endCycle (f s) := by
  unfold actLine at h
  simp only [Host.Outcome.next.injEq] at h
  subst h
  split
  · exact Or.inr rfl
  · exact Or.inl rfl

theorem actAny_cases {f : State → State} {s t : State} (h : actAny f s = .next t) : t = endCycle (f s) := by
  unfold actAny at h
  simp only [Host.Outcome.next.injEq] at h
  exact h.symm

/-- What a command's effect and the end of the fabric cycle keep, the command keeps. -/
theorem act_keeps {p : State → Prop} {f : State → State} {s t : State} (h : act f s = .next t) (hs : p s) (hf : p (f s))
    (he : ∀ u, p u → p (endCycle u)) : p t := by
  rcases act_cases h with rfl | rfl
  · exact hs
  · exact he _ hf

theorem actLine_keeps {p : State → Prop} {f : State → State} {s t : State} (h : actLine f s = .next t) (hs : p s) (hf : p (f s))
    (he : ∀ u, p u → p (endCycle u)) : p t := by
  rcases actLine_cases h with rfl | rfl
  · exact hs
  · exact he _ hf

theorem actAny_keeps {p : State → Prop} {f : State → State} {s t : State} (h : actAny f s = .next t) (hf : p (f s))
    (he : ∀ u, p u → p (endCycle u)) : p t := by
  exact actAny_cases h ▸ he _ hf

/-! ## Parts of the state -/

theorem SameBut.refl (ps : List Part) (s : State) : SameBut ps s s := by
  intro p _
  cases p <;> simp [Part.same]

theorem SameBut.trans {ps : List Part} {s u v : State} (h : SameBut ps s u) (k : SameBut ps u v) : SameBut ps s v := by
  intro p hp
  have h1 := h p hp
  have h2 := k p hp
  cases p <;> simp_all [Part.same]

theorem SameBut.mono {ps qs : List Part} {s u : State} (h : SameBut ps s u) (hq : ∀ p ∈ ps, p ∈ qs) : SameBut qs s u :=
  fun p hp => h p (fun hm => hp (hq p hm))

/-! ## The end of a fabric cycle -/

@[simp] theorem postedError_wrEn p e off be k (s : State) : (postedError p e off be k s).col.wrEn = s.col.wrEn := by
  unfold postedError
  dsimp only
  (repeat' split) <;> simp

@[simp] theorem failPosted_wrEn k (s : State) : (failPosted k s).col.wrEn = s.col.wrEn :=
  foldl_keeps (fun u => u.col.wrEn) _ (fun _ _ => by simp) _ _

/-- The write enable follows the output enable at the end of every fabric cycle (R320). -/
theorem endCycle_follows (u : State) : WriteEnableFollows (endCycle u) := by
  suffices h : WriteEnableFollows (followEnable (takeModuleSafe u)) by simpa [WriteEnableFollows, endCycle] using h
  unfold followEnable
  split
  · assumption
  · split
    · rename_i h
      simp [WriteEnableFollows, h]
    · rename_i h
      simp [WriteEnableFollows, h]

end Sys2Proof.Machine
end

