-- ==== Sys2Proof/Laws/Results.lean ====
section
/-!
SUPPORT. What the shared operations write: register fields, reports, requested records, completions.
-/

namespace Sys2Proof.Machine

/-! ## Register fields -/

theorem field_lt (v lo w : Nat) : field v lo w < 2 ^ w := Nat.mod_lt _ (Nat.two_pow_pos w)

/-- A field replaced in a number reads as the value placed there. -/
theorem field_replace (old lo w v : Nat) : field (old - place (field old lo w) lo w + place v lo w) lo w = v % 2 ^ w := by
  unfold place field
  rw [Nat.mod_mod]
  have hp : 0 < 2 ^ lo := Nat.two_pow_pos lo
  have h1 : old = 2 ^ lo * (2 ^ w * (old / 2 ^ lo / 2 ^ w) + old / 2 ^ lo % 2 ^ w) + old % 2 ^ lo := by
    rw [Nat.div_add_mod, Nat.div_add_mod]
  generalize old / 2 ^ lo / 2 ^ w = q at *
  generalize old / 2 ^ lo % 2 ^ w = f at *
  generalize hr : old % 2 ^ lo = r at *
  have hr' : r < 2 ^ lo := hr ▸ Nat.mod_lt _ hp
  have h2 : old - f * 2 ^ lo + v % 2 ^ w * 2 ^ lo = r + 2 ^ lo * (v % 2 ^ w + 2 ^ w * q) := by
    subst h1
    have : 2 ^ lo * (2 ^ w * q + f) = 2 ^ lo * (2 ^ w * q) + f * 2 ^ lo := by ring
    rw [this]
    have e : 2 ^ lo * (v % 2 ^ w + 2 ^ w * q) = v % 2 ^ w * 2 ^ lo + 2 ^ lo * (2 ^ w * q) := by ring
    rw [e]
    omega
  rw [h2, Nat.add_mul_div_left _ _ hp, Nat.div_eq_of_lt hr', Nat.zero_add, Nat.add_mul_mod_self_left, Nat.mod_mod]

theorem field_replace_lt {old lo w : Nat} (v : Nat) (ho : old < 2 ^ 32) (hw : lo + w ≤ 32) :
    old - place (field old lo w) lo w + place v lo w < 2 ^ 32 := by
  unfold place field
  rw [Nat.mod_mod]
  have hp : 0 < 2 ^ lo := Nat.two_pow_pos lo
  have hv : v % 2 ^ w < 2 ^ w := Nat.mod_lt _ (Nat.two_pow_pos w)
  have h1 : old = 2 ^ lo * (2 ^ w * (old / 2 ^ lo / 2 ^ w) + old / 2 ^ lo % 2 ^ w) + old % 2 ^ lo := by
    rw [Nat.div_add_mod, Nat.div_add_mod]
  have hq : old / 2 ^ lo / 2 ^ w < 2 ^ (32 - lo - w) := by
    rw [Nat.div_div_eq_div_mul, ← pow_add, Nat.div_lt_iff_lt_mul (Nat.two_pow_pos _), ← pow_add]
    exact lt_of_lt_of_eq ho (by congr 1; omega)
  generalize old / 2 ^ lo / 2 ^ w = q at *
  generalize old / 2 ^ lo % 2 ^ w = f at *
  generalize hr : old % 2 ^ lo = r at *
  have hr' : r < 2 ^ lo := hr ▸ Nat.mod_lt _ hp
  have h2 : old - f * 2 ^ lo + v % 2 ^ w * 2 ^ lo = r + 2 ^ lo * (v % 2 ^ w + 2 ^ w * q) := by
    subst h1
    have : 2 ^ lo * (2 ^ w * q + f) = 2 ^ lo * (2 ^ w * q) + f * 2 ^ lo := by ring
    rw [this]
    have e : 2 ^ lo * (v % 2 ^ w + 2 ^ w * q) = v % 2 ^ w * 2 ^ lo + 2 ^ lo * (2 ^ w * q) := by ring
    rw [e]
    omega
  rw [h2]
  generalize v % 2 ^ w = x at *
  have h3 : x + 2 ^ w * q < 2 ^ w * 2 ^ (32 - lo - w) := by
    calc x + 2 ^ w * q < 2 ^ w + 2 ^ w * q := by omega
      _ = 2 ^ w * (q + 1) := by ring
      _ ≤ 2 ^ w * 2 ^ (32 - lo - w) := Nat.mul_le_mul_left _ hq
  calc r + 2 ^ lo * (x + 2 ^ w * q) < 2 ^ lo + 2 ^ lo * (x + 2 ^ w * q) := by omega
    _ = 2 ^ lo * (x + 2 ^ w * q + 1) := by ring
    _ ≤ 2 ^ lo * (2 ^ w * 2 ^ (32 - lo - w)) := Nat.mul_le_mul_left _ h3
    _ = 2 ^ 32 := by rw [← pow_add, ← pow_add]; congr 1; omega

@[simp] theorem regGet_regSet_self (s : State) (a : Nat) (w : Word) : regGet (regSet s a w) a = w := by
  unfold regGet regSet tgetD tsetD
  dsimp only
  split <;> simp [*]

theorem regGet_regSet_other (s : State) (a b : Nat) (w : Word) (h : b ≠ a) : regGet (regSet s a w) b = regGet s b := by
  unfold regGet regSet tgetD tsetD
  dsimp only
  split
  · rw [tget?_terase_other _ _ _ h]
  · rw [tget?_tset_other _ _ _ _ h]

/-- A shared register's field is read from the shared registers alone. -/
theorem regField_congr {s u : State} {a lo w : Nat} (h : u.regs = s.regs) : regField u a lo w = regField s a lo w := by
  unfold regField regGet
  rw [h]

/-- A field put into a shared register reads back (R12, R16). -/
theorem regField_regPut (s : State) (a lo w v : Nat) (h : lo + w ≤ 32) : regField (regPut s a lo w v) a lo w = v % 2 ^ w := by
  unfold regField regPut
  dsimp only
  rw [regGet_regSet_self, BitVec.toNat_ofNat, Nat.mod_eq_of_lt (field_replace_lt v (regGet s a).isLt h), field_replace]

theorem regGet_regPut_other (s : State) (a b lo w v : Nat) (h : b ≠ a) : regGet (regPut s a lo w v) b = regGet s b :=
  regGet_regSet_other _ _ _ _ h

/-! ## Reports -/

theorem faultRecord_cls code origin data (s : State) : (faultRecord code origin data s).flt.cls = s.flt.cls := by
  unfold faultRecord
  dsimp only
  (repeat' split) <;> rfl

theorem noteReport_cls (f : FaultRep) code origin : (f.noteReport code origin).cls = f.cls := by
  unfold FaultRep.noteReport
  dsimp only
  (repeat' split) <;> rfl

theorem raiseAll_flt b (s : State) : (raiseAll b s).flt = s.flt := rfl

theorem reportOnly_cls code origin data (s : State) :
    (reportOnly code origin data s).flt.cls = tset s.flt.cls code (tgetD s.flt.cls code 0 + 1) := by
  unfold reportOnly
  dsimp only
  rw [raiseAll_flt]
  dsimp only
  rw [noteReport_cls, faultRecord_cls]

theorem tgetD_tset_self {α : Type} (m : Table α) (k : Nat) (x d : α) : tgetD (tset m k x) k d = x := by simp [tgetD]

theorem tgetD_tset_other {α : Type} (m : Table α) (k a : Nat) (x d : α) (h : a ≠ k) : tgetD (tset m k x) a d = tgetD m a d := by
  simp [tgetD, tget?_tset_other m k a x h]

/-- A report counts its class (R563). -/
theorem report_reported (code origin : Nat) (data : List Byte) (s : State) (h : code ≠ 0x402) : Reported code s (report code origin data s) := by
  unfold Reported report
  dsimp only
  split
  · rw [reportOnly_cls, tgetD_tset_self]
  · rw [reportOnly_cls, tgetD_tset_other _ _ _ _ _ h]
    dsimp only
    rw [reportOnly_cls, tgetD_tset_self]

/-- A report counts no other class but the one for a configured reaction (R563, R574). -/
theorem report_cls_other (code origin : Nat) (data : List Byte) (s : State) (c : Nat) (h : c ≠ code) (h2 : c ≠ 0x402) :
    tgetD (report code origin data s).flt.cls c 0 = tgetD s.flt.cls c 0 := by
  unfold report
  dsimp only
  split
  · rw [reportOnly_cls, tgetD_tset_other _ _ _ _ _ h]
  · rw [reportOnly_cls, tgetD_tset_other _ _ _ _ _ h2]
    dsimp only
    rw [reportOnly_cls, tgetD_tset_other _ _ _ _ _ h]

theorem rep_reported (code : Nat) (s : State) (h : code ≠ 0x402) : Reported code s (rep code s) := report_reported _ _ _ _ h

theorem repLane_reported (code : Nat) (l : LaneId) (s : State) (h : code ≠ 0x402) : Reported code s (repLane code l s) :=
  report_reported _ _ _ _ h

theorem repRing_reported (code e : Nat) (s : State) (h : code ≠ 0x402) : Reported code s (repRing code e s) := report_reported _ _ _ _ h

/-- Reporting from a state with the same reporting counters counts the class there as well. -/
theorem Reported.of_flt {code : Nat} {s u v : State} (h : Reported code u v) (e : u.flt = s.flt) : Reported code s v := by
  unfold Reported at *
  rw [h, e]

/-! ## What a report does to the recorder -/

/-- A report requests a record and may trigger a flush; of the recorder it changes nothing else (R563). -/
@[simp] theorem faultRecord_rcd code origin data (s : State) :
    (faultRecord code origin data s).rcd.running = s.rcd.running ∧ (faultRecord code origin data s).rcd.staged = s.rcd.staged ∧ (faultRecord
    code origin data s).rcd.next = s.rcd.next ∧ (faultRecord code origin data s).rcd.flushing = s.rcd.flushing ∧ (faultRecord code origin
    data s).rcd.flushCount = s.rcd.flushCount ∧ (faultRecord code origin data s).rcd.losing = s.rcd.losing ∧ (faultRecord code origin data
    s).rcd.losingCount = s.rcd.losingCount ∧ (faultRecord code origin data s).rcd.perm = s.rcd.perm ∧ (faultRecord code origin data
    s).rcd.circ = s.rcd.circ ∧ (faultRecord code origin data s).rcd.circWrap = s.rcd.circWrap ∧ (faultRecord code origin data s).rcd.flushed
    = s.rcd.flushed ∧ (faultRecord code origin data s).rcd.nandNext = s.rcd.nandNext ∧ (faultRecord code origin data s).rcd.fmt = s.rcd.fmt
    ∧ (faultRecord code origin data s).rcd.flushCnt = s.rcd.flushCnt ∧ (faultRecord code origin data s).rcd.appRefused = s.rcd.appRefused ∧
    (faultRecord code origin data s).rcd.lostCnt = s.rcd.lostCnt ∧ (faultRecord code origin data s).rcd.nandErr = s.rcd.nandErr ∧
    (faultRecord code origin data s).rcd.refusedTick = s.rcd.refusedTick := by
  unfold faultRecord
  dsimp only
  (repeat' split) <;> simp [requestRecord]

/-- A report requests a record and may trigger a flush; of the recorder it changes nothing else (R563). -/
@[simp] theorem reportOnly_rcd code origin data (s : State) :
    (reportOnly code origin data s).rcd.running = s.rcd.running ∧ (reportOnly code origin data s).rcd.staged = s.rcd.staged ∧ (reportOnly
    code origin data s).rcd.next = s.rcd.next ∧ (reportOnly code origin data s).rcd.flushing = s.rcd.flushing ∧ (reportOnly code origin data
    s).rcd.flushCount = s.rcd.flushCount ∧ (reportOnly code origin data s).rcd.losing = s.rcd.losing ∧ (reportOnly code origin data
    s).rcd.losingCount = s.rcd.losingCount ∧ (reportOnly code origin data s).rcd.perm = s.rcd.perm ∧ (reportOnly code origin data
    s).rcd.circ = s.rcd.circ ∧ (reportOnly code origin data s).rcd.circWrap = s.rcd.circWrap ∧ (reportOnly code origin data s).rcd.flushed =
    s.rcd.flushed ∧ (reportOnly code origin data s).rcd.nandNext = s.rcd.nandNext ∧ (reportOnly code origin data s).rcd.fmt = s.rcd.fmt ∧
    (reportOnly code origin data s).rcd.flushCnt = s.rcd.flushCnt ∧ (reportOnly code origin data s).rcd.appRefused = s.rcd.appRefused ∧
    (reportOnly code origin data s).rcd.lostCnt = s.rcd.lostCnt ∧ (reportOnly code origin data s).rcd.nandErr = s.rcd.nandErr ∧ (reportOnly
    code origin data s).rcd.refusedTick = s.rcd.refusedTick := by
  simp [reportOnly, raiseAll, State.modLanes, faultRecord_rcd]

/-- A report requests a record and may trigger a flush; of the recorder it changes nothing else (R563). -/
@[simp] theorem report_rcd code origin data (s : State) :
    (report code origin data s).rcd.running = s.rcd.running ∧ (report code origin data s).rcd.staged = s.rcd.staged ∧ (report code origin
    data s).rcd.next = s.rcd.next ∧ (report code origin data s).rcd.flushing = s.rcd.flushing ∧ (report code origin data s).rcd.flushCount =
    s.rcd.flushCount ∧ (report code origin data s).rcd.losing = s.rcd.losing ∧ (report code origin data s).rcd.losingCount =
    s.rcd.losingCount ∧ (report code origin data s).rcd.perm = s.rcd.perm ∧ (report code origin data s).rcd.circ = s.rcd.circ ∧ (report code
    origin data s).rcd.circWrap = s.rcd.circWrap ∧ (report code origin data s).rcd.flushed = s.rcd.flushed ∧ (report code origin data
    s).rcd.nandNext = s.rcd.nandNext ∧ (report code origin data s).rcd.fmt = s.rcd.fmt ∧ (report code origin data s).rcd.flushCnt =
    s.rcd.flushCnt ∧ (report code origin data s).rcd.appRefused = s.rcd.appRefused ∧ (report code origin data s).rcd.lostCnt = s.rcd.lostCnt
    ∧ (report code origin data s).rcd.nandErr = s.rcd.nandErr ∧ (report code origin data s).rcd.refusedTick = s.rcd.refusedTick := by
  unfold report
  dsimp only
  split <;> simp

/-- A report requests a record and may trigger a flush; of the recorder it changes nothing else (R563). -/
@[simp] theorem rep_rcd code (s : State) :
    (rep code s).rcd.running = s.rcd.running ∧ (rep code s).rcd.staged = s.rcd.staged ∧ (rep code s).rcd.next = s.rcd.next ∧ (rep code
    s).rcd.flushing = s.rcd.flushing ∧ (rep code s).rcd.flushCount = s.rcd.flushCount ∧ (rep code s).rcd.losing = s.rcd.losing ∧ (rep code
    s).rcd.losingCount = s.rcd.losingCount ∧ (rep code s).rcd.perm = s.rcd.perm ∧ (rep code s).rcd.circ = s.rcd.circ ∧ (rep code
    s).rcd.circWrap = s.rcd.circWrap ∧ (rep code s).rcd.flushed = s.rcd.flushed ∧ (rep code s).rcd.nandNext = s.rcd.nandNext ∧ (rep code
    s).rcd.fmt = s.rcd.fmt ∧ (rep code s).rcd.flushCnt = s.rcd.flushCnt ∧ (rep code s).rcd.appRefused = s.rcd.appRefused ∧ (rep code
    s).rcd.lostCnt = s.rcd.lostCnt ∧ (rep code s).rcd.nandErr = s.rcd.nandErr ∧ (rep code s).rcd.refusedTick = s.rcd.refusedTick := by
  exact report_rcd _ _ _ s

/-- A report requests a record and may trigger a flush; of the recorder it changes nothing else (R563). -/
@[simp] theorem repLane_rcd code l (s : State) :
    (repLane code l s).rcd.running = s.rcd.running ∧ (repLane code l s).rcd.staged = s.rcd.staged ∧ (repLane code l s).rcd.next = s.rcd.next
    ∧ (repLane code l s).rcd.flushing = s.rcd.flushing ∧ (repLane code l s).rcd.flushCount = s.rcd.flushCount ∧ (repLane code l
    s).rcd.losing = s.rcd.losing ∧ (repLane code l s).rcd.losingCount = s.rcd.losingCount ∧ (repLane code l s).rcd.perm = s.rcd.perm ∧
    (repLane code l s).rcd.circ = s.rcd.circ ∧ (repLane code l s).rcd.circWrap = s.rcd.circWrap ∧ (repLane code l s).rcd.flushed =
    s.rcd.flushed ∧ (repLane code l s).rcd.nandNext = s.rcd.nandNext ∧ (repLane code l s).rcd.fmt = s.rcd.fmt ∧ (repLane code l
    s).rcd.flushCnt = s.rcd.flushCnt ∧ (repLane code l s).rcd.appRefused = s.rcd.appRefused ∧ (repLane code l s).rcd.lostCnt = s.rcd.lostCnt
    ∧ (repLane code l s).rcd.nandErr = s.rcd.nandErr ∧ (repLane code l s).rcd.refusedTick = s.rcd.refusedTick := by
  exact report_rcd _ _ _ s

/-- A report requests a record and may trigger a flush; of the recorder it changes nothing else (R563). -/
@[simp] theorem repRing_rcd code e (s : State) :
    (repRing code e s).rcd.running = s.rcd.running ∧ (repRing code e s).rcd.staged = s.rcd.staged ∧ (repRing code e s).rcd.next = s.rcd.next
    ∧ (repRing code e s).rcd.flushing = s.rcd.flushing ∧ (repRing code e s).rcd.flushCount = s.rcd.flushCount ∧ (repRing code e
    s).rcd.losing = s.rcd.losing ∧ (repRing code e s).rcd.losingCount = s.rcd.losingCount ∧ (repRing code e s).rcd.perm = s.rcd.perm ∧
    (repRing code e s).rcd.circ = s.rcd.circ ∧ (repRing code e s).rcd.circWrap = s.rcd.circWrap ∧ (repRing code e s).rcd.flushed =
    s.rcd.flushed ∧ (repRing code e s).rcd.nandNext = s.rcd.nandNext ∧ (repRing code e s).rcd.fmt = s.rcd.fmt ∧ (repRing code e
    s).rcd.flushCnt = s.rcd.flushCnt ∧ (repRing code e s).rcd.appRefused = s.rcd.appRefused ∧ (repRing code e s).rcd.lostCnt = s.rcd.lostCnt
    ∧ (repRing code e s).rcd.nandErr = s.rcd.nandErr ∧ (repRing code e s).rcd.refusedTick = s.rcd.refusedTick := by
  exact report_rcd _ _ _ s

/-! ## The time base -/

@[simp] theorem setTimState_tim (t : TimState) (s : State) : (setTimState t s).tim = { s.tim with state := t } := by
  unfold setTimState
  split
  · rename_i h
    subst h
    rfl
  · rfl

@[simp] theorem servo_tim (theta : Int) (s : State) : (servo theta s).tim =
    { s.tim with
      integ := clampTo ((rateLim s * 2 ^ 31 : Nat) : Int) (s.tim.integ + theta * (2 ^ (15 - regField s (TIM + 0xC) 4 4) : Nat)),
      rate := rateOf (clampTo ((rateLim s * 2 ^ 31 : Nat) : Int)
        (clampTo ((rateLim s * 2 ^ 31 : Nat) : Int) (s.tim.integ + theta * (2 ^ (15 - regField s (TIM + 0xC) 4 4) : Nat))
          + theta * (2 ^ (15 - regField s (TIM + 0xC) 0 4) : Nat))) } := rfl

/-- What an accepted measurement leaves of the time base (R56, R57, R59). -/
theorem acceptMeasurement_tim (ch : ChanId) (theta : Int) (s : State) : (acceptMeasurement ch theta s).tim =
    { (servo theta s).tim with
      refusing := false, srcCh := BitVec.ofNat 1 ch.val, offset := sixteenths theta, holdRun := 0,
      lockRun := if theta.natAbs ≤ lockThr s * 65536 then s.tim.lockRun + 1 else 0,
      state := if s.tim.state = .holdover then TimState.acquiring else s.tim.state } := by
  unfold acceptMeasurement
  dsimp only
  split
  · rename_i h
    have h' : s.tim.state = .holdover := h
    rw [setTimState_tim]
    simp [h']
  · rename_i h
    have h' : ¬ s.tim.state = .holdover := h
    simp [h']

@[simp] theorem refuseMeasurement_tim (theta : Int) (s : State) : (refuseMeasurement theta s).tim =
    { s.tim with
      refusing := true, refuseCnt := s.tim.refuseCnt + 1, refusedOfs := sixteenths theta, holdRun := s.tim.holdRun + 1, lockRun := 0 } := by
  unfold refuseMeasurement
  dsimp only
  split <;> simp

theorem refuseMeasurement_reported (theta : Int) (s : State) : Reported 0x0801 s (refuseMeasurement theta s) := by
  unfold refuseMeasurement
  refine (rep_reported _ _ (by decide)).of_flt ?_
  dsimp only
  split <;> rfl

theorem refuseMeasurement_cls (theta : Int) (s : State) (c : Nat) (h : c ≠ 0x801) (h2 : c ≠ 0x402) :
    tgetD (refuseMeasurement theta s).flt.cls c 0 = tgetD s.flt.cls c 0 := by
  unfold refuseMeasurement rep
  dsimp only
  rw [report_cls_other _ _ _ _ _ h h2]
  split <;> rfl

@[simp] theorem applyStep_tim (theta : Int) (s : State) : (applyStep theta s).tim =
    { s.tim with
      now := ((s.tim.now : Int) + theta * (2 ^ 24 : Nat)).toNat, lockRun := 0, holdRun := 0, stepHeld := false, state := .acquiring } := by
  simp [applyStep]

/-- A rate within the bound of R56 is within 100 ppm, in units of 2^-40. -/
theorem rateOf_le (x : Int) (h : x.natAbs ≤ 100 * 2 ^ 31) : (rateOf x).natAbs ≤ 109951163 := by
  unfold rateOf divFree
  have hb : (if x * 512 % ((1000000 : Nat) : Int) ≠ 0 ∧ Config.roundUp 1 (x * 512) = true then (1 : Int) else 0) = 0 ∨
      (x * 512 % ((1000000 : Nat) : Int) ≠ 0 ∧
        (if x * 512 % ((1000000 : Nat) : Int) ≠ 0 ∧ Config.roundUp 1 (x * 512) = true then (1 : Int) else 0) = 1) := by
    split
    · rename_i h
      exact Or.inr ⟨h.1, rfl⟩
    · exact Or.inl rfl
  rcases hb with hb | ⟨hne, hb⟩ <;> rw [hb] <;> push_cast at * <;> omega

theorem rateLim_le (s : State) : rateLim s ≤ 100 := by
  unfold rateLim
  dsimp only
  split <;> omega

theorem clampTo_le (b v : Int) (h : 0 ≤ b) : (clampTo b v).natAbs ≤ b.natAbs := by
  unfold clampTo
  omega

/-- TIM_RATE stays within 100 ppm at every servo update (R56, R75). -/
theorem servo_rate_le (theta : Int) (s : State) : (servo theta s).tim.rate.natAbs ≤ 109951163 := by
  rw [servo_tim]
  refine rateOf_le _ ((clampTo_le _ _ (by positivity)).trans ?_)
  have := rateLim_le s
  simp only [Int.natAbs_natCast]
  omega

/-! ## Operations of rings -/

/-- A started operation is among the ring's operations at work, with its tag and opcode (R145). -/
theorem startedOp_mem {s : State} {r : Fin 64} {tag opcode : Nat} {d : Desc} (h : startedOp s r tag opcode = some d) :
    { desc := d, stage := .running : RunOp } ∈ (s.ringAt r).ops ∧ d.tag = tag ∧ d.opcode = opcode := by
  unfold startedOp at h
  dsimp only at h
  split at h
  · rename_i o ho
    split at h
    · rename_i hc
      cases h
      have hm := List.mem_of_find?_eq_some ho
      have hp := List.find?_some ho
      simp only [Bool.and_eq_true, beq_iff_eq, decide_eq_true_eq] at hp
      refine ⟨?_, hp.1, hc.1⟩
      have : o = { desc := o.desc, stage := .running : RunOp } := by
        cases o
        simp_all
      rwa [← this]
    · cases h
  · cases h

/-- What the end of an operation leaves in its ring (R153). -/
theorem opDone_concluded {u : State} {r : Fin 64} {d : Desc} (a b c : Nat) (h : { desc := d, stage := .running : RunOp } ∈ (u.ringAt r).ops) :
    Concluded (opDone r d.tag a b c u) r d a b c := by
  unfold Concluded opDone
  rw [State.ringAt_modRing]
  refine List.mem_map.mpr ⟨_, h, ?_⟩
  simp

/-- A started operation that is carried out. -/
theorem runOp_some {s : State} {r : Fin 64} {tag : Fin 1024} {opcode : Nat} {d : Desc} (f : Desc → State → State)
    (h : startedOp s r tag.val opcode = some d) : runOp r tag opcode f s = f d s := by
  unfold runOp
  rw [h]

/-- The rings are the same where the ring part is. -/
theorem ringAt_congr {s u : State} (h : u.rng = s.rng) (r : Fin 64) : u.ringAt r = s.ringAt r := by
  unfold State.ringAt
  rw [h]

theorem Concluded.congr {s u : State} {r : Fin 64} {d : Desc} {a b c : Nat} (h : Concluded s r d a b c) (e : u.rng = s.rng) :
    Concluded u r d a b c := by
  unfold Concluded at *
  rwa [ringAt_congr e]

end Sys2Proof.Machine
end

