-- ==== Sys2Proof/Laws/Requests.lean ====
section
/-!
SUPPORT. Utmus requests: what a request that passes every check comes to, and what its response leaves of the state.
-/

namespace Sys2Proof.Machine

theorem noteSeq_seqTaken (q : UtmusReq) (S : UtmusSession) (s : State) (h : s.trust.session = some S) : noteSeq q S s = seqTaken q s := by
  unfold noteSeq seqTaken
  rw [h]
  rfl

/-- A request that passes every check before its command's own comes to that command. -/
theorem checked_accepted {cmd : Nat} {perm : Option Nat} {type : Nat} {q : UtmusReq} {s : State} (f : State → Reply)
    (h : Accepted cmd perm type q s) : checked cmd perm type q f s = f (seqTaken q s) := by
  obtain ⟨_, hf, S, hs, hn, hq, hp, hr⟩ := h
  unfold checked
  rw [if_neg (by rw [hf]; simp), hs]
  dsimp only
  rw [if_neg (by simp [hn]), if_neg (by simp [hq]), noteSeq_seqTaken q S s hs]
  have h1 : (perm.isNone || q.signed cmd S.nonce (seqTaken q s)) = true := by
    rcases hp with hp | hp
    · simp [hp]
    · simp [hp.1]
  have h2 : (perm.isNone || q.allowed cmd (perm.getD 0) (seqTaken q s)) = true := by
    rcases hp with hp | hp
    · simp [hp]
    · simp [hp.2]
  have h3 : ((seqTaken q s).trust.recovery && !recoveryTakes cmd type) = false := by
    rcases hr with hr | hr
    · simp [seqTaken, hr]
    · simp [hr]
  rw [h1, h2, h3]
  simp

theorem utmus_accepted {cmd : Nat} {perm : Option Nat} {q : UtmusReq} {s : State} (f : State → Reply) (h : Accepted cmd perm 0 q s) :
    utmus cmd perm q f s = respond cmd q q.session (f (seqTaken q s)) := by
  unfold utmus
  rw [checked_accepted f h]

/-- The bytes of a response (R509). -/
def responseBytes (cmd : Nat) (q : UtmusReq) (session : BitVec 32) (r : Reply) : List Byte :=
  leBytes 2 0x5455 ++ leBytes 1 1 ++ leBytes 1 (cmd + 0x80) ++ leBytes 4 session.toNat ++ leBytes 4 q.seq.toNat
    ++ leBytes 4 (leBytes 1 r.status ++ r.body).length ++ zeros 4 ++ (leBytes 1 r.status ++ r.body)

/-- The state with a response sent. -/
def responded (cmd : Nat) (q : UtmusReq) (session : BitVec 32) (r : Reply) : State :=
  { r.st with trust := { r.st.trust with response := responseBytes cmd q session r } }

/-- A command that is carried out leaves its own state with the response. -/
theorem respond_done (cmd : Nat) (q : UtmusReq) (session : BitVec 32) (r : Reply) (h : r.status = 0) :
    respond cmd q session r = responded cmd q session r := by
  unfold respond responded responseBytes
  dsimp only
  rw [if_pos h]

theorem leBytes_length (n v : Nat) : (leBytes n v).length = n := by
  induction n generalizing v with
  | zero => rfl
  | succ n ih => simp [leBytes, ih]

theorem responded_answered (cmd : Nat) (q : UtmusReq) (r : Reply) : Answered (responded cmd q q.session r) cmd q r.status r.body := by
  unfold Answered responded responseBytes
  dsimp only
  rw [List.length_append, leBytes_length, Nat.add_comm 1]

/-- The response changes nothing but the trust part. -/
theorem sameBut_responded (cmd : Nat) (q : UtmusReq) (session : BitVec 32) (r : Reply) :
    SameBut [.trust] r.st (responded cmd q session r) := by
  intro p hp
  cases p <;> first
    | (simp only [Part.same]; intro _; rfl)
    | (simp only [Part.same]; rfl)
    | (simp at hp; done)

/-- A request carried out: its own state, its response, and nothing else. -/
theorem utmus_done {cmd : Nat} {perm : Option Nat} {q : UtmusReq} {s v : State} {body : List Byte} (f : State → Reply)
    (h : Accepted cmd perm 0 q s) (hf : f (seqTaken q s) = ⟨0, body, v⟩) :
    utmus cmd perm q f s = responded cmd q q.session ⟨0, body, v⟩ := by
  rw [utmus_accepted f h, hf, respond_done _ _ _ _ rfl]

/-- A refusal is counted and reported (R509). -/
theorem respond_refused (cmd : Nat) (q : UtmusReq) (session : BitVec 32) (r : Reply) (h : r.status ≠ 0) :
    respond cmd q session r =
      rep 0x4808 { responded cmd q session r with
        trust := { (responded cmd q session r).trust with utmusRej := (responded cmd q session r).trust.utmusRej + 1 } } := by
  unfold respond responded responseBytes
  dsimp only
  rw [if_neg h]

theorem rep_trust (c : Nat) (s : State) : (rep c s).trust = s.trust := by simp

theorem Answered.congr {u v : State} {cmd : Nat} {q : UtmusReq} {st : Nat} {b : List Byte} (h : Answered u cmd q st b)
    (e : v.trust.response = u.trust.response) : Answered v cmd q st b := by
  unfold Answered at *
  rw [e, h]

end Sys2Proof.Machine
end

