-- ==== Sys2Proof/Laws/Boot.lean ====
section
/-!
SUPPORT. What a software reset leaves of the trust part (R491, R497, R498, R529).
-/

namespace Sys2Proof.Machine

/-- Two states agree in what no start changes: the activation count, the keys, the containers and the response sent last. -/
@[simp] abbrev KeepsStore (s u : State) : Prop :=
  u.trust.actCnt = s.trust.actCnt ∧ u.trust.owner = s.trust.owner ∧ u.trust.vendor = s.trust.vendor ∧ u.trust.seed = s.trust.seed ∧
  u.trust.images = s.trust.images ∧ u.trust.banks = s.trust.banks ∧ u.trust.staged = s.trust.staged ∧ u.trust.factory = s.trust.factory ∧
  u.trust.pref = s.trust.pref ∧ u.trust.response = s.trust.response

/-- Two states agree in the firmware trial. -/
@[simp] abbrev KeepsTrial (s u : State) : Prop := u.trust.trial = s.trust.trial ∧ u.trust.trialLeft = s.trust.trialLeft

theorem configFault_store cause (s : State) : KeepsStore s (configFault cause s) ∧ KeepsTrial s (configFault cause s) := by
  simp [configFault]

theorem rejectContainer_store r (s : State) : KeepsStore s (rejectContainer r s) ∧ KeepsTrial s (rejectContainer r s) := by
  have h : ∀ c o d (u : State), (report c o d u).trust = u.trust := fun c o d u => by simp
  unfold rejectContainer
  rw [KeepsStore, KeepsTrial, h]
  simp

theorem refuseActive_store i cause (s : State) : KeepsStore s (refuseActive i cause s) ∧ KeepsTrial s (refuseActive i cause s) :=
  configFault_store cause s

theorem KeepsStore.trans {s u v : State} (h : KeepsStore s u) (k : KeepsStore u v) : KeepsStore s v := by
  simp only [KeepsStore] at *
  obtain ⟨a, b, c, d, e, f, g, i, j, l⟩ := h
  obtain ⟨a', b', c', d', e', f', g', i', j', l'⟩ := k
  exact ⟨a'.trans a, b'.trans b, c'.trans c, d'.trans d, e'.trans e, f'.trans f, g'.trans g, i'.trans i, j'.trans j, l'.trans l⟩

theorem KeepsTrial.trans {s u v : State} (h : KeepsTrial s u) (k : KeepsTrial u v) : KeepsTrial s v := ⟨k.1.trans h.1, k.2.trans h.2⟩

theorem migrateUcal_store (s : State) : KeepsStore s (migrateUcal s) ∧ KeepsTrial s (migrateUcal s) := by
  unfold migrateUcal
  dsimp only
  split
  · have h : ∀ {α : Type} (xs : List α) (u : State), (xs.foldl (fun s _ => rep 0x4409 s) u).trust = u.trust :=
      fun xs u => foldl_keeps State.trust _ (fun a b => rep_trust _ _) _ _
    rw [KeepsStore, KeepsTrial, h]
    simp
  · simp

theorem loadActive_store (s : State) : KeepsStore s (loadActive s) ∧ KeepsTrial s (loadActive s) := by
  have ha : ∀ c img m (u : State), KeepsStore u (adopt c img m u) ∧ KeepsTrial u (adopt c img m u) := by
    intro c img m u
    have h : ∀ v : State, (loadEngines v).trust = v.trust := fun v => by simp
    unfold adopt
    rw [KeepsStore, KeepsTrial, h]
    simp
  have hr : ∀ i c r (u : State), KeepsStore u (refuseActive i c (rejectContainer r u)) ∧ KeepsTrial u (refuseActive i c (rejectContainer r u)) :=
    fun i c r u => ⟨(rejectContainer_store r u).1.trans (refuseActive_store i c _).1, (rejectContainer_store r u).2.trans (refuseActive_store i c _).2⟩
  have hp : ∀ c (u : State), KeepsStore u (rep c u) ∧ KeepsTrial u (rep c u) := by
    intro c u
    rw [KeepsStore, KeepsTrial, rep_trust]
    simp
  unfold loadActive
  split
  · simp
  · dsimp only
    split
    · exact hr _ _ _ _
    · split
      · exact refuseActive_store _ _ _
      · split
        · exact hr _ _ _ _
        · split
          · exact ⟨(hp _ _).1.trans (refuseActive_store _ _ _).1, (hp _ _).2.trans (refuseActive_store _ _ _).2⟩
          · have hm : ∀ i x m, KeepsStore s (if migratesNow x m then rep 0x4405 (setSlot i { x with migrated := m } s) else s) ∧
                KeepsTrial s (if migratesNow x m then rep 0x4405 (setSlot i { x with migrated := m } s) else s) := by
              intro i x m
              split
              · rw [KeepsStore, KeepsTrial, rep_trust]
                simp [setSlot]
              · simp
            split
            · exact ⟨(hm _ _ _).1.trans (ha _ _ _ _).1, (hm _ _ _).2.trans (ha _ _ _ _).2⟩
            · exact ⟨(hm _ _ _).1.trans (configFault_store _ _).1, (hm _ _ _).2.trans (configFault_store _ _).2⟩
            · exact ⟨(hm _ _ _).1.trans (refuseActive_store _ _ _).1, (hm _ _ _).2.trans (refuseActive_store _ _ _).2⟩

theorem supervisorStart_trust (s : State) : (supervisorStart s).trust = s.trust := by
  unfold supervisorStart
  dsimp only
  split <;> split <;> simp

theorem completeCommit_store (s : State) : KeepsStore s (completeCommit s) ∧ KeepsTrial s (completeCommit s) := by
  unfold completeCommit
  split
  · simp
  · unfold advanceSvn
    split
    · rw [KeepsStore, KeepsTrial, rep_trust]
      simp
    · simp

theorem wantedBank_store (s : State) : KeepsStore s (wantedBank s).2 := by
  unfold wantedBank
  split
  · simp
  · dsimp only
    split
    · unfold endTrial
      rw [KeepsStore, rep_trust]
      simp
    · simp

/-- A start keeps the store. -/
theorem startUp_store (s : State) : KeepsStore s (startUp s) := by
  have hb : ∀ u : State, KeepsStore u (bootFirmware u) := by
    intro u
    refine ((completeCommit_store u).1.trans (wantedBank_store _)).trans ?_
    unfold bootFirmware
    dsimp only
    split
    · simp
    · split
      · simp
      · rw [KeepsStore, rep_trust]
        simp
  have h1 : KeepsStore s (bootFirmware (supervisorStart s)) := by
    refine KeepsStore.trans ?_ (hb _)
    rw [KeepsStore, supervisorStart_trust]
    simp
  unfold startUp
  dsimp only
  split
  · exact h1
  · exact (h1.trans (migrateUcal_store _).1).trans (loadActive_store _).1

/-- A start in a firmware trial that is not over counts down TRIAL_LEFT and keeps the bank on trial (R497, R498). -/
theorem startUp_trial (s : State) (b : Bool) (n : Nat) (h : s.trust.trial = some b) (hn : s.trust.trialLeft = BitVec.ofNat 2 (n + 2))
    (hl : n < 2) : (startUp s).trust.trial = some b ∧ (startUp s).trust.trialLeft = BitVec.ofNat 2 (n + 1) := by
  have hb : ∀ u : State, u.trust.trial = some b → u.trust.trialLeft = BitVec.ofNat 2 (n + 2) →
      (bootFirmware u).trust.trial = some b ∧ (bootFirmware u).trust.trialLeft = BitVec.ofNat 2 (n + 1) := by
    intro u h1 h2
    have k := (completeCommit_store u).2
    have hw : wantedBank (completeCommit u) =
        (b, { completeCommit u with trust := { (completeCommit u).trust with trialLeft := (completeCommit u).trust.trialLeft - 1 } }) := by
      unfold wantedBank
      rw [k.1, h1]
      dsimp only
      rw [if_neg]
      rw [k.2, h2]
      have : n = 0 ∨ n = 1 := by omega
      rcases this with rfl | rfl <;> decide
    have hv : (completeCommit u).trust.trialLeft - 1 = BitVec.ofNat 2 (n + 1) := by
      rw [k.2, h2]
      have : n = 0 ∨ n = 1 := by omega
      rcases this with rfl | rfl <;> decide
    have ht : (completeCommit u).trust.trial = some b := k.1.trans h1
    unfold bootFirmware
    rw [hw]
    dsimp only
    split
    · exact ⟨ht, hv⟩
    · split
      · dsimp only
        rw [rep_trust]
        exact ⟨ht, hv⟩
      · rw [rep_trust]
        dsimp only
        rw [rep_trust]
        exact ⟨ht, hv⟩
  have h1 := hb (supervisorStart s) (by rw [supervisorStart_trust, h]) (by rw [supervisorStart_trust, hn])
  unfold startUp
  dsimp only
  split
  · exact h1
  · have k := ((migrateUcal_store (bootFirmware (supervisorStart s))).2).trans (loadActive_store _).2
    exact ⟨k.1.trans h1.1, k.2.trans h1.2⟩

/-- A start outside a firmware trial stays outside one. -/
theorem startUp_noTrial (s : State) (h : s.trust.trial = none) : (startUp s).trust.trial = none := by
  have hb : ∀ u : State, u.trust.trial = none → (bootFirmware u).trust.trial = none := by
    intro u h1
    have k := (completeCommit_store u).2
    have hw : wantedBank (completeCommit u) = ((completeCommit u).trust.pref, completeCommit u) := by
      unfold wantedBank
      rw [k.1, h1]
    have ht : (completeCommit u).trust.trial = none := k.1.trans h1
    unfold bootFirmware
    rw [hw]
    dsimp only
    split
    · exact ht
    · split
      · dsimp only
        rw [rep_trust]
        exact ht
      · rw [rep_trust]
        dsimp only
        rw [rep_trust]
        exact ht
  have h1 := hb (supervisorStart s) (by rw [supervisorStart_trust, h])
  unfold startUp
  dsimp only
  split
  · exact h1
  · have k := ((migrateUcal_store (bootFirmware (supervisorStart s))).2).trans (loadActive_store _).2
    exact k.1.trans h1

theorem softwareReset_noTrial (sub : Nat) (s : State) (h : s.trust.trial = none) : (softwareReset sub s).trust.trial = none := by
  unfold softwareReset
  have e : (flushKept (stageCycle s)).trust = s.trust := by simp
  refine startUp_noTrial _ ?_
  simp only [holdReset, keptState, keptTrust, e]
  exact h

/-- A software reset keeps the store. -/
theorem softwareReset_store (sub : Nat) (s : State) : KeepsStore s (softwareReset sub s) := by
  unfold softwareReset
  refine KeepsStore.trans ?_ (startUp_store _)
  have h : (flushKept (stageCycle s)).trust = s.trust := by simp
  simp only [holdReset, keptState, keptTrust, KeepsStore, h]
  simp

theorem softwareReset_trial (sub : Nat) (s : State) (b : Bool) (n : Nat) (h : s.trust.trial = some b)
    (hn : s.trust.trialLeft = BitVec.ofNat 2 (n + 2)) (hl : n < 2) :
    (softwareReset sub s).trust.trial = some b ∧ (softwareReset sub s).trust.trialLeft = BitVec.ofNat 2 (n + 1) := by
  unfold softwareReset
  have e : (flushKept (stageCycle s)).trust = s.trust := by simp
  refine startUp_trial _ b n ?_ ?_ hl
  · simp only [holdReset, keptState, keptTrust, e]
    exact h
  · simp only [holdReset, keptState, keptTrust, e]
    exact hn

/-- A software reset leaves module time running on: it changes neither time nor rate nor integral (R529). -/
theorem softwareReset_tim (sub : Nat) (s : State) :
    (softwareReset sub s).tim.now = s.tim.now ∧ (softwareReset sub s).tim.rate = s.tim.rate ∧ (softwareReset sub s).tim.integ = s.tim.integ := by
  have h1 : ∀ u : State, (migrateUcal u).tim = u.tim := fun u => by simp
  have h2 : ∀ u : State, (loadActive u).tim = u.tim := fun u => by simp
  have h3 : ∀ u : State, (bootFirmware u).tim = u.tim := fun u => by simp
  have h4 : ∀ u : State, (supervisorStart u).tim = { u.tim with counting := true } := by
    intro u
    have hr : ∀ c (v : State), (rep c v).tim = v.tim := fun c v => by simp
    unfold supervisorStart
    dsimp only
    split <;> split <;> simp [hr]
  have h5 : ∀ u : State, (startUp u).tim = { u.tim with counting := true } := by
    intro u
    unfold startUp
    dsimp only
    split
    · rw [h3, h4]
    · rw [h2, h1, h3, h4]
  have h6 : (flushKept (stageCycle s)).tim = s.tim := by simp
  unfold softwareReset
  dsimp only
  rw [h5, h6]
  exact ⟨rfl, rfl, rfl⟩

end Sys2Proof.Machine
end

