-- ==== Sys2Proof/Laws/LaneState.lean ====
section
/-!
SUPPORT. The lanes' states: what a report leaves of a lane, and that a finding takes a lane to SAFE.
-/

namespace Sys2Proof.Machine

theorem lane_congr {s u : State} (h : u.lanes = s.lanes) (l : LaneId) : u.lane l = s.lane l := by
  unfold State.lane
  rw [h]

theorem Lane.raise_raise (L : Lane) (b : Nat) : (L.raise b).raise b = L.raise b := by
  simp [Lane.raise, BitVec.or_assoc]

theorem faultRecord_lanes code origin data (s : State) : (faultRecord code origin data s).lanes = s.lanes := by
  simp

@[simp] theorem reportOnly_lane code origin data (s : State) (l : LaneId) :
    (reportOnly code origin data s).lane l = (s.lane l).raise 8 := by
  unfold reportOnly raiseAll
  dsimp only
  rw [State.lane_modLanes]
  exact congrArg (fun L => Lane.raise L 8) (lane_congr (by simp) l)

/-- A report makes FAULT pending in every lane, and changes nothing else of a lane (R563). -/
@[simp] theorem report_lane code origin data (s : State) (l : LaneId) : (report code origin data s).lane l = (s.lane l).raise 8 := by
  unfold report
  dsimp only
  split
  · simp
  · rw [reportOnly_lane]
    refine (congrArg (fun L => Lane.raise L 8) (lane_congr (u := _) (s := reportOnly code origin data s) ?_ l)).trans ?_
    · rfl
    · rw [reportOnly_lane, Lane.raise_raise]

@[simp] theorem rep_lane code (s : State) (l : LaneId) : (rep code s).lane l = (s.lane l).raise 8 := report_lane _ _ _ s l
@[simp] theorem repLane_lane code m (s : State) (l : LaneId) : (repLane code m s).lane l = (s.lane l).raise 8 := report_lane _ _ _ s l
@[simp] theorem repRing_lane code e (s : State) (l : LaneId) : (repRing code e s).lane l = (s.lane l).raise 8 := report_lane _ _ _ s l

@[simp] theorem Lane.raise_state (L : Lane) b : (L.raise b).state = L.state := rfl
@[simp] theorem State.modVot_lane (s : State) m f (l : LaneId) : (s.modVot m f).lane l = s.lane l := rfl
@[simp] theorem computeHealth_lane (s : State) (l : LaneId) : (computeHealth s).lane l = s.lane l := rfl
@[simp] theorem raiseAll_lane b (s : State) (l : LaneId) : (raiseAll b s).lane l = (s.lane l).raise b := by
  simp [raiseAll]

/-- What keeps a lane's state through a fold of steps. -/
theorem foldl_laneState {α : Type} (g : State → α → State) (l : LaneId) (h : ∀ s a, ((g s a).lane l).state = (s.lane l).state)
    (xs : List α) (s : State) : ((xs.foldl g s).lane l).state = (s.lane l).state := foldl_keeps (fun u => (u.lane l).state) g h xs s

theorem lane_state_modLane (s : State) (m l : LaneId) (f : Lane → Lane) (h : ∀ L, (f L).state = L.state) :
    ((s.modLane m f).lane l).state = (s.lane l).state := by
  by_cases e : l = m
  · subst e
    rw [State.lane_modLane, h]
  · rw [State.lane_modLane_other _ _ _ _ e]

@[simp] theorem ringDone_laneState r (s : State) l : ((ringDone r s).lane l).state = (s.lane l).state := by
  unfold ringDone
  split
  · exact lane_state_modLane _ _ _ _ (fun _ => rfl)
  · split <;> simp

@[simp] theorem ringComplete_laneState r tag st ra rb n (s : State) l : ((ringComplete r tag st ra rb n s).lane l).state = (s.lane l).state := by
  unfold ringComplete
  dsimp only
  split
  · rw [ringDone_laneState]
    exact congrArg Lane.state (lane_congr (s := s) rfl l)
  · exact congrArg Lane.state (lane_congr (s := s) rfl l)

@[simp] theorem abortHeld_laneState r (s : State) l : ((abortHeld r s).lane l).state = (s.lane l).state := by
  unfold abortHeld
  dsimp only
  rw [lane_congr (u := State.modRing _ _ _) rfl]
  exact foldl_laneState _ _ (fun _ _ => by simp) _ _

@[simp] theorem drainRing_laneState r (s : State) l : ((drainRing r s).lane l).state = (s.lane l).state := by
  unfold drainRing
  dsimp only
  split
  · rfl
  · rw [abortHeld_laneState]
    exact congrArg Lane.state (lane_congr (s := s) rfl l)

@[simp] theorem stopProgram_laneState (s : State) l : ((stopProgram s).lane l).state = (s.lane l).state := by
  unfold stopProgram
  split
  · rfl
  · dsimp only
    rw [foldl_laneState _ _ (fun _ _ => by simp), State.lane_modLanes]
    rfl

@[simp] theorem swapLaneLost_laneState (s : State) l : ((swapLaneLost s).lane l).state = (s.lane l).state := by
  unfold swapLaneLost
  split <;> first | rfl | (rw [rep_lane, Lane.raise_state, State.lane_modLanes]; rfl)

@[simp] theorem setRole_laneState r (s : State) l : ((setRole r s).lane l).state = (s.lane l).state := by
  unfold setRole
  split
  · rfl
  · rw [computeHealth_lane, rep_lane, Lane.raise_state, raiseAll_lane, Lane.raise_state]
    exact congrArg Lane.state (lane_congr (s := s) rfl l)

@[simp] theorem withdrawClaim_laneState (s : State) l : ((withdrawClaim s).lane l).state = (s.lane l).state := by
  unfold withdrawClaim
  split
  · rfl
  · rw [setRole_laneState]
    exact congrArg Lane.state (lane_congr (s := s) rfl l)

@[simp] theorem abortReint_laneState (s : State) l : ((abortReint s).lane l).state = (s.lane l).state := by
  unfold abortReint
  split
  · rfl
  · rw [rep_lane, Lane.raise_state]
    exact congrArg Lane.state (lane_congr (s := s) rfl l)

/-- A forced lane does not stay in a state from which a finding takes it to SAFE. -/
theorem forceLane_self (l : LaneId) (s : State) : ((forceLane l s).lane l).state.live = false := by
  unfold forceLane
  dsimp only
  rw [State.modVot_lane, foldl_laneState _ _ (fun _ _ => by simp)]
  split
  · rw [State.lane_modLane]
    simp [Lane.takeSafe, LaneState.live]
  · rename_i h
    simpa using h

theorem forceLane_safe (m l : LaneId) (s : State) (h : (s.lane l).state = .safe) : ((forceLane m s).lane l).state = .safe := by
  unfold forceLane
  dsimp only
  rw [State.modVot_lane, foldl_laneState _ _ (fun _ _ => by simp)]
  split
  · by_cases e : l = m
    · subst e
      rw [State.lane_modLane]
      rfl
    · rw [State.lane_modLane_other _ _ _ _ e]
      exact h
  · exact h

theorem foldl_safe {α : Type} (g : State → α → State) (l : LaneId) (h : ∀ s a, (s.lane l).state = .safe → ((g s a).lane l).state = .safe)
    (xs : List α) (s : State) (hs : (s.lane l).state = .safe) : ((xs.foldl g s).lane l).state = .safe := by
  induction xs generalizing s with
  | nil => exact hs
  | cons a xs ih => exact ih _ (h _ _ hs)

theorem leaveCounted_safe (m l : LaneId) (s : State) (h : (s.lane l).state = .safe) : ((leaveCounted m s).lane l).state = .safe := by
  unfold leaveCounted
  dsimp only
  split
  · exact h
  · split
    · rw [swapLaneLost_laneState]
      exact h
    · rw [rep_lane, Lane.raise_state, withdrawClaim_laneState, stopProgram_laneState, swapLaneLost_laneState, abortReint_laneState]
      refine foldl_safe _ _ (fun u a hu => ?_) _ _ ?_
      · split
        · exact forceLane_safe _ _ _ hu
        · exact hu
      · exact h
    · exact h
    · exact h

/-- A lane that a finding or a forced safe takes is in SAFE (R100). -/
theorem laneSafe_state (l : LaneId) kind task entry addr forced (s : State) (h : (s.lane l).state.live = true) :
    ((laneSafe l kind task entry addr forced s).lane l).state = .safe := by
  unfold laneSafe
  rw [if_pos h]
  dsimp only
  refine leaveCounted_safe _ _ _ ?_
  have e : ∀ u : State, ((leaveJoining l u).lane l).state = (u.lane l).state := by
    intro u
    unfold leaveJoining
    split
    · exact congrArg Lane.state (lane_congr (s := u) rfl l)
    · rfl
  rw [e]
  have hf : ∀ u : State, (u.lane l).state = .safe →
      (((List.range 10).foldl (fun s j => drainRing (Fin.ofNat 64 (32 + 10 * l.val + j)) s) u).lane l).state = .safe := by
    intro u hu
    rw [foldl_laneState _ _ (fun _ _ => by simp), hu]
  have h1 := hf (s.modLane l (fun L => { L.takeSafe kind task entry addr with forceSafe := L.forceSafe || forced }))
    (by rw [State.lane_modLane]; rfl)
  generalize List.foldl _ _ _ = v at h1 ⊢
  exact h1

theorem laneSafe_tim (l : LaneId) kind task entry addr forced (s : State) : (laneSafe l kind task entry addr forced s).tim = s.tim := by
  simp

/-- A pair or digest finding takes the lane to SAFE (R9, R100). -/
theorem laneFinding_state (l : LaneId) kind task entry addr (s : State) (h : (s.lane l).state.live = true) :
    ((laneFinding l kind task entry addr s).lane l).state = .safe := by
  unfold laneFinding
  rw [if_pos h, repLane_lane, Lane.raise_state, laneSafe_state _ _ _ _ _ _ _ h]

/-! ## The reports of a lane's safe state -/

/-- The reports that the loss of a lane itself makes (R124, R135, R203, R444) are none of these classes. -/
def otherClass (c : Nat) : Bool := c ∉ [0x402, 0x50B, 0x50C, 0xC04, 0xC05, 0xC0B, 0x3C01]

theorem rep_cls (code c : Nat) (s : State) (h : otherClass c = true) (hc : code ∈ [0x402, 0x50B, 0x50C, 0xC04, 0xC05, 0xC0B, 0x3C01]) :
    tgetD (rep code s).flt.cls c 0 = tgetD s.flt.cls c 0 := by
  unfold otherClass at h
  refine report_cls_other _ _ _ _ _ ?_ ?_ <;> (intro e; subst e; simp_all)

theorem swapLaneLost_cls (c : Nat) (s : State) (h : otherClass c = true) : tgetD (swapLaneLost s).flt.cls c 0 = tgetD s.flt.cls c 0 := by
  unfold swapLaneLost
  split <;> first | rfl | (rw [rep_cls _ _ _ h (by decide)]; rfl)

theorem setRole_cls (r : ClsRole) (c : Nat) (s : State) (h : otherClass c = true) :
    tgetD (setRole r s).flt.cls c 0 = tgetD s.flt.cls c 0 := by
  unfold setRole
  split
  · rfl
  · show tgetD (rep 0x3C01 _).flt.cls c 0 = _
    rw [rep_cls _ _ _ h (by decide)]
    rfl

theorem withdrawClaim_cls (c : Nat) (s : State) (h : otherClass c = true) : tgetD (withdrawClaim s).flt.cls c 0 = tgetD s.flt.cls c 0 := by
  unfold withdrawClaim
  split
  · rfl
  · rw [setRole_cls _ _ _ h]

theorem abortReint_cls (c : Nat) (s : State) (h : otherClass c = true) : tgetD (abortReint s).flt.cls c 0 = tgetD s.flt.cls c 0 := by
  unfold abortReint
  split
  · rfl
  · rw [rep_cls _ _ _ h (by decide)]

theorem forceLane_flt (l : LaneId) (s : State) : (forceLane l s).flt = s.flt := by simp

theorem leaveCounted_cls (l : LaneId) (c : Nat) (s : State) (h : otherClass c = true) :
    tgetD (leaveCounted l s).flt.cls c 0 = tgetD s.flt.cls c 0 := by
  unfold leaveCounted
  dsimp only
  split
  · rfl
  · split
    · rw [swapLaneLost_cls _ _ h]
    · have hf : ∀ u : State, (allLanes.foldl (fun s m => if counted s m then forceLane m s else s) u).flt = u.flt :=
        fun u => foldl_keeps State.flt _ (fun s a => by split <;> simp) _ u
      have hs : ∀ u : State, (stopProgram u).flt = u.flt := fun u => by simp
      rw [rep_cls _ _ _ h (by decide), withdrawClaim_cls _ _ h, hs, swapLaneLost_cls _ _ h,
        abortReint_cls _ _ h, hf]
    · rfl
    · rfl

theorem laneSafe_cls (l : LaneId) kind task entry addr forced (c : Nat) (s : State) (h : otherClass c = true) :
    tgetD (laneSafe l kind task entry addr forced s).flt.cls c 0 = tgetD s.flt.cls c 0 := by
  unfold laneSafe
  split
  · dsimp only
    rw [leaveCounted_cls _ _ _ h]
    have e : ∀ u : State, (leaveJoining l u).flt = u.flt := by
      intro u
      unfold leaveJoining
      split <;> rfl
    have hf : ∀ u : State, ((List.range 10).foldl (fun s j => drainRing (Fin.ofNat 64 (32 + 10 * l.val + j)) s) u).flt = u.flt :=
      fun u => foldl_keeps State.flt _ (fun s a => by simp) _ u
    have hm : ∀ (u : State) m f, (u.modVot m f).flt = u.flt := fun _ _ _ => rfl
    rw [e, hm, hf]
    rfl
  · rfl

/-- A finding's report (R104). -/
theorem laneFinding_reported (l : LaneId) kind task entry addr (s : State) (h : (s.lane l).state.live = true)
    (hc : otherClass (faultCode 4 kind) = true) : Reported (faultCode 4 kind) s (laneFinding l kind task entry addr s) := by
  unfold laneFinding
  rw [if_pos h]
  have h2 : faultCode 4 kind ≠ 0x402 := by
    intro e
    simp [e, otherClass] at hc
  have := repLane_reported (faultCode 4 kind) l (laneSafe l kind task entry addr false s) h2
  unfold Reported at *
  rw [this, laneSafe_cls _ _ _ _ _ _ _ _ hc]

/-! ## What the marks leave of a core -/

/-- Two cores agree in their queues, contexts and digests handed over. -/
@[simp] abbrev Core.sameRun (k j : Core) : Prop := j.ctx = k.ctx ∧ j.queue = k.queue ∧ j.digReady = k.digReady

theorem Core.writeByte_run (k : Core) a b : k.sameRun (k.writeByte a b) := by
  simp only [Core.sameRun, Core.writeByte, Core.markDirty, Core.untag]
  split <;> split <;> simp

theorem Core.writes_run (ws : List (Nat × Byte)) (k : Core) : k.sameRun (k.writes ws) := by
  induction ws generalizing k with
  | nil => simp [Core.writes]
  | cons a ws ih =>
    obtain ⟨h1, h2, h3⟩ := ih (k.writeByte a.1 a.2)
    obtain ⟨g1, g2, g3⟩ := k.writeByte_run a.1 a.2
    exact ⟨h1.trans g1, h2.trans g2, h3.trans g3⟩

theorem Core.writeBytes_run (ws : List Byte) (a : Nat) (k : Core) : k.sameRun (k.writeBytes a ws) := by
  induction ws generalizing a k with
  | nil => simp [Core.writeBytes]
  | cons x ws ih =>
    obtain ⟨h1, h2, h3⟩ := ih (a + 1) (k.writeByte a x)
    obtain ⟨g1, g2, g3⟩ := k.writeByte_run a x
    exact ⟨h1.trans g1, h2.trans g2, h3.trans g3⟩

theorem zeroMonBlock_run (cfg : Option TaskCfg) (k : Core) : k.sameRun (zeroMonBlock cfg k) := by
  unfold zeroMonBlock
  split
  · exact Core.writeBytes_run _ _ _
  · simp

theorem Lane.foldTask_run (L : Lane) (t : TaskId) (k : Core) : k.sameRun (L.foldTask t k) := by
  unfold Lane.foldTask
  generalize k.dirty.filter _ = ns
  induction ns generalizing k with
  | nil => simp
  | cons a ns ih =>
    obtain ⟨h1, h2, h3⟩ := ih (k.foldLine t a)
    exact ⟨h1, h2, h3⟩

theorem markCopyDirty_lane (l : LaneId) (c : CoreId) lines (s : State) (m : LaneId) : (markCopyDirty l c lines s).lane m = s.lane m := by
  unfold markCopyDirty
  dsimp only
  split <;> rfl

theorem markEnded_lane (l : LaneId) (c : CoreId) ctx f r (s : State) (m : LaneId) : (markEnded l c ctx f r s).lane m = s.lane m := rfl

theorem countFault_lane (l : LaneId) code t start (s : State) (m : LaneId) : (countFault l code t start s).lane m = (s.lane m).raise 8 := by
  unfold countFault
  dsimp only
  split
  · simp
  · exact repLane_lane _ _ _ _

/-- No timeout where the other core has no entry outstanding (R89). -/
theorem endTimeout_none (l : LaneId) (c : CoreId) ctx (s : State)
    (h : (vget (s.lane l).cores (if c = 0 then 1 else 0)).queue = []) : endTimeout l c ctx s = s := by
  unfold endTimeout
  dsimp only
  rw [h]
  split
  · rename_i h2
    cases h2
  · rfl

theorem otherCore_ne (c : CoreId) : (if c = 0 then (1 : CoreId) else 0) ≠ c := by
  revert c
  decide

/-! ## The module fault and the loss of a lane -/

/-- The parts of the voter that say whether anything may commit. -/
@[simp] abbrev State.votStop (s : State) : VotMode × Bool × BitVec 3 × List Vote := (s.vot.mode, s.vot.modFault, s.vot.counted, s.vot.votes)

theorem forceLane_votStop (l : LaneId) (s : State) : (forceLane l s).votStop = s.votStop := by
  unfold forceLane
  dsimp only [State.votStop, State.modVot]
  have hf : ∀ u : State, ((List.range 10).foldl (fun s j => drainRing (Fin.ofNat 64 (32 + 10 * l.val + j)) s) u).vot = u.vot :=
    fun u => foldl_keeps State.vot _ (fun s a => by simp) _ u
  rw [hf]
  split <;> rfl

theorem abortReint_votStop (s : State) : (abortReint s).votStop = s.votStop := by
  unfold abortReint
  split
  · rfl
  · simp

theorem swapLaneLost_vot (s : State) : (swapLaneLost s).vot = s.vot := by simp

/-- The module fault of R121 leaves the voter in SAFE with nothing counted and no vote open, and reports its class. -/
theorem moduleFault_stops (every : Bool) (s : State) (h : s.vot.mode ≠ .safe) :
    (moduleFault every s).votStop = (.safe, true, 0, []) ∧ Reported 0x0C04 s (moduleFault every s) := by
  unfold moduleFault
  rw [if_neg h]
  dsimp only
  have hf : ∀ (p : State → LaneId → Bool) (xs : List LaneId) (u : State), (xs.foldl (fun t l => if p t l then forceLane l t else t) u).votStop = u.votStop ∧
      (xs.foldl (fun t l => if p t l then forceLane l t else t) u).flt = u.flt := by
    intro p xs u
    refine ⟨foldl_keeps State.votStop _ (fun s a => ?_) _ u, foldl_keeps State.flt _ (fun s a => ?_) _ u⟩
    · split
      · exact forceLane_votStop _ _
      · rfl
    · split <;> simp
  have hw : ∀ u : State, (withdrawClaim (stopProgram (swapLaneLost u))).vot = u.vot := fun u => by simp
  have hs : ∀ u : State, (stopProgram u).flt = u.flt := fun u => by simp
  refine ⟨?_, ?_⟩
  · have e : ∀ u : State, (rep 0x0C04 u).vot = u.vot := fun u => by simp
    simp only [State.votStop, e, hw]
    have := abortReint_votStop
    simp only [State.votStop] at this
    rw [this]
    exact (hf (fun _ l => every || s.vot.mode == .init || counted s l) allLanes _).1
  · unfold Reported
    dsimp only
    have h1 := rep_reported 0x0C04 (withdrawClaim (stopProgram (swapLaneLost (abortReint (allLanes.foldl
      (fun t l => if every || s.vot.mode == .init || counted s l then forceLane l t else t)
      { s with vot := { s.vot with mode := .safe, modFault := true, counted := 0, votes := [], done := [] } }))))) (by decide)
    unfold Reported at h1
    rw [h1]
    have k1 : ∀ u : State, tgetD (withdrawClaim u).flt.cls 0x0C04 0 = tgetD u.flt.cls 0x0C04 0 := by
      intro u
      unfold withdrawClaim
      split
      · rfl
      · unfold setRole
        split
        · rfl
        · exact report_cls_other _ _ _ _ _ (by decide) (by decide)
    have k2 : ∀ u : State, tgetD (swapLaneLost u).flt.cls 0x0C04 0 = tgetD u.flt.cls 0x0C04 0 := by
      intro u
      unfold swapLaneLost
      split
      · rfl
      all_goals exact report_cls_other _ _ _ _ _ (by decide) (by decide)
    have k3 : ∀ u : State, tgetD (abortReint u).flt.cls 0x0C04 0 = tgetD u.flt.cls 0x0C04 0 := by
      intro u
      unfold abortReint
      split
      · rfl
      · exact report_cls_other _ _ _ _ _ (by decide) (by decide)
    rw [k1, hs, k2, k3]
    have := (hf (fun _ l => every || s.vot.mode == .init || counted s l) allLanes
      { s with vot := { s.vot with mode := .safe, modFault := true, counted := 0, votes := [], done := [] } }).2
    rw [this]

theorem voteEvent_lane_state kind (l : LaneId) k addr (s : State) (m : LaneId) : ((voteEvent kind l k addr s).lane m).state = (s.lane m).state := by
  unfold voteEvent
  dsimp only
  rw [raiseAll_lane]
  rfl

theorem voteEvent_flt kind (l : LaneId) k addr (s : State) : (voteEvent kind l k addr s).flt = s.flt := by simp

/-- A lane found dissenting or absent is in SAFE, and its class is reported (R115, R118, R120). -/
theorem expelLane_safe (kind code : Nat) (l : LaneId) k addr (s : State) (h : (s.lane l).state.live = true) (hc : otherClass code = true) :
    ((expelLane kind code l k addr s).lane l).state = .safe ∧ Reported code s (expelLane kind code l k addr s) := by
  unfold expelLane
  have h2 : code ≠ 0x402 := by
    intro e
    simp [e, otherClass] at hc
  refine ⟨?_, ?_⟩
  · rw [rep_lane, Lane.raise_state, laneSafe_state]
    rw [voteEvent_lane_state]
    exact h
  · have := rep_reported code (laneSafe l 7 0 0 0 true (voteEvent kind l k addr (s.modVot l (fun v => { v with dissentCnt := v.dissentCnt + 1 })))) h2
    unfold Reported at *
    rw [this, laneSafe_cls _ _ _ _ _ _ _ _ hc, voteEvent_flt]
    rfl

/-! ## Frames of updates of a lane -/

theorem irqPend_modLane {s : State} {l : LaneId} {f : Lane → Lane} (h : ∀ L, (f L).irqPend = L.irqPend) (m : LaneId) :
    ((s.modLane l f).lane m).irqPend = (s.lane m).irqPend := by
  by_cases e : m = l
  · subst e
    rw [State.lane_modLane, h]
  · rw [State.lane_modLane_other _ _ _ _ e]

/-- An update of one lane that leaves its pending sources changes nothing outside the lanes. -/
theorem sameBut_modLane {s : State} {l : LaneId} {f : Lane → Lane} (h : ∀ L, (f L).irqPend = L.irqPend) :
    SameBut [.lanes] s (s.modLane l f) := by
  intro p hp
  cases p <;> first
    | exact irqPend_modLane h
    | (simp [Part.same]; done)
    | simp at hp

theorem sameBut_modCore {s : State} {l : LaneId} {c : CoreId} {f : Core → Core} : SameBut [.lanes] s (s.modCore l c f) :=
  sameBut_modLane (f := fun L => { L with cores := vmod L.cores c f }) (fun _ => rfl)

/-- A report changes nothing but what every report may change (R563). -/
theorem sameBut_report code origin data (s : State) : SameBut reportParts s (report code origin data s) := by
  intro p hp
  cases p <;> first
    | (simp [Part.same]; done)
    | simp [reportParts] at hp

end Sys2Proof.Machine
end

