-- ==== Sys2Proof/Laws/LineState.lean ====
section
/-!
SUPPORT. What the line operations do to the ports and channels (R205 to R238).
-/

namespace Sys2Proof.Machine

theorem Fin2.ne {a b : Fin 2} (h : a ≠ b) : a = 1 - b := by omega

@[simp] theorem State.port_modPort (s : State) (c : ChanId) (p : PortId) (f : Port → Port) : (s.modPort c p f).port c p = f (s.port c p) := by
  unfold State.modPort State.port
  rw [State.chan_modChan]
  exact vget_vmod_self _ _ _

theorem State.chan_modChan_other (s : State) (c d : ChanId) (f : Chan → Chan) (h : d ≠ c) : (s.modChan c f).chan d = s.chan d :=
  vget_vmod_other _ _ _ _ h

theorem State.port_modPort_other (s : State) (c d : ChanId) (p q : PortId) (f : Port → Port) (h : d ≠ c ∨ q ≠ p) :
    (s.modPort c p f).port d q = s.port d q := by
  unfold State.modPort State.port
  by_cases e : d = c
  · subst e
    rw [State.chan_modChan]
    exact vget_vmod_other _ _ _ _ (h.resolve_left (fun x => x rfl))
  · rw [State.chan_modChan_other _ _ _ _ e]

theorem portOnly_modPort (s : State) (c : ChanId) (p : PortId) (f : Port → Port) : PortOnly c p s (s.modPort c p f) := by
  refine ⟨?_, rfl, rfl, rfl, fun d q h => State.port_modPort_other _ _ _ _ _ _ h, fun d => ?_⟩
  · intro q hq
    cases q <;> first
      | (simp only [Part.same]; intro _; rfl)
      | (simp only [Part.same]; rfl)
      | exact absurd List.mem_cons_self hq
  · by_cases e : d = c
    · subst e
      unfold State.modPort
      rw [State.chan_modChan]
    · unfold State.modPort
      rw [State.chan_modChan_other _ _ _ _ e]

theorem PortOnly.refl (c : ChanId) (p : PortId) (s : State) : PortOnly c p s s :=
  ⟨fun q _ => by cases q <;> (try exact fun _ => rfl) <;> rfl, rfl, rfl, rfl, fun _ _ _ => rfl, fun _ => rfl⟩

theorem port_congr {s u : State} (h : u.stra = s.stra) (c : ChanId) (p : PortId) : u.port c p = s.port c p := by
  unfold State.port State.chan; rw [h]

theorem chan_congr {s u : State} (h : u.stra = s.stra) (c : ChanId) : u.chan c = s.chan c := by
  unfold State.chan; rw [h]

theorem repStr_stra (c : ChanId) (o : Nat) (s : State) : (repStr c o s).stra = s.stra := by simp

theorem repStr_reported (c : ChanId) (o : Nat) (s : State) (h : faultCode (5 + c.val) o ≠ 0x402) :
    Reported (faultCode (5 + c.val) o) s (repStr c o s) := rep_reported _ _ h

/-- A port change that leaves the ports' list of a channel leaves each port. -/
theorem State.port_modChan (s : State) (c d : ChanId) (q : PortId) (f : Chan → Chan) (h : ∀ C, (f C).port = C.port) :
    (s.modChan c f).port d q = s.port d q := by
  unfold State.port
  by_cases e : d = c
  · subst e
    rw [State.chan_modChan, h]
  · rw [State.chan_modChan_other _ _ _ _ e]

theorem State.chan_modPort (s : State) (c : ChanId) (p : PortId) (f : Port → Port) :
    (s.modPort c p f).chan c = { s.chan c with port := vmod (s.chan c).port p f } := by
  unfold State.modPort
  rw [State.chan_modChan]

/-- Wrapping leaves the port WRAPPED and its other state alone (R230). -/
theorem wrapPort_port (c : ChanId) (p : PortId) (heal : Option (BitVec 16)) (s : State) :
    ((wrapPort c p heal s).port c p).wrapped = true ∧ ((wrapPort c p heal s).port c p).lstate = (s.port c p).lstate ∧
    ((wrapPort c p heal s).port c p).cause = (s.port c p).cause := by
  unfold wrapPort
  dsimp only
  split
  · exact ⟨by assumption, rfl, rfl⟩
  · split <;> simp only [port_congr (repStr_stra _ _ _)] <;> rw [State.port_modChan, State.port_modPort] <;>
      first
        | exact ⟨rfl, rfl, rfl⟩
        | exact fun _ => rfl

/-- A port that wraps is reported (R237). -/
theorem wrapPort_reported (c : ChanId) (p : PortId) (heal : Option (BitVec 16)) (s : State) (h : (s.port c p).wrapped = false) :
    Reported (faultCode (5 + c.val) 2) s (wrapPort c p heal s) := by
  have hc : ∀ c : ChanId, faultCode (5 + c.val) 2 ≠ 0x402 ∧ faultCode (5 + c.val) 2 ≠ faultCode (5 + c.val) 10 := by decide
  unfold wrapPort
  dsimp only
  rw [if_neg (by rw [h]; decide)]
  have k := fun u => repStr_reported c 2 u (hc c).1
  split
  · unfold Reported
    rw [show ∀ u : State, tgetD (repStr c 0xA u).flt.cls (faultCode (5 + c.val) 2) 0 = tgetD u.flt.cls (faultCode (5 + c.val) 2) 0 from
      fun u => report_cls_other _ _ _ _ _ (hc c).2 (hc c).1]
    exact (k _).of_flt rfl
  · exact (k _).of_flt rfl

/-- A WRAPPED port unwraps and is reported (R232, R233). -/
theorem unwrapPort_port (c : ChanId) (p : PortId) (s : State) :
    ((unwrapPort c p s).port c p).wrapped = false ∧ ((unwrapPort c p s).chan c).unwrapCnt = (s.chan c).unwrapCnt + 1 ∧
    ((unwrapPort c p s).chan c).lastUnwrap = some (basicCycle s) ∧ Reported (faultCode (5 + c.val) 3) s (unwrapPort c p s) := by
  have hc : ∀ c : ChanId, faultCode (5 + c.val) 3 ≠ 0x402 := by decide
  unfold unwrapPort
  dsimp only
  refine ⟨?_, ?_, ?_, (repStr_reported c 3 _ (hc c)).of_flt rfl⟩
  · rw [port_congr (repStr_stra _ _ _), State.port_modChan, State.port_modPort]
    exact fun _ => rfl
  · rw [chan_congr (repStr_stra _ _ _), State.chan_modChan, State.chan_modPort]
  · rw [chan_congr (repStr_stra _ _ _), State.chan_modChan]

/-- A change of the node, reported or not. -/
theorem nodeOnly_modNode (s : State) (f : Node → Node) : NodeOnly s (s.modNode f) := by
  refine ⟨?_, rfl, rfl, rfl⟩
  intro q hq
  cases q <;> first
    | (simp only [Part.same]; intro _; rfl)
    | (simp only [Part.same]; rfl)
    | exact absurd List.mem_cons_self hq

theorem NodeOnly.rep {s u : State} (h : NodeOnly s u) (c : ChanId) (o : Nat) : NodeOnly s (repStr c o u) := by
  refine ⟨h.1.trans ((sameBut_report _ _ _ _).mono (by intro p hp; exact List.mem_cons_of_mem _ hp)), ?_, ?_, ?_⟩
  · rw [repStr_stra]; exact h.2.1
  · rw [repStr_stra]; exact h.2.2.1
  · rw [repStr_stra]; exact h.2.2.2

theorem repStr_modNode (s : State) (f : Node → Node) (o : Nat) (h : faultCode 5 o ≠ 0x402) :
    (repStr 0 o (s.modNode f)).stra.node = f s.stra.node ∧ Reported (faultCode 5 o) s (repStr 0 o (s.modNode f)) ∧
    NodeOnly s (repStr 0 o (s.modNode f)) := by
  refine ⟨by rw [repStr_stra]; rfl, (repStr_reported 0 o _ h).of_flt rfl, (nodeOnly_modNode s f).rep 0 o⟩

theorem regPut_flt (s : State) (a lo w v : Nat) : (regPut s a lo w v).flt = s.flt := by simp

/-- Writing a field of a stored register changes the registers alone. -/
theorem sameBut_regPut (s : State) (a lo w v : Nat) : SameBut [.regs] s (regPut s a lo w v) := by
  intro p hp
  cases p <;> simp_all [Part.same, State.lane]

/-- The component check of R338 does not decide whether an item is configured. -/
theorem receiverOf_congr {s u : State} (h : u.cfg = s.cfg) (i : Nat) : receiverOf u i = receiverOf s i := by unfold receiverOf; rw [h]

theorem inItem_congr {s u : State} (h : u.cfg = s.cfg) (i : Nat) : inItem? u i = inItem? s i := by unfold inItem?; rw [h]

/-- An arrival of a configured item that is no safe receiver's component fills its back buffer (R180). -/
theorem arriveFrom_item (role item : Nat) (a : Arrival) (u : State) (c : InItemCfg) (h : inItem? u item = some c) (h2 : receiverOf u item = none) :
    (tgetD (arriveFrom role item a u).cyc.items item {}).back = some { a with payload := padTo c.length a.payload } ∧
    (tgetD (arriveFrom role item a u).cyc.items item {}).inBurst = false ∧ SameBut [.cyc] u (arriveFrom role item a u) ∧
    inItem? (arriveFrom role item a u) item = some c := by
  have k : arrive item a u = { u with cyc := { u.cyc with items := (tset u.cyc.items item
      ({ (tgetD u.cyc.items item {}) with back := some { a with payload := padTo c.length a.payload }, inBurst := false })) } } := by
    unfold arrive; rw [h]
  have e : arriveFrom role item a u = arrive item a u := by
    unfold arriveFrom
    rw [h2]
  rw [e, k]
  refine ⟨by rw [tgetD_tset_self], by rw [tgetD_tset_self], ?_, h⟩
  intro q hq
  cases q <;> simp_all [Part.same, State.lane]

end Sys2Proof.Machine
end

