-- ==== Sys2Proof/Laws/BusState.lean ====
section
/-!
SUPPORT. What posted errors and issued transactions do to the state (R312 to R317).
-/

namespace Sys2Proof.Machine

theorem rep_col (c : Nat) (s : State) : (rep c s).col = s.col := by simp

theorem sameBut_rep (c : Nat) (s : State) : SameBut reportParts s (rep c s) := sameBut_report _ _ _ _

theorem report_col (c o : Nat) (d : List Byte) (s : State) : (report c o d s).col = s.col := by simp

theorem sameBut_modCol (s : State) (f : Col → Col) : SameBut [.col] s (s.modCol f) := by
  intro q hq
  cases q <;> first
    | (simp only [Part.same]; intro _; rfl)
    | (simp only [Part.same]; rfl)
    | simp at hq

theorem ringComplete_parts (r : Fin 64) (t a b c : Nat) (d : Bool) (u : State) :
    SameBut (.rng :: .mem :: reportParts) u (ringComplete r t a b c d u) ∧ (ringComplete r t a b c d u).flt = u.flt ∧
    (ringComplete r t a b c d u).col = u.col := by
  refine ⟨?_, by simp, by simp⟩
  intro p hp
  cases p <;> first
    | (simp [Part.same]; done)
    | simp [reportParts] at hp

/-- What comes before the report of a posted error (R315, R317). -/
theorem postedError_split (p : Posted) (off : Nat) (be : BitVec 4) (k : Nat) (v : State) :
    ∃ d w l, postedError p true off be k v = report 0x2804 3 d w ∧ SameBut (.rng :: .col :: .mem :: reportParts) v w ∧ w.flt = v.flt ∧
      w.col = { v.col with
        lostCnt := l, perrA := BitVec.ofNat 32 (busFailure off p.seq be k p.timed p.route).1,
        perrB := BitVec.ofNat 64 (busFailure off p.seq be k p.timed p.route).2, perrCnt := v.col.perrCnt + 1 } := by
  have key : ∀ y : State, SameBut (.rng :: .col :: .mem :: reportParts) v y → y.flt = v.flt → (∃ l, y.col = { v.col with lostCnt := l }) →
      ∃ d w l, report 0x2804 3 (leBytes 2 p.tag ++ leBytes 1 0x89 ++ leBytes 1 3 ++ leBytes 4 (busFailure off p.seq be k p.timed p.route).1 ++
          leBytes 8 (busFailure off p.seq be k p.timed p.route).2) (y.modCol (fun C => { C with
            perrA := BitVec.ofNat 32 (busFailure off p.seq be k p.timed p.route).1,
            perrB := BitVec.ofNat 64 (busFailure off p.seq be k p.timed p.route).2, perrCnt := C.perrCnt + 1 })) = report 0x2804 3 d w ∧
        SameBut (.rng :: .col :: .mem :: reportParts) v w ∧ w.flt = v.flt ∧
        w.col = { v.col with
          lostCnt := l, perrA := BitVec.ofNat 32 (busFailure off p.seq be k p.timed p.route).1,
          perrB := BitVec.ofNat 64 (busFailure off p.seq be k p.timed p.route).2, perrCnt := v.col.perrCnt + 1 } := by
    rintro y h1 h2 ⟨l, h3⟩
    exact ⟨_, _, l, rfl, h1.trans ((sameBut_modCol _ _).mono (by simp)), h2, by simp only [State.modCol]; rw [h3]⟩
  have e0 : postedError p true off be k v = report 0x2804 3 (leBytes 2 p.tag ++ leBytes 1 0x89 ++ leBytes 1 3 ++
        leBytes 4 (busFailure off p.seq be k p.timed p.route).1 ++ leBytes 8 (busFailure off p.seq be k p.timed p.route).2)
        ((if entryFits (v.ringAt (Fin.ofNat 64 p.ring)) p.gen = true then
          ringComplete (Fin.ofNat 64 p.ring) p.tag 0x89 (busFailure off p.seq be k p.timed p.route).1
            (busFailure off p.seq be k p.timed p.route).2 false v
          else v.modCol (fun C => { C with lostCnt := C.lostCnt + 1 })).modCol (fun C => { C with
            perrA := BitVec.ofNat 32 (busFailure off p.seq be k p.timed p.route).1,
            perrB := BitVec.ofNat 64 (busFailure off p.seq be k p.timed p.route).2, perrCnt := C.perrCnt + 1 })) := rfl
  by_cases h : entryFits (v.ringAt (Fin.ofNat 64 p.ring)) p.gen = true
  · have e : postedError p true off be k v = report 0x2804 3 (leBytes 2 p.tag ++ leBytes 1 0x89 ++ leBytes 1 3 ++
        leBytes 4 (busFailure off p.seq be k p.timed p.route).1 ++ leBytes 8 (busFailure off p.seq be k p.timed p.route).2)
        ((ringComplete (Fin.ofNat 64 p.ring) p.tag 0x89 (busFailure off p.seq be k p.timed p.route).1
          (busFailure off p.seq be k p.timed p.route).2 false v).modCol (fun C => { C with
            perrA := BitVec.ofNat 32 (busFailure off p.seq be k p.timed p.route).1,
            perrB := BitVec.ofNat 64 (busFailure off p.seq be k p.timed p.route).2, perrCnt := C.perrCnt + 1 })) := by
      rw [e0, if_pos h]
    rw [e]
    obtain ⟨h1, h2, h3⟩ := ringComplete_parts (Fin.ofNat 64 p.ring) p.tag 0x89 (busFailure off p.seq be k p.timed p.route).1
      (busFailure off p.seq be k p.timed p.route).2 false v
    exact key _ (h1.mono (by simp [reportParts])) h2 ⟨v.col.lostCnt, h3⟩
  · have e : postedError p true off be k v = report 0x2804 3 (leBytes 2 p.tag ++ leBytes 1 0x89 ++ leBytes 1 3 ++
        leBytes 4 (busFailure off p.seq be k p.timed p.route).1 ++ leBytes 8 (busFailure off p.seq be k p.timed p.route).2)
        ((v.modCol (fun C => { C with lostCnt := C.lostCnt + 1 })).modCol (fun C => { C with
            perrA := BitVec.ofNat 32 (busFailure off p.seq be k p.timed p.route).1,
            perrB := BitVec.ofNat 64 (busFailure off p.seq be k p.timed p.route).2, perrCnt := C.perrCnt + 1 })) := by
      rw [e0, if_neg h]
    rw [e]
    exact key _ ((sameBut_modCol v _).mono (by simp)) rfl ⟨_, rfl⟩

/-- A posted error sets the latched fields, counts and reports (R315). -/
theorem postedError_spec (p : Posted) (off : Nat) (be : BitVec 4) (k : Nat) (v : State) :
    SameBut (.rng :: .col :: .mem :: reportParts) v (postedError p true off be k v) ∧ Reported 0x2804 v (postedError p true off be k v) ∧
    ∃ l, (postedError p true off be k v).col = { v.col with
      lostCnt := l, perrA := BitVec.ofNat 32 (busFailure off p.seq be k p.timed p.route).1,
      perrB := BitVec.ofNat 64 (busFailure off p.seq be k p.timed p.route).2, perrCnt := v.col.perrCnt + 1 } := by
  obtain ⟨d, w, l, h1, h2, h3, h4⟩ := postedError_split p off be k v
  rw [h1]
  exact ⟨h2.trans ((sameBut_report _ _ _ _).mono (by simp [reportParts])), (report_reported _ _ _ _ (by decide)).of_flt h3, l,
    by rw [report_col, h4]⟩

theorem postedError_cls (p : Posted) (off : Nat) (be : BitVec 4) (k : Nat) (v : State) (c : Nat) (h : c ≠ 0x2804) (h2 : c ≠ 0x402) :
    tgetD (postedError p true off be k v).flt.cls c 0 = tgetD v.flt.cls c 0 := by
  obtain ⟨d, w, l, h1, _, h3, _⟩ := postedError_split p off be k v
  rw [h1, report_cls_other _ _ _ _ _ h h2, h3]

/-- A transaction whose phases all succeed (R300, R314). -/
theorem issue_good {ps : List BusPhase} {ans : List BusAnswer} {done : List (BusPhase × BitVec 32)} (m : Nat) (v : State)
    (h : runPhases ps ans = (done, none)) :
    ∃ w, issue m ps ans v = (⟨done, none⟩, v.modCol (fun C => { C with phases := ps.take done.length, win := w })) := by
  unfold issue
  rw [h]
  exact ⟨_, rfl⟩

/-- A transaction with a failing phase is reported (R314). -/
theorem issue_bad {ps : List BusPhase} {ans : List BusAnswer} {done : List (BusPhase × BitVec 32)} {f : BusPhase × Nat} (m : Nat) (v : State)
    (h : runPhases ps ans = (done, some f)) :
    ∃ q w, issue m ps ans v = (⟨done, some f⟩, rep 0x2803 (v.modCol (fun C => { C with phases := q, win := w }))) := by
  unfold issue
  rw [h]
  exact ⟨_, _, rfl⟩

theorem rep_cls_other (c d : Nat) (v : State) (h : d ≠ c) (h2 : d ≠ 0x402) : tgetD (rep c v).flt.cls d 0 = tgetD v.flt.cls d 0 :=
  report_cls_other _ _ _ _ _ h h2

/-- A report after changes that left a class's count counts from before them. -/
theorem Reported.of_cls {c : Nat} {s u v : State} (h : Reported c u v) (e : tgetD u.flt.cls c 0 = tgetD s.flt.cls c 0) : Reported c s v := by
  unfold Reported at *
  rw [h, e]

end Sys2Proof.Machine
end

