-- ==== Sys2Proof/Laws/MotionState.lean ====
section
/-!
SUPPORT. What the edges of one fabric cycle do in a lane (R348, R359, R367).
-/

namespace Sys2Proof.Machine

theorem sameBut_setMot (s : State) (m : MotUnit) : SameBut [.mot] s { s with mot := m } := by
  intro q hq
  cases q <;> first
    | exact fun _ => rfl
    | exact rfl
    | simp at hq

/-- Replacing a lane by itself changes nothing. -/
theorem State.modLane_id (s : State) (l : LaneId) (f : Lane → Lane) (h : f (s.lane l) = s.lane l) : s.modLane l f = s := by
  have k : vmod s.lanes l f = s.lanes := by
    unfold vmod vset vget
    have h2 : f (s.lanes.get l) = s.lanes.get l := h
    rw [h2]
    ext i hi
    simp [Vector.get]
  unfold State.modLane
  rw [k]

theorem vset_vget {α : Type} {n : Nat} (v : Vector α n) (i : Fin n) : vset v i (vget v i) = v := by
  unfold vset vget
  ext j hj
  simp [Vector.get]

/-- No edge is seen where every edge leaves the level or rises at a faulty input (R344). -/
theorem laneEdges_unseen (l : LaneId) (edges : List EdgeIn) (s : State) (h : seenEdges s l edges = []) : laneEdges l edges s = s := by
  unfold laneEdges
  dsimp only
  rw [h]
  simp only [List.foldl_nil]
  rw [vset_vget]
  have h1 : ∀ (ks : List PulseId) lv (t : State) acc, ks.foldl (fun a j => ((countSource l [] lv a.1 j).1, a.2 ++ (countSource l [] lv a.1 j).2)) (t, acc) = (t, acc) := by
    intro ks
    induction ks with
    | nil => intros; rfl
    | cons k ks ih =>
      intro lv t acc
      simp only [List.foldl_cons]
      rw [show countSource l [] lv t k = (t, []) from rfl]
      simpa using ih lv t acc
  have h2 : ∀ lv, countSources l [] lv s = (s, []) := fun lv => h1 allPulse lv s []
  by_cases hc : (!unitRuns (s.lane l) || !captureValid s) = true
  · exact if_pos hc
  · refine (if_neg hc).trans ?_
    rw [show countSources l [] (vget s.mot.level l) { s with mot := { s.mot with level := s.mot.level } } = (s, []) from h2 _]
    rfl

/-- The sources but the one that counts the input leave the state. -/
theorem countSource_other (l : LaneId) (e : EdgeIn) (lv : BitVec 8) (s : State) (k : PulseId) (h : (srcInputs s k.val).contains e.input.val = false) :
    countSource l [e] lv s k = (s, []) := by
  unfold countSource
  dsimp only
  rw [show [e].filter (fun e => (srcInputs s k.val).contains e.input.val) = [] from List.filter_eq_nil_iff.mpr (by intro x hx; simp only [List.mem_singleton] at hx; subst hx; rw [h]; decide)]

theorem countSource_own (l : LaneId) (e : EdgeIn) (lv : BitVec 8) (s : State) (k : PulseId) (d : Int) (h : (srcInputs s k.val).contains e.input.val = true)
    (hd : edgeDelta s k.val e.input.val e.rise lv = some d) :
    countSource l [e] lv s k = (countEdge l k d (capTs s e.phase) s, [(k, capTs s e.phase)]) := by
  unfold countSource
  dsimp only
  rw [show [e].filter (fun e => (srcInputs s k.val).contains e.input.val) = [e] from List.filter_eq_self.mpr (by intro x hx; simp only [List.mem_singleton] at hx; subst hx; exact h)]
  dsimp only
  rw [hd]

theorem foldl_sources_other (l : LaneId) (e : EdgeIn) (lv : BitVec 8) (ks : List PulseId) :
    ∀ (t : State) (acc : List (PulseId × DWord)), (∀ k ∈ ks, (srcInputs t k.val).contains e.input.val = false) →
      ks.foldl (fun a j => ((countSource l [e] lv a.1 j).1, a.2 ++ (countSource l [e] lv a.1 j).2)) (t, acc) = (t, acc) := by
  induction ks with
  | nil => intros; rfl
  | cons k ks ih =>
    intro t acc h
    simp only [List.foldl_cons]
    rw [countSource_other _ _ _ _ _ (h k (by simp))]
    simpa using ih t acc (fun x hx => h x (by simp [hx]))

/-- No source counts the edge of an input that belongs to none (R348). -/
theorem countSources_none (l : LaneId) (e : EdgeIn) (lv : BitVec 8) (s : State) (h : ∀ k : PulseId, (srcInputs s k.val).contains e.input.val = false) :
    countSources l [e] lv s = (s, []) :=
  foldl_sources_other l e lv allPulse s [] (fun k _ => h k)

/-- One source counts the edge of its input (R348). -/
theorem countSources_one (l : LaneId) (e : EdgeIn) (lv : BitVec 8) (s : State) (j : PulseId) (d : Int)
    (h : ∀ k : PulseId, (srcInputs s k.val).contains e.input.val = decide (k = j)) (hd : edgeDelta s j.val e.input.val e.rise lv = some d) :
    countSources l [e] lv s = (countEdge l j d (capTs s e.phase) s, [(j, capTs s e.phase)]) := by
  have hs0 : ∀ j : PulseId, allPulse = allPulse.take j.val ++ j :: allPulse.drop (j.val + 1) ∧ j ∉ allPulse.take j.val ∧
      j ∉ allPulse.drop (j.val + 1) := by decide
  have hs := hs0 j
  unfold countSources
  rw [hs.1, List.foldl_append, List.foldl_cons]
  have h1 := foldl_sources_other l e lv (allPulse.take j.val) s [] (fun k hk => by
    rw [h k]
    simp only [decide_eq_false_iff_not]
    rintro rfl
    exact hs.2.1 hk)
  rw [show ∀ f : State × List (PulseId × DWord) → PulseId → State × List (PulseId × DWord), f = (fun a j => ((countSource l [e] lv a.1 j).1, a.2 ++ (countSource l [e] lv a.1 j).2)) →
    (allPulse.take j.val).foldl f (s, []) = (s, []) from fun f hf => by rw [hf]; exact h1] <;> [skip; rfl]
  dsimp only
  rw [countSource_own l e lv s j d (by rw [h j]; simp) hd]
  dsimp only
  refine foldl_sources_other l e lv (allPulse.drop (j.val + 1)) _ _ (fun k hk => ?_)
  have : ∀ n, srcInputs (countEdge l j d (capTs s e.phase) s) n = srcInputs s n := fun n => rfl
  rw [this, h k]
  simp only [decide_eq_false_iff_not]
  rintro rfl
  exact hs.2.2 hk

/-- Where no monitor of a lane is armed, none trips (R362). -/
theorem testMons_quiet (l : LaneId) (s : State) (c : PulseId × DWord) (h : ∀ m, (vget (s.lane l).mot.mon m).state ≠ .armed) : testMons l s c = s := by
  unfold testMons
  generalize allMons = ms
  induction ms with
  | nil => rfl
  | cons m ms ih =>
    simp only [List.foldl_cons]
    rw [show (if (monCfg s m).src = c.1.val then testMon l c.2 m s else s) = s from by
      split
      · unfold testMon
        dsimp only
        rw [if_neg (fun x => h m x.1)]
      · rfl]
    exact ih

/-- An edge counted where no monitor is armed (R348, R349). -/
theorem countEdge_quiet (l : LaneId) (j : PulseId) (d : Int) (ts : DWord) (s : State) (h : ∀ m, (vget (s.lane l).mot.mon m).state ≠ .armed) :
    countEdge l j d ts s = s.modLane l (fun L => { L with mot := { L.mot with
      src := vmod L.mot.src j (fun S => { S with count := S.count + BitVec.ofInt 32 d, standstill := false, reverse := decide (d < 0) }) } }) := by
  have k : (Vector.ofFn (fun m : Fin 16 => if (vget (s.lane l).mot.mon m).state = .armed ∧ (monCfg s m).src = j.val then
      { vget (s.lane l).mot.mon m with caps := (ts :: (vget (s.lane l).mot.mon m).caps).take 65 } else vget (s.lane l).mot.mon m)) = (s.lane l).mot.mon := by
    ext i hi
    simp only [Vector.getElem_ofFn]
    rw [if_neg (fun x => h ⟨i, hi⟩ x.1)]
    simp [vget, Vector.get]
  unfold countEdge State.modLane vmod
  dsimp only
  congr 2
  have k2 : vget s.lanes l = s.lane l := rfl
  rw [k2]
  rw [show (Vector.ofFn (fun m : Fin 16 => if (vget (s.lane l).mot.mon m).state = .armed ∧ (monCfg s m).src = j.val then
      { vget (s.lane l).mot.mon m with caps := (ts :: (vget (s.lane l).mot.mon m).caps).take 65 } else vget (s.lane l).mot.mon m)) = (s.lane l).mot.mon from k]

/-- An edge that changes the level, and does not rise at a faulty input, is seen (R344). -/
theorem seenEdges_one (l : LaneId) (e : EdgeIn) (s : State) (h : (vget s.mot.level l).getLsbD e.input.val ≠ e.rise)
    (h2 : e.rise = true → s.mot.fault.getLsbD e.input.val = false) : seenEdges s l [e] = [e] := by
  refine List.filter_eq_self.mpr ?_
  intro x hx
  simp only [List.mem_singleton] at hx
  subst hx
  simp only [Bool.and_eq_true, bne_iff_ne, Bool.not_eq_true', Bool.and_eq_false_iff]
  refine ⟨h, ?_⟩
  cases hr : x.rise
  · exact Or.inl rfl
  · exact Or.inr (h2 hr)

/-- One seen edge in a lane out of reset with valid capture (R67, R348). -/
theorem laneEdges_one (l : LaneId) (e : EdgeIn) (s s0 v : State) (cs : List (PulseId × DWord))
    (h0 : s0 = { s with mot := { s.mot with level := vset s.mot.level l (setLevel (vget s.mot.level l) e.input.val e.rise) } })
    (h1 : seenEdges s l [e] = [e]) (h2 : unitRuns (s.lane l) = true) (h3 : captureValid s = true)
    (hc : countSources l [e] (setLevel (vget s.mot.level l) e.input.val e.rise) (latchMark l s0 e) = (v, cs))
    (ht : cs.foldl (testMons l) v = v) :
    laneEdges l [e] s = { v with mot := { v.mot with gather := addCapture e.input e.rise ⟨l.val, capTs s e.phase, s.tim.cycles⟩ v.mot.gather } } := by
  unfold laneEdges
  dsimp only
  rw [h1]
  simp only [List.foldl_cons, List.foldl_nil]
  subst h0
  refine (if_neg (show ¬ (!unitRuns (s.lane l) || !captureValid s) = true by rw [h2, h3]; decide)).trans ?_
  rw [hc]
  dsimp only
  rw [ht]
  rfl

/-- A counted edge where no monitor is armed (R348, R349). -/
theorem laneEdges_counts (l : LaneId) (e : EdgeIn) (s : State) (j : PulseId) (d : Int) (h1 : seenEdges s l [e] = [e])
    (h2 : unitRuns (s.lane l) = true) (h3 : captureValid s = true) (hq : ∀ m, (vget (s.lane l).mot.mon m).state ≠ .armed)
    (hp : (pinCfg s e.input.val).mode ≠ 2) (hj : ∀ k : PulseId, (srcInputs s k.val).contains e.input.val = decide (k = j))
    (hd : edgeDelta s j.val e.input.val e.rise (setLevel (vget s.mot.level l) e.input.val e.rise) = some d) :
    ∃ v, laneEdges l [e] s = v ∧ v.lane l = { s.lane l with mot := { (s.lane l).mot with
        src := vmod (s.lane l).mot.src j (fun S => { S with count := S.count + BitVec.ofInt 32 d, standstill := false, reverse := decide (d < 0) }) } } ∧
      (∀ k, k ≠ l → v.lane k = s.lane k) ∧
      v.mot = { s.mot with level := vset s.mot.level l (setLevel (vget s.mot.level l) e.input.val e.rise), gather := addCapture e.input e.rise ⟨l.val, capTs s e.phase, s.tim.cycles⟩ s.mot.gather } ∧
      SameBut [.lanes, .mot] s v := by
  obtain ⟨s0, h0⟩ : ∃ s0 : State, s0 = { s with mot := { s.mot with level := vset s.mot.level l (setLevel (vget s.mot.level l) e.input.val e.rise) } } := ⟨_, rfl⟩
  have l0 : ∀ k, s0.lane k = s.lane k := fun k => by rw [h0]; rfl
  have hl : latchMark l s0 e = s0 := by
    unfold latchMark
    dsimp only
    rw [if_neg (fun x => hp (by rw [← x.1, h0]; rfl))]
  have hc := countSources_one l e (setLevel (vget s.mot.level l) e.input.val e.rise) s0 j d (by rw [h0]; exact hj) (by rw [h0]; exact hd)
  rw [countEdge_quiet l j d _ s0 (by intro m; rw [l0]; exact hq m)] at hc
  obtain ⟨v, hv⟩ : ∃ v, v = s0.modLane l (fun L => { L with mot := { L.mot with
      src := vmod L.mot.src j (fun S => { S with count := S.count + BitVec.ofInt 32 d, standstill := false, reverse := decide (d < 0) }) } }) := ⟨_, rfl⟩
  rw [← hv] at hc
  have hvl : v.lane l = { s.lane l with mot := { (s.lane l).mot with
        src := vmod (s.lane l).mot.src j (fun S => { S with count := S.count + BitVec.ofInt 32 d, standstill := false, reverse := decide (d < 0) }) } } := by
    rw [hv, State.lane_modLane, l0]
  have hb : SameBut [.lanes] s0 v := by rw [hv]; exact sameBut_modLane (fun _ => rfl)
  have hm : v.mot = s0.mot := hb .mot (by simp)
  refine ⟨_, laneEdges_one l e s s0 v _ h0 h1 h2 h3 (by rw [hl]; exact hc) ?_, ?_, ?_, ?_, ?_⟩
  · simp only [List.foldl_cons, List.foldl_nil]
    exact testMons_quiet _ _ _ (by intro m; rw [hvl]; exact hq m)
  · exact hvl
  · intro k hk
    show v.lane k = _
    rw [hv, State.lane_modLane_other _ _ _ _ hk, l0]
  · dsimp only
    rw [hm, h0]
  · have hb2 : SameBut [.lanes, .mot] s s0 := by
      rw [h0]
      exact (sameBut_setMot s _).mono (by simp)
    exact (hb2.trans (hb.mono (by simp))).trans ((sameBut_setMot v _).mono (by simp))

/-- A seen mark edge of an input that no source counts (R359). -/
theorem laneEdges_marks (l : LaneId) (e : EdgeIn) (s : State) (h1 : seenEdges s l [e] = [e])
    (h2 : unitRuns (s.lane l) = true) (h3 : captureValid s = true) (hp : (pinCfg s e.input.val).mode = 2)
    (hr : e.rise ≠ (pinCfg s e.input.val).markFall) (hj : ∀ k : PulseId, (srcInputs s k.val).contains e.input.val = false) :
    ∃ v, laneEdges l [e] s = v ∧ v.lane l = { s.lane l with mot := { (s.lane l).mot with
        mark := vmod (s.lane l).mot.mark e.input (fun k => if markHeld s (s.lane l) e.input.val then { k with seen := true }
          else { k with count := ((s.lane l).source (pinCfg s e.input.val).markSrc).count, latched := true }) } } ∧
      (∀ k, k ≠ l → v.lane k = s.lane k) ∧ SameBut [.lanes, .mot] s v := by
  obtain ⟨s0, h0⟩ : ∃ s0 : State, s0 = { s with mot := { s.mot with level := vset s.mot.level l (setLevel (vget s.mot.level l) e.input.val e.rise) } } := ⟨_, rfl⟩
  have l0 : ∀ k, s0.lane k = s.lane k := fun k => by rw [h0]; rfl
  have p0 : pinCfg s0 e.input.val = pinCfg s e.input.val := by rw [h0]; rfl
  have m0 : ∀ L i, markHeld s0 L i = markHeld s L i := fun L i => by rw [h0]; rfl
  obtain ⟨v, hv⟩ : ∃ v, v = s0.modLane l (fun L => { L with mot := { L.mot with
      mark := vmod L.mot.mark e.input (fun k => if markHeld s L e.input.val then { k with seen := true }
          else { k with count := (L.source (pinCfg s e.input.val).markSrc).count, latched := true }) } }) := ⟨_, rfl⟩
  have hl : latchMark l s0 e = v := by
    unfold latchMark
    dsimp only
    rw [p0, if_pos ⟨hp, hr⟩, hv]
    simp only [m0]
    rfl
  have hc := countSources_none l e (setLevel (vget s.mot.level l) e.input.val e.rise) v (by rw [hv, h0]; exact hj)
  have hvl : v.lane l = { s.lane l with mot := { (s.lane l).mot with
        mark := vmod (s.lane l).mot.mark e.input (fun k => if markHeld s (s.lane l) e.input.val then { k with seen := true }
          else { k with count := ((s.lane l).source (pinCfg s e.input.val).markSrc).count, latched := true }) } } := by
    rw [hv, State.lane_modLane, l0]
  have hb : SameBut [.lanes] s0 v := by rw [hv]; exact sameBut_modLane (fun _ => rfl)
  refine ⟨_, laneEdges_one l e s s0 v [] h0 h1 h2 h3 (by rw [hl]; exact hc) rfl, hvl, ?_, ?_⟩
  · intro k hk
    show v.lane k = _
    rw [hv, State.lane_modLane_other _ _ _ _ hk, l0]
  · have hb2 : SameBut [.lanes, .mot] s s0 := by
      rw [h0]
      exact (sameBut_setMot s _).mono (by simp)
    exact (hb2.trans (hb.mono (by simp))).trans ((sameBut_setMot v _).mono (by simp))

end Sys2Proof.Machine
end

