-- ==== Sys2Proof/WellFormed.lean ====
section
/-!
DEFINITION. Well-formed commands: operands that no sender can exceed, where their types do not say so already. The meanings are total and
do not look at it.
-/

namespace Sys2Proof

open Sys2Proof.Machine

/-- The readings of a tick event come one per engine, channel, output, group and lane. -/
def tickInputsWf (i : TickInputs) : Bool :=
  i.busyUs.length == 9 && i.currents.length == 48 && i.voCurrents.length == 8 && i.supplies.length == 6 && i.margins.length == 3

/-- Writes of a core lie in its image (R25, R35). -/
def imageWritesWf (ws : List (Nat × Byte)) : Bool := ws.all (fun w => w.1 < 0x80000000)

/-- A Utmus request has a body of at most 65 536 bytes and carries a key and a signature of their sizes, or neither (R478, R509). -/
def utmusWf (q : UtmusReq) : Bool :=
  decide (q.body.length ≤ 65536) && ((q.pk.length == 1952 && q.sig.length == 3309) || (q.pk.isEmpty && q.sig.isEmpty))

/-- Is a command well-formed? -/
def Instr.wf : Instr → Bool
  | .tickEvent i | .referenceMeasurement i | .coldstartComplete i => tickInputsWf i
  | .taskEndMark _ _ ws | .taskFault _ _ ws | .checkpointRoundEnd ws _ _ => imageWritesWf ws
  | .imagesLoaded _ a b => imageWritesWf a && imageWritesWf b
  | .eccUncorrectable _ _ line _ => line < 0x2000000
  | .registerWrite _ addr data => addr < 2 ^ 40 && decide (data.length ≤ 8)
  | .directAccess _ _ addr => addr < 2 ^ 40
  | .descriptorWrite off bytes => decide (off + bytes.length ≤ 0x1000000)
  | .frameReceived _ _ _ _ payload fcs _ _ => fcs.length == 4 && decide (payload.length ≤ 1024)
  | .itemArrival _ _ _ _ _ payload _ => decide (payload.length ≤ 4096)
  | .fldDiagRead _ _ readings _ => readings.length == 8
  | .hello q | .identify q | .status q | .attest q | .loadBegin q | .chunk q | .loadEndCommand q | .activate q | .revert q
  | .slotErase q | .swapLoad q | .swap q | .swapCommit q | .swapRevert q | .fwInstall q | .fwTrial q | .fwCommit q | .fwRollback q
  | .programStop q | .programStart q | .laneRelease q | .onlineChange q | .ucalWrite q | .restoreFactory q | .recFormat q
  | .relinquish q | .retire q | .provision q | .enrol q | .vendorRevoke q => utmusWf q
  | .utmusRecRead q _ => utmusWf q
  | _ => true

end Sys2Proof
end

