-- ==== Sys2Proof/Tests/Slice0.lean ====
section
/-!
SUPPORT. The model's own tests: ill-formed commands, and for each statement with hypotheses a state and operands that meet them.
-/

namespace Sys2Proof.Tests

open Sys2Proof Sys2Proof.Machine

/-- An operational module. -/
def up : State := { State.reset with pwr := { State.reset.pwr with held := false, pstate := .operational } }

theorem test_up_operational : Operational up := ⟨rfl, Or.inl rfl⟩

theorem test_up_lineRuns : LineRuns up := ⟨rfl, by decide⟩

/-! ## TickEventReachesBoundary -/

theorem test_tick_hypotheses :
    let s := { up with tim := { up.tim with counting := true, rate := -109951163 } }
    LineRuns s ∧ s.tim.counting = true ∧ s.tim.rate.natAbs ≤ 109951163 := ⟨⟨rfl, by decide⟩, rfl, by decide⟩

/-! ## ServoMeasurement -/

/-- A node at work with an offset on a channel. -/
def measuring (st : TimState) (a b : Option Int) : State :=
  { up with tim := { up.tim with state := st }, stra := { up.stra with chan := #v[{ (vget up.stra.chan 0) with curRef := a },
      { (vget up.stra.chan 1) with curRef := b }] } }

theorem test_measure_accepted : (measuring .locked (some 65536000) none).stra.node.measured = false ∧
    (measuring .locked (some 65536000) none).tim.state = .locked ∧ ((measuring .locked (some 65536000) none).chan 0).curRef = some 65536000 ∧
    (65536000 : Int).natAbs ≤ jumpThr (measuring .locked (some 65536000) none) * 65536 := by decide

theorem test_measure_channelB : ((measuring .acquiring none (some 5)).chan 0).curRef = none ∧
    ((measuring .acquiring none (some 5)).chan 1).curRef = some 5 ∧ (5 : Int).natAbs ≤ jumpThr (measuring .acquiring none (some 5)) * 65536 := by
  decide

theorem test_measure_refused : jumpThr (measuring .locked (some 65536001) none) * 65536 < (65536001 : Int).natAbs ∧
    regField (measuring .locked (some 65536001) none) (TIM + 0x4) 0 1 = 0 := by decide

theorem test_measure_first : (measuring .unset (some (-1)) none).tim.state = .unset ∧
    0 ≤ (({ (measuring .unset (some (-1)) none) with tim := { now := 2 ^ 60 } } : State).tim.now : Int) + (-1) * 2 ^ 24 := by decide

theorem test_measure_master : (measuring .master none none).tim.state = .master := rfl

/-! ## StepsAreArmedHeldOrApplied -/

/-- A running program with an armed step. -/
def armed (prog : ProgState) (theta : Int) : State :=
  { measuring .locked (some theta) none with cyc := { up.cyc with prog := prog }, regs := [(TIM + 0x4, 1#32)], tim := { state := .locked, now := 2 ^ 62 } }

theorem test_step_held : jumpThr (armed .running (-65536001)) * 65536 < (-65536001 : Int).natAbs ∧
    regField (armed .running (-65536001)) (TIM + 0x4) 0 1 = 1 ∧ (-65536001 : Int) < 0 ∧ (armed .running (-65536001)).cyc.prog = .running := by
  decide

theorem test_step_applied_forward : jumpThr (armed .running 65536001) * 65536 < (65536001 : Int).natAbs ∧
    regField (armed .running 65536001) (TIM + 0x4) 0 1 = 1 ∧ 0 ≤ ((armed .running 65536001).tim.now : Int) + 65536001 * 2 ^ 24 := by decide

theorem test_step_applied_stopped : (armed .stopped (-65536001)).cyc.prog ≠ .running ∧
    0 ≤ ((armed .stopped (-65536001)).tim.now : Int) + (-65536001) * 2 ^ 24 := by decide

/-! ## TimeStatesAndLatches -/

theorem test_timeLocked_hypotheses : let s := { measuring .acquiring none none with tim := { state := .acquiring, lockRun := 8 } }
    s.tim.state = .acquiring ∧ lockCyc s ≤ s.tim.lockRun := by decide

theorem test_holdover_hypotheses : let s := { measuring .acquiring none none with tim := { state := .locked, holdRun := 4 } }
    s.tim.state = .locked ∧ holdCyc s ≤ s.tim.holdRun := by decide

/-! ## FlushesWriteStagedRecords -/

theorem test_flush_hypotheses : let s := { up with rcd := { up.rcd with running := true, flushPend := true, staged := [⟨7, { kind := .app }⟩] } }
    s.rcd.running = true ∧ s.rcd.flushPend = true ∧ s.rcd.flushing = false ∧ s.rcd.staged ≠ [] := by decide

theorem test_flush_none_staged : let s := { up with rcd := { up.rcd with running := true, flushPend := true } }
    s.rcd.running = true ∧ s.rcd.flushPend = true ∧ s.rcd.flushing = false ∧ s.rcd.staged = [] := by decide

theorem test_flushEnd_hypotheses : let s := { up with rcd := { up.rcd with flushing := true, flushCount := 1, staged := [⟨7, { kind := .app }⟩] } }
    s.rcd.flushing = true ∧ s.rcd.losing = false ∧ s.rcd.flushPend = false ∧ s.rcd.perm.length + s.rcd.flushCount ≤ 65536 := by decide

/-! ## RecorderStartsWithStartRecord -/

theorem test_recorderStart_hypotheses : up.rcd.running = false ∧ up.flt.held = [] ∧ up.flt.heldLost = 0 ∧ up.rcd.cycle = [] ∧ up.rcd.staged = [] ∧
    up.rcd.next ≤ up.rcd.nandNext := by decide

theorem test_recorderStart_lost : let s := { up with rcd := { up.rcd with next := 9, nandNext := 7 } }
    s.rcd.running = false ∧ s.rcd.nandNext < s.rcd.next := by decide

theorem test_recorderStart_kept : let s := { up with rcd := { up.rcd with next := 8, staged := [⟨7, { kind := .app }⟩] } }
    s.rcd.running = false ∧ s.rcd.perm.length + s.rcd.staged.length ≤ 65536 := by decide

/-! ## RecorderRingOperations -/

/-- A started operation of a ring. -/
def started (s : State) (r : Fin 64) (d : Desc) : State := s.modRing r (fun R => { R with state := .active, sizeLog2 := 4, ops := [⟨d, .running⟩] })

theorem test_recWrite_hypotheses : let d : Desc := { opcode := 0x90, tag := 5, length := 4 }
    startedOp (started up 3 d) 3 (5 : Fin 1024).val 0x90 = some d ∧ (started up 3 d).rcd.staged.length + (started up 3 d).rcd.cycle.length < 3840 := by
  decide

theorem test_recWrite_refused (n : List Record) (h : n.length = 3840) :
    let s := { up with rcd := { up.rcd with staged := n } }
    3840 ≤ s.rcd.staged.length + s.rcd.cycle.length := by simp [h]

theorem test_recRead_hypotheses : let d : Desc := { opcode := 0x91, tag := 5, paramA := 1, length := 64 }
    let s := { started up 62 d with rcd := { up.rcd with staged := [⟨7, { kind := .app }⟩] } }
    startedOp s 62 (5 : Fin 1024).val 0x91 = some d ∧ 32 ≤ (62 : Fin 64).val ∧
    ((s.rcd.all.filter (fun y => d.paramB + 2 ^ 32 * d.paramC ≤ y.seq)).take (field d.paramA 0 7)).head? = some ⟨7, { kind := .app }⟩ := by decide

theorem test_recRead_none : let d : Desc := { opcode := 0x91, tag := 5, paramA := 1, length := 64 }
    startedOp (started up 62 d) 62 (5 : Fin 1024).val 0x91 = some d ∧ (started up 62 d).rcd.all = [] := by decide

theorem test_recRead_item : let d : Desc := { opcode := 0x91, tag := 5, paramA := 1, length := 64 }
    startedOp (started up 3 d) 3 (5 : Fin 1024).val 0x91 = some d ∧ (3 : Fin 64).val < 32 ∧ inItem? (started up 3 d) (field d.paramA 16 13) = none := by
  decide

/-! ## LaneErrorsAndFindings -/

theorem test_lane_live : (({ up with lanes := Vector.replicate 3 { ({} : Lane) with state := .running } } : State).lane 0).state.live = true := by decide

theorem test_lane_covered : lineCovered (idataBase / 64) = true := by decide

/-! ## TaskMarksAndInterrupts -/

theorem test_marks_hypotheses :
    let i : LaneInst := { task := 3, start := 8 }
    let s := { up with cyc := { up.cyc with insts := Vector.replicate 3 [i] } }.modCore 0 0 (fun c => { c with ctx := [(3, 8)] })
    ((vget s.cyc.insts 0).find? (fun i => i.task == 3 && !i.begun.getLsbD 0)).isSome ∧ (currentInst s 0 0).isSome ∧
      (vget (s.lane 0).cores 1).queue = [] := by decide

/-! ## PairEntryComparison -/

/-- A lane that runs, with one entry in each core's queue. -/
def paired (a b : QEntry) : State :=
  { up with lanes := Vector.replicate 3 { ({} : Lane) with
      state := .running, cores := ⟨#[{ ({} : Core) with queue := [a] }, { ({} : Core) with queue := [b] }], rfl⟩ } }

theorem test_pair_hypotheses :
    let s := paired ⟨⟨0x100000000, .write, [1], 1⟩, some (3, 8)⟩ ⟨⟨0x100000000, .write, [2], 1⟩, some (3, 8)⟩
    (s.lane 0).state.live = true ∧ (vget (s.lane 0).cores 0).queue.length = 1 ∧ (vget (s.lane 0).cores 1).queue.length = 1 ∧
      heldFor (s.lane 0) (3, 8) < 2048 := by decide

/-! ## DigestComparison -/

theorem test_digest_hypotheses :
    let s : State := { up with lanes := Vector.replicate 3 { ({} : Lane) with
      state := .running, cores := Vector.replicate 2 { ({} : Core) with digReady := [((3, 8), 5)] } } }
    (s.lane 0).state.live = true ∧ readyDigests (s.lane 0) 3 = some ((3, 8), 5, 5) ∧ queuedFor (s.lane 0) (3, 8) = false := by decide

/-! ## RegisterWrites -/

theorem test_registerWrite_kinds : isVrw (TIM + 4) = true ∧ isVrw (LANE + 8) = false ∧ inRegisters (TIM + 4) = true ∧
    inRegisters (LANE + 8) = true := by decide

/-! ## VotesOpenAgreeAndCommit -/

/-- A dual module whose lane 1 has handed over a runtime write, after lane 0 proposed the same. -/
def proposing : State :=
  let a : Access := ⟨TIM + 4, .write, [1, 0, 0, 0], 15⟩
  { up with
    vot := { up.vot with mode := .dual, counted := 3, votes := [{ key := .runtime 0, props := [(0, a)] }] },
    lanes := Vector.replicate 3 { ({} : Lane) with state := .running, handed := [⟨.runtime 0, a⟩] } }

theorem test_proposal_hypotheses :
    proposing.vot.mode ≠ .safe ∧ writeTarget proposing 1 ⟨TIM + 4, .write, [1, 0, 0, 0], 15⟩ = .voted ∧
      countedFor proposing 1 (.runtime 0) = true ∧ (proposing.lane 1).state.live = true := by decide

/-! ## VoteWindowsAndAbsence -/

theorem test_window_hypotheses :
    (proposing.vot.votes.find? (fun v => v.key == .runtime 0)).isSome = true ∧ proposing.vot.mode ≠ .safe ∧
      (let s : State := { proposing with vot := { proposing.vot with votes := proposing.vot.votes.map (fun v =>
          { v with agreed := some ⟨TIM + 4, .write, [1, 0, 0, 0], 15⟩, closed := true }) } }
       countedFor s 1 (.runtime 0) = true ∧ s.vot.votes.all (fun v => v.closed && v.agreed.isSome && !v.props.any (fun p => p.1 == 1)) = true) := by
  decide

/-! ## ReintegrationPath -/

/-- A dual module with lane 2 out and, from a phase on, re-integrating. -/
def rejoining (r : Reint) : State := { up with vot := { up.vot with mode := .dual, counted := 3, reint := r } }

theorem test_reint_hypotheses : countedLanes (rejoining {}) = [0, 1] ∧ counted (rejoining {}) 2 = false ∧
    (vget (rejoining {}).vot.lanes 2).heldOut = false ∧ taskIdle (rejoining {}) 1 3 = true := by decide

/-! ## ReintegrationFails -/

theorem test_reintFailed_hypotheses :
    attemptFailed (rejoining { target := 2, phase := .load }) 2 true = true ∧ attemptFailed (rejoining {}) 2 false = false := by decide

/-! ## SelfTestsAndAdmission -/

/-- A module in INIT with its lanes in a state. -/
def starting (st : LaneState) (ok : Bool) : State :=
  { up with
    vot := { up.vot with mode := .init, waiting := true, testDone := true, lanes := Vector.replicate 3 { pairOk := ok } },
    lanes := Vector.replicate 3 { ({} : Lane) with state := st }, trust := { up.trust with cfgOk := true } }

theorem test_admission_hypotheses :
    (readyLanes (starting .ready true)).length = 3 ∧ waitOver (starting .ready true) = true ∧ ((starting .off false).lane 1).state = .off ∧
      (starting .off false).trust.recovery = false ∧ (starting .ready true).vot.testFail = false := by decide

/-! ## RingLifecycle -/

/-- The state with one ring replaced. -/
def withRing (r : Fin 64) (R : Ring) (s : State) : State := s.modRing r (fun _ => R)

/-- A voted ring with two entries in the areas given. -/
def ringed (st : RingState) : State :=
  (withRing 0 { sqBase := 0, cqBase := 0x1000, sizeLog2 := 1, engine := 8, owner := 16, tagBase := 0, tagCount := 2, state := st, prod := 1,
                pending := [0], credit := 1 } up) |>
    fun s => { s with cfg := { s.cfg with cyc := { s.cfg.cyc with areas := [⟨0, 0x1000, .voted⟩, ⟨0x1000, 0x1000, .engine⟩] } } }

theorem test_ringEnable_hypotheses :
    ((ringed .disabled).ringAt 0).enabled = false ∧ ringSetupOk (ringed .disabled) 0 = true ∧
      ringSetupOk up 0 = false ∧ ((ringed .active).ringAt 0).enabled = true ∧ ((ringed .draining).ringAt 0).ops = [] := by decide

/-! ## RingQueues -/

theorem test_ringQueues_hypotheses :
    slotAt (ringed .active) 0 = some (0, 0) ∧ nsMem ((ringed .active).ringAt 0).pending 0 = true ∧
      slotAt (ringed .active) 32 = some (0, 1) ∧ nsMem ((ringed .active).ringAt 0).pending 1 = false ∧
      ((2#16) - ((ringed .active).ringAt 0).prod).toNat + (((ringed .active).ringAt 0).prod - ((ringed .active).ringAt 0).cons).toNat ≤ 2 := by decide

/-! ## DescriptorFetch -/

theorem test_fetch_hypotheses : nextRing (ringed .active) 8 = some (0, 0) ∧ nextRing (ringed .disabled) 8 = none := by decide

/-! ## OperationsComplete -/

theorem test_complete_hypotheses :
    let s := withRing 0 { sizeLog2 := 1, ops := [{ desc := { tag := 1 }, stage := .done 0 0 0 }, { desc := { tag := 2, opcode := 1 } }] } up
    ((s.ringAt 0).ops.find? (fun o => o.desc.tag == 1 && decide (o.stage ≠ .running))).isSome = true ∧
      (startedOp s 0 2 0x01).isSome = true := by decide

/-! ## ProgramStartAndMirror -/

/-- A module whose program is stopped and may start. -/
def startable : State :=
  { up with
    vot := { up.vot with mode := .dual, counted := 3 }, tim := { up.tim with state := .locked }, cls := { up.cls with role := .active } }

theorem test_start_hypotheses : startConditions startable = true ∧ (countedLanes startable).length = 2 := by decide

theorem test_change_hypotheses :
    ({ up with cyc := { up.cyc with changes := [⟨3, 0x24000000, [1], true⟩] } } : State).cyc.changes.any (fun p => p.task == 3 && p.due) = true := by
  decide

/-! ## CodeSwapEvents -/

/-- A module whose code swap is in a state, with the program running since tick 0. -/
def swapping (x : SwapState) : State :=
  { up with cyc := { up.cyc with swap := x, swapImage := some (0, up.image), prog := .running, progTick := 0 } }

theorem test_swap_hypotheses : (swapping .loading).cyc.swap = .loading ∧ (swapping .loading).cyc.swapImage.isSome = true ∧
    trialOver (swapping .trial) = true := by decide

/-! ## RequestChecks -/

/-- A request of an open session. -/
def request (body : List Byte) : UtmusReq :=
  { magic := 0x5455, ver := 1, session := 7, seq := 1, bodyLen := BitVec.ofNat 32 body.length, keyClass := 0, keyIndex := 0, zero := 0,
    body := body, pk := [], sig := [] }

/-- A module with a session open. -/
def inSession : State := { up with trust := { up.trust with session := some { number := 7, nonce := [], seq := 0 } } }

theorem test_request_format : (request []).formatOk = true ∧ ({ request [] with ver := 2 } : UtmusReq).formatOk = false := by decide

theorem test_request_unsigned : (request []).signed 3 [] (seqTaken (request []) inSession) = false := by decide

/-! ## SessionsAndTransfers -/

theorem test_transfer_hypotheses :
    let s : State := { inSession with trust := { inSession.trust with
      session := some { number := 7, nonce := [], seq := 0, transfer := some ⟨1, 0, 2, [1, 2]⟩ } } }
    openTransfer inSession = none ∧ openTransfer s = some ⟨1, 0, 2, [1, 2]⟩ := by decide

/-! ## LifecycleCommands -/

theorem test_lifecycle_hypotheses :
    lifecycle up = .blank ∧ lifecycle ({ up with otp := { up.otp with lifeN := 1 } } : State) = .provisioned ∧
      lifecycle ({ up with otp := { up.otp with lifeN := 2 } } : State) = .owned ∧ ownerSlot ({ up with otp := { up.otp with lifeN := 2 } } : State) ≤ 5 := by
  decide

/-! ## StrathPortStates -/

/-- The state with one port set. -/
def withPort (c : ChanId) (p : PortId) (P : Port) (s : State) : State := s.modPort c p (fun _ => P)

theorem test_ports_hypotheses :
    (up.port 0 0).lstate = .down ∧ (up.port 0 0).wrapped = true ∧ ((withPort 0 0 { lstate := .train } up).port 0 0).sync = false ∧
      ((withPort 1 1 { lstate := .sync, sync := true, dlyValid := true, wrapped := false } up).port 1 1).reqCycle ≠ some (up.tick / 8) ∧
      ((withPort 0 1 { astate := .frozen, lstate := .failed, sync := true } up).port 0 1).astate = .frozen := by decide

/-! ## StrathWrapsAndMeasurements -/

theorem test_wraps_hypotheses :
    let P : Port := { lstate := .up, sync := true, closeProp := some 20, closeHeard := some 10, closeNowSent := 7, closeNowRecv := 7 }
    let s : State := withPort 0 0 P { up with tim := { up.tim with state := .locked, now := 20 * 8 * tickUnits } }
    forceWrap s 0 0 = false ∧ unwrapDue s 0 0 = true ∧ interlockFree s 0 = true ∧ failureHolds P 3 = true ∧
      0 < sdiff 16 21 20 ∧ leAt [] 18 2 ≠ crc16 (([] : List Byte).take 18) := by decide

/-! ## NodeStatesAndMasters -/

/-- The state with the node set. -/
def withNode (n : Node) (s : State) : State := s.modNode (fun _ => n)

theorem test_node_hypotheses :
    masterEn up = false ∧ tripCause (withNode { nstate := .synced, missRun := 8 } up) = 2 ∧ tripCause (withNode { nstate := .synced } up) = 0 ∧
      refFields ⟨2, 3, 0, 1, 0, 0, true, 0, zeros 32⟩ =
        some { time := 0, rank := 0, mode := 0, pend := false, next := 0, switch := 0, utcOfs := 0, leap := 0, sched := 0 } ∧
      masterEn (regPut up (STR 0 + 0x1000) 2 1 1) = true ∧ nodeCfg (regPut up (STR 0 + 0x1000) 4 1 1) 4 1 = 1 := by decide

/-! ## SlotsBezelAndRequests -/

/-- One own DATA slot in mode 0, for node 5 on both channels. -/
def scheduled : State :=
  let e : SlotEntry := { start := 100, sender := 5, len := 2, ch := 3, repLog2 := 0, phase := 0, txBuf := 1, kind := 1, sender2 := 0 }
  let s := { up with cfg := { up.cfg with stra := { up.cfg.stra with modes := [(0, [(3, e)])] } } }
  let s := { s with stra := { s.stra with tx := [(1, { content := some [], atStart := some (zeros 16) })] } }
  withNode { nstate := .synced } (regPut s (STR 0) 0 7 5)

theorem test_slot_hypotheses :
    (match slotEntry? scheduled 0 3 with
      | some e => ownSlot scheduled e 3 && usedNow scheduled e && testBit e.ch 0 && (tgetD scheduled.stra.tx e.txBuf {}).atStart.isSome &&
          (bezelPasses (scheduled.modBezel 0 (fun B => { B with aligned := true })) 0 e 1 2 3 200 0) && !(bezelPasses scheduled 0 e 1 2 3 200 0) &&
          slotReceived (regPut scheduled (STR 0) 0 7 6) 0 3 0 16 && !(slotReceived scheduled 0 3 0 16)
      | none => false) = true ∧ modePresent scheduled 0 = true ∧ modePresent scheduled 1 = false ∧
      (lowestMode (scheduled.modChan 1 (fun C => { C with inbox := [⟨4, 3, 0, 1, 0, 0, true, 0, zeros 8⟩] }))).isSome = true := by decide

/-! ## EthernetAndTrdp -/

/-- The state with one Ethernet port enabled and its link up. -/
def linked (q : EthId) (s : State) : State := (regPut s (ETH + 0x100 + 0x40 * q.val) 0 1 1).modEth q (fun P => { P with link := true })

theorem test_eth_hypotheses :
    let b : Subscription := { item := 3, port := 0, comId := 7, src1 := 0, src2 := 0, length := 8 }
    let s := { linked 0 up with eth := { (linked 0 up).eth with subs := [b], sessions := [⟨1, 0, 7, 0, some (0, 5)⟩] } }
    ethReady s 0 = true ∧ ethReady s 1 = false ∧ subFor s 0 7 = some b ∧ receiverOf s 3 = none ∧ ethWaits s 0 6 = false ∧
      (s.eth.sessions.find? (fun y => y.handle == 1)).isSome = true := by decide

theorem test_pd_hypotheses :
    let c : PubCfg := { comId := 7, dest := 1, mask := 3, length := 8, periodLog2 := 0, phase := 0, offsetUs := 0 }
    let s := { linked 0 up with cfg := { up.cfg with eth := { up.cfg.eth with pubs := [(2, c)] } } }
    tget? s.cfg.eth.pubs 2 = some c ∧ pdDue s 2 c = true ∧ gateOpen s (.pd 2) = true ∧ reportLate (.pd 2) s = s ∧ testBit c.mask 0 = true := by decide

theorem test_ptp_hypotheses :
    let s := (regPut (linked 1 up) (ETH + 0x140) 2 2 2).modEth 1 (fun P => { P with ptpState := ptpMaster })
    ptpRole s 1 = .master ∧ ethCfg s 1 4 7 = 0 ∧ timeGood { s with tim := { s.tim with state := .master } } = true := by decide

/-! ## MvbAndArrivals -/

theorem test_mvb_hypotheses :
    let s := regPut up MVB 0 16 0x53
    let s := s.modMvb (fun M => { M with src := [(9, [1])], binds := [(7, 3, 2)], msgs := [{ ring := 0, tag := 1, dest := 2, data := [] }] })
    mvbOn s = true ∧ mvbAnswers s = true ∧ mvbCfg s 1 1 = 1 ∧ gateOpen s (.mvb 9) = true ∧ reportLate (.mvb 9) s = s ∧ receiverOf s 3 = none ∧ mvbOn up = false ∧
      s.mvb.binds.find? (fun b => b.1 == 7) = some (7, 3, 2) := by decide

/-! ## ColOperations -/

/-- A module with route 300, an access range of 64 bytes in window 0, and a running backplane. -/
def bridged : State :=
  let e : RouteEntry := { waddr := 0x100, rlen := 64, kind := 1, rd := true, wr := true, wrNp := true }
  let s := { up with cfg := { up.cfg with col := { up.cfg.col with routes := [(3, { e with kind := 2 }), (300, e)] } } }
  let s := s.modCol (fun C => { C with win := vmod C.win 0 (fun w => { w with setting := 5 }) })
  { s with cross := { s.cross with dom := vmod s.cross.dom 13 (fun x => { x with clkOk := true }) } }

theorem test_col_hypotheses :
    let d : Desc := { opcode := 0x40, flags := 0, tag := 1, paramA := 300, addr := 0, length := 4, paramB := 0, paramC := 0 }
    refused bridged d = false ∧ refused up d = true ∧ winField bridged 0 0 1 = 1 ∧ busFree bridged d = true ∧ busFree up d = false ∧
      (runPhases (readPhases (busAddr bridged 0x100) 4 (winWidth bridged 0)) [.ack 0]).2 = none ∧
      (runPhases (readPhases (busAddr bridged 0x100) 4 (winWidth bridged 0)) [.error]).2.isSome = true ∧ (routeOf bridged 3).kind = 2 := by decide

/-! ## ColEvents -/

theorem test_posted_hypotheses :
    let s := { bridged with col := { bridged.col with posted := [{ ring := 0, gen := 0, tag := 5, route := 300, seq := 1, timed := false, off := 0x100, data := [1] }] } }
    busUp s = true ∧ busUp up = false ∧ (∀ p ∈ s.col.posted, completionWritten s p = true) ∧
      (runPhases (writePhases (busAddr s 0x100) (winWidth s 0) (winField s 0 3 2) [1]) [.ack 0]).2 = none ∧
      (runPhases (writePhases (busAddr s 0x100) (winWidth s 0) (winField s 0 3 2) [1]) [.error]).2.isSome = true := by decide

theorem test_latest_hypotheses :
    let s := { bridged with col := { bridged.col with binds := [(3, 9)] } }
    (routeDue s 3 2 (s.tick + 1)).isSome = true ∧ tget? s.col.binds 3 = some 9 ∧ receiverOf s 9 = none := by decide

/-! ## CheckOperations -/

theorem test_check_hypotheses :
    let s := { up with chk := { up.chk with unit := vmod up.chk.unit 3 (fun x => { x with role := 0 }) } }
    (unitFor s 0).isSome = true ∧ (vget s.chk.unit 3).role = 0 ∧ (vget s.chk.unit 3).failed = false ∧
      unitFor { up with chk := { up.chk with unit := Vector.replicate 16 { role := 1 } } } 0 = none := by decide

/-! ## MotionInputs -/

/-- A module with pulse input 0 counted up by source 0, input 1 a mark for it, and a running lane 0. -/
def pulsed : State :=
  let m := { up.cfg.mot with pins := [(0, { ({} : PinCfg) with mode := 1 }), (1, { ({} : PinCfg) with mode := 2 })], srcs := [(0, { ({} : SrcCfg) with mode := 1 })] }
  let s := { up with cfg := { up.cfg with mot := m } }
  s.modLane 0 (fun L => { L with state := .running })

theorem test_pulse_hypotheses :
    unitRuns (pulsed.lane 0) = true ∧ captureValid pulsed = true ∧ (vget pulsed.mot.level 0).getLsbD 0 = false ∧
      (srcInputs pulsed 0).contains 0 = true ∧ edgeDelta pulsed 0 0 true (setLevel 0 0 true) = some 1 ∧ srcOf pulsed 0 = some 0 ∧
      (pinCfg pulsed 1).mode = 2 ∧ srcMode pulsed 0 ≠ 0 ∧ (allPulse.all (fun k => (srcInputs pulsed k.val).contains 1 == false)) = true := by decide

theorem test_merge_hypotheses :
    let g : Gathering := ⟨0, true, [⟨0, 500, 7⟩]⟩
    agreedCap g.caps = some ⟨0, 500, 7⟩ ∧ disagreeing pulsed g ⟨0, 500, 7⟩ = [] ∧
      disagreeing (pulsed.modLane 1 (fun L => { L with state := .running })) g ⟨0, 500, 7⟩ = [1] := by decide

/-! ## AnalogChain -/

/-- A module with the enabled SYNC pin, an auxiliary multiplexer, and channel 2 on with a coarse limit. -/
def sampled : State :=
  let a := { up.cfg.ana with chans := [(2, { ({} : AnaCfg) with range := 1 }), (15, { ({} : AnaCfg) with auxEn := true })] }
  regPut (regPut { up with cfg := { up.cfg with ana := a } } (ANA + 4) 0 1 1) (ANA + 0x150) 31 1 1

theorem test_analog_hypotheses :
    regField sampled (ANA + 4) 0 1 = 1 ∧ regField sampled (ANA + 4) 1 1 = 0 ∧ sampled.ana.resetCyc ≠ some sampled.tim.cycles ∧
      regField sampled (ANA + 0x150) 31 1 = 1 ∧ regField up (ANA + 0x150) 31 1 = 0 ∧ (anaCfg sampled 15).auxEn = true ∧ sampled.ana.auxSel = 0 ∧
      (vget sampled.ana.ch 2).modFault = false := by decide

theorem test_block_hypotheses :
    anaOn (anaCfg sampled 2) = true ∧ anaBlock (anaCfg sampled 2) = 1 ∧ anaRate (anaCfg sampled 2) = 1 ∧ anaLatency (anaCfg sampled 2) = 18 ∧
      noTickEvent sampled 5 1 = false := by decide

/-! ## FieldCommands -/

/-- A module with field channel 3 in OUTPUT and tracking. -/
def wired : State :=
  let f := { up.cfg.fld with chans := [(3, { ({} : FldCfg) with mode := 2, trackEn := true })] }
  { up with cfg := { up.cfg with fld := f } }

theorem test_field_hypotheses :
    notOutputs wired 0 8 = 0 ∧ notOutputs wired 0 16 ≠ 0 ∧ linkedMonitors wired 7 = 0 ∧ isOutput wired 3 = true ∧ (fldCfg wired 3).trackEn = true ∧
      linkedMonitors { wired with cfg := { wired.cfg with fld := { wired.cfg.fld with cfm := [(1, ⟨0, false, 1, 0, 0, 0⟩)] } } } 2 ≠ 0 := by decide

theorem test_track_limits : trackBase 81920 20 90000 = 81940 ∧ trackBase 61441 20 0 = 61440 := by decide

/-! ## FieldFindings -/

theorem test_finding_hypotheses :
    let s := { wired with cls := { wired.cls with outEn := true }, fld := { wired.fld with supLow := 0 } }
    let t := { s with fld := { s.fld with cmd := 8 } }
    offTests s 3 = true ∧ offTests wired 3 = false ∧ conducts t 3 = true ∧ (vget s.fld.ch 3).ovl = false ∧ wired.cfg.fld.cfm = [] := by decide

theorem test_matrix_hypotheses :
    let run (s : State) (l : LaneId) : State := s.modLane l (fun L => { L with state := .running })
    let s := run (run { up with cls := { up.cls with outEn := true }, fld := { up.fld with voCmd := 4 } } 0) 1
    matrixOn s 2 = true ∧ matrixOn s 3 = false ∧ matrixOn up 2 = false := by decide

/-! ## ClaspFrameAndLink -/

theorem test_clasp_hypotheses :
    let s := { up with cls := { up.cls with role := .listen, waitCnt := 16000 } }
    let line : LineRead := ⟨true, 0, false, false⟩
    waitTicks s ≤ s.cls.waitCnt ∧ claiming { up with cls := { up.cls with role := .active } } = true ∧ claiming s = false ∧
      frameWon true 0 [line, line] = true ∧ frameWon true 0 [{ line with claim := 1, confirm := true }, line] = false := by decide

/-! ## Checkpoints -/

theorem test_checkpoint_hypotheses :
    let s := { up with cls := { up.cls with role := .join, phase := 3, started := [(1, 0)], partner := { up.cls.partner with role := .active } } }
    joinDigestIs 1 7 s = true ∧ s.cls.joined.getLsbD 1 = false ∧ attemptEnds .timeout s = true ∧ attemptEnds .ownState s = true ∧
      allJoined s 2 = true := by decide

/-! ## SupplyWatch -/

theorem test_supply_hypotheses :
    up.pwr.warn = false ∧ up.pwr.shutdown = false ∧ up.pwr.ovp = false ∧
    Completes (.powerWarning 1200 4200) up (fun u => u.pwr.warn = true ∧ u.pwr.warnCnt = 1) ∧
    Completes (.powerFailShutdown 0 2399) up (fun u => u.pwr.shutdown = true) :=
  ⟨rfl, rfl, rfl, ⟨_, rfl, rfl, rfl⟩, ⟨_, rfl, rfl⟩⟩

/-! ## HoldAndRelease -/

theorem test_release_hypotheses : LineRuns up ∧ up.pwr.shutdown = false ∧ State.reset.pwr.held = true ∧ State.reset.pwr.pstate ≠ .keepAlive ∧
    mayRelease 1680 4000 false State.reset = true ∧ mayRelease 1679 4000 false State.reset = false ∧ mayRelease 1680 2400 true State.reset = true := by
  refine ⟨test_up_lineRuns, ?_⟩; decide

theorem test_power_on_holds : Completes (.powerOnReset .rail) up (fun u => u.pwr.held = true ∧ u.pwr.cause = 3) := ⟨_, rfl, rfl, rfl⟩

/-! ## EngineResets -/

theorem test_engine_hypotheses :
    let s := { up with pwr := { up.pwr with restarting := 4, hbLost := 4 } }
    up.pwr.hbLost.getLsbD 2 = false ∧ s.pwr.hbLost.getLsbD 2 = true ∧ s.pwr.restarting.getLsbD 2 = true ∧ up.pwr.restarting.getLsbD 2 = false := by decide

theorem test_heartbeat_lost : Completes (.engineHeartbeatLost 2) up (fun u => u.pwr.hbLost = 4 ∧ u.pwr.restarting = 0) := ⟨_, rfl, rfl, rfl⟩

/-! ## LowPowerStates -/

theorem test_low_power_hypotheses :
    let s := { up with pwr := { up.pwr with req := some ⟨true, 0⟩ } }
    let k := { up with pwr := { up.pwr with pstate := .keepAlive, locketWake := 1 } }
    s.pwr.req = some ⟨true, 0⟩ ∧ 0 ≤ s.tick ∧ up.cls.outEn = false ∧ wakesKeepAlive k.pwr (.pin false) = true ∧
    wakesKeepAlive k.pwr .alarm = false ∧ wakesKeepAlive k.pwr .supply = true := by decide

theorem test_wakes_parked :
    let s := regPut { up with pwr := { up.pwr with pstate := .parked } } (PWR + 0x14) 0 2 1
    wakesParked s (.pin false) = true ∧ wakesParked s (.pin true) = false ∧ wakeEnabled s true = true ∧ wakeEnabled (regPut s (PWR + 0x14) 0 5 0) true = false := by decide

/-! ## HealthMonitors -/

theorem test_health_hypotheses :
    let s := { up with pwr := { up.pwr with avs := Vector.replicate 3 { vInit := some 800 } } }
    (vget s.pwr.avs 1).vInit = some 800 ∧ (vget up.pwr.avs 1).vInit = none ∧ (up.lane 0).state = .off ∧
    (vget up.pwr.temp 3).warn = false ∧ railWindow up 8 = (760, 840) ∧ railWindow up 2 = (873, 927) ∧ ratedLimit 5 = 760 := by decide

theorem test_rail_low : Completes (.railOutOfWindow 8 759) up (fun u => vget u.pwr.rail 8 = ⟨759, true, false, 1⟩) := ⟨_, rfl, rfl⟩

/-! ## ClockDomains -/

theorem test_clock_hypotheses :
    let s := { up with cross := { up.cross with dom := Vector.replicate 16 { clkOk := true } }, flt := { up.flt with pinLatch := true } }
    monitored s 8 = true ∧ (vget s.cross.dom 8).clkOk = true ∧ (vget up.cross.dom 8).clkOk = false ∧ monitored s 0 = false ∧ monitored s 13 = true ∧
      s.flt.pinLatch = true := by decide

theorem test_stall : vget (crossingStalled 3 2 3 up).cross.dom 3 = { stall := true, stallCnt := 1, acc := 3, merged := true, mergeCnt := 1 } := by
  decide

/-! ## SignetOperations -/

theorem test_signet_hypotheses :
    let s := { up with trust := { up.trust with ucalQueue := [⟨2, 47, some 5, true⟩] } }
    up.trust.rngOk = true ∧ up.trust.ucalQueue = [] ∧ ucalKeyOk 2 47 = true ∧ ucalKeyOk 2 48 = false ∧ ucalFits s 2 47 (some 5) = true := by decide

theorem test_ucal_done :
    let s := { up with trust := { up.trust with ucalQueue := [⟨2, 47, some 5, true⟩] } }
    tget? (ucalDone s).trust.ucal (ucalKey 2 47) = some 5 ∧ (ucalDone s).trust.ucalQueue = [] := by decide

/-! ## StepTakesFront -/

theorem test_idle_hypotheses : up.pending = [] ∧ State.reset.pwr.held = true ∧ up.tim.counting = false := by decide

/-! ## MemoryStaysCanonical -/

theorem test_canonical_hypotheses : Memory.wf (memWrite [] 5 [0, 7]) = true ∧ ∃ t, step { up with mem := memWrite [] 5 [0, 7] } = .next t := ⟨by decide, _, rfl⟩

/-! ## WriteEnableFollowsOutput -/

theorem test_follows_hypotheses : WriteEnableFollows up ∧ ∃ t, step up = .next t := ⟨rfl, _, rfl⟩

/-! ## QueueFirstInFirstOut -/

theorem test_queue_hypotheses : ∃ t, step { up with pending := [.pinClr, .referenceDrift] } = .next t ∧ t.pending = [.referenceDrift] := ⟨_, rfl, rfl⟩

/-! ## MatrixFaultKeepsColumns -/

theorem test_matrix_fault_found :
    let s := { up with cls := { up.cls with outEn := true } }
    Completes (.voReadbackFault 2 true) s (fun u => u.fld.readback.getLsbD 2 = true) ∧ s.fld.readback.getLsbD 2 = false := ⟨⟨_, rfl, rfl⟩, rfl⟩

/-! ## TickNumber -/

theorem test_tick_number : let s := { up with tim := { up.tim with now := 3 * 1000000000 * 2 ^ 40 + 250001 * 2 ^ 40 } }
    s.tim.now < 2 ^ 48 * (1000000000 * 2 ^ 40) ∧ s.tick = 24002 := by decide

/-! ## ActivationCounter -/

theorem test_counter_step : ∃ t, exec .pinClr up = .next t ∧ t.trust.actCnt = up.trust.actCnt := ⟨_, rfl, rfl⟩

end Sys2Proof.Tests
end

/-! # Lanes: findings, the end of a lane's start and the pair comparator

Rules of a lane's operations, and the two statements about them. -/

section

namespace Sys2Proof.Machine

/-! ## Commands, counts and frames -/

/-- Where the module acts, a command of the chapters completes with its own effect (R525, R531). -/
theorem Operational.completes {i : Instr} {f : State → State} {s : State} {P : State → Prop} (ho : Operational s)
    (he : exec i s = act f s) (hp : P (f s)) : Completes i s P :=
  ⟨f s, he.trans (act_next ho), hp⟩

/-- A report counts its class from any earlier state with the same count of that class (R563). -/
theorem Reported.of_count {code : Nat} {s u v : State} (h : Reported code u v)
    (e : tgetD u.flt.cls code 0 = tgetD s.flt.cls code 0) : Reported code s v := by
  unfold Reported at *
  rw [h, e]

/-- An update of one lane may change its pending sources and the rest of it, and nothing outside the lanes. -/
theorem sameBut_modLane_pending (s : State) (l : LaneId) (f : Lane → Lane) : SameBut [.lanes, .irq] s (s.modLane l f) := by
  intro p hp
  cases p <;> simp_all [Part.same]

/-- A lane's report after an update of lanes changes the lanes and what every report may change. -/
theorem SameBut.then_repLane {ps : List Part} {s u : State} (h : SameBut ps s u) (hp : ∀ p ∈ ps, p ∈ Part.lanes :: reportParts)
    (code : Nat) (l : LaneId) : SameBut (.lanes :: reportParts) s (repLane code l u) :=
  (h.mono hp).trans ((sameBut_report code (10 + l.val) [] u).mono (fun _ hm => List.mem_cons_of_mem _ hm))

/-! ## A live lane taken to SAFE -/

/-- The safe state of a live lane with the report of a class that the lane's loss itself does not report (R100, R101). -/
theorem repLane_laneSafe (l : LaneId) (code kind task entry addr : Nat) (forced : Bool) (s : State) (hl : (s.lane l).state.live = true)
    (hc : otherClass code = true) :
    ((repLane code l (laneSafe l kind task entry addr forced s)).lane l).state = .safe ∧
      Reported code s (repLane code l (laneSafe l kind task entry addr forced s)) := by
  have hne : code ≠ 0x402 := by
    rintro rfl
    simp [otherClass] at hc
  refine ⟨?_, (repLane_reported code l _ hne).of_count (laneSafe_cls l kind task entry addr forced code s hc)⟩
  rw [repLane_lane, Lane.raise_state, laneSafe_state l kind task entry addr forced s hl]

/-- A finding of R9 takes a live lane to SAFE and reports its class (R100, R104). -/
theorem laneFinding_safe (l : LaneId) (kind task entry addr : Nat) (s : State) (hl : (s.lane l).state.live = true)
    (hc : otherClass (faultCode 4 kind) = true) :
    ((laneFinding l kind task entry addr s).lane l).state = .safe ∧ Reported (faultCode 4 kind) s (laneFinding l kind task entry addr s) :=
  ⟨laneFinding_state l kind task entry addr s hl, laneFinding_reported l kind task entry addr s hl hc⟩

/-! ## ECC errors (R103, R104) -/

/-- What an uncorrectable ECC error that the scrub did not meet leaves of the lane: the count and the marked line (R103). -/
def Lane.countUncorr (L : Lane) (c : CoreId) (line : Nat) : Lane :=
  { L with eccUncorr := L.eccUncorr + 1, cores := vmod L.cores c (fun c => { c with bad := nsAdd c.bad line }) }

theorem eccUncorrectable_unmet {scrub : Bool} {line : Nat} (h : (scrub && lineCovered line) = false) (l : LaneId) (c : CoreId) (s : State) :
    eccUncorrectable l c line scrub s = repLane 0x1409 l (s.modLane l (fun L => L.countUncorr c line)) := by
  simp [eccUncorrectable, h, Lane.countUncorr]

theorem eccUncorrectable_met {line : Nat} (h : lineCovered line = true) (l : LaneId) (c : CoreId) (s : State) :
    eccUncorrectable l c line true s =
      laneFinding l 4 0 0 (64 * line) (repLane 0x1409 l (s.modLane l (fun L => L.countUncorr c line))) := by
  simp [eccUncorrectable, h, Lane.countUncorr]

/-- An uncorrectable error that the scrub did not meet in a covered line counts, marks the line and reports (R103). -/
theorem eccUncorrectable_counts {scrub : Bool} {line : Nat} (h : (scrub && lineCovered line) = false) (l : LaneId) (c : CoreId) (s : State) :
    let u := eccUncorrectable l c line scrub s
    (u.lane l).eccUncorr = (s.lane l).eccUncorr + 1 ∧ (u.lane l).state = (s.lane l).state ∧
      (vget (u.lane l).cores c).bad = nsAdd (vget (s.lane l).cores c).bad line ∧ Reported 0x1409 s u ∧
      SameBut (.lanes :: reportParts) s u := by
  dsimp only
  rw [eccUncorrectable_unmet h]
  have hlane : (repLane 0x1409 l (s.modLane l (fun L => L.countUncorr c line))).lane l = ((s.lane l).countUncorr c line).raise 8 := by simp
  have hbut : SameBut [.lanes] s (s.modLane l (fun L => L.countUncorr c line)) := sameBut_modLane (fun _ => rfl)
  rw [hlane]
  refine ⟨rfl, rfl, ?_, repLane_reported 0x1409 l _ (by decide), hbut.then_repLane (by simp) _ _⟩
  simp [Lane.raise, Lane.countUncorr]

/-- An error met by the scrub in a covered line of a live lane is a scrub-signature finding (R96, R103). -/
theorem eccUncorrectable_finding {line : Nat} (h : lineCovered line = true) (l : LaneId) (c : CoreId) (s : State)
    (hl : (s.lane l).state.live = true) :
    ((eccUncorrectable l c line true s).lane l).state = .safe ∧ Reported 0x1404 s (eccUncorrectable l c line true s) := by
  rw [eccUncorrectable_met h]
  have hlive : ((repLane 0x1409 l (s.modLane l (fun L => L.countUncorr c line))).lane l).state.live = true := by
    simpa [Lane.countUncorr] using hl
  obtain ⟨hsafe, hrep⟩ := laneFinding_safe l 4 0 0 (64 * line) _ hlive (by decide)
  exact ⟨hsafe, hrep.of_count (report_cls_other 0x1409 (10 + l.val) [] _ 0x1404 (by decide) (by decide))⟩

/-- What a corrected error leaves of the lane: ECC_CORR pending and the count (R85, R104). -/
def Lane.countCorr (L : Lane) : Lane := { L.raise 7 with eccCorr := L.eccCorr + 1 }

/-- A corrected error counts, makes ECC_CORR pending and reports (R85, R104). -/
theorem eccCorrected_counts (l : LaneId) (s : State) :
    let u := repLane 0x140A l (s.modLane l Lane.countCorr)
    (u.lane l).eccCorr = (s.lane l).eccCorr + 1 ∧ (u.lane l).irqPend.getLsbD 7 = true ∧ Reported 0x140A s u ∧
      SameBut (.lanes :: reportParts) s u := by
  dsimp only
  have hlane : (repLane 0x140A l (s.modLane l Lane.countCorr)).lane l = (s.lane l).countCorr.raise 8 := by simp
  rw [hlane]
  refine ⟨rfl, ?_, repLane_reported 0x140A l _ (by decide),
    (sameBut_modLane_pending s l Lane.countCorr).then_repLane (by simp [reportParts]) _ _⟩
  simp [Lane.raise, Lane.countCorr]

/-! ## FORCE_SAFE and the proposal timeout (R89, R101) -/

theorem forceSafeWrite_live (l : LaneId) (lag : Bool) (s : State) (hl : (s.lane l).state.live = true) :
    forceSafeWrite l lag s = repLane (if lag then 0x0506 else 0x1407) l (laneSafe l 7 0 0 0 true s) := by
  rw [forceSafeWrite, if_pos hl]

/-- A timeout with an entry of the A-core alone is a pair-timeout finding (R89). -/
theorem pairTimeout_ahead {l : LaneId} {s : State} {e : QEntry} {q : List QEntry} (h0 : (vget (s.lane l).cores 0).queue = e :: q)
    (h1 : (vget (s.lane l).cores 1).queue = []) :
    pairTimeout l s = laneFinding l 2 (entryTask e) (s.lane l).pairIndex e.acc.addr s := by
  simp [pairTimeout, h0, h1, entryTask]

theorem pairTimeout_empty {l : LaneId} {s : State} (h0 : (vget (s.lane l).cores 0).queue = [])
    (h1 : (vget (s.lane l).cores 1).queue = []) : pairTimeout l s = s := by
  simp [pairTimeout, h0, h1]

/-! ## The start of a lane (R95, R99, R106) -/

/-- What the end of a sweep with equal digests makes of the lane (R95, R99). -/
def Lane.becomeReady (L : Lane) : Lane :=
  { L with state := .ready, digA := vget (vget L.cores 0).dig 15, digB := vget (vget L.cores 1).dig 15, digTask := 15 }

/-- Beyond the lane, a sweep with equal digests changes the voter at most: the phase of a re-integration (R128) or the start of the
wait (R123). -/
theorem sweepEnd_equal (l : LaneId) (s : State) : ∃ x, sweepEnd l s none = { s.modLane l Lane.becomeReady with vot := x } := by
  unfold sweepEnd
  dsimp only
  split
  · exact ⟨_, rfl⟩
  · split <;> exact ⟨_, rfl⟩

/-- Setting the voter changes nothing else. -/
theorem sameBut_vot (s : State) (x : Voter) : SameBut [.vot] s { s with vot := x } := by
  intro p hp
  cases p <;> simp_all [Part.same, State.lane]

/-- A sweep with equal digests takes the lane to READY (R95). -/
theorem sweepEnd_ready (l : LaneId) (s : State) :
    ((sweepEnd l s none).lane l).state = .ready ∧ SameBut [.lanes, .vot] s (sweepEnd l s none) := by
  obtain ⟨x, hx⟩ := sweepEnd_equal l s
  rw [hx]
  have hlane : SameBut [.lanes] s (s.modLane l Lane.becomeReady) := sameBut_modLane (fun _ => rfl)
  have hvot : SameBut [.vot] (s.modLane l Lane.becomeReady) { s.modLane l Lane.becomeReady with vot := x } := sameBut_vot _ x
  exact ⟨congrArg Lane.state (State.lane_modLane s l Lane.becomeReady), (hlane.mono (by simp)).trans (hvot.mono (by simp))⟩

/-- A sweep with unequal digests is a latent divergence of the live lane (R95). -/
theorem sweepEnd_unequal (l : LaneId) (t : TaskId) (s : State) (hl : (s.lane l).state.live = true) :
    ((sweepEnd l s (some t)).lane l).state = .safe ∧ Reported 0x1403 s (sweepEnd l s (some t)) := by
  unfold sweepEnd
  exact And.imp_right (fun hrep => hrep.of_flt rfl) (laneFinding_safe l 3 t.val 0 0 _ (by simpa using hl) (by decide))

theorem sweepDigests_state (l : LaneId) (s : State) : ((sweepDigests l s).lane l).state = (s.lane l).state := by
  simp [sweepDigests]

theorem sweepDigests_sameBut (l : LaneId) (s : State) : SameBut [.lanes] s (sweepDigests l s) := sameBut_modLane (fun _ => rfl)

/-- A fold of updates that each leave a lane's pending sources leaves them. -/
theorem foldl_irqPend {α : Type} (g : Lane → α → Lane) (h : ∀ L a, (g L a).irqPend = L.irqPend) (xs : List α) (L : Lane) :
    (xs.foldl g L).irqPend = L.irqPend := by
  induction xs generalizing L with
  | nil => rfl
  | cons a xs ih => rw [List.foldl_cons, ih, h]

/-- The registers the lane runtime writes at its start are the lane's own: its pending sources stay (R106). -/
theorem loadLaneRegs_irqPend (s : State) (L : Lane) : (loadLaneRegs s L).irqPend = L.irqPend := by
  unfold loadLaneRegs
  dsimp only
  rw [foldl_irqPend]
  · rfl
  · exact fun _ _ => rfl

/-- Images loaded with valid ranges take the lane to SWEEP, each core with its image (R99, R530). -/
theorem imagesLoaded_sweep (l : LaneId) (dA dB : List (Nat × Byte)) (s : State) (hl : (s.lane l).state = .loading)
    (hp : s.vot.reint.phase = .idle) (hr : rangesValid s = true) :
    let u := imagesLoaded l dA dB s
    (u.lane l).state = .sweep ∧ (vget (u.lane l).cores 0).img = freshImage s dA ∧ (vget (u.lane l).cores 1).img = freshImage s dB ∧
      SameBut [.lanes] s u := by
  dsimp only
  unfold imagesLoaded
  rw [if_pos ⟨hl, fun h => h.1 hp⟩, if_pos hr]
  refine ⟨?_, ?_, ?_, sameBut_modLane (fun L => loadLaneRegs_irqPend s L)⟩
  · rw [State.lane_modLane]
  · rw [State.lane_modLane, vget_vmod_other _ _ _ _ (by decide), vget_vmod_self]
  · rw [State.lane_modLane, vget_vmod_self]

/-- A configuration fault keeps its cause, reports its class and leaves the lanes' states (R491, R518). -/
theorem configFault_reports (cause : Nat) (s : State) :
    (configFault cause s).trust.faultCause = BitVec.ofNat 8 cause ∧ Reported 0x4401 s (configFault cause s) ∧
      SameBut (.trust :: reportParts) s (configFault cause s) ∧ ∀ l, ((configFault cause s).lane l).state = (s.lane l).state := by
  refine ⟨by simp [configFault], (rep_reported 0x4401 _ (by decide)).of_flt rfl, ?_, fun l => ?_⟩
  · intro p hp
    cases p <;> simp_all [Part.same, reportParts]
  · unfold configFault
    dsimp only
    rw [rep_lane, Lane.raise_state]
    rfl

/-- Invalid ranges leave the lane in LOADING with a configuration fault of cause 2 (R106). -/
theorem imagesLoaded_invalid (l : LaneId) (dA dB : List (Nat × Byte)) (s : State) (hl : (s.lane l).state = .loading)
    (hp : s.vot.reint.phase = .idle) (hr : ¬ rangesValid s = true) : imagesLoaded l dA dB s = configFault 2 s := by
  unfold imagesLoaded
  rw [if_pos ⟨hl, fun h => h.1 hp⟩, if_neg hr]

end Sys2Proof.Machine

end

section

open Sys2Proof Sys2Proof.Machine

/-- Settles O8: each event's rule above, at the command that carries it; the findings turn on `laneFinding_safe`. -/
theorem laneErrorsAndFindings : Obligations.LaneErrorsAndFindings := by
  unfold Obligations.LaneErrorsAndFindings
  intro s l c line ho
  refine ⟨fun scrub hs => ?uncorrectable, fun hcov hl => ?scrubbed, ?corrected, fun task hl => ?zeroTag, fun lag hl => ?forced,
    fun e q h0 h1 hl => ?timeout, fun h0 h1 => ?noTimeout, fun hsw => ?sweep, fun dA dB hld hid => ?loaded⟩
  case uncorrectable => exact ho.completes (f := eccUncorrectable l c line scrub) rfl (eccUncorrectable_counts hs l c s)
  case scrubbed => exact ho.completes (f := eccUncorrectable l c line true) rfl (eccUncorrectable_finding hcov l c s hl)
  case corrected => exact ho.completes (f := fun s => repLane 0x140A l (s.modLane l Lane.countCorr)) rfl (eccCorrected_counts l s)
  case zeroTag => exact ho.completes (f := laneFinding l 6 task.val 0 0) rfl (laneFinding_safe l 6 task.val 0 0 s hl (by decide))
  case forced =>
    refine ho.completes (f := forceSafeWrite l lag) rfl ?_
    rw [forceSafeWrite_live l lag s hl]
    exact repLane_laneSafe l _ 7 0 0 0 true s hl (by cases lag <;> decide)
  case timeout =>
    refine ho.completes (f := pairTimeout l) rfl ?_
    rw [pairTimeout_ahead h0 h1]
    exact laneFinding_safe l 2 _ _ _ s hl (by decide)
  case noTimeout => exact ho.completes (f := pairTimeout l) rfl (pairTimeout_empty h0 h1)
  case sweep =>
    refine ho.completes (f := sweepComplete l) rfl ?_
    rw [sweepComplete, if_pos hsw]
    cases ((sweepDigests l s).lane l).firstUnequal with
    | none =>
      obtain ⟨hready, hbut⟩ := sweepEnd_ready l (sweepDigests l s)
      exact ⟨hready, ((sweepDigests_sameBut l s).mono (by simp)).trans hbut⟩
    | some t =>
      have hl : ((sweepDigests l s).lane l).state.live = true := by rw [sweepDigests_state, hsw]; rfl
      obtain ⟨hsafe, hrep⟩ := sweepEnd_unequal l t (sweepDigests l s) hl
      exact ⟨hsafe, hrep.of_flt rfl⟩
  case loaded =>
    refine ho.completes (f := imagesLoaded l dA dB) rfl ?_
    split
    next hr => exact imagesLoaded_sweep l dA dB s hld hid hr
    next hr =>
      rw [imagesLoaded_invalid l dA dB s hld hid hr]
      obtain ⟨hcause, hrep, hbut, hstate⟩ := configFault_reports 2 s
      exact ⟨(hstate l).trans hld, hcause, hrep, hbut⟩

end

section

namespace Sys2Proof.Machine

/-! ## The pair comparator (R87 to R90) -/

/-- Both cores of a lane have placed their new accesses in their queues (R87). -/
def issuePair (l : LaneId) (nA nB : List Access) (s : State) : State :=
  (s.modCore l 0 (fun c => c.issue nA)).modCore l 1 (fun c => c.issue nB)

/-- The lane once the front entry pair is taken from its queues, which then hold `qa` and `qb` (R87). -/
def Lane.takePair (L : Lane) (qa qb : List QEntry) : Lane :=
  { L with
    pairIndex := L.pairIndex + 1,
    cores := vmod (vmod L.cores 0 (fun c => { c with queue := qa })) 1 (fun c => { c with queue := qb }) }

/-- Of a lane, issuing accesses changes the cores alone. -/
theorem issuePair_lane (l : LaneId) (nA nB : List Access) (s : State) :
    (issuePair l nA nB s).lane l =
      { s.lane l with cores := vmod (vmod (s.lane l).cores 0 (fun c => c.issue nA)) 1 (fun c => c.issue nB) } := by
  simp only [issuePair, State.modCore, State.lane_modLane]

theorem issuePair_queue0 (l : LaneId) (nA nB : List Access) (s : State) :
    (vget ((issuePair l nA nB s).lane l).cores 0).queue =
      (vget (s.lane l).cores 0).queue ++ nA.map (fun x => ⟨x, (vget (s.lane l).cores 0).ctx.head?⟩) := by
  rw [issuePair_lane, vget_vmod_other _ _ _ _ (by decide), vget_vmod_self, Core.issue]

theorem issuePair_queue1 (l : LaneId) (nA nB : List Access) (s : State) :
    (vget ((issuePair l nA nB s).lane l).cores 1).queue =
      (vget (s.lane l).cores 1).queue ++ nB.map (fun x => ⟨x, (vget (s.lane l).cores 1).ctx.head?⟩) := by
  rw [issuePair_lane, vget_vmod_self, vget_vmod_other _ _ _ _ (by decide), Core.issue]

theorem issuePair_sameBut (l : LaneId) (nA nB : List Access) (s : State) : SameBut [.lanes] s (issuePair l nA nB s) :=
  sameBut_modCore.trans sameBut_modCore

/-- In a live lane the comparison acts on the queues with the new accesses (R87). -/
theorem pairEntryCompare_completes {l : LaneId} {nA nB : List Access} {s : State} {P : State → Prop} (ho : Operational s)
    (hl : (s.lane l).state.live = true) (hp : P (compareEntry l (issuePair l nA nB s))) : Completes (.pairEntryCompare l nA nB) s P := by
  refine ho.completes (f := fun u => onlyIf (u.lane l).state.live (fun v => compareEntry l (issuePair l nA nB v)) u) rfl ?_
  rw [onlyIf, if_pos hl]
  exact hp

theorem compareEntry_mismatch {l : LaneId} {s : State} {a b : QEntry} {qa qb : List QEntry}
    (h0 : (vget (s.lane l).cores 0).queue = a :: qa) (h1 : (vget (s.lane l).cores 1).queue = b :: qb) (hne : a.acc ≠ b.acc) :
    compareEntry l s = laneFinding l 1 (entryTask a) (s.lane l).pairIndex a.acc.addr s := by
  simp [compareEntry, h0, h1, hne]

theorem compareEntry_held {l : LaneId} {s : State} {a b : QEntry} {qa qb : List QEntry} {i : Nat × Nat}
    (h0 : (vget (s.lane l).cores 0).queue = a :: qa) (h1 : (vget (s.lane l).cores 1).queue = b :: qb) (he : a.acc = b.acc)
    (hk : a.acc.kind ≠ .read) (hi : a.ctx = some i) :
    compareEntry l s = holdEntry l a i (s.modLane l (fun L => L.takePair qa qb)) := by
  rw [he] at hk
  simp [compareEntry, h0, h1, he, hk, hi, Lane.takePair]

/-- Taking the pair, once the new accesses stand in the queues, leaves what the lane holds for release and moves the pair index on. -/
theorem takePair_lane (l : LaneId) (nA nB : List Access) (qa qb : List QEntry) (s : State) :
    let L := ((issuePair l nA nB s).modLane l (fun L => L.takePair qa qb)).lane l
    L.release = (s.lane l).release ∧ L.overflowed = (s.lane l).overflowed ∧ L.pairIndex = (s.lane l).pairIndex + 1 := by
  dsimp only
  rw [State.lane_modLane, issuePair_lane]
  exact ⟨rfl, rfl, rfl⟩

theorem takePair_sameBut (l : LaneId) (nA nB : List Access) (qa qb : List QEntry) (s : State) :
    SameBut [.lanes] s ((issuePair l nA nB s).modLane l (fun L => L.takePair qa qb)) :=
  (issuePair_sameBut l nA nB s).trans (sameBut_modLane (fun _ => rfl))

theorem heldFor_congr {L M : Lane} (h : M.release = L.release) (i : Nat × Nat) : heldFor M i = heldFor L i := by
  rw [heldFor, heldFor, h]

theorem holdEntry_joins {l : LaneId} {e : QEntry} {i : Nat × Nat} {s : State} (ho : (s.lane l).overflowed.contains i = false)
    (hh : heldFor (s.lane l) i < 2048) : holdEntry l e i s = s.modLane l (fun L => { L with release := L.release ++ [e] }) := by
  simp only [holdEntry, ho, Bool.false_eq_true, if_false, hh, if_true]

theorem holdEntry_overflows {l : LaneId} {e : QEntry} {i : Nat × Nat} {s : State} (ho : (s.lane l).overflowed.contains i = false)
    (hh : 2048 ≤ heldFor (s.lane l) i) :
    holdEntry l e i s = repLane 0x1408 l (s.modLane l (fun L => { L with
      release := L.release.filter (fun x => x.ctx != some i), overflowed := L.overflowed ++ [i] })) := by
  simp only [holdEntry, ho, Bool.false_eq_true, if_false, Nat.not_lt.mpr hh]

end Sys2Proof.Machine

end

section

open Sys2Proof Sys2Proof.Machine

/-- Settles O10: the comparator's three cases, once both cores' new accesses stand in their queues. -/
theorem pairEntryComparison : Obligations.PairEntryComparison := by
  unfold Obligations.PairEntryComparison
  intro s l nA nB a b qa qb ho hl hqA hqB
  have h0 := (issuePair_queue0 l nA nB s).trans hqA
  have h1 := (issuePair_queue1 l nA nB s).trans hqB
  obtain ⟨hrel, hover, hindex⟩ := takePair_lane l nA nB qa qb s
  refine ⟨fun hne => ?mismatch, fun i he hk hi hov => ?matched⟩
  case mismatch =>
    refine pairEntryCompare_completes ho hl ?_
    rw [compareEntry_mismatch h0 h1 hne]
    have hlive : ((issuePair l nA nB s).lane l).state.live = true := by rw [issuePair_lane]; exact hl
    exact And.imp_right (fun hrep => hrep.of_flt rfl) (laneFinding_safe l 1 _ _ _ _ hlive (by decide))
  case matched =>
    rw [← hover] at hov
    rw [← heldFor_congr hrel i]
    refine ⟨fun hh => pairEntryCompare_completes ho hl ?joins, fun hh => pairEntryCompare_completes ho hl ?overflows⟩
    case joins =>
      rw [compareEntry_held h0 h1 he hk hi, holdEntry_joins hov hh, State.lane_modLane, ← hrel, ← hindex]
      exact ⟨rfl, rfl, (takePair_sameBut l nA nB qa qb s).trans (sameBut_modLane (fun _ => rfl))⟩
    case overflows =>
      rw [compareEntry_held h0 h1 he hk hi, holdEntry_overflows hov hh, repLane_lane, State.lane_modLane, ← hrel]
      exact ⟨rfl, (repLane_reported 0x1408 l _ (by decide)).of_flt rfl⟩

end

/-! # Exchange memory keeps its canonical form (R24, R34)

What the arms of `exec` share, the argument by commands, and the statement. -/

section

namespace Sys2Proof.Machine

/-- Where an outcome is a next state, exchange memory has its canonical form there. -/
def NextCanonical (o : Host.Outcome State Fault Refusal) : Prop := ∀ t, o = .next t → Memory.wf t.mem = true

/-- What `act` and `actLine` answer: the effect with the end of its fabric cycle where the module acts, else the state as it was. -/
theorem nextCanonical_gated {acts : Bool} {s u : State} (hs : Memory.wf s.mem = true) (hu : Memory.wf u.mem = true) :
    NextCanonical (.next (if acts then endCycle u else s)) := by
  rintro t ⟨⟩
  split
  · exact endCycle_wf u hu
  · exact hs

/-- What `actAny` answers: the effect with the end of its fabric cycle. -/
theorem nextCanonical_endCycle {u : State} (hu : Memory.wf u.mem = true) : NextCanonical (.next (endCycle u)) := by
  rintro t ⟨⟩
  exact endCycle_wf u hu

theorem nextCanonical_fault (r : Fault) : NextCanonical (.fault r) := by
  rintro t ⟨⟩

/-- A gated command that carries out a ring's operation keeps what the operation keeps. -/
theorem nextCanonical_runOp {acts : Bool} {s : State} {r : Fin 64} {tag : Fin 1024} {opcode : Nat} {f : Desc → State → State}
    (hs : Memory.wf s.mem = true) (hf : ∀ d t, Memory.wf t.mem = true → Memory.wf (f d t).mem = true) :
    NextCanonical (.next (if acts then endCycle (runOp r tag opcode f s) else s)) :=
  nextCanonical_gated hs (runOp_wf r tag opcode f s hf hs)

/-- A gated command that serves a Utmus request keeps what the command's meaning keeps. -/
theorem nextCanonical_utmus {acts : Bool} {s : State} {cmd : Nat} {perm : Option Nat} {q : UtmusReq} {f : State → Reply}
    (hs : Memory.wf s.mem = true) (hf : ∀ t, Memory.wf t.mem = true → Memory.wf (f t).st.mem = true) :
    NextCanonical (.next (if acts then endCycle (utmus cmd perm q f s) else s)) :=
  nextCanonical_gated hs (utmus_wf cmd perm q f s hf hs)

@[simp] theorem onlyIf_wf (p : Bool) (f : State → State) (s : State) (hw : Memory.wf s.mem = true) (hf : Memory.wf (f s).mem = true) :
    Memory.wf (onlyIf p f s).mem = true := by
  unfold onlyIf
  split <;> assumption

/-- No command takes exchange memory out of its canonical form. The named cases are those whose memory is kept through a lemma about a
body that they carry; every other effect leaves the memory alone or is an operation that keeps it by its own lemma. -/
theorem exec_canonical (i : Instr) (s : State) (hw : Memory.wf s.mem = true) : NextCanonical (exec i s) := by
  cases i
  case colRead ring tag answers => exact nextCanonical_runOp hw (colReadOp_wf ring answers)
  case chkAppend ring tag unit => exact nextCanonical_runOp hw (chkComputeOp_wf true ring unit)
  case chkCheckStrip ring tag unit => exact nextCanonical_runOp hw (chkStripOp_wf ring unit)
  case chkCompute ring tag unit => exact nextCanonical_runOp hw (chkComputeOp_wf false ring unit)
  case anaCoarseRead ring tag values => exact nextCanonical_runOp hw (coarseReadOp_wf ring values)
  case fldDiagRead ring tag readings start => exact nextCanonical_runOp hw (diagRead_wf ring readings start)
  case recRead ring tag bad => exact nextCanonical_runOp hw (recReadOp_wf ring bad)
  case sigHash ring tag => exact nextCanonical_runOp hw (sigHashOp_wf ring)
  case activate req => exact nextCanonical_utmus hw (activate_wf req)
  case revert req => exact nextCanonical_utmus hw revert_wf
  case fwTrial req => exact nextCanonical_utmus hw fwTrial_wf
  case fwRollback req => exact nextCanonical_utmus hw fwRollback_wf
  case enrol req => exact nextCanonical_utmus hw (enrol_wf req)
  case relinquish req => exact nextCanonical_utmus hw relinquish_wf
  case swapCommit req =>
    refine nextCanonical_utmus hw (fun t ht => ?_)
    split <;> simp [ht]
  case swapRevert req =>
    refine nextCanonical_utmus hw (fun t ht => ?_)
    split <;> simp [ht]
  case programStop req => exact nextCanonical_utmus hw (fun t ht => haltProgram_wf t ht)
  case programStart req =>
    refine nextCanonical_utmus hw (fun t ht => ?_)
    split <;> simp [ht]
  case proposalArrival lane =>
    refine nextCanonical_gated hw ?_
    beta_reduce
    split <;> simp [hw]
  case ownSlotSend chan slot phase bz since =>
    refine nextCanonical_gated hw ?_
    simp only [ownSlotSend_frame]
    (repeat' split) <;> simp [hw]
  case registerWrite lane addr data =>
    show NextCanonical (execRegisterWrite lane addr data s)
    unfold execRegisterWrite
    split
    · exact nextCanonical_gated hw (registerWrite_wf lane addr data s hw)
    · exact nextCanonical_fault _
  case powerOnReset why => exact nextCanonical_endCycle (powerOnReset_wf why s hw)
  case powerOnResetRelease | convertersOff | wake => exact nextCanonical_endCycle (by simp [hw])
  all_goals exact nextCanonical_gated hw (by simp [hw])

/-- A step keeps the canonical form: by the front command's effect, or by an idle cycle, which counts module time alone. -/
theorem step_canonical (s : State) (hw : Memory.wf s.mem = true) : NextCanonical (step s) := by
  unfold step
  split
  · rintro t ⟨⟩
    simpa using hw
  · exact exec_canonical _ _ hw

end Sys2Proof.Machine

end

section

open Sys2Proof Sys2Proof.Machine

/-- Settles O53: each command keeps the canonical form, and an idle cycle does not touch the memory. -/
theorem memoryStaysCanonical : Obligations.MemoryStaysCanonical := by
  unfold Obligations.MemoryStaysCanonical
  exact fun s t hw h => step_canonical s hw t h

end

/-! # Reset, and the states and latches of the time base (R39, R57, R66, R75, R525, R529) -/

section

namespace Sys2Proof.Machine

/-! ## The module right after reset -/

theorem reset_lane (l : LaneId) : State.reset.lane l = {} := by
  simp [State.lane, State.reset, vget]

theorem reset_ringAt (r : Fin 64) : State.reset.ringAt r = {} := by
  simp [State.ringAt, State.reset, vget]

theorem regGet_reset (a : Nat) : regGet State.reset a = regReset a := by
  simp [regGet, State.reset, tgetD, tget?]

theorem memGet_reset (a : Nat) : memGet State.reset.mem a = memDefault := by
  simp [memGet, State.reset, tgetD, tget?]

/-! ## The time base -/

/-- Where the line runs, a command of the line or the time base completes with its own effect (R534). -/
theorem LineRuns.completes {i : Instr} {f : State → State} {s : State} {P : State → Prop} (hl : LineRuns s)
    (he : exec i s = actLine f s) (hp : P (f s)) : Completes i s P :=
  ⟨f s, he.trans (actLine_next hl), hp⟩

/-- An event whose condition holds has its effect. -/
theorem onlyIf_true {p : Bool} {f : State → State} {s : State} (h : p = true) : onlyIf p f s = f s := by
  rw [onlyIf, if_pos h]

theorem sameBut_tim (s : State) (x : Tim) : SameBut [.tim] s { s with tim := x } := by
  intro p hp
  cases p <;> simp_all [Part.same, State.lane]

/-- A new TIME_STATE changes the time base and makes the lanes' TIME_STATE source pending (R57, R85). -/
theorem setTimState_sameBut (t : TimState) (s : State) : SameBut [.tim, .irq] s (setTimState t s) := by
  intro p hp
  cases p <;> simp_all [Part.same]

theorem setTimState_flt (t : TimState) (s : State) : (setTimState t s).flt = s.flt := by
  simp

/-- Entering HOLDOVER changes the time base and what every report may change (R57). -/
theorem enterHoldover_sameBut (s : State) : SameBut (.tim :: reportParts) s (enterHoldover s) :=
  ((setTimState_sameBut .holdover s).mono (by simp [reportParts])).trans
    (((sameBut_tim _ _).mono (by simp)).trans ((sameBut_rep 0x0802 _).mono (fun _ hm => List.mem_cons_of_mem _ hm)))

/-- In HOLDOVER the rate is the integral's and module time stands as it was (R57). -/
theorem enterHoldover_tim (s : State) :
    (enterHoldover s).tim = { s.tim with state := .holdover, rate := rateOf s.tim.integ } := by
  simp [enterHoldover]

theorem enterHoldover_reported (s : State) : Reported 0x0802 s (enterHoldover s) :=
  (rep_reported 0x0802 _ (by decide)).of_flt (setTimState_flt .holdover s)

/-- A time distribution error notes the fabric cycle it fell in, whose captures are invalid (R66). -/
def noteBadCycle (s : State) : State := { s with tim := { s.tim with badCycle := some s.tim.cycles } }

theorem captureValid_rep_noteBadCycle (code : Nat) (s : State) : captureValid (rep code (noteBadCycle s)) = false := by
  simp [captureValid, noteBadCycle]

/-! ## Latches of the running clock -/

/-- A read that latches for one lane leaves the other lanes, its own pending sources and everything else (R39, R75). -/
theorem latch_frame (l : LaneId) (g : Lane → Latches) (s : State) :
    (∀ m, m ≠ l → (s.modLane l (fun L => { L with latch := g L })).lane m = s.lane m) ∧
      SameBut [.lanes] s (s.modLane l (fun L => { L with latch := g L })) :=
  ⟨fun m hm => State.lane_modLane_other s l m _ hm, sameBut_modLane (fun _ => rfl)⟩

/-- A number below 10^9 fits the 30 bits of TIM_NOW_NS (R75). -/
theorem toNat_ofNat_nanoseconds (n : Nat) : (BitVec.ofNat 30 (n % 1000000000)).toNat = n % 1000000000 := by
  rw [BitVec.toNat_ofNat]
  omega

/-- The low 32 bits and the high 16 bits of the seconds together are their 48 bits (R75). -/
theorem toNat_seconds_split (n : Nat) :
    (BitVec.ofNat 32 n).toNat + 2 ^ 32 * (BitVec.ofNat 16 (n / 2 ^ 32)).toNat = n % 2 ^ 48 := by
  simp only [BitVec.toNat_ofNat]
  omega

end Sys2Proof.Machine

end

section

open Sys2Proof Sys2Proof.Machine

/-- Settles O52: every field at its reset value; a table without an entry reads what it stands for. -/
theorem resetState : Obligations.ResetState := by
  unfold Obligations.ResetState
  refine ⟨rfl, rfl, rfl, rfl, rfl, rfl, rfl, rfl, fun l => ?lanes, fun r => ?rings, rfl, rfl, rfl, rfl, rfl, regGet_reset, memGet_reset,
    rfl, rfl, rfl⟩
  case lanes => rw [reset_lane]
  case rings =>
    rw [reset_ringAt]
    exact ⟨rfl, rfl, rfl, rfl⟩

/-- Settles O4: the two state changes by the rules of `setTimState` and `enterHoldover`, the latches by `latch_frame`. -/
theorem timeStatesAndLatches : Obligations.TimeStatesAndLatches := by
  unfold Obligations.TimeStatesAndLatches
  refine ⟨fun s hl hst hrun => ?locked, fun s hl hst hrun => ?holdover, fun s l ho => ?now, fun s l ho => ?tick, fun s l ho => ?prog,
    fun s ho => ?distribution⟩
  case locked =>
    refine hl.completes rfl ?_
    rw [onlyIf_true (by simp [hst, hrun])]
    have htim := setTimState_tim .locked s
    exact ⟨by rw [htim], by rw [htim], by rw [htim], setTimState_sameBut .locked s⟩
  case holdover =>
    refine hl.completes rfl ?_
    rw [onlyIf_true (by simpa [hrun] using hst)]
    have htim := enterHoldover_tim s
    exact ⟨by rw [htim], by rw [htim], by rw [htim], enterHoldover_reported s, enterHoldover_sameBut s⟩
  case now =>
    refine ho.completes (f := fun u => u.modLane l _) rfl ?_
    rw [State.lane_modLane]
    exact ⟨toNat_ofNat_nanoseconds _, toNat_seconds_split _, latch_frame l _ s⟩
  case tick =>
    refine ho.completes (f := fun u => u.modLane l _) rfl ?_
    rw [State.lane_modLane]
    exact ⟨BitVec.toNat_ofNat _ _, latch_frame l _ s⟩
  case prog =>
    refine ho.completes (f := fun u => u.modLane l _) rfl ?_
    rw [State.lane_modLane]
    exact ⟨BitVec.toNat_ofNat _ _, latch_frame l _ s⟩
  case distribution =>
    exact ho.completes (f := fun u => rep 0x0807 (noteBadCycle u)) rfl ⟨captureValid_rep_noteBadCycle 0x0807 s,
      (rep_reported 0x0807 _ (by decide)).of_flt rfl,
      ((sameBut_tim s _).mono (by simp)).trans ((sameBut_rep 0x0807 _).mono (fun _ hm => List.mem_append_right _ hm))⟩

end

/-! # Engine cores: lost heartbeats and restarts (R23, R140, R527) -/

section

namespace Sys2Proof.Machine

/-! ## The cores' marks -/

theorem coreBit_getLsbD : ∀ c k : Fin 4, (coreBit c).getLsbD k.val = decide (k = c) := by decide

/-- Marking a core sets its bit alone. -/
theorem getLsbD_or_coreBit (x : BitVec 4) (c k : Fin 4) : (x ||| coreBit c).getLsbD k.val = (x.getLsbD k.val || decide (k = c)) := by
  rw [BitVec.getLsbD_or, coreBit_getLsbD]

/-- Clearing a core's mark clears its bit alone. -/
theorem getLsbD_and_not_coreBit (x : BitVec 4) (c k : Fin 4) :
    (x &&& ~~~coreBit c).getLsbD k.val = (x.getLsbD k.val && decide (k ≠ c)) := by
  rw [BitVec.getLsbD_and, BitVec.getLsbD_not, coreBit_getLsbD, decide_not, decide_eq_true k.isLt, Bool.true_and]

/-! ## A heartbeat lost -/

/-- The supervisor marks a core's heartbeat as lost. -/
def markLost (c : Fin 4) (s : State) : State := { s with pwr := { s.pwr with hbLost := s.pwr.hbLost ||| coreBit c } }

/-- The supervisor begins and counts a core's restart. -/
def beginRestart (c : Fin 4) (s : State) : State :=
  { s with pwr := { s.pwr with restarting := s.pwr.restarting ||| coreBit c, engRstCnt := s.pwr.engRstCnt + 1 } }

theorem sameBut_pwr (s : State) (x : Power) : SameBut [.pwr] s { s with pwr := x } := by
  intro p hp
  cases p <;> simp_all [Part.same, State.lane]

/-- A report of a class stays counted through changes that leave the class's count. -/
theorem Reported.then_cls {c : Nat} {s u v : State} (h : Reported c s u) (e : tgetD v.flt.cls c 0 = tgetD u.flt.cls c 0) : Reported c s v := by
  unfold Reported at *
  rw [e, h]

theorem heartbeatLost_marked {c : Fin 4} {s : State} (h : s.pwr.hbLost.getLsbD c.val = true) : heartbeatLost c s = s := by
  rw [heartbeatLost, if_pos h]

theorem heartbeatLost_kept {c : Fin 4} {s : State} (h : s.pwr.hbLost.getLsbD c.val = false) (hc : s.cfg.pwr.resetEn.getLsbD c.val = false) :
    heartbeatLost c s = rep 0x4C0C (markLost c s) := by
  rw [heartbeatLost, if_neg (ne_true_of_eq_false h)]
  exact if_neg (ne_true_of_eq_false hc)

theorem heartbeatLost_restarts {c : Fin 4} {s : State} (h : s.pwr.hbLost.getLsbD c.val = false)
    (hc : s.cfg.pwr.resetEn.getLsbD c.val = true) :
    heartbeatLost c s = rep 0x4C0D (beginRestart c (rep 0x4C0C (markLost c s))) := by
  rw [heartbeatLost, if_neg (ne_true_of_eq_false h)]
  exact if_pos hc

theorem markLost_reported (c : Fin 4) (s : State) : Reported 0x4C0C s (rep 0x4C0C (markLost c s)) :=
  (rep_reported 0x4C0C _ (by decide)).of_flt rfl

/-- Marking and reporting a loss changes the supervisor's marks and what every report may change. -/
theorem markLost_sameBut (c : Fin 4) (s : State) : SameBut (.pwr :: reportParts) s (rep 0x4C0C (markLost c s)) :=
  ((sameBut_pwr s _).mono (by simp)).trans ((sameBut_rep 0x4C0C _).mono (fun _ hm => List.mem_cons_of_mem _ hm))

theorem beginRestart_sameBut (c : Fin 4) (s : State) : SameBut (.pwr :: reportParts) s (rep 0x4C0D (beginRestart c s)) :=
  ((sameBut_pwr s _).mono (by simp)).trans ((sameBut_rep 0x4C0D _).mono (fun _ hm => List.mem_cons_of_mem _ hm))

/-- A first loss is reported as such, with or without a restart. -/
theorem heartbeatLost_reported {c : Fin 4} {s : State} (h : s.pwr.hbLost.getLsbD c.val = false) :
    Reported 0x4C0C s (heartbeatLost c s) := by
  cases hc : s.cfg.pwr.resetEn.getLsbD c.val with
  | false =>
    rw [heartbeatLost_kept h hc]
    exact markLost_reported c s
  | true =>
    rw [heartbeatLost_restarts h hc]
    exact (markLost_reported c s).then_cls (rep_cls_other 0x4C0D 0x4C0C (beginRestart c _) (by decide) (by decide))

/-- What a lost heartbeat leaves of the supervisor's marks: the loss, and where the configuration lets the core be reset its restart and
the count of restarts. -/
theorem heartbeatLost_pwr {c : Fin 4} {s : State} (h : s.pwr.hbLost.getLsbD c.val = false) :
    (heartbeatLost c s).pwr = { s.pwr with
      hbLost := s.pwr.hbLost ||| coreBit c,
      restarting := if s.cfg.pwr.resetEn.getLsbD c.val then s.pwr.restarting ||| coreBit c else s.pwr.restarting,
      engRstCnt := if s.cfg.pwr.resetEn.getLsbD c.val then s.pwr.engRstCnt + 1 else s.pwr.engRstCnt } := by
  cases hc : s.cfg.pwr.resetEn.getLsbD c.val with
  | false =>
    rw [heartbeatLost_kept h hc]
    simp [markLost]
  | true =>
    rw [heartbeatLost_restarts h hc]
    simp [markLost, beginRestart]

theorem heartbeatLost_sameBut {c : Fin 4} {s : State} (h : s.pwr.hbLost.getLsbD c.val = false) :
    SameBut (.pwr :: reportParts) s (heartbeatLost c s) := by
  cases hc : s.cfg.pwr.resetEn.getLsbD c.val with
  | false =>
    rw [heartbeatLost_kept h hc]
    exact markLost_sameBut c s
  | true =>
    rw [heartbeatLost_restarts h hc]
    exact (markLost_sameBut c s).trans (beginRestart_sameBut c _)

/-- A restart that begins is reported (R527). -/
theorem heartbeatLost_reported_restart {c : Fin 4} {s : State} (h : s.pwr.hbLost.getLsbD c.val = false)
    (hc : s.cfg.pwr.resetEn.getLsbD c.val = true) : Reported 0x4C0D s (heartbeatLost c s) := by
  rw [heartbeatLost_restarts h hc]
  exact (rep_reported 0x4C0D _ (by decide)).of_cls (rep_cls_other 0x4C0C 0x4C0D (markLost c s) (by decide) (by decide))

/-! ## Ending the operations of a ring -/

/-- No operation of a ring runs in its engine or is held by it. -/
def Ring.Ended (R : Ring) : Prop := R.held = [] ∧ ∀ o ∈ R.ops, o.stage ≠ .running

/-- What a completion entry leaves of its ring: all but the completion index and the busy tags (R153, R158). -/
theorem ringComplete_ringAt (r : Fin 64) (tag st ra rb : Nat) (n : Bool) (s : State) :
    ∃ cp busy, (ringComplete r tag st ra rb n s).ringAt r = { s.ringAt r with cp := cp, busy := busy } := by
  unfold ringComplete
  dsimp only
  split
  · rw [ringAt_congr (ringDone_frame r _).2.1.2.2.1, State.ringAt_modRing]
    exact ⟨_, _, rfl⟩
  · rw [State.ringAt_modRing]
    exact ⟨_, _, rfl⟩

theorem ringComplete_ringAt_other {r q : Fin 64} (h : q ≠ r) (tag st ra rb : Nat) (n : Bool) (s : State) :
    (ringComplete r tag st ra rb n s).ringAt q = s.ringAt q := by
  unfold ringComplete
  dsimp only
  split
  · rw [ringAt_congr (ringDone_frame r _).2.1.2.2.1, State.ringAt_modRing_other _ _ _ _ h]
    rfl
  · rw [State.ringAt_modRing_other _ _ _ _ h]
    rfl

theorem ringComplete_ended {r : Fin 64} {s : State} (h : (s.ringAt r).Ended) (tag st ra rb : Nat) (n : Bool) :
    ((ringComplete r tag st ra rb n s).ringAt r).Ended := by
  obtain ⟨cp, busy, hr⟩ := ringComplete_ringAt r tag st ra rb n s
  rw [hr]
  exact h

/-- Every operation that runs in, or is held by, a ring's engine ends; the rest of the operations stay (R527). -/
theorem failRingOps_ended (r : Fin 64) (s : State) : ((failRingOps r s).ringAt r).Ended := by
  unfold failRingOps
  dsimp only
  refine List.foldlRecOn (motive := fun u : State => (u.ringAt r).Ended) _ _ ?_ (fun t ht d _ => ringComplete_ended ht _ _ _ _ _)
  rw [State.ringAt_modRing]
  exact ⟨rfl, fun o ho => of_decide_eq_true (List.mem_filter.mp ho).2⟩

theorem failRingOps_ringAt_other {r q : Fin 64} (h : q ≠ r) (s : State) : (failRingOps r s).ringAt q = s.ringAt q := by
  unfold failRingOps
  dsimp only
  rw [foldl_keeps (fun u => u.ringAt q) _ (fun t d => ringComplete_ringAt_other h _ _ _ _ _ t), State.ringAt_modRing_other _ _ _ _ h]

/-- The operations of several rings ended, one ring after the other. -/
def failRings (rs : List (Fin 64)) (s : State) : State := rs.foldl (fun s r => failRingOps r s) s

theorem failRings_ringAt_other {rs : List (Fin 64)} {q : Fin 64} (h : q ∉ rs) (s : State) : (failRings rs s).ringAt q = s.ringAt q := by
  induction rs generalizing s with
  | nil => rfl
  | cons r rs ih =>
    obtain ⟨hr, hrs⟩ := List.ne_and_not_mem_of_not_mem_cons h
    exact (ih hrs _).trans (failRingOps_ringAt_other hr s)

/-- Ending the operations of other rings does not start one again. -/
theorem failRingOps_keeps_ended {q : Fin 64} {s : State} (h : (s.ringAt q).Ended) (r : Fin 64) : ((failRingOps r s).ringAt q).Ended := by
  by_cases e : q = r
  · subst e
    exact failRingOps_ended q s
  · rwa [failRingOps_ringAt_other e]

theorem failRings_ended {rs : List (Fin 64)} {q : Fin 64} (h : q ∈ rs) (s : State) : ((failRings rs s).ringAt q).Ended := by
  induction rs generalizing s with
  | nil => exact absurd h (List.not_mem_nil)
  | cons r rs ih =>
    rcases List.mem_cons.mp h with rfl | hrs
    · exact List.foldlRecOn (motive := fun u : State => (u.ringAt q).Ended) rs _ (failRingOps_ended q s)
        (fun t ht r _ => failRingOps_keeps_ended ht r)
    · exact ih hrs _

@[simp] theorem failRings_frame (rs : List (Fin 64)) (s : State) :
    KeepsRest s (failRings rs s) ∧ (failRings rs s).cls = s.cls ∧ (failRings rs s).trust = s.trust ∧ KeepsUnits s (failRings rs s) := by
  simp [failRings]

/-! ## The end of a core's restart -/

/-- The rings whose operations a core's engines serve (R23, R140). -/
def ringsOf (c : Fin 4) (s : State) : List (Fin 64) := allRings.filter (fun r => (coreEngines c.val).contains (s.ringAt r).engine)

theorem mem_ringsOf {c : Fin 4} {s : State} {r : Fin 64} : r ∈ ringsOf c s ↔ (s.ringAt r).engine ∈ coreEngines c.val := by
  have hr : r ∈ allRings := List.mem_map.mpr ⟨r.val, List.mem_range.mpr r.isLt, Fin.ofNat_val_eq_self r⟩
  simp [ringsOf, hr]

/-- The engines of the four cores: the Strath engine, the Ethernet, MVB and Col engines, the field-I/O engine and Signet (R23, R140). -/
theorem mem_coreEngines (c : Fin 4) (e : Nat) : e ∈ coreEngines c.val ↔
    (c = 0 ∧ e = 0) ∨ (c = 1 ∧ (e = 1 ∨ e = 2 ∨ e = 3)) ∨ (c = 2 ∧ e = 4) ∨ (c = 3 ∧ e = 7) := by
  fin_cases c <;> simp [coreEngines]

/-- The supervisor clears both marks of a core. -/
def clearMarks (c : Fin 4) (s : State) : State :=
  { s with pwr := { s.pwr with hbLost := s.pwr.hbLost &&& ~~~coreBit c, restarting := s.pwr.restarting &&& ~~~coreBit c } }

theorem engineRestartEnd_idle {c : Fin 4} {s : State} (h : s.pwr.restarting.getLsbD c.val = false) : engineRestartEnd c s = s := by
  rw [engineRestartEnd, if_neg (ne_true_of_eq_false h)]

/-- The end of a restart that runs clears the core's marks, restarts its own part and ends the operations of its rings (R527). -/
theorem engineRestartEnd_running {c : Fin 4} {s : State} (h : s.pwr.restarting.getLsbD c.val = true) :
    engineRestartEnd c s = failRings (ringsOf c s) (coreRestart c (clearMarks c s)) :=
  if_pos h

theorem coreRestart_field (s : State) :
    (coreRestart 2 s).fld = { s.fld with learn := [] } ∧ (coreRestart 2 s).mot.cal = none := ⟨rfl, rfl⟩

theorem coreRestart_signet (s : State) : (coreRestart 3 s).trust = { s.trust with session := none } := rfl

/-- The Strath line is the Strath core's alone (R23). -/
theorem coreRestart_stra {c : Fin 4} (h : c ≠ 0) (s : State) : (coreRestart c s).stra = s.stra := by
  unfold coreRestart
  split
  · exact absurd (Fin.ext ‹c.val = 0›) h
  all_goals rfl

end Sys2Proof.Machine

end

section

open Sys2Proof Sys2Proof.Machine

/-- Settles O46: a loss by the two outcomes of `heartbeatLost`, the end of a restart by `engineRestartEnd_running`. -/
theorem engineResets : Obligations.EngineResets := by
  unfold Obligations.EngineResets
  intro s c hl
  refine ⟨fun h => ?marked, fun h => ?lost, fun h => ?idle, fun h => ?running⟩
  case marked => exact hl.completes rfl (heartbeatLost_marked h)
  case lost =>
    refine hl.completes rfl ?_
    have hpwr := heartbeatLost_pwr h
    refine ⟨fun k => ?_, fun k => ?_, by rw [hpwr], heartbeatLost_reported h, heartbeatLost_reported_restart h, by rw [hpwr],
      heartbeatLost_sameBut h⟩
    · rw [hpwr]
      exact getLsbD_or_coreBit _ c k
    · rw [hpwr]
      cases s.cfg.pwr.resetEn.getLsbD c.val with
      | false => simp
      | true => simpa using getLsbD_or_coreBit _ c k
  case idle => exact hl.completes rfl (engineRestartEnd_idle h)
  case running =>
    refine hl.completes rfl ?_
    rw [engineRestartEnd_running h]
    have hmine := fun r : Fin 64 => (mem_ringsOf (c := c) (s := s) (r := r)).trans (mem_coreEngines c _)
    have hpwr : (failRings (ringsOf c s) (coreRestart c (clearMarks c s))).pwr = (clearMarks c s).pwr := by simp
    refine ⟨fun k => ?marks, by rw [hpwr]; rfl, fun r hr => failRings_ended ((hmine r).mpr hr) _, fun r hr => ?others, ?field, ?signet,
      fun hc => ?line, by simp [clearMarks], by simp [clearMarks], by simp [clearMarks], by simp [clearMarks]⟩
    case marks =>
      rw [hpwr]
      exact ⟨getLsbD_and_not_coreBit _ c k, getLsbD_and_not_coreBit _ c k⟩
    case others =>
      rw [failRings_ringAt_other (mt (hmine r).mp hr)]
      exact ringAt_congr (by simp [clearMarks]) r
    case field =>
      rintro rfl
      simp [coreRestart_field, clearMarks]
    case signet =>
      rintro rfl
      simp [coreRestart_signet, clearMarks]
    case line => simp [coreRestart_stra hc, clearMarks]

end

/-! # The MVB port and the arrivals of items (R32, R180, R287 to R293) -/

section

namespace Sys2Proof.Machine

/-! ## Frames of the port's updates -/

theorem sameBut_modMvb (s : State) (f : Mvb → Mvb) : SameBut [.mvb] s (s.modMvb f) := by
  intro p hp
  cases p <;> simp_all [Part.same, State.modMvb, State.lane]

theorem sameBut_cyc (s : State) (x : Cyc) : SameBut [.cyc] s { s with cyc := x } := by
  intro p hp
  cases p <;> simp_all [Part.same, State.lane]

theorem sameBut_opDone (r : Fin 64) (tag st ra rb : Nat) (s : State) : SameBut [.rng] s (opDone r tag st ra rb s) := by
  intro p hp
  cases p <;> simp_all [Part.same, State.lane]

/-- A report after an update of the port counts its class and changes nothing else but the port (R563). -/
theorem rep_modMvb {code : Nat} (h : code ≠ 0x402) (f : Mvb → Mvb) (s : State) :
    (rep code (s.modMvb f)).mvb = f s.mvb ∧ Reported code s (rep code (s.modMvb f)) ∧
      SameBut (.mvb :: reportParts) s (rep code (s.modMvb f)) :=
  ⟨by simp, (rep_reported code _ h).of_flt rfl,
    ((sameBut_modMvb s f).mono (by simp)).trans ((sameBut_rep code _).mono (fun _ hm => List.mem_cons_of_mem _ hm))⟩

/-- An operation that ends after an update of the port (R153). -/
theorem opDone_modMvb {s : State} {r : Fin 64} {d : Desc} (h : { desc := d, stage := .running : RunOp } ∈ (s.ringAt r).ops)
    (st ra rb : Nat) (f : Mvb → Mvb) :
    Concluded (opDone r d.tag st ra rb (s.modMvb f)) r d st ra rb ∧ (opDone r d.tag st ra rb (s.modMvb f)).mvb = f s.mvb ∧
      SameBut [.mvb, .rng] s (opDone r d.tag st ra rb (s.modMvb f)) :=
  ⟨opDone_concluded st ra rb h, by simp,
    ((sameBut_modMvb s f).mono (by simp)).trans ((sameBut_opDone r d.tag st ra rb _).mono (by simp))⟩

/-- An operation that ends without another effect (R153). -/
theorem opDone_alone {s : State} {r : Fin 64} {d : Desc} (h : { desc := d, stage := .running : RunOp } ∈ (s.ringAt r).ops)
    (st ra rb : Nat) : Concluded (opDone r d.tag st ra rb s) r d st ra rb ∧ SameBut [.rng] s (opDone r d.tag st ra rb s) :=
  ⟨opDone_concluded st ra rb h, sameBut_opDone r d.tag st ra rb s⟩

/-- An event of the port whose condition holds changes the port and reports its class (R293). -/
theorem Operational.completes_mvbEvent {i : Instr} {s : State} {code : Nat} (ho : Operational s) (p : State → Bool) (f : State → Mvb → Mvb)
    (hc : code ≠ 0x402) (he : exec i s = act (fun u => onlyIf (p u) (fun v => rep code (v.modMvb (f v))) u) s) (hp : p s = true) :
    Completes i s (fun u => u.mvb = f s s.mvb ∧ Reported code s u ∧ SameBut (.mvb :: reportParts) s u) := by
  refine ho.completes he ?_
  rw [onlyIf_true hp]
  exact rep_modMvb hc (f s) s

/-! ## Master and slave frames (R289, R290) -/

/-- Where a late wrap has nothing to report, a master frame is what the port makes of it (R289). -/
theorem Operational.completes_masterFrame {s : State} {a : BitVec 12} {P : State → Prop} (ho : Operational s)
    (hr : reportLate (.mvb a.toNat) s = s) (hp : P (mvbMasterFrame a.toNat s)) : Completes (.mvbMasterFrame a) s P := by
  refine ho.completes (f := fun u => mvbMasterFrame a.toNat
    (onlyIf (mvbAnswers u && (tget? u.cfg.mvb.src a.toNat).isSome) (reportLate (.mvb a.toNat)) u)) rfl ?_
  have he : ∀ b, onlyIf b (reportLate (.mvb a.toNat)) s = s := by
    intro b
    unfold onlyIf
    split
    · exact hr
    · rfl
  rw [he]
  exact hp

theorem mvbMasterFrame_answered {s : State} {a : Nat} {b : List Byte} (hb : tget? s.mvb.src a = some b) (ha : mvbAnswers s = true)
    (hg : gateOpen s (.mvb a) = true) : mvbMasterFrame a s = s.modMvb (fun M => { M with sentPort := some (a, b) }) := by
  simp [mvbMasterFrame, hb, ha, hg]

theorem mvbMasterFrame_silent {s : State} {a : Nat} (h : tget? s.mvb.src a = none ∨ mvbAnswers s = false ∨ gateOpen s (.mvb a) = false) :
    mvbMasterFrame a s = s := by
  unfold mvbMasterFrame
  split
  · rfl
  · rename_i b hb
    rcases h with h | h | h
    · simp [h] at hb
    · simp [h]
    · simp [h]

theorem mvbSlaveFrame_off {s : State} (h : mvbOn s = false) (ln : Bool) (φ : Fin 8) (f : MvbRx) : mvbSlaveFrame ln φ f s = s := by
  simp [mvbSlaveFrame, h]

theorem mvbSlaveFrame_bound {s : State} {a : BitVec 12} {item size : Nat} (h : mvbOn s = true)
    (hb : s.mvb.binds.find? (fun b => b.1 == a.toNat) = some (a.toNat, item, size)) (ln : Bool) (φ : Fin 8) (x : List Byte) :
    mvbSlaveFrame ln φ (.process a x) s = arriveFrom 5 item (mvbArrival s ln φ size x) s := by
  simp [mvbSlaveFrame, h, hb]

theorem mvbSlaveFrame_error {s : State} (h : mvbOn s = true) (ln : Bool) (φ : Fin 8) :
    mvbSlaveFrame ln φ .error s = s.modMvb (fun M => { M with frameErr := M.frameErr + 1 }) := by
  simp [mvbSlaveFrame, h]

theorem mvbSlaveFrame_duplicate {s : State} (h : mvbOn s = true) (ln : Bool) (φ : Fin 8) :
    mvbSlaveFrame ln φ .duplicate s = rep 0x2405 s := by
  simp [mvbSlaveFrame, h]

/-- A slave frame's arrival is VALID with the bound size alone (R290). -/
theorem mvbArrival_valid (s : State) (ln : Bool) (φ : Fin 8) (size : Nat) (x : List Byte) :
    (mvbArrival s ln φ size x).valid = true ↔ x.length = size := by
  simp [mvbArrival]

/-! ## Basic periods (R288, R292) -/

theorem mvbBasicPeriod_off {s : State} (h : mvbOn s = false) (b : Bool) : mvbBasicPeriod b s = s := by
  simp [mvbBasicPeriod, h]

/-- A basic period counted by a master (R288). -/
def Mvb.countPeriod (M : Mvb) : Mvb := if M.master then { M with periods := M.periods + 1 } else M

theorem modMvb_countPeriod (s : State) :
    (if s.mvb.master then s.modMvb (fun M => { M with periods := M.periods + 1 }) else s) = s.modMvb Mvb.countPeriod := by
  unfold State.modMvb Mvb.countPeriod
  split <;> rfl

theorem countPeriod_msgs (M : Mvb) : M.countPeriod.msgs = M.msgs := by
  unfold Mvb.countPeriod
  split <;> rfl

/-- The messages left behind have waited one period more (R292). -/
def MvbMsg.age (m : MvbMsg) : MvbMsg := { m with waited := m.waited + 1 }

/-- A message slot, where none of the messages behind the oldest has waited for 64 periods: the oldest is sent and its operation ends. -/
theorem mvbBasicPeriod_sends {s : State} {m : MvbMsg} {rest : List MvbMsg} (h : mvbOn s = true) (hm : s.mvb.msgs = m :: rest)
    (hw : ∀ x ∈ rest, x.waited + 1 < 64) :
    mvbBasicPeriod true s = (opDone (Fin.ofNat 64 m.ring) m.tag 0 0 0 (s.modMvb (fun M =>
      { M.countPeriod with sentMsg := some (m.dest, m.data) }))).modMvb (fun M => { M with msgs := rest.map MvbMsg.age }) := by
  have hmsgs : (s.modMvb Mvb.countPeriod).mvb.msgs = m :: rest := (countPeriod_msgs s.mvb).trans hm
  have hage : ∀ x ∈ rest.map MvbMsg.age, x.waited < 64 := by
    rintro _ hx
    obtain ⟨y, hy, rfl⟩ := List.mem_map.mp hx
    exact hw y hy
  have hkeep : (rest.map MvbMsg.age).filter (fun x => decide (x.waited < 64)) = rest.map MvbMsg.age :=
    List.filter_eq_self.mpr (fun x hx => decide_eq_true (hage x hx))
  have hdrop : (rest.map MvbMsg.age).filter (fun x => decide (64 ≤ x.waited)) = [] :=
    List.filter_eq_nil_iff.mpr (fun x hx => by simpa using hage x hx)
  unfold mvbBasicPeriod
  rw [if_neg (by simp [h])]
  dsimp only
  rw [modMvb_countPeriod, hmsgs]
  change ((rest.map MvbMsg.age).filter (fun x => decide (64 ≤ x.waited))).foldl _ (State.modMvb _ (fun M => { M with
    msgs := (rest.map MvbMsg.age).filter (fun x => decide (x.waited < 64)) })) = _
  rw [hkeep, hdrop]
  rfl

/-! ## Operations (R289 to R292) -/

/-- A started operation of a ring is carried out (R145). -/
theorem Operational.completes_runOp {i : Instr} {s : State} {r : Fin 64} {tag : Fin 1024} {opcode : Nat} {d : Desc}
    {f : Desc → State → State} {P : State → Prop} (ho : Operational s) (he : exec i s = act (runOp r tag opcode f) s)
    (hd : startedOp s r tag.val opcode = some d) (hp : P (f d s)) : Completes i s P :=
  ho.completes he (by rwa [runOp_some f hd])

theorem mvbPortWriteOp_now {d : Desc} (h : testBit d.flags 2 = false) (r : Fin 64) (s : State) :
    mvbPortWriteOp r d s = opDone r d.tag 0 0 0 (s.modMvb (fun M =>
      { M with src := tset M.src (field d.paramA 0 12) (readBuffer s d.addr d.length) })) :=
  if_neg (ne_true_of_eq_false h)

theorem mvbPortBindOp_full {d : Desc} {s : State} (h : 256 ≤ s.mvb.binds.length ∨ tget? s.cfg.mvb.sink (field d.paramA 0 12) = none)
    (r : Fin 64) : mvbPortBindOp r d s = opDone r d.tag 0x82 0 0 s := by
  simp [mvbPortBindOp, h]

/-- There is room for the binding and the port is a configured sink port (R290). -/
theorem mvbPortBindOp_fits {d : Desc} {s : State} (hn : s.mvb.binds.length < 256) (hs : tget? s.cfg.mvb.sink (field d.paramA 0 12) ≠ none)
    (r : Fin 64) : mvbPortBindOp r d s =
      if s.mvb.binds.any (fun b => b.1 == field d.paramA 0 12 || b.2.1 == field d.paramA 16 13) then opDone r d.tag 0x83 0 0 s
      else opDone r d.tag 0 s.mvb.binds.length 0 (s.modMvb (fun M =>
        { M with binds := s.mvb.binds ++ [(field d.paramA 0 12, field d.paramA 16 13, d.length)] })) := by
  have hroom : ¬ 256 ≤ s.mvb.binds.length := Nat.not_le.mpr hn
  exact if_neg (by simp [hroom, hs])

/-! ## Item arrivals (R32) -/

/-- An arrival's mark that its burst crosses the tick event (R32). -/
def markBurst (item : Nat) (s : State) : State :=
  { s with cyc := { s.cyc with items := tset s.cyc.items item { tgetD s.cyc.items item {} with inBurst := true } } }

theorem markBurst_item (item : Nat) (s : State) :
    tgetD (markBurst item s).cyc.items item {} = { tgetD s.cyc.items item {} with inBurst := true } :=
  tgetD_tset_self _ _ _ _

/-- An engine's arrival with its mark (R32). -/
def arriveMarked (role item : Nat) (a : Arrival) (crossing : Bool) (s : State) : State :=
  if crossing ∧ (inItem? (arriveFrom role item a s) item).isSome then markBurst item (arriveFrom role item a s) else arriveFrom role item a s

theorem execItemArrival_eq (role : Fin 8) (item : Fin 8192) (v : Bool) (eng : BitVec 8) (ts : DWord) (x : List Byte) (cr : Bool) (s : State) :
    exec (.itemArrival role item v eng ts x cr) s = act (arriveMarked role.val item.val ⟨v, eng, ts, x⟩ cr) s := rfl

/-- The back buffer of a configured item that is no safe receiver's component, after an arrival (R32, R180). -/
theorem arriveMarked_item {role item : Nat} {c : InItemCfg} {s : State} (hc : inItem? s item = some c) (hn : receiverOf s item = none)
    (a : Arrival) (cr : Bool) :
    let u := arriveMarked role item a cr s
    (tgetD u.cyc.items item {}).back = some { a with payload := padTo c.length a.payload } ∧ (tgetD u.cyc.items item {}).inBurst = cr ∧
      SameBut [.cyc] s u := by
  dsimp only
  obtain ⟨hback, hburst, hbut, hitem⟩ := arriveFrom_item role item a s c hc hn
  unfold arriveMarked
  cases cr with
  | false =>
    rw [if_neg (by simp)]
    exact ⟨hback, hburst, hbut⟩
  | true =>
    rw [if_pos ⟨rfl, by simp [hitem]⟩, markBurst_item]
    exact ⟨hback, rfl, hbut.trans (sameBut_cyc _ _)⟩

theorem arriveMarked_none {role item : Nat} {s : State} (hc : inItem? s item = none) (hn : receiverOf s item = none) (a : Arrival) (cr : Bool) :
    arriveMarked role item a cr s = s := by
  have harrive : arriveFrom role item a s = s := by simp [arriveFrom, arrive, hc, hn]
  simp [arriveMarked, harrive, hc]

end Sys2Proof.Machine

end

section

open Sys2Proof Sys2Proof.Machine

/-- Settles O34: each clause by the rule of its frame, event or operation above; arrivals by `arriveFrom_item`. -/
theorem mvbAndArrivals : Obligations.MvbAndArrivals := by
  unfold Obligations.MvbAndArrivals
  intro s ho
  refine ⟨fun a b hr hb ha hg => ?answered, fun a hr h => ?silent, fun ln φ a x item size c hon hb hc hn => ?bound, fun ln φ hon => ?error,
    fun ln φ hon => ?duplicate, fun ln φ f hoff => ?slaveOff, fun b hoff => ?periodOff, fun r d m rest hon hm hw hr ht hd => ?period,
    fun h => ?failedB, fun h => ?failedA, fun h => ?restoredB, fun h => ?restoredA, fun hM hon hc => ?gained, fun a h => ?lost,
    fun r tag d hd hf => ?write, fun r tag d hd => ?bind, fun r tag d hd hq => ?send, fun role i v eng ts x cr c hc hn => ?arrival,
    fun role i v eng ts x cr hc hn => ?ignored⟩
  case answered =>
    refine ho.completes_masterFrame hr ?_
    rw [mvbMasterFrame_answered hb ha hg]
    exact ⟨rfl, sameBut_modMvb s _⟩
  case silent => exact ho.completes_masterFrame hr (mvbMasterFrame_silent h)
  case bound =>
    refine ho.completes (f := mvbSlaveFrame ln φ (.process a x)) rfl ?_
    rw [mvbSlaveFrame_bound hon hb]
    obtain ⟨hback, -, hbut, -⟩ := arriveFrom_item 5 item (mvbArrival s ln φ size x) s c hc hn
    exact ⟨_, hback, rfl, mvbArrival_valid s ln φ size x, rfl, hbut⟩
  case error =>
    refine ho.completes (f := mvbSlaveFrame ln φ .error) rfl ?_
    rw [mvbSlaveFrame_error hon]
    exact ⟨rfl, sameBut_modMvb s _⟩
  case duplicate =>
    refine ho.completes (f := mvbSlaveFrame ln φ .duplicate) rfl ?_
    rw [mvbSlaveFrame_duplicate hon]
    exact ⟨rep_reported 0x2405 s (by decide), sameBut_rep 0x2405 s⟩
  case slaveOff => exact ho.completes (f := mvbSlaveFrame ln φ f) rfl (mvbSlaveFrame_off hoff ln φ f)
  case periodOff => exact ho.completes (f := mvbBasicPeriod b) rfl (mvbBasicPeriod_off hoff b)
  case period =>
    refine ho.completes (f := mvbBasicPeriod true) rfl ?_
    have hring : Fin.ofNat 64 m.ring = r := by rw [hr, Fin.ofNat_val_eq_self]
    rw [mvbBasicPeriod_sends hon hm hw, hring, ← ht]
    obtain ⟨hdone, hmvb, hbut⟩ := opDone_modMvb hd 0 0 0 (fun M => { M.countPeriod with sentMsg := some (m.dest, m.data) })
    refine ⟨?_, rfl, hdone, hbut.trans ((sameBut_modMvb _ _).mono (by simp))⟩
    rw [State.modMvb_mvb, hmvb]
  case failedB => exact ho.completes_mvbEvent (fun u => u.mvb.lineB) (fun _ M => { M with lineB := false }) (by decide) rfl h
  case failedA => exact ho.completes_mvbEvent (fun u => u.mvb.lineA) (fun _ M => { M with lineA := false }) (by decide) rfl h
  case restoredB => exact ho.completes_mvbEvent (fun u => !u.mvb.lineB) (fun _ M => { M with lineB := true }) (by decide) rfl (by simp [h])
  case restoredA => exact ho.completes_mvbEvent (fun u => !u.mvb.lineA) (fun _ M => { M with lineA := true }) (by decide) rfl (by simp [h])
  case gained =>
    exact ho.completes_mvbEvent (fun u => !u.mvb.master && mvbOn u && mvbCfg u 1 1 == 1)
      (fun u M => { M with master := true, masterAddr := BitVec.ofNat 12 (mvbCfg u 4 12), gained := M.gained + 1 }) (by decide) rfl
      (by simp [hM, hon, hc])
  case lost =>
    exact ho.completes_mvbEvent (fun u => u.mvb.master) (fun _ M => { M with master := false, masterAddr := a, lostCnt := M.lostCnt + 1 })
      (by decide) rfl h
  case write =>
    obtain ⟨hrun, -, -⟩ := startedOp_mem hd
    refine ho.completes_runOp (f := mvbPortWriteOp r) rfl hd ?_
    rw [mvbPortWriteOp_now hf]
    obtain ⟨hdone, hmvb, hbut⟩ := opDone_modMvb hrun 0 0 0 (fun M =>
      { M with src := tset M.src (field d.paramA 0 12) (readBuffer s d.addr d.length) })
    refine ⟨hdone, ?_, hbut⟩
    rw [hmvb]
    exact tget?_tset_self _ _ _
  case bind =>
    obtain ⟨hrun, -, -⟩ := startedOp_mem hd
    refine ⟨fun h => ?full, fun hn hs hb => ?taken, fun hn hs hb => ?free⟩ <;> refine ho.completes_runOp (f := mvbPortBindOp r) rfl hd ?_
    case full =>
      rw [mvbPortBindOp_full h]
      exact opDone_alone hrun 0x82 0 0
    case taken =>
      rw [mvbPortBindOp_fits hn hs, if_pos hb]
      exact opDone_alone hrun 0x83 0 0
    case free =>
      rw [mvbPortBindOp_fits hn hs, if_neg (ne_true_of_eq_false hb)]
      obtain ⟨hdone, hmvb, hbut⟩ := opDone_modMvb hrun 0 s.mvb.binds.length 0 (fun M =>
        { M with binds := s.mvb.binds ++ [(field d.paramA 0 12, field d.paramA 16 13, d.length)] })
      exact ⟨hdone, by rw [hmvb], hbut⟩
  case send =>
    refine ho.completes (f := fun u => onlyIf (!u.mvb.msgs.any (fun m => m.ring == r.val && m.tag == tag.val))
      (runOp r tag 0x32 (mvbMsgSendOp r)) u) rfl ?_
    rw [onlyIf_true (by simp only [hq, Bool.not_false]), runOp_some _ hd]
    exact ⟨rfl, sameBut_modMvb s _⟩
  case arrival =>
    exact ho.completes (execItemArrival_eq role i v eng ts x cr s) (arriveMarked_item hc hn ⟨v, eng, ts, x⟩ cr)
  case ignored =>
    exact ho.completes (execItemArrival_eq role i v eng ts x cr s) (arriveMarked_none hc hn ⟨v, eng, ts, x⟩ cr)

end

/-! # Ticks and the tick event (R42, R49, R50, R54) -/

section

namespace Sys2Proof.Machine

/-! ## Numbers in bytes -/

/-- Bytes written lowest first read back modulo what they can hold (R13). -/
theorem ofLe_leBytes (n v : Nat) : ofLe (leBytes n v) = v % 256 ^ n := by
  induction n generalizing v with
  | zero => simp [leBytes, ofLe, Nat.mod_one]
  | succ n ih =>
    rw [leBytes, ofLe, ih, BitVec.toNat_ofNat, pow_succ' 256 n, Nat.mod_mul (a := 256)]

/-- A number among other bytes reads back at its place. -/
theorem leAt_field {pre post : List Byte} {n v i : Nat} (hi : pre.length = i) :
    leAt (pre ++ (leBytes n v ++ post)) i n = v % 256 ^ n := by
  have hn : (leBytes n v).length = n := leBytes_length n v
  have hslice : slice (pre ++ (leBytes n v ++ post)) i n = leBytes n v := by
    rw [slice, List.drop_left' hi, padTo, List.take_left' hn]
    simp [hn, zeros]
  rw [leAt, hslice, ofLe_leBytes]

/-- The nanoseconds of a stored time (R42). -/
theorem leAt_timeBytes_ns (t : Nat) : leAt (timeBytes t) 2 4 = t / nsUnits % 1000000000 := by
  unfold timeBytes
  rw [List.append_assoc, List.append_assoc, leAt_field (leBytes_length 2 _)]
  omega

/-- The seconds of a stored time, where they fit their 48 bits (R42). -/
theorem leAt_timeBytes_sec {t : Nat} (ht : t < 2 ^ 48 * secUnits) : leAt (timeBytes t) 6 6 = t / secUnits := by
  have hsec : t / secUnits < 2 ^ 48 := (Nat.div_lt_iff_lt_mul (by decide)).mpr ht
  unfold timeBytes
  rw [List.append_assoc, leAt_field (by simp [leBytes_length])]
  exact Nat.mod_eq_of_lt hsec

/-! ## The tick number (R49) -/

theorem tickUnits_eq : tickUnits = 125000 * 2 ^ 40 := rfl

theorem secUnits_eq : secUnits = 1000000000 * 2 ^ 40 := rfl

theorem tick_congr {s u : State} (h : u.tim = s.tim) : u.tick = s.tick := by
  rw [State.tick, h, State.tick]

/-- Tick `n` is its interval of module time (R49). -/
theorem tick_eq_iff (s : State) (n : Nat) : s.tick = n ↔ n * tickUnits ≤ s.tim.now ∧ s.tim.now < (n + 1) * tickUnits := by
  have hpos : 0 < tickUnits := by decide
  unfold State.tick
  rw [Nat.div_eq_iff hpos, Nat.succ_mul]
  omega

/-- The ticks of the whole seconds and those of the rest (R49). -/
theorem tick_eq_sec_ns (s : State) : s.tick = s.tim.now / secUnits * 8000 + s.tim.now / nsUnits % 1000000000 / 125000 := by
  have htick : s.tick = s.tim.now / nsUnits / 125000 := by
    rw [Nat.div_div_eq_div_mul, Nat.mul_comm]; rfl
  have hsec : s.tim.now / secUnits = s.tim.now / nsUnits / 1000000000 := by
    rw [Nat.div_div_eq_div_mul, Nat.mul_comm]; rfl
  rw [htick, hsec]
  omega

/-- The tick number from the seconds and nanoseconds as they are stored (R42, R49). -/
theorem tick_eq_stored {s : State} (hs : s.tim.now < 2 ^ 48 * secUnits) :
    s.tick = leAt (timeBytes s.tim.now) 6 6 * 8000 + leAt (timeBytes s.tim.now) 2 4 / 125000 := by
  rw [leAt_timeBytes_sec hs, leAt_timeBytes_ns, tick_eq_sec_ns]

/-- Seconds of 48 bits leave the tick number within its 64 bits (R49). -/
theorem tick_lt {s : State} (hs : s.tim.now < 2 ^ 48 * secUnits) : s.tick < 2 ^ 64 := by
  have hsec : s.tim.now / secUnits < 2 ^ 48 := (Nat.div_lt_iff_lt_mul (by decide)).mpr hs
  rw [tick_eq_sec_ns]
  omega

/-! ## Counting to the boundary (R50, R54) -/

/-- What one fabric cycle adds to module time (R54). -/
def cycleUnits (s : State) : Nat := (5 * 2 ^ 40 + 5 * s.tim.rate).toNat

/-- The fabric cycles up to the first one at or after the next boundary (R50). -/
def cyclesToBoundary (s : State) : Nat := ((s.tick + 1) * tickUnits - s.tim.now + cycleUnits s - 1) / cycleUnits s

theorem countToBoundary_tim (s : State) : (countToBoundary s).tim =
    { s.tim with now := s.tim.now + cyclesToBoundary s * cycleUnits s, cycles := s.tim.cycles + cyclesToBoundary s } := rfl

theorem countToBoundary_now (s : State) : (countToBoundary s).tim.now = s.tim.now + cyclesToBoundary s * cycleUnits s := by
  rw [countToBoundary_tim]

/-- Counting leaves the time base's state, rate and integral. -/
theorem countToBoundary_keeps (s : State) : (countToBoundary s).tim.state = s.tim.state ∧
    (countToBoundary s).tim.rate = s.tim.rate ∧ (countToBoundary s).tim.integ = s.tim.integ := by
  obtain ⟨now, cycles, htim⟩ : ∃ n c, (countToBoundary s).tim = { s.tim with now := n, cycles := c } := ⟨_, _, countToBoundary_tim s⟩
  rw [htim]
  exact ⟨rfl, rfl, rfl⟩

/-- A rate within 100 ppm leaves a fabric cycle longer than nothing and shorter than a tick (R54, R75). -/
theorem cycleUnits_bounds {s : State} (hr : s.tim.rate.natAbs ≤ 109951163) : 0 < cycleUnits s ∧ cycleUnits s < tickUnits := by
  rw [tickUnits_eq]
  unfold cycleUnits
  omega

/-- The least multiple that reaches a distance goes less than one unit past it. -/
theorem roundUp_bounds {c : Nat} (hc : 0 < c) (d : Nat) : d ≤ (d + c - 1) / c * c ∧ (d + c - 1) / c * c < d + c := by
  have hmod := Nat.mod_lt (d + c - 1) hc
  have hdiv := Nat.div_add_mod' (d + c - 1) c
  omega

/-- Counting ends in the first fabric cycle at or after the next boundary (R50). -/
theorem countToBoundary_reaches {s : State} (hr : s.tim.rate.natAbs ≤ 109951163) :
    (s.tick + 1) * tickUnits ≤ (countToBoundary s).tim.now ∧
      (countToBoundary s).tim.now < (s.tick + 1) * tickUnits + cycleUnits s := by
  obtain ⟨-, hbefore⟩ := (tick_eq_iff s s.tick).mp rfl
  have hround := roundUp_bounds (cycleUnits_bounds hr).1 ((s.tick + 1) * tickUnits - s.tim.now)
  rw [countToBoundary_now, cyclesToBoundary]
  omega

/-- A fabric cycle is shorter than a tick, so the tick reached is the next one. -/
theorem countToBoundary_tick {s : State} (hr : s.tim.rate.natAbs ≤ 109951163) : (countToBoundary s).tick = s.tick + 1 := by
  obtain ⟨hreach, hpast⟩ := countToBoundary_reaches hr
  have hcycle := (cycleUnits_bounds hr).2
  rw [tick_eq_iff, Nat.succ_mul (s.tick + 1)]
  omega

/-- Where module time counts, TICK_EVENT answers the tick event of the boundary reached (R50). -/
theorem exec_tickEvent {s : State} {inp : TickInputs} (hl : LineRuns s) (hc : s.tim.counting = true) :
    exec (.tickEvent inp) s = .next (endCycle (tickHere inp (countToBoundary s))) := by
  refine (actLine_next hl).trans ?_
  rw [if_pos hc]

/-- The parts a tick event with the end of its fabric cycle leaves are those of the state at the boundary. -/
theorem tickEvent_keeps (inp : TickInputs) (s : State) :
    let t := endCycle (tickHere inp (countToBoundary s))
    t.tim = (countToBoundary s).tim ∧ t.otp = s.otp ∧ t.cross = s.cross ∧ t.regs = s.regs ∧ t.draws = s.draws ∧ t.cfg = s.cfg := by
  simp

end Sys2Proof.Machine

end

section

open Sys2Proof Sys2Proof.Machine

/-- Settles O57: the interval is the division's, the number that of the seconds and nanoseconds as they are stored. -/
theorem tickNumber : Obligations.TickNumber := by
  unfold Obligations.TickNumber
  intro s hs
  rw [← secUnits_eq] at hs
  refine ⟨?_, tick_eq_stored hs, tick_lt hs⟩
  rw [← tickUnits_eq]
  exact tick_eq_iff s

/-- Settles O1: a whole number of fabric cycles reaches the boundary, and no part of the tick event touches the time base. -/
theorem tickEventReachesBoundary : Obligations.TickEventReachesBoundary := by
  unfold Obligations.TickEventReachesBoundary
  intro s inp hl hc hr
  obtain ⟨htim, hotp, hcross, hregs, hdraws, hcfg⟩ := tickEvent_keeps inp s
  obtain ⟨hreach, hpast⟩ := countToBoundary_reaches hr
  obtain ⟨hstate, hrate, hinteg⟩ := countToBoundary_keeps s
  have hunits : ∀ n, n * 125000 * 2 ^ 40 = n * tickUnits := fun n => by rw [tickUnits_eq, Nat.mul_assoc]
  refine ⟨_, cyclesToBoundary s, exec_tickEvent hl hc, ?_, ?_, ?_, ?_, ?_, ?_, ?_, hotp, hcross, hregs, hdraws, hcfg⟩
  · rw [htim, countToBoundary_now, cycleUnits]
  · rw [htim, hunits]; exact hreach
  · rw [htim, hunits, ← cycleUnits]; exact hpast
  · rw [tick_congr htim]; exact countToBoundary_tick hr
  · rw [htim, hstate]
  · rw [htim, hrate]
  · rw [htim, hinteg]

end

/-! # The servo measurement of a basic cycle and ACCEPT_STEP (R55 to R64) -/

section

namespace Sys2Proof.Machine

/-! ## The command -/

/-- What the measurement of a basic cycle leaves, with what follows where it stepped module time (R55, R63). -/
def measureCycle (inp : TickInputs) (s : State) : State :=
  if (refMeasurement s).2 then afterStep s inp (refMeasurement s).1 else (refMeasurement s).1

theorem exec_referenceMeasurement (inp : TickInputs) (s : State) : exec (.referenceMeasurement inp) s = actLine (measureCycle inp) s := rfl

/-- A measurement that steps no time completes with its own effect. -/
theorem LineRuns.completes_measurement {s u : State} {inp : TickInputs} {P : State → Prop} (hl : LineRuns s)
    (hm : refMeasurement s = (u, false)) (hp : P u) : Completes (.referenceMeasurement inp) s P := by
  refine hl.completes (exec_referenceMeasurement inp s) ?_
  simpa [measureCycle, hm] using hp

/-- What follows a step of module time leaves the time base as the step left it, but for the count of skipped ticks (R63). -/
theorem afterStep_tim (before : State) (inp : TickInputs) (s : State) : ∃ k, (afterStep before inp s).tim = { s.tim with skip := k } := by
  unfold afterStep
  dsimp only
  generalize hu : (if s.pwr.pstate = .parked then s else anaStep before.tim.now s.tim.now s) = u
  have htim : u.tim = s.tim := by simp [← hu]
  split
  · exact ⟨s.tim.skip + BitVec.ofNat 32 (u.tick - before.tick - 1), by simp [htim]⟩
  · exact ⟨s.tim.skip, by simp [htim]⟩

/-- A measurement that steps time completes, and what follows the step leaves what the step made of the time base. -/
theorem LineRuns.completes_step {s u : State} {inp : TickInputs} {P : State → Prop} (hl : LineRuns s)
    (hm : refMeasurement s = (u, true)) (hp : ∀ v k, v.tim = { u.tim with skip := k } → P v) : Completes (.referenceMeasurement inp) s P := by
  refine hl.completes (exec_referenceMeasurement inp s) ?_
  obtain ⟨k, hk⟩ := afterStep_tim s inp u
  have he : measureCycle inp s = afterStep s inp u := by simp [measureCycle, hm]
  exact hp _ k (he ▸ hk)

/-! ## The channel whose offset is taken (R55) -/

/-- The node notes that it has measured in this basic cycle. -/
def noteMeasured (theta : Int) (s : State) : State := s.modNode (fun n => { n with measured := true, theta := some theta })

theorem sameBut_modNode (s : State) (f : Node → Node) : SameBut [.stra] s (s.modNode f) := by
  intro p hp
  cases p <;> simp_all [Part.same, State.lane]

theorem refMeasurement_channelA {s : State} {theta : Int} (hn : s.stra.node.measured = false) (hs : s.tim.state ≠ .master)
    (ha : (s.chan 0).curRef = some theta) : refMeasurement s = measure 0 theta (noteMeasured theta s) := by
  simp [refMeasurement, hn, hs, ha, noteMeasured]

theorem refMeasurement_channelB {s : State} {theta : Int} (hn : s.stra.node.measured = false) (hs : s.tim.state ≠ .master)
    (ha : (s.chan 0).curRef = none) (hb : (s.chan 1).curRef = some theta) :
    refMeasurement s = measure 1 theta (noteMeasured theta s) := by
  simp [refMeasurement, hn, hs, ha, hb, noteMeasured]

theorem refMeasurement_none {s : State} (hn : s.stra.node.measured = false) (hs : s.tim.state ≠ .master)
    (ha : (s.chan 0).curRef = none) (hb : (s.chan 1).curRef = none) :
    refMeasurement s = (missMeasurement (s.modNode (fun n => { n with measured := true })), false) := by
  simp [refMeasurement, hn, hs, ha, hb]

theorem refMeasurement_master {s : State} (hs : s.tim.state = .master) : refMeasurement s = (s, false) := by
  simp [refMeasurement, hs]

/-! ## A measurement by the state of the time base (R57 to R62) -/

/-- The servo follows a reference in these states (R57). -/
def Follows (s : State) : Prop := s.tim.state = .acquiring ∨ s.tim.state = .locked ∨ s.tim.state = .holdover

theorem Follows.not_master {s : State} (h : Follows s) : s.tim.state ≠ .master := by
  rcases h with h | h | h <;> simp [h]

theorem measure_follows {s : State} (h : Follows s) (ch : ChanId) (theta : Int) : measure ch theta s =
    if jumpThr s * 65536 < theta.natAbs then steppedMeasurement theta s else (acceptMeasurement ch theta s, false) := by
  unfold measure
  rcases h with h | h | h <;> rw [h]

theorem measure_accepted {s : State} {theta : Int} (h : Follows s) (ht : theta.natAbs ≤ jumpThr s * 65536) (ch : ChanId) :
    measure ch theta s = (acceptMeasurement ch theta s, false) := by
  rw [measure_follows h, if_neg (Nat.not_lt.mpr ht)]

theorem measure_refused {s : State} {theta : Int} (h : Follows s) (ht : jumpThr s * 65536 < theta.natAbs) (ch : ChanId) :
    measure ch theta s = steppedMeasurement theta s := by
  rw [measure_follows h, if_pos ht]

/-- An accepted offset of the channel taken, with the node's note of it (R55, R56). -/
theorem refMeasurement_accepted {s : State} {theta : Int} {ch : ChanId} (hr : refMeasurement s = measure ch theta (noteMeasured theta s))
    (h : Follows s) (ht : theta.natAbs ≤ jumpThr s * 65536) :
    refMeasurement s = (acceptMeasurement ch theta (noteMeasured theta s), false) :=
  hr.trans (measure_accepted (s := noteMeasured theta s) h ht ch)

/-- A refused offset of channel A, with the node's note of it (R55, R59). -/
theorem refMeasurement_refused {s : State} {theta : Int} (hn : s.stra.node.measured = false) (h : Follows s)
    (ha : (s.chan 0).curRef = some theta) (ht : jumpThr s * 65536 < theta.natAbs) :
    refMeasurement s = steppedMeasurement theta (noteMeasured theta s) :=
  (refMeasurement_channelA hn h.not_master ha).trans (measure_refused (s := noteMeasured theta s) h ht 0)

theorem measure_unset {s : State} (h : s.tim.state = .unset) (ch : ChanId) (theta : Int) : measure ch theta s =
    (applyStep theta { s with tim := { s.tim with integ := 0, srcCh := BitVec.ofNat 1 ch.val } }, true) := by
  unfold measure
  rw [h]

/-- A refused measurement leaves the shared registers, ACCEPT_STEP among them. -/
theorem refuseMeasurement_regField (theta : Int) (s : State) (a lo w : Nat) :
    regField (refuseMeasurement theta s) a lo w = regField s a lo w := regField_congr (by simp)

theorem steppedMeasurement_disarmed {s : State} (h : regField s (TIM + 0x4) 0 1 = 0) (theta : Int) :
    steppedMeasurement theta s = (refuseMeasurement theta s, false) := by
  unfold steppedMeasurement
  dsimp only
  rw [refuseMeasurement_regField, if_pos h]

/-- A backward step held until the program stops (R62). -/
def holdStep (s : State) : State := if s.tim.stepHeld then s else rep 0x0804 { s with tim := { s.tim with stepHeld := true } }

theorem steppedMeasurement_held {s : State} {theta : Int} (h : regField s (TIM + 0x4) 0 1 = 1) (ht : theta < 0)
    (hp : s.cyc.prog = .running) : steppedMeasurement theta s = (holdStep (refuseMeasurement theta s), false) := by
  unfold steppedMeasurement
  dsimp only
  rw [refuseMeasurement_regField, h, if_neg (by decide), if_pos ⟨ht, by simp [programRuns, hp]⟩]
  rfl

theorem steppedMeasurement_applied {s : State} {theta : Int} (h : regField s (TIM + 0x4) 0 1 = 1)
    (hp : 0 < theta ∨ s.cyc.prog ≠ .running) :
    steppedMeasurement theta s = (applyStep theta (regPut (refuseMeasurement theta s) (TIM + 0x4) 0 1 0), true) := by
  have hback : ¬ (theta < 0 ∧ programRuns (refuseMeasurement theta s) = true) := by
    rintro ⟨hneg, hrun⟩
    rcases hp with hpos | hstop
    · omega
    · simp [programRuns, hstop] at hrun
  unfold steppedMeasurement
  dsimp only
  rw [refuseMeasurement_regField, h, if_neg (by decide), if_neg hback]

/-! ## What measurements leave unchanged -/

theorem acceptMeasurement_sameBut (ch : ChanId) (theta : Int) (s : State) : SameBut [.tim, .irq] s (acceptMeasurement ch theta s) := by
  intro p hp
  cases p <;> simp_all [Part.same]

theorem refuseMeasurement_sameBut (theta : Int) (s : State) : SameBut (.tim :: reportParts) s (refuseMeasurement theta s) := by
  intro p hp
  cases p <;> simp_all [Part.same, reportParts]

/-- A missed measurement changes the time base alone. -/
theorem missMeasurement_sameBut (s : State) : SameBut [.tim] s (missMeasurement s) := sameBut_tim s _

/-- An accepted measurement of a channel, noted by the node, changes the time base, the node and the lanes' TIME_STATE source. -/
theorem accepted_sameBut (ch : ChanId) (theta : Int) (s : State) :
    SameBut [.tim, .stra, .irq] s (acceptMeasurement ch theta (noteMeasured theta s)) :=
  ((sameBut_modNode s _).mono (by simp)).trans ((acceptMeasurement_sameBut ch theta _).mono (by simp))

theorem refused_sameBut (theta : Int) (s : State) :
    SameBut ([.tim, .stra] ++ reportParts) s (refuseMeasurement theta (noteMeasured theta s)) :=
  ((sameBut_modNode s _).mono (by simp)).trans ((refuseMeasurement_sameBut theta _).mono (by simp [reportParts]))

theorem missed_sameBut (f : Node → Node) (s : State) : SameBut [.tim, .stra] s (missMeasurement (s.modNode f)) :=
  ((sameBut_modNode s f).mono (by simp)).trans ((missMeasurement_sameBut _).mono (by simp))

/-! ## Steps held and applied (R57, R61, R62) -/

theorem holdStep_tim (s : State) : (holdStep s).tim = { s.tim with stepHeld := true } := by
  unfold holdStep
  split
  next h => rw [← h]
  next => simp

theorem holdStep_regField (s : State) (a lo w : Nat) : regField (holdStep s) a lo w = regField s a lo w := by
  refine regField_congr ?_
  unfold holdStep
  split <;> simp

theorem holdStep_reported {s : State} (h : s.tim.stepHeld = false) : Reported 0x0804 s (holdStep s) := by
  rw [holdStep, if_neg (ne_true_of_eq_false h)]
  exact (rep_reported 0x0804 _ (by decide)).of_flt rfl

theorem regPut_tim (s : State) (a lo w v : Nat) : (regPut s a lo w v).tim = s.tim := by simp

/-! ## Commits to ACCEPT_STEP (R61, R62) -/

theorem acceptStepWrite_field (v : Bool) (s : State) : regField (acceptStepWrite v s) (TIM + 0x4) 0 1 = if v then 1 else 0 := by
  have hregs : (acceptStepWrite v s).regs = (regPut s (TIM + 0x4) 0 1 (bit v)).regs := by
    cases v <;> rfl
  rw [regField_congr hregs, regField_regPut _ _ _ _ _ (by decide)]
  cases v <;> rfl

theorem acceptStepWrite_stepHeld (v : Bool) (s : State) : (acceptStepWrite v s).tim.stepHeld = (v && s.tim.stepHeld) := by
  cases v <;> rfl

theorem acceptStepWrite_sameBut (v : Bool) (s : State) : SameBut [.tim, .regs] s (acceptStepWrite v s) := by
  have hput := (sameBut_regPut s (TIM + 0x4) 0 1 (bit v)).mono (qs := [.tim, .regs]) (by simp)
  cases v with
  | true => exact hput
  | false => exact hput.trans ((sameBut_tim _ _).mono (by simp))

end Sys2Proof.Machine

end

section

open Sys2Proof Sys2Proof.Machine

/-- Settles O2: the rule of the state the time base is in, after the channel's offset is taken. -/
theorem servoMeasurement : Obligations.ServoMeasurement := by
  unfold Obligations.ServoMeasurement
  refine ⟨fun s inp theta hl hn hst ha ht => ?accepted, fun s inp theta hl hn hst ha hb ht => ?channelB,
    fun s inp theta hl hn hst ha ht hd => ?refused, fun s inp hl hn hst ha hb => ?missed, fun s inp theta hl hn hst ha ht => ?first,
    fun s inp hl hst => ?master⟩
  case accepted =>
    have hm := refMeasurement_accepted (refMeasurement_channelA hn (Follows.not_master hst) ha) hst ht
    refine hl.completes_measurement hm ?_
    have hrate := servo_rate_le theta (noteMeasured theta s)
    have hbut := accepted_sameBut 0 theta s
    dsimp only
    rw [acceptMeasurement_tim]
    exact ⟨rfl, rfl, hrate, rfl, rfl, rfl, rfl, hbut⟩
  case channelB =>
    have hm := refMeasurement_accepted (refMeasurement_channelB hn (Follows.not_master hst) ha hb) hst ht
    refine hl.completes_measurement hm ?_
    have hbut := accepted_sameBut 1 theta s
    rw [acceptMeasurement_tim]
    exact ⟨rfl, rfl, hbut⟩
  case refused =>
    have hm := (refMeasurement_refused hn hst ha ht).trans (steppedMeasurement_disarmed (s := noteMeasured theta s) hd theta)
    refine hl.completes_measurement hm ?_
    have hrep := (refuseMeasurement_reported theta (noteMeasured theta s)).of_flt (s := s) rfl
    have hbut := refused_sameBut theta s
    rw [refuseMeasurement_tim]
    exact ⟨rfl, rfl, rfl, hrep, rfl, rfl, rfl, rfl, hbut⟩
  case missed => exact hl.completes_measurement (refMeasurement_none hn hst ha hb) ⟨rfl, rfl, rfl, rfl, rfl, missed_sameBut _ s⟩
  case first =>
    have hm := refMeasurement_channelA hn (by simp [hst]) ha
    rw [measure_unset (by exact hst)] at hm
    refine hl.completes_step hm (fun v k hv => ?_)
    rw [hv, applyStep_tim]
    exact ⟨Int.toNat_of_nonneg ht, rfl, rfl⟩
  case master => exact hl.completes_measurement (refMeasurement_master hst) rfl

/-- Settles O3: the commit by its own rules; a refused offset is held or applied by the two armed cases of `steppedMeasurement`. -/
theorem stepsAreArmedHeldOrApplied : Obligations.StepsAreArmedHeldOrApplied := by
  unfold Obligations.StepsAreArmedHeldOrApplied
  refine ⟨fun s v ho => ?commit, fun s inp theta hl hn hst ha ht harm hneg hrun => ?held,
    fun s inp theta hl hn hst ha ht harm hfwd hnow => ?applied⟩
  case commit =>
    exact ho.completes rfl ⟨acceptStepWrite_field v s, acceptStepWrite_stepHeld v s, acceptStepWrite_sameBut v s⟩
  case held =>
    have hm := (refMeasurement_refused hn hst ha ht).trans (steppedMeasurement_held (s := noteMeasured theta s) harm hneg hrun)
    refine hl.completes_measurement hm ?_
    have hfield : regField (holdStep (refuseMeasurement theta (noteMeasured theta s))) (TIM + 0x4) 0 1 = 1 := by
      rw [holdStep_regField, refuseMeasurement_regField]
      exact harm
    have hrep (hh : s.tim.stepHeld = false) : Reported 0x0804 s (holdStep (refuseMeasurement theta (noteMeasured theta s))) :=
      (holdStep_reported (by rw [refuseMeasurement_tim]; exact hh)).of_cls
        (refuseMeasurement_cls theta (noteMeasured theta s) 0x0804 (by decide) (by decide))
    rw [holdStep_tim, refuseMeasurement_tim]
    exact ⟨rfl, hfield, rfl, rfl, rfl, rfl, hrep⟩
  case applied =>
    have hm := (refMeasurement_refused hn hst ha ht).trans (steppedMeasurement_applied (s := noteMeasured theta s) harm hfwd)
    refine hl.completes_step hm (fun v k hv => ?_)
    rw [hv, applyStep_tim, regPut_tim, refuseMeasurement_tim]
    exact ⟨Int.toNat_of_nonneg hnow, rfl, rfl, rfl⟩

end

/-! # Resets held and released (R51, R523 to R530, R536, R537, R542, R555) -/

section

namespace Sys2Proof.Machine

/-! ## Vectors -/

theorem vget_ofFn {α : Type} {n : Nat} (f : Fin n → α) (i : Fin n) : vget (Vector.ofFn f) i = f i := by
  show (Vector.ofFn f)[i.val] = f i
  simp

theorem vget_map {α β : Type} {n : Nat} (f : α → β) (v : Vector α n) (i : Fin n) : vget (v.map f) i = f (vget v i) := by
  show (v.map f)[i.val] = f v[i.val]
  simp

/-! ## A reset that holds the module (R525, R529) -/

/-- A lane held in reset keeps its MRAM. -/
theorem holdReset_lane (cause : Nat) (s : State) (l : LaneId) : (holdReset cause s).lane l = { mram := (s.lane l).mram } :=
  vget_map _ s.lanes l

/-- Outside the parts that keep something, a held reset leaves what a power-on reset leaves (R529). -/
theorem holdReset_sameBut (cause : Nat) (s : State) :
    SameBut [.otp, .rcd, .lanes, .vot, .mot, .cls, .pwr, .trust, .draws, .pending] State.reset (holdReset cause s) := by
  intro p hp
  cases p
  case irq => exact fun l => by rw [holdReset_lane, reset_lane]
  all_goals simp_all [Part.same, holdReset, keptState, State.reset]

/-- What a held reset with its cause keeps of the module before it, and that the rest is as after a power-on reset (R525, R529). -/
def ResetHeld (cause : Nat) (s u : State) : Prop :=
  u.pwr.held = true ∧ u.pwr.cause = BitVec.ofNat 16 cause ∧ u.otp = s.otp ∧ u.pending = s.pending ∧
  u.rcd.next = s.rcd.next ∧ u.rcd.perm = s.rcd.perm ∧ u.rcd.circ = s.rcd.circ ∧ u.rcd.staged = [] ∧ u.pwr.rstCnt = s.pwr.rstCnt ∧
  u.pwr.warnCnt = s.pwr.warnCnt ∧ u.pwr.failCnt = s.pwr.failCnt ∧ u.trust.owner = s.trust.owner ∧ u.trust.slots = s.trust.slots ∧
  u.draws = s.draws ∧ SameBut [.otp, .rcd, .lanes, .vot, .mot, .cls, .pwr, .trust, .draws, .pending] State.reset u

theorem holdReset_held (cause : Nat) (s : State) : ResetHeld cause s (holdReset cause s) :=
  ⟨rfl, rfl, rfl, rfl, rfl, rfl, rfl, rfl, rfl, rfl, rfl, rfl, rfl, rfl, holdReset_sameBut cause s⟩

/-- The loss of the Locket content leaves what a held reset keeps (R536). -/
theorem ResetHeld.loseLocket {cause : Nat} {s u : State} (h : ResetHeld cause s u) :
    ResetHeld cause s { u with pwr := Machine.loseLocket u.pwr } := by
  obtain ⟨hheld, hcause, hotp, hpend, hnext, hperm, hcirc, hstaged, hrst, hwarn, hfail, howner, hslots, hdraws, hbut⟩ := h
  exact ⟨hheld, hcause, hotp, hpend, hnext, hperm, hcirc, hstaged, hrst, hwarn, hfail, howner, hslots, hdraws,
    hbut.trans ((sameBut_pwr u _).mono (by simp))⟩

theorem powerOnReset_locketKept {why : PowerOn} (h : why ≠ .kaLoss) (s : State) : powerOnReset why s = holdReset why.code s := if_neg h

theorem powerOnReset_held (why : PowerOn) (s : State) : ResetHeld why.code s (powerOnReset why s) := by
  by_cases h : why = .kaLoss
  · subst h
    exact (holdReset_held 4 s).loseLocket
  · rw [powerOnReset_locketKept h]
    exact holdReset_held why.code s

/-- The converters may go off: in a shutdown, when nothing is left to write or the store has run down (R523). -/
def OffDue (vstore : Nat) (s : State) : Prop :=
  s.pwr.shutdown = true ∧
    ((s.rcd.flushing = false ∧ s.rcd.flushPend = false ∧ s.rcd.staged = [] ∧ s.trust.ucalQueue = []) ∨ vstore < offLevel)

theorem convertersOff_due {vstore : Nat} {s : State} (h : OffDue vstore s) : convertersOff vstore s = holdReset 2 s := by
  obtain ⟨hdown, hwhy⟩ := h
  refine if_pos ⟨hdown, hwhy.imp_left ?_⟩
  rintro ⟨hflushing, hpend, hstaged, hqueue⟩
  simp [hflushing, hpend, hstaged, hqueue]

theorem convertersOff_notDue {vstore : Nat} {s : State} (h : ¬ OffDue vstore s) : convertersOff vstore s = s := by
  refine if_neg ?_
  rintro ⟨hdown, hwhy⟩
  refine h ⟨hdown, hwhy.imp_left (fun hended => ?_)⟩
  simpa [and_assoc] using hended

/-! ## What a start makes of the supply and the time base (R51, R526, R530) -/

/-- The supervisor's part of a start (R526, R530, R555). -/
def Power.started (p : Power) : Power := { p with held := false, pstate := .operational, rstCnt := p.rstCnt + 1, fabReport := false }

theorem supervisorStart_pwr (s : State) : (supervisorStart s).pwr = s.pwr.started := by
  simp [supervisorStart, Power.started]

theorem supervisorStart_tim (s : State) : (supervisorStart s).tim = { s.tim with counting := true } := by
  simp [supervisorStart]

/-- Two supplies differ in nothing but the voltage loops, which have the same V_INIT (R541, R542). -/
def SameButLoops (p q : Power) : Prop := ∃ avs, q = { p with avs := avs } ∧ ∀ l, (vget avs l).vInit = (vget p.avs l).vInit

theorem SameButLoops.refl (p : Power) : SameButLoops p p := ⟨p.avs, rfl, fun _ => rfl⟩

/-- The loops that start at the nominal frequency keep V_INIT (R541). -/
theorem pwrLoad_loops (s : State) : SameButLoops s.pwr (pwrLoad s).pwr :=
  ⟨_, rfl, fun l => by rw [vget_ofFn]⟩

/-- Of the engines that load their settings, the voltage loops alone touch the supply. -/
theorem loadEngines_pwr (s : State) : (loadEngines s).pwr = (pwrLoad s).pwr := by
  simp [loadEngines]

theorem adopt_loops {p : Power} {s : State} (c : Cfg) (img : AppImage) (m : Bool) (h : s.pwr = p) :
    SameButLoops p (adopt c img m s).pwr := by
  subst h
  unfold adopt
  rw [loadEngines_pwr]
  exact pwrLoad_loops _

/-- Loading the active configuration changes of the supply the voltage loops alone (R494, R541). -/
theorem loadActive_loops (s : State) : SameButLoops s.pwr (loadActive s).pwr := by
  have same {u : State} (h : u.pwr = s.pwr) : SameButLoops s.pwr u.pwr := h ▸ SameButLoops.refl s.pwr
  unfold loadActive
  split
  · exact same rfl
  · dsimp only
    split
    · exact same (by simp)
    · split
      · exact same (by simp)
      · split
        · exact same (by simp)
        · split
          · exact same (by simp)
          · split
            · exact adopt_loops _ _ _ (by simp)
            · exact same (by simp)
            · exact same (by simp)

theorem startUp_loops (s : State) : SameButLoops s.pwr.started (startUp s).pwr := by
  have hboot : (bootFirmware (supervisorStart s)).pwr = s.pwr.started := by simp [supervisorStart_pwr]
  unfold startUp
  dsimp only
  split
  · rw [hboot]
    exact SameButLoops.refl _
  · have hmig : (migrateUcal (bootFirmware (supervisorStart s))).pwr = s.pwr.started := by simp [supervisorStart_pwr]
    rw [← hmig]
    exact loadActive_loops _

/-- A start lets module time count and leaves the rest of the time base (R51). -/
theorem startUp_tim (s : State) : (startUp s).tim = { s.tim with counting := true } := by
  simp [startUp, supervisorStart_tim]

/-! ## Release of a held reset (R530, R542, R555) -/

/-- A held reset may be released (R530, R555). -/
def ReleaseDue (vin vstore : Nat) (waited : Bool) (s : State) : Prop :=
  s.pwr.held = true ∧ s.pwr.pstate ≠ .keepAlive ∧
    (s.pwr.cause = 6 ∨ (continuousLevel ≤ vin ∧ (storeOkLevel ≤ vstore ∨ (waited = true ∧ shutdownLevel ≤ vstore))))

theorem mayRelease_iff (vin vstore : Nat) (waited : Bool) (s : State) :
    mayRelease vin vstore waited s = true ↔ ReleaseDue vin vstore waited s := by
  simp [mayRelease, ReleaseDue, and_assoc]

/-- The module at the release, before its start: the reading shown, the Locket seconds elapsed, V_INIT taken (R530, R537, R542). -/
def beforeStart (vin vstore elapsed : Nat) (vNow : Vector Nat 3) (s : State) : State :=
  recordVInit vNow (supplyReading vin vstore { s with pwr := locketElapse elapsed s.pwr })

/-- Of a release, a low store is reported after the start, which leaves the supply and the time base (R530). -/
theorem resetRelease_due {vin vstore : Nat} {waited : Bool} {s : State} (h : ReleaseDue vin vstore waited s) (elapsed : Nat)
    (vNow : Vector Nat 3) :
    (resetRelease vin vstore waited elapsed vNow s).pwr = (startUp (beforeStart vin vstore elapsed vNow s)).pwr ∧
      (resetRelease vin vstore waited elapsed vNow s).tim = (startUp (beforeStart vin vstore elapsed vNow s)).tim := by
  unfold resetRelease
  rw [if_pos ((mayRelease_iff vin vstore waited s).mpr h)]
  dsimp only
  split
  · exact ⟨by simp [beforeStart], by simp [beforeStart]⟩
  · exact ⟨rfl, rfl⟩

theorem resetRelease_notDue {vin vstore : Nat} {waited : Bool} {s : State} (h : ¬ ReleaseDue vin vstore waited s) (elapsed : Nat)
    (vNow : Vector Nat 3) : resetRelease vin vstore waited elapsed vNow s = s :=
  if_neg (fun hc => h ((mayRelease_iff vin vstore waited s).mp hc))

/-- V_INIT is taken where none is recorded (R542). -/
theorem beforeStart_vInit (vin vstore elapsed : Nat) (vNow : Vector Nat 3) (s : State) (l : Fin 3) :
    (vget (beforeStart vin vstore elapsed vNow s).pwr.avs l).vInit = some ((vget s.pwr.avs l).vInit.getD (vget vNow l)) := by
  have hloop : vget (beforeStart vin vstore elapsed vNow s).pwr.avs l =
      if (vget s.pwr.avs l).vInit.isNone then { vget s.pwr.avs l with vInit := some (vget vNow l) } else vget s.pwr.avs l :=
    vget_ofFn _ l
  rw [hloop]
  cases hv : (vget s.pwr.avs l).vInit <;> simp [hv]

/-! ## External and watchdog resets (R525, R528, R529) -/

/-- What a start after a reset of its own cause leaves: the module runs, the reset is counted, time counts from zero (R51, R526, R529). -/
def Restarted (cause : Nat) (s u : State) : Prop :=
  u.pwr.held = false ∧ u.pwr.pstate = .operational ∧ u.pwr.cause = BitVec.ofNat 16 cause ∧
  u.pwr.rstCnt = s.pwr.rstCnt + 1 ∧ u.pwr.locketSec = s.pwr.locketSec ∧ u.tim = { ({} : Tim) with counting := true } ∧ u.otp = s.otp ∧
  u.pending = s.pending ∧ u.rng = State.reset.rng ∧ u.col = State.reset.col

theorem startUp_warmReset (cause : Nat) (s : State) : Restarted cause s (startUp (warmReset cause s)) := by
  obtain ⟨avs, hpwr, -⟩ := startUp_loops (warmReset cause s)
  have htim := startUp_tim (warmReset cause s)
  obtain ⟨hotp, hpend, -, -, -, hrng, -, hcol, -⟩ := startUp_frame (warmReset cause s)
  unfold Restarted
  rw [hpwr]
  exact ⟨rfl, rfl, rfl, rfl, rfl, htim, hotp, hpend, hrng, hcol⟩

/-- An event that restarts the module leaves it as it is in a shutdown, which runs to its end (R523). -/
theorem LineRuns.completes_shutdown {i : Instr} {f : State → State} {s : State} (hl : LineRuns s)
    (he : exec i s = actLine (fun u => onlyIf (!u.pwr.shutdown) f u) s) (hs : s.pwr.shutdown = true) : Completes i s (fun u => u = s) :=
  hl.completes he (by simp [onlyIf, hs])

theorem LineRuns.completes_restart {i : Instr} {cause : Nat} {s : State} (hl : LineRuns s)
    (he : exec i s = actLine (fun u => onlyIf (!u.pwr.shutdown) (fun v => startUp (warmReset cause v)) u) s) (hs : s.pwr.shutdown = false) :
    Completes i s (Restarted cause s) := by
  refine hl.completes he ?_
  rw [onlyIf_true (by simp [hs])]
  exact startUp_warmReset cause s

/-- A command of the supply or the resets completes with its own effect in every power state. -/
theorem completes_any {i : Instr} {f : State → State} {s : State} {P : State → Prop} (he : exec i s = actAny f s) (hp : P (f s)) :
    Completes i s P :=
  ⟨f s, he, hp⟩

end Sys2Proof.Machine

end

section

open Sys2Proof Sys2Proof.Machine

/-- Settles O45: what `holdReset` keeps and what `startUp` makes of the supply and the time base, at each reset's own command. -/
theorem holdAndRelease : Obligations.HoldAndRelease := by
  unfold Obligations.HoldAndRelease
  intro s
  refine ⟨fun v => ⟨fun hoff => ?convertersOn, fun hoff => ?convertersOff⟩, fun why => ?powerOn, fun hl hs => ?inShutdown,
    fun hl hs => ?restarted, fun x y waited n v => ⟨fun hmay => ?stays, fun hmay => ?released⟩⟩
  case convertersOn => exact completes_any (f := convertersOff v.toNat) rfl (convertersOff_notDue hoff)
  case convertersOff =>
    refine completes_any (f := convertersOff v.toNat) rfl ?_
    rw [convertersOff_due hoff]
    exact ⟨holdReset_held 2 s, rfl⟩
  case powerOn =>
    refine completes_any (f := powerOnReset why) rfl ⟨?held, fun h => ?kept, fun h => ?lost⟩
    case held =>
      have hheld := powerOnReset_held why s
      cases why <;> exact hheld
    case kept =>
      rw [powerOnReset_locketKept h]
      exact ⟨rfl, rfl, rfl⟩
    case lost =>
      rw [h]
      exact ⟨rfl, rfl, rfl, rfl, rfl⟩
  case inShutdown => exact ⟨hl.completes_shutdown rfl hs, hl.completes_shutdown rfl hs⟩
  case restarted => exact ⟨hl.completes_restart rfl hs, hl.completes_restart rfl hs⟩
  case stays => exact completes_any (f := resetRelease x.toNat y.toNat waited n v) rfl (resetRelease_notDue hmay n v)
  case released =>
    refine completes_any (f := resetRelease x.toNat y.toNat waited n v) rfl ?_
    obtain ⟨hpwr, htim⟩ := resetRelease_due hmay n v
    obtain ⟨avs, hstart, hinit⟩ := startUp_loops (beforeStart x.toNat y.toNat n v s)
    obtain ⟨hotp, hpend, -⟩ := resetRelease_frame x.toNat y.toNat waited n v s
    rw [hpwr, htim, hstart, startUp_tim]
    exact ⟨rfl, rfl, rfl, rfl, rfl, rfl, rfl, rfl, rfl, hotp, hpend, fun l => (hinit l).trans (beforeStart_vInit _ _ n v s l)⟩

end

/-! # Self-tests and admission of lanes (R99, R122 to R126)

What the pair and voter self-tests, the admission and the release from reset leave, and the statement about them. -/

section

namespace Sys2Proof.Machine

/-! ## Updates of the voter -/

theorem sameBut_modVot (s : State) (l : LaneId) (f : VotLane → VotLane) : SameBut [.vot] s (s.modVot l f) := sameBut_vot s _

theorem sameBut_modReint (s : State) (f : Reint → Reint) : SameBut [.vot] s (s.modReint f) := sameBut_vot s _

/-- A fold of updates that each keep every part but those listed keeps them. -/
theorem SameBut.foldl {α : Type} {ps : List Part} {g : State → α → State} (h : ∀ s a, SameBut ps s (g s a)) (xs : List α) (s : State) :
    SameBut ps s (xs.foldl g s) := by
  induction xs generalizing s with
  | nil => exact SameBut.refl ps s
  | cons a xs ih => exact (h s a).trans (ih (g s a))

theorem rep_vot (code : Nat) (s : State) : (rep code s).vot = s.vot := by simp

/-- The choice of the next final round is a change of the re-integration alone (R131). -/
theorem startFinal_modReint (s : State) : ∃ f, startFinal s = s.modReint f := by
  unfold startFinal
  split
  · exact ⟨_, rfl⟩
  · exact ⟨id, rfl⟩

/-! ## Pair self-test (R125) -/

theorem selfTestPasses_iff (found : List (List Nat)) (timeout : Bool) :
    selfTestPasses found timeout = true ↔ found = (List.range 330).map (fun k => [k]) ++ [[], []] ∧ timeout = true := by
  rw [selfTestPasses, Bool.and_eq_true, beq_iff_eq]

/-- A pass of a READY lane is noted, whether or not the lane is the target of a re-integration, and changes the voter alone (R125). -/
theorem pairSelfTest_pass {l : LaneId} {found : List (List Nat)} {timeout : Bool} {s : State} (hl : (s.lane l).state = .ready)
    (hp : selfTestPasses found timeout = true) :
    (vget (pairSelfTest l found timeout s).vot.lanes l).pairOk = true ∧ SameBut [.vot] s (pairSelfTest l found timeout s) := by
  have hnoted := sameBut_modVot s l (fun v => { v with pairOk := true })
  unfold pairSelfTest
  rw [if_pos hl, if_pos hp]
  dsimp only
  split
  case isTrue =>
    obtain ⟨f, hf⟩ := startFinal_modReint (((s.modVot l (fun v => { v with pairOk := true })).modVot l
      (fun v => { v with vstate := .joining })).modReint (fun r => { r with phase := .join }))
    rw [hf]
    refine ⟨?_, ((hnoted.trans (sameBut_modVot _ _ _)).trans (sameBut_modReint _ _)).trans (sameBut_modReint _ f)⟩
    simp [State.modReint, State.modVot]
  case isFalse => exact ⟨by simp [State.modVot], hnoted⟩

/-- A failure takes a READY lane to SAFE and reports its class (R125). -/
theorem pairSelfTest_fail {l : LaneId} {found : List (List Nat)} {timeout : Bool} {s : State} (hl : (s.lane l).state = .ready)
    (hp : ¬ selfTestPasses found timeout = true) :
    ((pairSelfTest l found timeout s).lane l).state = .safe ∧ Reported 0x0C08 s (pairSelfTest l found timeout s) := by
  unfold pairSelfTest
  rw [if_pos hl, if_neg hp]
  have hlive : ((s.modVot l (fun v => { v with pairOk := false })).lane l).state.live = true := by
    rw [State.modVot_lane, hl]
    rfl
  refine ⟨?_, (rep_reported 0x0C08 _ (by decide)).of_count (laneSafe_cls l 7 0 0 0 true 0x0C08 _ (by decide))⟩
  rw [rep_lane, Lane.raise_state, laneSafe_state l 7 0 0 0 true _ hlive]

/-! ## Voter self-test (R126) -/

/-- What the voter's self-test notes, with the shared registers it leaves (R126). -/
def voterTested (ok : BitVec 4) (regs : Table Word) (s : State) : State :=
  { s with vot := { s.vot with stepOk := ok, testDone := true, testFail := ok != 15 }, regs := regs }

theorem sameBut_voterTested (ok : BitVec 4) (regs : Table Word) (s : State) : SameBut [.vot, .regs] s (voterTested ok regs s) := by
  intro p hp
  cases p <;> simp_all [Part.same, voterTested, State.lane]

/-- In INIT with two lanes ready the self-test is noted, and a failed one is reported besides (R126). -/
theorem voterSelfTest_noted {ok : BitVec 4} {s : State} (hm : s.vot.mode = .init) (hn : 2 ≤ (readyLanes s).length) :
    ∃ regs, voterSelfTest ok s = if ok = 15 then voterTested ok regs s else rep 0x0C09 (voterTested ok regs s) := by
  unfold voterSelfTest
  rw [if_pos ⟨hm, hn⟩]
  cases testSinkValue ((readyLanes s).length == 3) ok with
  | none => exact ⟨s.regs, rfl⟩
  | some v => exact ⟨(regSet s (VOT + 0x64) (BitVec.ofNat 32 v)).regs, rfl⟩

/-! ## Admission (R122) -/

/-- A lane is admitted: it runs and is counted (R122). -/
def admitLane (s : State) (l : LaneId) : State :=
  (s.modLane l (fun L => { L with state := .running })).modVot l (fun v => { v with vstate := .counted })

theorem sameBut_admitLane (s : State) (l : LaneId) : SameBut [.vot, .lanes] s (admitLane s l) :=
  have hlane : SameBut [.lanes] s (s.modLane l (fun L => { L with state := .running })) := sameBut_modLane (fun _ => rfl)
  (hlane.mono (by simp)).trans ((sameBut_modVot _ l _).mono (by simp))

/-- An admission admits every ready, self-tested lane and sets the mode and the counted set by them (R122). -/
theorem laneAdmission_admits {s : State} (hm : s.vot.mode = .init) (hc : s.trust.cfgOk = true) (hd : s.vot.testDone = true)
    (hf : s.vot.testFail = false) (hn : 2 ≤ (readyLanes s).length) (hw : waitOver s = true) :
    let u := laneAdmission s
    u.vot.mode = (if (readyLanes s).length = 3 then .triple else .dual) ∧
      u.vot.counted = BitVec.ofNat 3 (((readyLanes s).map (fun l => 2 ^ l.val)).sum) ∧ SameBut [.vot, .lanes] s u := by
  dsimp only
  unfold laneAdmission
  rw [if_pos ⟨hm, hc, hd, hf, hn, hw⟩]
  refine ⟨rfl, ?counted, (SameBut.foldl sameBut_admitLane (readyLanes s) s).trans ((sameBut_vot _ _).mono (by simp))⟩
  rw [List.sum_eq_foldl]

/-! ## Release from reset (R99) -/

/-- A lane that leaves reset loads with a valid key of the next generation, wherever the key came from (R82, R99). -/
theorem releaseLane_loading (l : LaneId) (s : State) :
    ((releaseLane l s).lane l).state = .loading ∧ ((releaseLane l s).lane l).keyValid = true ∧
      ((releaseLane l s).lane l).keyGen = (s.lane l).keyGen + 1 := by
  unfold releaseLane
  dsimp only
  generalize (ite (s.trust.rngOk = true) (drawRandom 16 s) _) = drawn
  rw [State.lane_modLane]
  exact ⟨rfl, rfl, rfl⟩

end Sys2Proof.Machine

end

section

open Sys2Proof Sys2Proof.Machine

/-- Settles O17: each self-test by its pass and its failure, the admission by its fold over the ready lanes. -/
theorem selfTestsAndAdmission : Obligations.SelfTestsAndAdmission := by
  unfold Obligations.SelfTestsAndAdmission
  refine ⟨fun s l found tmo ho hl => ⟨fun hp => ?pass, fun hp => ?fail⟩, fun s ok ho hm hn => ?voter, fun s ho hm hw => ?wait,
    fun s ho hm hc hd hf hn hw => ?admission, fun s l ho hoff hrec hheld hidle => ?release⟩
  case pass =>
    exact ho.completes (f := pairSelfTest l found tmo) rfl (pairSelfTest_pass hl ((selfTestPasses_iff found tmo).mpr hp))
  case fail =>
    exact ho.completes (f := pairSelfTest l found tmo) rfl (pairSelfTest_fail hl (fun h => hp ((selfTestPasses_iff found tmo).mp h)))
  case voter =>
    refine ho.completes (f := voterSelfTest ok) rfl ?_
    obtain ⟨regs, hu⟩ := voterSelfTest_noted (ok := ok) hm hn
    rw [hu]
    by_cases hok : ok = 15
    · subst hok
      exact ⟨rfl, rfl, hm, rfl, sameBut_voterTested 15 regs s⟩
    · rw [if_neg hok, if_neg hok, rep_vot]
      exact ⟨rfl, rfl, hm, bne_iff_ne.mpr hok, (rep_reported 0x0C09 _ (by decide)).of_flt rfl⟩
  case wait =>
    refine ho.completes rfl ?_
    rw [onlyIf_true (by simp [hm, hw])]
    exact ⟨rfl, sameBut_vot s _⟩
  case admission => exact ho.completes (f := laneAdmission) rfl (laneAdmission_admits hm hc hd hf hn hw)
  case release =>
    refine ho.completes rfl ?_
    rw [onlyIf_true (by simp [hoff, hrec, hheld, hidle])]
    exact releaseLane_loading l s

end

/-! # Votes: arrivals, windows and absent lanes (R107 to R121)

What an arriving proposal, a closing window and an absent lane leave, and the two statements about them. -/

section

namespace Sys2Proof.Machine

/-! ## Arrivals (R107 to R112) -/

/-- The module once the oldest proposal of a lane has left it for the voter. -/
def takeProposal (l : LaneId) (rest : List Proposal) (s : State) : State := s.modLane l (fun L => { L with handed := rest })

theorem takeProposal_lane (l : LaneId) (rest : List Proposal) (s : State) :
    (takeProposal l rest s).lane l = { s.lane l with handed := rest } := State.lane_modLane s l _

theorem takeProposal_sameBut (l : LaneId) (rest : List Proposal) (s : State) : SameBut [.lanes] s (takeProposal l rest s) :=
  sameBut_modLane (fun _ => rfl)

/-- PROPOSAL_ARRIVAL takes the oldest proposal a lane has handed over to the voter. -/
theorem Operational.completes_arrival {s : State} {l : LaneId} {p : Proposal} {rest : List Proposal} {P : State → Prop} (ho : Operational s)
    (hh : (s.lane l).handed = p :: rest) (hp : P (arrival l p (takeProposal l rest s))) : Completes (.proposalArrival l) s P := by
  refine ⟨_, ?_, hp⟩
  show execProposalArrival l s = _
  rw [execProposalArrival, act_next ho, hh]
  rfl

/-- A proposal takes part in a vote: the voter operates, the target is voted and the lane counts for the key (R107, R108, R121). -/
structure TakesPart (s : State) (l : LaneId) (p : Proposal) : Prop where
  operates : s.vot.mode ≠ .safe
  voted : writeTarget s l p.acc = .voted
  counts : countedFor s l p.key = true

/-- Leaving its lane changes nothing that says whether a proposal takes part. -/
theorem TakesPart.taken {s : State} {l : LaneId} {p : Proposal} (h : TakesPart s l p) (rest : List Proposal) :
    TakesPart (takeProposal l rest s) l p := ⟨h.operates, h.voted, h.counts⟩

theorem arrival_opens {s : State} {l : LaneId} {p : Proposal} (h : TakesPart s l p)
    (hv : s.vot.votes.find? (fun v => v.key == p.key) = none) : arrival l p s = openVote l p s := by
  simp [arrival, h.operates, h.voted, h.counts, hv]

theorem arrival_joinsAgreed {s : State} {l : LaneId} {p : Proposal} {v : Vote} {c : Access} (h : TakesPart s l p)
    (hv : s.vot.votes.find? (fun v => v.key == p.key) = some v) (ha : v.agreed = some c) : arrival l p s = joinAgreed l v p.acc c s := by
  simp [arrival, h.operates, h.voted, h.counts, hv, ha]

theorem arrival_joinsOpen {s : State} {l : LaneId} {p : Proposal} {v : Vote} (h : TakesPart s l p)
    (hv : s.vot.votes.find? (fun v => v.key == p.key) = some v) (ha : v.agreed = none) : arrival l p s = joinOpen l v p.acc s := by
  simp [arrival, h.operates, h.voted, h.counts, hv, ha]

theorem arrival_forbidden {s : State} {l : LaneId} {p : Proposal} (hm : s.vot.mode ≠ .safe) (ht : writeTarget s l p.acc = .forbidden) :
    arrival l p s = forbidWrite l p s := by
  rw [arrival, if_neg hm, ht]

theorem arrival_safe {s : State} (h : s.vot.mode = .safe) (l : LaneId) (p : Proposal) : arrival l p s = s := if_pos h

/-! ## The table of votes (R110, R112) -/

theorem openVote_room {s : State} (h : s.vot.votes.length < 512) (l : LaneId) (p : Proposal) :
    ∃ n, openVote l p s =
      { s with vot := { s.vot with votes := s.vot.votes ++ [{ key := p.key, props := [(l.val, p.acc)] }], peak := n } } :=
  ⟨_, if_pos h⟩

theorem putVote_sameBut (v : Vote) (s : State) : SameBut [.vot] s (putVote v s) := sameBut_vot s _

theorem commitVotes_idle {s : State} (h : readyVote s = none) (n : Nat) : commitVotes n s = s := by
  cases n with
  | zero => rfl
  | succ n => rw [commitVotes, h]

/-- With no vote in the table nothing commits. -/
theorem settleVotes_empty {s : State} (h : s.vot.votes = []) : settleVotes s = sweepVotes s := by
  rw [settleVotes, commitVotes_idle]
  rw [readyVote, h, List.find?_nil]

/-- The module with a vote of the table noted as committed. -/
def noteCommitted (v : Vote) (s : State) : State :=
  { s with vot := { s.vot with votes := s.vot.votes.map (fun w => if w.key = v.key then { w with committed := true } else w) } }

theorem noteCommitted_only {s : State} {v : Vote} (h : s.vot.votes = [v]) : (noteCommitted v s).vot.votes = [{ v with committed := true }] := by
  simp [noteCommitted, h]

theorem commitVotes_ready {s : State} {v : Vote} {a : Access} (hr : readyVote s = some v) (ha : v.agreed = some a) (n : Nat) :
    commitVotes (n + 1) s = commitVotes n (commitAccess a (markDone v.key (noteCommitted v s))) := by
  rw [commitVotes, hr]
  dsimp only
  rw [ha]
  rfl

/-- The only vote, of a runtime key and agreed, commits: its content takes effect once (R112). -/
theorem settleVotes_runtime {s : State} {v : Vote} {n : Nat} {a : Access} (hs : s.vot.votes = [v]) (hk : v.key = .runtime n)
    (ha : v.agreed = some a) (hc : v.committed = false) : settleVotes s = sweepVotes (commitAccess a (noteCommitted v s)) := by
  have hready : readyVote s = some v := by simp [readyVote, hs, hk, ha, hc, inOrder]
  have hdone : readyVote (commitAccess a (noteCommitted v s)) = none := by simp [readyVote, noteCommitted_only hs]
  rw [settleVotes, hs, List.length_singleton, commitVotes_ready hready ha, hk]
  exact congrArg sweepVotes (commitVotes_idle hdone 1)

/-- Committed content of exchange memory outside the submission queues writes its enabled bytes and nothing else (R112, R148). -/
theorem commitAccess_exchange {a : Access} {s : State} (he : inExchange a.addr = true) (hs : slotAt s (offsetOf a.addr) = none) :
    commitAccess a s = { s with
      mem := memWrites s.mem ((a.data.zipIdx.filter (fun b => a.be.getLsbD b.2)).map (fun b => (offsetOf a.addr + b.2, b.1))) } := by
  rw [commitAccess, if_pos he, ownMemWrite, hs]

/-! ## Joining a vote (R112, R115, R118) -/

/-- The vote that a lane's proposal has brought to agreement. -/
def Vote.agreedBy (v : Vote) (l : LaneId) (a : Access) : Vote := { v with props := v.props ++ [(l.val, a)], agreed := some a }

/-- Where every earlier proposal is the same and one is another lane's, the vote commits and expels no lane. -/
theorem joinOpen_agrees {l : LaneId} {v : Vote} {a : Access} (h : v.props.any (fun p => p.2 == a && p.1 != l.val) = true)
    (hall : ∀ p ∈ v.props, p.2 = a) (s : State) : joinOpen l v a s = settleVotes (putVote (v.agreedBy l a) s) := by
  have hnone : dissenters (v.agreedBy l a) a = [] := by
    rw [dissenters, List.map_eq_nil_iff, List.filter_eq_nil_iff]
    intro p hp
    rcases List.mem_append.mp hp with hp | hp
    · simp [hall p hp]
    · simp [List.mem_singleton.mp hp]
  rw [joinOpen]
  dsimp only
  rw [if_pos h]
  show (dissenters (v.agreedBy l a) a).foldl _ (settleVotes (putVote (v.agreedBy l a) s)) = _
  rw [hnone, List.foldl_nil]

@[simp] theorem sweepVotes_lane (s : State) (l : LaneId) : (sweepVotes s).lane l = s.lane l := rfl

@[simp] theorem sweepVotes_votLanes (s : State) : (sweepVotes s).vot.lanes = s.vot.lanes := rfl

/-- Tidying the table leaves every count of the reports. -/
theorem Reported.swept {code : Nat} {s u : State} (h : Reported code s u) : Reported code s (sweepVotes u) := h

/-- A lane expelled from a vote is in SAFE and its class reported, with the table tidied afterwards (R115, R118). -/
theorem sweepVotes_expelLane {code : Nat} {l : LaneId} {s : State} (hl : (s.lane l).state.live = true) (hc : otherClass code = true)
    (kind : Nat) (k : PropKey) (addr : Nat) :
    ((sweepVotes (expelLane kind code l k addr s)).lane l).state = .safe ∧
      Reported code s (sweepVotes (expelLane kind code l k addr s)) := by
  obtain ⟨hsafe, hrep⟩ := expelLane_safe kind code l k addr s hl hc
  rw [sweepVotes_lane]
  exact ⟨hsafe, hrep.swept⟩

/-- An arrival of other content than agreed on takes its lane to SAFE and reports the dissent class (R115). -/
theorem joinAgreed_dissents {l : LaneId} {v : Vote} {a c : Access} {s : State} (h : a ≠ c) (hl : (s.lane l).state.live = true) :
    ((joinAgreed l v a c s).lane l).state = .safe ∧ Reported 0x0C02 s (joinAgreed l v a c s) := by
  rw [joinAgreed, if_neg h]
  have hput : ((putVote { v with props := v.props ++ [(l.val, a)] } s).lane l).state.live = true := hl
  exact And.imp_right (fun hrep => hrep.of_flt rfl) (sweepVotes_expelLane hput (by decide) 2 v.key c.addr)

theorem voteEvent_votLanes (kind : Nat) (l : LaneId) (k : PropKey) (addr : Nat) (s : State) :
    (voteEvent kind l k addr s).vot.lanes = s.vot.lanes := by
  cases k <;> rfl

/-- An arrival of the agreed content after the window closed counts as late and reports its class (R118). -/
theorem joinAgreed_late {l : LaneId} {v : Vote} (h : v.closed = true) (c : Access) (s : State) :
    (vget (joinAgreed l v c c s).vot.lanes l).lateCnt = (vget s.vot.lanes l).lateCnt + 1 ∧ Reported 0x0C01 s (joinAgreed l v c c s) := by
  rw [joinAgreed, if_pos rfl, if_pos h]
  refine ⟨?_, ((rep_reported 0x0C01 _ (by decide)).of_flt (by rw [voteEvent_flt]; rfl)).swept⟩
  rw [sweepVotes_votLanes, rep_vot, voteEvent_votLanes, State.modVot, vget_vmod_self]
  rfl

theorem putVote_only {s : State} {v w : Vote} (h : s.vot.votes = [v]) (hk : v.key = w.key) : (putVote w s).vot.votes = [w] := by
  simp [putVote, h, hk]

/-- A second lane's equal proposal in the only vote, of a runtime key, commits it: of memory and registers exactly the enabled bytes are
written, and no vote is left that has not committed (R112). -/
theorem joinOpen_commits {s : State} {l m : LaneId} {v : Vote} {n : Nat} {a : Access} (hs : s.vot.votes = [v]) (hk : v.key = .runtime n)
    (hp : v.props = [(m.val, a)]) (hc : v.committed = false) (hml : m ≠ l) (he : inExchange a.addr = true)
    (hq : slotAt s (offsetOf a.addr) = none) :
    let u := joinOpen l v a s
    u.mem = memWrites s.mem ((a.data.zipIdx.filter (fun b => a.be.getLsbD b.2)).map (fun b => (offsetOf a.addr + b.2, b.1))) ∧
      (∀ w ∈ u.vot.votes, w.committed = true) ∧ u.regs = s.regs := by
  have hany : v.props.any (fun p => p.2 == a && p.1 != l.val) = true := by simp [hp, Fin.val_ne_of_ne hml]
  have honly : (putVote (v.agreedBy l a) s).vot.votes = [v.agreedBy l a] := putVote_only hs rfl
  have hslot : slotAt (noteCommitted (v.agreedBy l a) (putVote (v.agreedBy l a) s)) (offsetOf a.addr) = none := hq
  dsimp only
  rw [joinOpen_agrees hany (by simp [hp]), settleVotes_runtime honly hk rfl hc, commitAccess_exchange he hslot]
  refine ⟨rfl, fun w hw => ?_, rfl⟩
  have hw : w ∈ (noteCommitted (v.agreedBy l a) (putVote (v.agreedBy l a) s)).vot.votes := (List.mem_filter.mp hw).1
  rw [noteCommitted_only honly, List.mem_singleton] at hw
  rw [hw]

/-! ## Forbidden targets (R108) -/

theorem markDone_votes (k : PropKey) (s : State) : (markDone k s).vot.votes = s.vot.votes := by
  cases k <;> rfl

theorem voteEvent_votes (kind : Nat) (l : LaneId) (k : PropKey) (addr : Nat) (s : State) :
    (voteEvent kind l k addr s).vot.votes = s.vot.votes := by
  cases k <;> rfl

/-- With no vote open, a write to a forbidden target is reported and commits nothing (R108). -/
theorem forbidWrite_reports {s : State} (h : s.vot.votes = []) (l : LaneId) (p : Proposal) :
    Reported 0x0C06 s (forbidWrite l p s) ∧ (forbidWrite l p s).mem = s.mem ∧ (forbidWrite l p s).regs = s.regs := by
  have hempty : (rep 0x0C06 (voteEvent 5 l p.key p.acc.addr (markDone p.key s))).vot.votes = [] := by
    rw [rep_vot, voteEvent_votes, markDone_votes, h]
  rw [forbidWrite, settleVotes_empty hempty]
  exact ⟨((rep_reported 0x0C06 _ (by decide)).of_flt (by simp)).swept, by simp, by simp⟩

/-! ## Windows and absent lanes (R116 to R121) -/

theorem voteEvent_mode (kind : Nat) (l : LaneId) (k : PropKey) (addr : Nat) (s : State) :
    (voteEvent kind l k addr s).vot.mode = s.vot.mode := by
  cases k <;> rfl

/-- A vote without majority is the module fault (R116, R117, R121). -/
theorem noMajority_stops {s : State} (h : s.vot.mode ≠ .safe) (l : LaneId) (k : PropKey) (addr : Nat) :
    (noMajority l k addr s).votStop = (.safe, true, 0, []) ∧ Reported 0x0C04 s (noMajority l k addr s) := by
  have hmode : (voteEvent 4 l k addr s).vot.mode ≠ .safe := by rwa [voteEvent_mode]
  exact And.imp_right (fun hrep => hrep.of_flt (voteEvent_flt 4 l k addr s)) (moduleFault_stops false _ hmode)

theorem closeWindow_unagreed {s : State} {k : PropKey} {v : Vote} (hv : s.vot.votes.find? (fun v => v.key == k) = some v)
    (ha : v.agreed = none) (hc : v.closed = false) (hp : v.props ≠ []) : ∃ l addr, closeWindow k s = noMajority l k addr s := by
  refine ⟨Fin.ofNat 3 (v.props.getLast hp).1, (v.props.getLast hp).2.addr, ?_⟩
  simp [closeWindow, hv, ha, hc, List.getLast?_eq_some_getLast hp]

theorem closeWindow_agreed {s : State} {k : PropKey} {v : Vote} (hv : s.vot.votes.find? (fun v => v.key == k) = some v)
    (ha : v.agreed.isSome = true) (hc : v.closed = false) : closeWindow k s = putVote { v with closed := true } s := by
  simp [closeWindow, hv, ha, hc]

/-- A counted lane that has not proposed in an agreed vote whose window closed goes to SAFE, and its class is reported (R118, R119). -/
theorem absentLane_expels {s : State} {k : PropKey} {v : Vote} {l : LaneId} (hv : s.vot.votes.find? (fun v => v.key == k) = some v)
    (ha : v.agreed.isSome = true) (hc : v.closed = true) (hn : countedFor s l k = true) (hp : v.props.any (fun p => p.1 == l.val) = false)
    (hl : (s.lane l).state.live = true) :
    ((absentLane k l s).lane l).state = .safe ∧ Reported 0x0C03 s (absentLane k l s) := by
  have heq : absentLane k l s = sweepVotes (expelLane 3 0x0C03 l k ((v.agreed.map Access.addr).getD 0) s) := by
    rw [absentLane, hv]
    exact if_pos (by simp only [ha, hc, hn, hp, Bool.not_false, Bool.and_self])
  rw [heq]
  exact sweepVotes_expelLane hl (by decide) 3 k _

end Sys2Proof.Machine

end

section

open Sys2Proof Sys2Proof.Machine

/-- Settles O13: the oldest proposal leaves its lane, and each clause is one outcome of `arrival` for it. -/
theorem votesOpenAgreeAndCommit : Obligations.VotesOpenAgreeAndCommit := by
  unfold Obligations.VotesOpenAgreeAndCommit
  intro s l p rest ho hh
  refine ⟨fun hm ht hc hv hn => ?opens, fun m n hm ht hk hc hml hs he hq => ?commits, fun v c hm ht hc hv ha => ⟨fun hne hl => ?dissents,
    fun heq hcl => ?late⟩, fun hm hs ht => ?forbidden, fun hm => ?safe⟩
  all_goals refine ho.completes_arrival hh ?_
  case opens =>
    rw [arrival_opens (TakesPart.mk hm ht hc |>.taken rest) hv]
    obtain ⟨peak, hu⟩ := openVote_room (s := takeProposal l rest s) hn l p
    rw [hu]
    refine ⟨rfl, congrArg Lane.handed (takeProposal_lane l rest s), ?_⟩
    exact ((takeProposal_sameBut l rest s).mono (by simp)).trans ((sameBut_vot _ _).mono (by simp))
  case commits =>
    rw [arrival_joinsOpen (TakesPart.mk hm ht hc |>.taken rest) (v := { key := p.key, props := [(m.val, p.acc)] }) ?found rfl]
    case found => simp [takeProposal, State.modLane, hs]
    exact joinOpen_commits hs hk rfl rfl hml he hq
  case dissents =>
    rw [arrival_joinsAgreed (TakesPart.mk hm ht hc |>.taken rest) hv ha]
    have hlive : ((takeProposal l rest s).lane l).state.live = true := by rwa [takeProposal_lane]
    exact And.imp_right (fun hrep => hrep.of_flt rfl) (joinAgreed_dissents hne hlive)
  case late =>
    rw [arrival_joinsAgreed (TakesPart.mk hm ht hc |>.taken rest) hv ha, heq]
    exact And.imp_right (fun hrep => hrep.of_flt rfl) (joinAgreed_late hcl c (takeProposal l rest s))
  case forbidden =>
    rw [arrival_forbidden (s := takeProposal l rest s) hm ht]
    exact And.imp_left (fun hrep => hrep.of_flt rfl) (forbidWrite_reports (s := takeProposal l rest s) hs l p)
  case safe =>
    rw [arrival_safe (s := takeProposal l rest s) hm]
    exact ⟨rfl, rfl, rfl⟩

/-- Settles O14: a closing window by whether its vote has agreed content, the absent lane by `absentLane_expels`. -/
theorem voteWindowsAndAbsence : Obligations.VoteWindowsAndAbsence := by
  unfold Obligations.VoteWindowsAndAbsence
  intro s k v ho hv
  refine ⟨fun ha hc hp hm => ?unagreed, fun ha hc => ?agreed, fun l ha hc hn hp hl => ?absent⟩
  case unagreed =>
    refine ho.completes (f := closeWindow k) rfl ?_
    obtain ⟨l, addr, hu⟩ := closeWindow_unagreed hv ha hc hp
    obtain ⟨hstop, hrep⟩ := noMajority_stops hm l k addr
    simp only [State.votStop, Prod.mk.injEq] at hstop
    obtain ⟨hmode, hfault, hcounted, hvotes⟩ := hstop
    rw [hu]
    exact ⟨hmode, hfault, hcounted, hvotes, hrep⟩
  case agreed =>
    refine ho.completes (f := closeWindow k) rfl ?_
    rw [closeWindow_agreed hv ha hc]
    exact ⟨rfl, putVote_sameBut _ s⟩
  case absent => exact ho.completes (f := absentLane k l) rfl (absentLane_expels hv ha hc hn hp hl)

end

section

namespace Sys2Proof.Machine

/-- The write of one byte to exchange memory that two lanes propose in `storing`. -/
def proposedStore : Access := ⟨exchangeBase + 8, .write, [5], 1⟩

/-- A dual module whose lane 1 has handed over a write to a voted area, after lane 0 proposed the same. -/
def storing : State :=
  { State.reset with
    pwr := { State.reset.pwr with held := false, pstate := .operational },
    cfg := { State.reset.cfg with cyc := { State.reset.cfg.cyc with areas := [⟨0, 64, .voted⟩] } },
    vot := { State.reset.vot with mode := .dual, counted := 3, votes := [{ key := .runtime 0, props := [(0, proposedStore)] }] },
    lanes := Vector.replicate 3 { ({} : Lane) with state := .running, handed := [⟨.runtime 0, proposedStore⟩] } }

/-- The clause of an agreement on exchange memory has a state that meets it, and there the byte is written. -/
theorem storing_commits : Completes (.proposalArrival 1) storing (fun u => u.mem = memWrites [] [(8, 5)]) := by
  obtain ⟨-, hcommits, -⟩ := votesOpenAgreeAndCommit storing 1 ⟨.runtime 0, proposedStore⟩ [] ⟨rfl, Or.inl rfl⟩ rfl
  obtain ⟨u, hu, hmem, -⟩ := hcommits 0 0 (by decide) (by decide) rfl (by decide) (by decide) rfl (by decide) (by decide)
  exact ⟨u, hu, hmem⟩

end Sys2Proof.Machine

end

/-! # Failed attempts of re-integration (R135, R136)

What a failed attempt leaves of its lane, with and without the hold-out, and the statement about it. -/

section

namespace Sys2Proof.Machine

/-- The voter's view of a lane once the failure of its attempt has been recorded at a module time (R135, R136). -/
def VotLane.recordFail (now : Nat) (v : VotLane) : VotLane :=
  { v with fails := v.fails ++ [now], since := now, joinedAt := none, vstate := .absent }

/-- The module once a lane's failed attempt has been recorded and, where the lane is the target, ended (R135). -/
def endAttempt (l : LaneId) (s : State) : State :=
  (s.modVot l (VotLane.recordFail s.tim.now)).modReint
    (fun r => if r.target = l then { r with phase := .idle, joined := 0, finalTask := none, finalDone := 0 } else r)

/-- The module once a lane is held out: the lane is OFF and keeps its key generation and its MRAM (R136). -/
def holdOut (l : LaneId) (s : State) : State :=
  (s.modVot l (fun v => { v with heldOut := true, vstate := .heldOut })).modLane l
    (fun L => { ({} : Lane) with keyGen := L.keyGen, mram := L.mram, mot := { waitCopy := true } })

theorem endAttempt_votLane (l : LaneId) (s : State) :
    vget (endAttempt l s).vot.lanes l = (vget s.vot.lanes l).recordFail s.tim.now := vget_vmod_self s.vot.lanes l _

theorem endAttempt_phase {l : LaneId} {s : State} (h : s.vot.reint.target = l) : (endAttempt l s).vot.reint.phase = .idle := by
  rw [endAttempt, State.modReint_reint]
  exact congrArg Reint.phase (if_pos h)

theorem holdOut_votLane (l : LaneId) (s : State) :
    vget (holdOut l s).vot.lanes l = { vget s.vot.lanes l with heldOut := true, vstate := .heldOut } := vget_vmod_self s.vot.lanes l _

theorem holdOut_reint (l : LaneId) (s : State) : (holdOut l s).vot.reint = s.vot.reint := rfl

theorem holdOut_laneState (l : LaneId) (s : State) : ((holdOut l s).lane l).state = .off :=
  congrArg Lane.state (State.lane_modLane _ l _)

/-- The failure just recorded is one more of the last 86 400 s (R136). -/
theorem recentFails_endAttempt (l : LaneId) (s : State) :
    recentFails (rep 0x0C0A (endAttempt l s)) l =
      ((vget s.vot.lanes l).fails.filter (fun t => s.tim.now - t < 86400 * secUnits)).length + 1 := by
  have htim : (rep 0x0C0A (endAttempt l s)).tim = s.tim := by simp [endAttempt]
  rw [recentFails, rep_vot, htim, endAttempt_votLane, VotLane.recordFail, List.filter_append, List.length_append]
  simp [secUnits, nsUnits]

theorem reintFailed_unfailed {l : LaneId} {timeout : Bool} {s : State} (h : attemptFailed s l timeout = false) :
    reintFailed l timeout s = s := if_neg (ne_true_of_eq_false h)

/-- A third failure within 86 400 s holds the lane out (R136). -/
theorem reintFailed_third {l : LaneId} {timeout : Bool} {s : State} (h : attemptFailed s l timeout = true)
    (h3 : 3 ≤ recentFails (rep 0x0C0A (endAttempt l s)) l) :
    reintFailed l timeout s = rep 0x0C0C (holdOut l (rep 0x0C0A (endAttempt l s))) := by
  rw [reintFailed, if_pos h]
  exact if_pos h3

theorem reintFailed_earlier {l : LaneId} {timeout : Bool} {s : State} (h : attemptFailed s l timeout = true)
    (h3 : ¬ 3 ≤ recentFails (rep 0x0C0A (endAttempt l s)) l) : reintFailed l timeout s = rep 0x0C0A (endAttempt l s) := by
  rw [reintFailed, if_pos h]
  exact if_neg h3

theorem endAttempt_reported (l : LaneId) (s : State) : Reported 0x0C0A s (rep 0x0C0A (endAttempt l s)) :=
  (rep_reported 0x0C0A _ (by decide)).of_flt rfl

/-- The hold-out is reported besides the failed attempt (R136). -/
theorem holdOut_reported (l : LaneId) (s : State) :
    let u := rep 0x0C0C (holdOut l (rep 0x0C0A (endAttempt l s)))
    Reported 0x0C0A s u ∧ Reported 0x0C0C s u :=
  ⟨(endAttempt_reported l s).then_cls (rep_cls_other 0x0C0C 0x0C0A (holdOut l _) (by decide) (by decide)),
    (rep_reported 0x0C0C _ (by decide)).of_cls (rep_cls_other 0x0C0A 0x0C0C (endAttempt l s) (by decide) (by decide))⟩

end Sys2Proof.Machine

end

section

open Sys2Proof Sys2Proof.Machine

/-- Settles O16: the failure ends the attempt in either case, and the third of the last 86 400 s holds the lane out besides. -/
theorem reintegrationFails : Obligations.ReintegrationFails := by
  unfold Obligations.ReintegrationFails
  intro s l timeout ho
  refine ⟨fun hf ht => ?failed, fun hf => ho.completes (f := reintFailed l timeout) rfl (reintFailed_unfailed hf)⟩
  refine ho.completes (f := reintFailed l timeout) rfl ?_
  rw [← recentFails_endAttempt]
  split
  next h3 =>
    obtain ⟨hfail, hheld⟩ := holdOut_reported l s
    rw [reintFailed_third hf h3, rep_vot, holdOut_votLane, holdOut_reint, rep_vot, endAttempt_votLane]
    exact ⟨endAttempt_phase ht, rfl, hfail, rfl, by rw [rep_lane, Lane.raise_state, holdOut_laneState], hheld⟩
  next h3 =>
    rw [reintFailed_earlier hf h3, rep_vot, endAttempt_votLane]
    exact ⟨endAttempt_phase ht, rfl, endAttempt_reported l s, rfl, rfl⟩

end

/-! # Firmware, program control, lane release, online change and user calibration (R136, R175, R176, R199, R498, R499, R505, R507)

What each accepted command of Utmus leaves, and the statement about them. -/

section

namespace Sys2Proof.Machine

/-! ## Commands that are carried out (R509) -/

theorem sameBut_trust (s : State) (x : Trust) : SameBut [.trust] s { s with trust := x } := by
  intro p hp
  cases p <;> simp_all [Part.same, State.lane]

/-- Taking a request's REQ_SEQ changes the session alone (R510). -/
theorem seqTaken_sameBut (q : UtmusReq) (s : State) : SameBut [.trust] s (seqTaken q s) := sameBut_trust s _

theorem responded_trust (cmd : Nat) (q : UtmusReq) (session : BitVec 32) (r : Reply) :
    (responded cmd q session r).trust = { r.st.trust with response := responseBytes cmd q session r } := rfl

theorem responded_tim (cmd : Nat) (q : UtmusReq) (session : BitVec 32) (r : Reply) : (responded cmd q session r).tim = r.st.tim := rfl

/-- What a command keeps that is carried out after its REQ_SEQ was taken, its response keeps too. -/
theorem SameBut.then_responded {ps : List Part} {q : UtmusReq} {s v : State} (h : SameBut ps (seqTaken q s) v) (hp : .trust ∈ ps) (cmd : Nat)
    (body : List Byte) : SameBut ps s (responded cmd q q.session ⟨0, body, v⟩) :=
  have hm : ∀ p ∈ [Part.trust], p ∈ ps := List.forall_mem_singleton.mpr hp
  (((seqTaken_sameBut q s).mono hm).trans h).trans ((sameBut_responded cmd q q.session ⟨0, body, v⟩).mono hm)

/-- An accepted request whose command is carried out is answered with status 0 (R509). -/
theorem Accepted.completes {i : Instr} {f : State → Reply} {cmd : Nat} {perm : Option Nat} {q : UtmusReq} {s v : State} {P : State → Prop}
    (ha : Accepted cmd perm 0 q s) (he : exec i s = act (utmus cmd perm q f) s) (hf : f (seqTaken q s) = ⟨0, [], v⟩)
    (hp : P (responded cmd q q.session ⟨0, [], v⟩)) : Completes i s (fun u => Answered u cmd q 0 [] ∧ P u) := by
  refine ha.1.completes he ?_
  rw [utmus_done f ha hf]
  exact ⟨responded_answered cmd q ⟨0, [], v⟩, hp⟩

/-! ## Firmware (R498, R499) -/

theorem fwInstall_installs {q : UtmusReq} {s : State} {c : List Byte} (hn : q.param 0x30 < 2) (hs : s.trust.staged = some c)
    (hr : runsBank s (q.param 0x30 == 1) = false) (ht : s.trust.trial ≠ some (q.param 0x30 == 1)) (hc : containerReason s c = 0) :
    fwInstall q s =
      ⟨0, [], { s with trust := { s.trust with banks := vset s.trust.banks (Fin.ofNat 2 (q.param 0x30)) (some c) } }⟩ := by
  simp [fwInstall, Nat.not_le.mpr hn, hs, hr, ht, hc]

/-- The module with a bank set on trial, before the software reset of FW_TRIAL (R498). -/
def setOnTrial (b : Bool) (s : State) : State := rep 0x4803 { s with trust := { s.trust with trial := some b, trialLeft := 3 } }

theorem fwTrial_sets {s : State} {b : Bool} (ho : s.cls.outEn = false) (hb : trialBank s = some b) :
    fwTrial s = ⟨0, [], softwareReset 3 (setOnTrial b s)⟩ := by
  simp [fwTrial, outputsOn, ho, hb, setOnTrial]

/-- The software reset of FW_TRIAL counts the trial down to 2 and leaves module time running on (R498, R529). -/
theorem setOnTrial_reset (b : Bool) (s : State) :
    let u := softwareReset 3 (setOnTrial b s)
    u.trust.trial = some b ∧ u.trust.trialLeft = 2 ∧ u.tim.now = s.tim.now := by
  have htrial := softwareReset_trial 3 (setOnTrial b s) b 1 (by simp [setOnTrial]) (by simp [setOnTrial]) (by decide)
  exact ⟨htrial.1, htrial.2, (softwareReset_tim 3 _).1.trans (by simp [setOnTrial])⟩

theorem completeCommit_commit (s : State) : (completeCommit s).trust.commit = none := by
  unfold completeCommit
  split
  next h => exact h
  next =>
    unfold advanceSvn
    split
    · rw [rep_trust]
    · rfl

/-- The module with the running bank preferred and its trial over, before the counter fuses advance (R499). -/
def preferRunning (s : State) : State :=
  rep 0x4804 { s with trust := { s.trust with
    pref := s.trust.bankB, trial := none, trialLeft := 0, commit := some (contSvn (bankCont s s.trust.bankB)) } }

theorem fwCommit_commits {s : State} (ht : s.trust.trial = some s.trust.bankB) (hs : s.trust.started = true)
    (hr : s.trust.recovery = false) : fwCommit s = ⟨0, [], completeCommit (preferRunning s)⟩ := by
  simp [fwCommit, ht, hs, hr, preferRunning]

theorem preferRunning_committed (s : State) :
    let u := completeCommit (preferRunning s)
    u.trust.pref = s.trust.bankB ∧ u.trust.trial = none ∧ u.trust.commit = none := by
  obtain ⟨hstore, htrial⟩ := completeCommit_store (preferRunning s)
  simp only [KeepsStore, KeepsTrial] at hstore htrial
  obtain ⟨-, -, -, -, -, -, -, -, hpref, -⟩ := hstore
  exact ⟨hpref.trans (by simp [preferRunning]), htrial.1.trans (by simp [preferRunning]), completeCommit_commit _⟩

theorem fwRollback_ends {s : State} (ho : s.cls.outEn = false) (ht : s.trust.trial.isSome = true) :
    fwRollback s = ⟨0, [], softwareReset 4 (endTrial s)⟩ := by
  obtain ⟨b, hb⟩ := Option.isSome_iff_exists.mp ht
  simp [fwRollback, outputsOn, ho, hb]

theorem endTrial_reset (s : State) :
    (softwareReset 4 (endTrial s)).trust.trial = none ∧ (softwareReset 4 (endTrial s)).tim.now = s.tim.now :=
  ⟨softwareReset_noTrial 4 _ (by simp [endTrial]), (softwareReset_tim 4 _).1.trans (by simp)⟩

/-! ## Program and lanes (R136, R175, R176, R199) -/

theorem stopProgram_prog (s : State) : (stopProgram s).cyc.prog = .stopped := by
  unfold stopProgram
  split
  next h => exact h
  next =>
    dsimp only
    rw [foldl_cyc _ (fun s r => by simp)]
    rfl

theorem haltProgram_prog (s : State) : (haltProgram s).cyc.prog = .stopped := by
  unfold haltProgram
  split
  next => exact stopProgram_prog s
  next =>
    have hcyc : ∀ u : State, (setRole .none u).cyc = u.cyc := fun u => by simp
    rw [hcyc]
    exact stopProgram_prog s

theorem laneRelease_releases {q : UtmusReq} {s : State} (hn : q.param 0x42 < 3)
    (hh : (vget s.vot.lanes (Fin.ofNat 3 (q.param 0x42))).heldOut = true) :
    laneRelease q s = ⟨0, [], s.modVot (Fin.ofNat 3 (q.param 0x42))
      (fun v => { v with heldOut := false, fails := [], vstate := .absent, since := s.tim.now })⟩ := by
  simp only [laneRelease, Nat.not_le.mpr hn, hh, Bool.not_true, Bool.false_eq_true, if_false]

theorem onlineChange_queues {q : UtmusReq} {s : State} {vs : List (Nat × Nat × Nat × Nat)} {ws : List ParamWrite}
    (hs : s.cyc.swap ≠ .convert) (hc : cfgActive s = true) (hq : quads (q.params 0x43) = some vs) (hne : vs ≠ []) (hlen : vs.length ≤ 16)
    (hw : changeWrites s vs = some ws) :
    onlineChange q s = ⟨0, [], { s with cyc := { s.cyc with changes := s.cyc.changes ++ ws } }⟩ := by
  simp [onlineChange, hs, hc, hq, hne, Nat.not_lt.mpr hlen, hw]

/-! ## User calibration (R505, R507) -/

/-- The write that an entry of UCAL_WRITE asks for: operation 1 stores the value, 2 erases (R505). -/
def ucalEntry (e : Nat × Nat × Nat × Nat) : UcalWrite := ⟨e.1, e.2.1, if e.2.2.1 = 1 then some e.2.2.2 else none, false⟩

theorem ucalWrite_queues {q : UtmusReq} {s : State} {es : List (Nat × Nat × Nat × Nat)} (hq : quads (q.params 0x44) = some es)
    (hne : es ≠ []) (hlen : es.length ≤ 64) (hes : ∀ e ∈ es, (e.2.2.1 = 1 ∨ e.2.2.1 = 2) ∧ ucalKeyOk e.1 e.2.1 = true) :
    ucalWrite q s = ⟨0, [], { s with trust := { s.trust with ucalQueue := s.trust.ucalQueue ++ es.map ucalEntry } }⟩ := by
  have hop : es.any (fun e => e.2.2.1 != 1 && e.2.2.1 != 2) = false := by
    rw [List.any_eq_false]
    intro e he
    rcases (hes e he).1 with h | h <;> simp [h]
  have hkey : es.any (fun e => !ucalKeyOk e.1 e.2.1) = false := by
    rw [List.any_eq_false]
    intro e he
    simp [(hes e he).2]
  rw [ucalWrite, hq]
  dsimp only
  rw [if_neg (by simp [hne, Nat.not_lt.mpr hlen, hop]), hkey]
  rfl

/-- The module with every waiting write ended and the user calibration erased (R507). -/
def eraseUcal (s : State) : State :=
  let s1 := s.trust.ucalQueue.foldl (fun s _ => ucalDone s) s
  rep 0x440A { s1 with trust := { s1.trust with ucal := [] } }

theorem restoreFactory_erases {s : State} (ho : s.cls.outEn = false) : restoreFactory s = ⟨0, [], eraseUcal s⟩ :=
  if_neg (ne_true_of_eq_false ho)

theorem eraseUcal_ucal (s : State) : (eraseUcal s).trust.ucal = [] := congrArg Trust.ucal (rep_trust 0x440A _)

end Sys2Proof.Machine

end

section

open Sys2Proof Sys2Proof.Machine

/-- Settles O28: each accepted request comes to its command, whose outcome under the clause's conditions is the lemma named for it. -/
theorem firmwareAndProgramCommands : Obligations.FirmwareAndProgramCommands := by
  unfold Obligations.FirmwareAndProgramCommands
  intro s q
  refine ⟨fun c ha hn hs hr ht hc => ?install, fun b ha ho hb => ?trial, fun ha ht hs hr => ?commit, fun ha ho ht => ?rollback,
    fun ha => ?stop, fun ha hs hc => ?start, fun ha hn hh => ?release, fun vs ws ha hs hc hq hne hlen hw => ?change,
    fun es ha hq hne hlen hes => ?calibrate, fun ha ho => ?restore⟩
  case install =>
    exact ha.completes rfl (fwInstall_installs (s := seqTaken q s) hn hs hr ht hc)
      ⟨vget_vset_self _ _ _, (sameBut_trust _ _).then_responded (by simp) _ _⟩
  case trial =>
    refine ha.completes rfl (fwTrial_sets (s := seqTaken q s) ho hb) ?_
    rw [responded_trust, responded_tim]
    exact setOnTrial_reset b (seqTaken q s)
  case commit =>
    refine ha.completes rfl (fwCommit_commits (s := seqTaken q s) ht hs hr) ?_
    rw [responded_trust]
    exact preferRunning_committed (seqTaken q s)
  case rollback =>
    refine ha.completes rfl (fwRollback_ends (s := seqTaken q s) ho ht) ?_
    rw [responded_trust, responded_tim]
    exact endTrial_reset (seqTaken q s)
  case stop => exact ha.completes rfl rfl ⟨haltProgram_prog (seqTaken q s), rfl⟩
  case start =>
    have hmay : (startConditions (seqTaken q s) && cfgActive (seqTaken q s)) = true := Bool.and_eq_true_iff.mpr ⟨hs, hc⟩
    exact ha.completes rfl (if_pos hmay) ⟨rfl, ((sameBut_cyc _ _).mono (by simp)).then_responded (by simp) _ _⟩
  case release =>
    refine ha.completes rfl (laneRelease_releases (s := seqTaken q s) hn hh) ?_
    have hlane := vget_vmod_self s.vot.lanes (Fin.ofNat 3 (q.param 0x42))
      (fun v => { v with heldOut := false, fails := [], vstate := .absent, since := s.tim.now })
    exact ⟨congrArg VotLane.heldOut hlane, congrArg VotLane.fails hlane, ((sameBut_modVot _ _ _).mono (by simp)).then_responded (by simp) _ _⟩
  case change =>
    exact ha.completes rfl (onlineChange_queues (s := seqTaken q s) hs hc hq hne hlen hw)
      ⟨rfl, ((sameBut_cyc _ _).mono (by simp)).then_responded (by simp) _ _⟩
  case calibrate =>
    exact ha.completes rfl (ucalWrite_queues (s := seqTaken q s) hq hne hlen hes) ⟨rfl, (sameBut_trust _ _).then_responded (by simp) _ _⟩
  case restore =>
    refine ha.completes rfl (restoreFactory_erases (s := seqTaken q s) ho) ?_
    rw [responded_trust]
    exact eraseUcal_ucal (seqTaken q s)

end

/-! # Joining through a checkpoint (R443, R453, R454)

What a copy round, a task's join and a failed attempt leave, and the statement about them. -/

section

namespace Sys2Proof.Machine

/-! ## Roles -/

theorem sameBut_cls (s : State) (x : Clasp) : SameBut [.cls] s { s with cls := x } := by
  intro p hp
  cases p <;> simp_all [Part.same, State.lane]

/-- An update of every lane that leaves its pending sources changes nothing outside the lanes. -/
theorem sameBut_modLanes {f : Lane → Lane} (h : ∀ L, (f L).irqPend = L.irqPend) (s : State) : SameBut [.lanes] s (s.modLanes f) := by
  intro p hp
  cases p <;> simp_all [Part.same]

/-- What a change of role makes of Clasp, but for the health score: the change is counted and the last role written (R444, R448). -/
def Clasp.enterRole (C : Clasp) (r : ClsRole) : Clasp := { C with role := r, lastRole := lastRoleAt r C.lastRole, roleCnt := C.roleCnt + 1 }

/-- Clasp with a health score and its deductions (R437). -/
def Clasp.withScore (C : Clasp) (score : BitVec 8) (deduct : BitVec 7) : Clasp := { C with score := score, deduct := deduct }

theorem computeHealth_cls (s : State) : (computeHealth s).cls = s.cls.withScore (BitVec.ofNat 8 (healthScore s)) (healthDeduct s) := rfl

theorem rep_clasp (code : Nat) (s : State) : (rep code s).cls = s.cls := by simp

/-- A change of role leaves of Clasp the role entered and a new health score (R437, R444). -/
theorem setRole_clasp {r : ClsRole} {s : State} (h : s.cls.role ≠ r) : ∃ x d, (setRole r s).cls = (s.cls.enterRole r).withScore x d := by
  have hset : setRole r s = computeHealth (rep 0x3C01 (raiseAll 3 { s with cls := s.cls.enterRole r })) := if_neg h
  have hrole : (rep 0x3C01 (raiseAll 3 { s with cls := s.cls.enterRole r })).cls = s.cls.enterRole r := by simp
  rw [hset, computeHealth_cls, hrole]
  exact ⟨_, _, rfl⟩

theorem setRole_sameBut (r : ClsRole) (s : State) : SameBut (.cls :: reportParts) s (setRole r s) := by
  intro p hp
  cases p <;> simp_all [Part.same, reportParts]

/-! ## Copy rounds (R129 to R131, R453) -/

/-- A round before the final ones is counted; the final rounds follow phase 2 once few enough marked lines began it (R130, R453). -/
def Clasp.countRound (C : Clasp) (began : Nat) : Clasp :=
  { C with phase := if began ≤ 65536 ∧ C.phase = 2 then 3 else 2, round := min 127 (C.round + 1) }

/-- A final round notes the run count of the task whose round has finished (R131, R453). -/
def Clasp.noteFinal (C : Clasp) : Option (TaskId × Nat) → Clasp
  | some (t, run) => { C with final := tset C.final t.val run }
  | none => C

theorem checkpointRound_outside {s : State} (h : s.cls.role ≠ .join) (ws : List (Nat × Byte)) (n : Nat) (f : Option (TaskId × Nat)) :
    checkpointRound ws n f s = s := if_neg h

/-- In JOIN a round's end copies its bytes and moves Clasp on. -/
theorem checkpointRound_join {s : State} (h : s.cls.role = .join) (ws : List (Nat × Byte)) (n : Nat) (f : Option (TaskId × Nat)) :
    checkpointRound ws n f s =
      { checkpointWrites ws s with cls := if s.cls.phase = 3 then s.cls.noteFinal f else s.cls.countRound n } := by
  have hcls : (checkpointWrites ws s).cls = s.cls := rfl
  rw [checkpointRound, if_pos h]
  dsimp only
  rw [hcls]
  split
  · cases f <;> rfl
  · rfl

/-- What a running lane makes of the copied bytes: both images are written, at covered lines (R453). -/
def Lane.copyBytes (ws : List (Nat × Byte)) (L : Lane) : Lane :=
  if L.state = .running then { L with cores := L.cores.map (fun c => c.writes (ws.filter (fun w => lineCovered (w.1 / 64)))) } else L

theorem checkpointWrites_modLanes (ws : List (Nat × Byte)) (s : State) : checkpointWrites ws s = s.modLanes (Lane.copyBytes ws) := rfl

theorem Lane.copyBytes_irqPend (ws : List (Nat × Byte)) (L : Lane) : (L.copyBytes ws).irqPend = L.irqPend := by
  unfold Lane.copyBytes
  split <;> rfl

theorem checkpointWrites_idle {ws : List (Nat × Byte)} {s : State} {l : LaneId} (h : (s.lane l).state ≠ .running) :
    (checkpointWrites ws s).lane l = s.lane l := by
  rw [checkpointWrites_modLanes, State.lane_modLanes, Lane.copyBytes, if_neg h]

theorem checkpointWrites_running {ws : List (Nat × Byte)} {s : State} {l : LaneId} (h : (s.lane l).state = .running) (c : CoreId) :
    vget ((checkpointWrites ws s).lane l).cores c = (vget (s.lane l).cores c).writes (ws.filter (fun w => lineCovered (w.1 / 64))) := by
  rw [checkpointWrites_modLanes, State.lane_modLanes, Lane.copyBytes, if_pos h]
  exact vget_map _ _ c

theorem checkpointRound_sameBut {s : State} (h : s.cls.role = .join) (ws : List (Nat × Byte)) (n : Nat) (f : Option (TaskId × Nat)) :
    SameBut [.lanes, .cls] s (checkpointRound ws n f s) := by
  rw [checkpointRound_join h, checkpointWrites_modLanes]
  exact ((sameBut_modLanes (Lane.copyBytes_irqPend ws) s).mono (by simp)).trans ((sameBut_cls _ _).mono (by simp))

/-! ## Joins of tasks (R443, R453) -/

/-- A task may join: its digest is confirmed in JOIN and it has not joined yet (R453). -/
def TaskJoins (t : TaskId) (d : DWord) (s : State) : Prop :=
  s.cls.role = .join ∧ joinDigestIs t d s = true ∧ s.cls.joined.getLsbD t.val = false

/-- The tasks joined once one more has. -/
def Clasp.joinedWith (C : Clasp) (t : TaskId) : BitVec 16 := C.joined ||| BitVec.ofNat 16 (2 ^ t.val)

/-- A running lane's retained range of a joined task is rewritten, with the partner's epoch in its header (R453). -/
def Lane.rewriteRange (s : State) (t : TaskId) (L : Lane) : Lane :=
  if L.state = .running then mirrorInto { s with cls := { s.cls with epoch := s.cls.partner.epoch } } [] s.tick (mirrorRange t L) else L

theorem Lane.rewriteRange_irqPend (s : State) (t : TaskId) (L : Lane) : (L.rewriteRange s t).irqPend = L.irqPend := by
  unfold Lane.rewriteRange
  split <;> rfl

/-- The module once one more task has joined. -/
def taskJoined (t : TaskId) (s : State) : State :=
  { s.modLanes (Lane.rewriteRange s t) with cls := { s.cls with joined := s.cls.joinedWith t } }

theorem taskJoined_sameBut (t : TaskId) (s : State) : SameBut [.lanes, .cls] s (taskJoined t s) :=
  ((sameBut_modLanes (Lane.rewriteRange_irqPend s t) s).mono (by simp)).trans ((sameBut_cls _ _).mono (by simp))

theorem checkpointJoin_refused {t : TaskId} {d : DWord} {s : State} (h : ¬ TaskJoins t d s) (m : PairMotion) : checkpointJoin t d m s = s :=
  if_neg h

theorem checkpointJoin_joins {t : TaskId} {d : DWord} {s : State} (h : TaskJoins t d s) (m : PairMotion) :
    checkpointJoin t d m s =
      if allJoined s (s.cls.joinedWith t) then checkpointComplete m (taskJoined t s) else taskJoined t s := if_pos h

theorem takeMotion_sameBut (m : PairMotion) (s : State) : SameBut [.lanes] s (takeMotion m s) := by
  refine sameBut_modLanes (fun L => ?_) s
  split <;> rfl

/-- Clasp at the end of a checkpoint transfer: no phase, and the partner's epoch (R443). -/
def Clasp.takeEpoch (C : Clasp) : Clasp := { C with phase := 0, epoch := C.partner.epoch }

/-- The module with the partner's motion state and epoch taken (R453). -/
def takePartner (m : PairMotion) (s : State) : State := takeMotion m { s with cls := s.cls.takeEpoch }

theorem takePartner_sameBut (m : PairMotion) (s : State) : SameBut [.lanes, .cls] s (takePartner m s) :=
  ((sameBut_cls s _).mono (by simp)).trans ((takeMotion_sameBut m _).mono (by simp))

theorem checkpointComplete_eq (m : PairMotion) (s : State) :
    checkpointComplete m s = rep 0x3C09 (setRole .standby (takePartner m s)) := rfl

theorem takePartner_cls (m : PairMotion) (s : State) : (takePartner m s).cls = s.cls.takeEpoch := rfl

/-- A report after a change of role counts its class from before it (R444). -/
theorem rep_setRole_reported {code : Nat} (h : otherClass code = true) (r : ClsRole) (s : State) :
    Reported code s (rep code (setRole r s)) := by
  refine (rep_reported code _ ?_).of_cls (setRole_cls r code s h)
  rintro rfl
  simp [otherClass] at h

/-- A module all of whose tasks have joined is in STANDBY with the partner's epoch, and reports it (R443, R453). -/
theorem checkpointComplete_standby {s : State} (h : s.cls.role = .join) (m : PairMotion) :
    let u := checkpointComplete m s
    u.cls.role = .standby ∧ u.cls.epoch = s.cls.partner.epoch ∧ u.cls.phase = 0 ∧ u.cls.roleCnt = s.cls.roleCnt + 1 ∧
      Reported 0x3C09 s u ∧ SameBut (.lanes :: .cls :: reportParts) s u := by
  have hjoin : (takePartner m s).cls.role ≠ .standby := fun e => ClsRole.noConfusion (h.symm.trans e)
  obtain ⟨x, d, hrole⟩ := setRole_clasp hjoin
  dsimp only
  rw [checkpointComplete_eq, rep_clasp, hrole, takePartner_cls]
  refine ⟨rfl, rfl, rfl, rfl, (rep_setRole_reported (by decide) .standby _).of_flt rfl, ?_⟩
  have hmono : ∀ p ∈ reportParts, p ∈ Part.lanes :: Part.cls :: reportParts := fun _ hm => by simp [hm]
  exact (((takePartner_sameBut m s).mono (by simp)).trans ((setRole_sameBut .standby _).mono (fun _ => List.mem_cons_of_mem _))).trans
    ((sameBut_rep 0x3C09 _).mono hmono)

/-! ## Failed attempts (R454) -/

/-- Clasp once a failed attempt has been counted and the retry waits (R454). -/
def Clasp.countFail (C : Clasp) : Clasp := { C with fails := C.fails + 1, retryWait := true }

theorem checkpointFailed_ends {w : JoinEnd} {s : State} (h : s.cls.role = .join ∧ attemptEnds w s = true) :
    checkpointFailed w s = rep 0x3C0A (enterListenRole { stopProgram s with cls := s.cls.countFail }) := by
  rw [checkpointFailed, if_pos h]
  rfl

theorem checkpointFailed_refused {w : JoinEnd} {s : State} (h : ¬ (s.cls.role = .join ∧ attemptEnds w s = true)) :
    checkpointFailed w s = s := if_neg h

/-- Clasp as it enters LISTEN (R443). -/
def Clasp.listen (C : Clasp) : Clasp := { C with outEn := false, waitCnt := 0, once := 0, phase := 0 }

theorem enterListenRole_eq (s : State) : enterListenRole s = setRole .listen { s with cls := s.cls.listen } := rfl

/-- A failed attempt leaves the module in LISTEN, its program stopped, the failure counted and reported and the retry waiting (R454). -/
theorem checkpointFailed_listens {w : JoinEnd} {s : State} (h : s.cls.role = .join ∧ attemptEnds w s = true) :
    let u := checkpointFailed w s
    u.cls.role = .listen ∧ u.cls.fails = s.cls.fails + 1 ∧ u.cls.retryWait = true ∧ u.cls.outEn = false ∧ u.cyc.prog = .stopped ∧
      Reported 0x3C0A s u := by
  have hjoin : s.cls.countFail.listen.role ≠ .listen := fun e => ClsRole.noConfusion (h.1.symm.trans e)
  obtain ⟨x, d, hrole⟩ := setRole_clasp (s := { stopProgram s with cls := s.cls.countFail.listen }) hjoin
  dsimp only
  rw [checkpointFailed_ends h, enterListenRole_eq, rep_clasp, hrole]
  have hstop : (stopProgram s).flt = s.flt := by simp
  refine ⟨rfl, rfl, rfl, rfl, ?_, (rep_setRole_reported (by decide) .listen _).of_flt hstop⟩
  simp [stopProgram_prog]

end Sys2Proof.Machine

end

section

open Sys2Proof Sys2Proof.Machine

/-- Settles O43: a round by its copied bytes and Clasp's phase, a join by whether it is the last one, a failure by its fall to LISTEN. -/
theorem checkpoints : Obligations.Checkpoints := by
  unfold Obligations.Checkpoints
  intro s ho
  refine ⟨fun ws n f => ⟨fun h => ?outside, fun h => ?round⟩, fun t d m => ⟨fun h => ?refused, fun h hall => ?joined, fun h hall => ?last⟩,
    fun w => ⟨fun h => ?kept, fun h => ?failed⟩, fun h => ?retry, fun h => ?noRetry⟩
  case outside => exact ho.completes (f := checkpointRound ws n f) rfl (checkpointRound_outside h ws n f)
  case round =>
    refine ho.completes (f := checkpointRound ws n f) rfl ⟨checkpointRound_sameBut h ws n f, ?_⟩
    rw [checkpointRound_join h]
    refine ⟨fun l hl => checkpointWrites_idle hl, fun l c hl => checkpointWrites_running hl c, fun h3 => if_neg h3, fun t run h3 hf => ?_,
      fun h3 hf => ?_⟩
    · subst hf
      exact if_pos h3
    · subst hf
      exact if_pos h3
  case refused => exact ho.completes (f := checkpointJoin t d m) rfl (checkpointJoin_refused h m)
  case joined =>
    refine ho.completes (f := checkpointJoin t d m) rfl ?_
    rw [checkpointJoin_joins h, Clasp.joinedWith, hall]
    exact ⟨rfl, taskJoined_sameBut t s⟩
  case last =>
    refine ho.completes (f := checkpointJoin t d m) rfl ?_
    rw [checkpointJoin_joins h, Clasp.joinedWith, hall, if_pos rfl]
    obtain ⟨hrole, hepoch, hphase, hcnt, hrep, hbut⟩ := checkpointComplete_standby (s := taskJoined t s) h.1 m
    exact ⟨hrole, hepoch, hphase, hcnt, hrep.of_flt rfl, ((taskJoined_sameBut t s).mono (by simp)).trans hbut⟩
  case kept => exact ho.completes (f := checkpointFailed w) rfl (checkpointFailed_refused h)
  case failed =>
    refine ho.completes (f := checkpointFailed w) rfl ?_
    exact checkpointFailed_listens h
  case retry =>
    refine ho.completes rfl ?_
    rw [onlyIf_true (by simp [h])]
    exact ⟨rfl, sameBut_cls s _⟩
  case noRetry =>
    refine ho.completes rfl ?_
    simp [onlyIf, h]

end

/-! # Rings: set-up, queues and completions (R141 to R165)

What enabling and draining make of a ring, what its queues take and refuse, what a completion writes, and the three statements about them. -/

section

namespace Sys2Proof.Machine

/-! ## Frames -/

theorem sameBut_modRing (s : State) (r : Fin 64) (f : Ring → Ring) : SameBut [.rng] s (s.modRing r f) := by
  intro p hp
  cases p <;> simp_all [Part.same, State.lane]

/-- An update of exchange memory and of one ring changes nothing else. -/
theorem sameBut_mem_modRing (s : State) (m : Mem) (r : Fin 64) (f : Ring → Ring) :
    SameBut [.mem, .rng] s (State.modRing { s with mem := m } r f) := by
  intro p hp
  cases p <;> simp_all [Part.same, State.lane]

/-- RING_DONE makes sources of the lanes pending, and changes nothing else (R85, R145). -/
theorem sameBut_ringDone (r : Fin 64) (s : State) : SameBut [.irq] s (ringDone r s) := by
  intro p hp
  cases p <;> simp_all [Part.same]

theorem ringDone_ringAt (r q : Fin 64) (s : State) : (ringDone r s).ringAt q = s.ringAt q := ringAt_congr (by simp) q

theorem sameBut_repRing (code engine : Nat) (s : State) : SameBut reportParts s (repRing code engine s) := sameBut_report _ _ _ _

/-- A ring's class reported with no other effect (R564). -/
theorem repRing_alone {code : Nat} (h : code ≠ 0x402) (engine : Nat) (s : State) :
    Reported code s (repRing code engine s) ∧ SameBut reportParts s (repRing code engine s) :=
  ⟨repRing_reported code engine s h, sameBut_repRing code engine s⟩

/-! ## Enabling (R141 to R143) -/

/-- A ring as a valid set-up starts it: ACTIVE, its queues empty, its indices zero, its credit restored (R143). -/
def Ring.start (R : Ring) : Ring :=
  { R with
    en := true, state := .active, prod := 0, head := 0, cons := 0, cp := 0, cpLatch := 0, ownerLatch := 0,
    pending := [], busy := [], ops := [], held := [], credit := max 1 R.creditCfg, gen := R.gen + 1 }

/-- A ring whose set-up is refused (R143). -/
def Ring.refuse (R : Ring) : Ring := { R with en := true, state := .cfgErr }

theorem enableRing_enabled {r : Fin 64} {s : State} (h : (s.ringAt r).enabled = true) : enableRing r s = s := if_pos h

theorem enableRing_valid {r : Fin 64} {s : State} (h : (s.ringAt r).enabled = false) (hok : ringSetupOk s r = true) :
    enableRing r s =
      State.modRing { s with mem := memClear s.mem (s.ringAt r).cqBase ((s.ringAt r).cqBase + 16 * (s.ringAt r).entries) } r Ring.start := by
  rw [enableRing, if_neg (ne_true_of_eq_false h), if_pos hok]
  rfl

theorem enableRing_invalid {r : Fin 64} {s : State} (h : (s.ringAt r).enabled = false) (hok : ringSetupOk s r = false) :
    enableRing r s = configFault 1 (repRing 0x100C (s.ringAt r).engine (s.modRing r Ring.refuse)) := by
  rw [enableRing, if_neg (ne_true_of_eq_false h), if_neg (ne_true_of_eq_false hok)]
  rfl

/-- An invalid set-up leaves the ring in CFG_ERR, and reports the ring's class and a configuration fault of cause 1 (R143, R518). -/
theorem enableRing_refuses {r : Fin 64} {s : State} (h : (s.ringAt r).enabled = false) (hok : ringSetupOk s r = false) :
    let u := enableRing r s
    (u.ringAt r).state = .cfgErr ∧ u.trust.faultCause = 1 ∧ u.trust.cfgFault = true ∧ Reported 0x100C s u ∧ Reported 0x4401 s u := by
  dsimp only
  rw [enableRing_invalid h hok]
  have hring : Reported 0x100C s (repRing 0x100C (s.ringAt r).engine (s.modRing r Ring.refuse)) :=
    (repRing_reported 0x100C _ _ (by decide)).of_flt rfl
  obtain ⟨hcause, hfault, -, -⟩ := configFault_reports 1 (repRing 0x100C (s.ringAt r).engine (s.modRing r Ring.refuse))
  refine ⟨?_, hcause, by simp [configFault], hring.then_cls (rep_cls_other 0x4401 0x100C _ (by decide) (by decide)),
    hfault.of_count (report_cls_other 0x100C _ [] _ 0x4401 (by decide) (by decide))⟩
  rw [ringAt_congr (u := configFault 1 _) (s := s.modRing r Ring.refuse) (by simp), State.ringAt_modRing]
  rfl

/-! ## Draining (R164) -/

/-- A ring that drains takes no more descriptors (R164). -/
def Ring.drain (R : Ring) : Ring := { R with state := .draining, pending := [], en := false }

/-- A ring without held operations (R164). -/
def Ring.dropHeld (R : Ring) : Ring := { R with held := [] }

theorem abortHeld_none {r : Fin 64} {s : State} (h : (s.ringAt r).held = []) : abortHeld r s = s.modRing r Ring.dropHeld := by
  rw [abortHeld, h]
  rfl

theorem disableRing_runs {r : Fin 64} {s : State} (h : (s.ringAt r).state = .active ∨ (s.ringAt r).state = .stalled)
    (hh : (s.ringAt r).held = []) : disableRing r s = (s.modRing r Ring.drain).modRing r Ring.dropHeld := by
  have herr : (s.ringAt r).state ≠ .cfgErr := by rcases h with h | h <;> simp [h]
  have hrun : ¬ ((s.ringAt r).state = .disabled ∨ (s.ringAt r).state = .draining) := by rcases h with h | h <;> simp [h]
  have hheld : ((s.modRing r Ring.drain).ringAt r).held = [] := by rwa [State.ringAt_modRing]
  rw [disableRing, if_neg herr, drainRing, if_neg hrun]
  exact abortHeld_none hheld

theorem drainComplete_ends {r : Fin 64} {s : State} (h : (s.ringAt r).state = .draining) (ho : (s.ringAt r).ops = []) :
    drainComplete r s = s.modRing r (fun R => { R with state := .disabled, busy := [] }) := if_pos ⟨h, ho⟩

/-! ## The submission queue (R148) -/

/-- A write into a submission queue is one whole aligned descriptor (R148). -/
def FillsSlot (R : Ring) (off : Nat) (bs : List Byte) : Prop := bs.length = 32 ∧ (off - R.sqBase) % 32 = 0

theorem descriptorWrite_inQueue {s : State} {r : Fin 64} {off k : Nat} (h : slotAt s off = some (r, k)) (bs : List Byte) :
    descriptorWrite off bs s = writeSlot r off bs s := by
  rw [descriptorWrite, h]

theorem writeSlot_misfit {s : State} {r : Fin 64} {off : Nat} {bs : List Byte}
    (h : bs.length ≠ 32 ∨ (off - (s.ringAt r).sqBase) % 32 ≠ 0) : writeSlot r off bs s = rep 0x0C06 s := if_pos h

theorem writeSlot_pending {s : State} {r : Fin 64} {off : Nat} {bs : List Byte} (h : FillsSlot (s.ringAt r) off bs)
    (hp : nsMem (s.ringAt r).pending ((off - (s.ringAt r).sqBase) / 32) = true) :
    writeSlot r off bs s = repRing 0x1008 (s.ringAt r).engine s := by
  rw [writeSlot, if_neg (by simp [h.1, h.2])]
  exact if_pos hp

theorem writeSlot_free {s : State} {r : Fin 64} {off : Nat} {bs : List Byte} (h : FillsSlot (s.ringAt r) off bs)
    (hp : nsMem (s.ringAt r).pending ((off - (s.ringAt r).sqBase) / 32) = false) :
    writeSlot r off bs s = State.modRing { s with mem := memWrite s.mem off bs } r
      (fun R => { R with pending := nsAdd R.pending ((off - (s.ringAt r).sqBase) / 32) }) := by
  rw [writeSlot, if_neg (by simp [h.1, h.2])]
  exact if_neg (ne_true_of_eq_false hp)

/-! ## Doorbells (R149, R150) -/

/-- How far ahead a producer index would take a ring: the new descriptors and those not yet consumed (R150). -/
def Ring.ahead (R : Ring) (prod : BitVec 16) : Nat := (prod - R.prod).toNat + (R.prod - R.cons).toNat

/-- Two different indices lie a distance other than zero apart, modulo 2^16 (R150). -/
theorem toNat_sub_ne_zero {a b : BitVec 16} (h : a ≠ b) : (a - b).toNat ≠ 0 := by bv_omega

theorem doorbell_taken {s : State} {r : Fin 64} {prod : BitVec 16} (hne : prod ≠ (s.ringAt r).prod) (ha : (s.ringAt r).state = .active)
    (hle : (s.ringAt r).ahead prod ≤ (s.ringAt r).entries) : doorbell r prod s = s.modRing r (fun R => { R with prod := prod }) := by
  rw [doorbell, if_neg (toNat_sub_ne_zero hne)]
  exact if_pos ⟨ha, hle⟩

theorem doorbell_refused {s : State} {r : Fin 64} {prod : BitVec 16} (hne : prod ≠ (s.ringAt r).prod)
    (h : (s.ringAt r).state ≠ .active ∨ (s.ringAt r).entries < (s.ringAt r).ahead prod) :
    doorbell r prod s = repRing 0x1006 (s.ringAt r).engine s := by
  rw [doorbell, if_neg (toNat_sub_ne_zero hne)]
  exact if_neg (fun hc => h.elim (· hc.1) (fun hlt => absurd hc.2 (Nat.not_le.mpr hlt)))

/-! ## Completion heads and stalls (R151, R158) -/

/-- A head within the completions latched for the owner is taken, and every tag whose entry it has passed is free (R158). -/
theorem writeHead_taken {s : State} {r : Fin 64} {head : BitVec 16}
    (h : (head - (s.ringAt r).head).toNat ≤ ((s.ringAt r).ownerLatch - (s.ringAt r).head).toNat) :
    let u := writeHead r head s
    (u.ringAt r).head = head ∧
      (∀ e ∈ (u.ringAt r).busy, ∀ i, e.2 = some i → (head - (s.ringAt r).head).toNat ≤ (i - (s.ringAt r).head).toNat) ∧
      SameBut [.rng] s u := by
  dsimp only
  rw [writeHead, if_pos h, State.ringAt_modRing]
  refine ⟨rfl, fun e he i hi => ?_, sameBut_modRing s r _⟩
  have hkept := (List.mem_filter.mp he).2
  rw [hi] at hkept
  exact of_decide_eq_true hkept

theorem writeHead_refused {s : State} {r : Fin 64} {head : BitVec 16}
    (h : ((s.ringAt r).ownerLatch - (s.ringAt r).head).toNat < (head - (s.ringAt r).head).toNat) :
    writeHead r head s = repRing 0x1007 (s.ringAt r).engine s := if_neg (Nat.not_le.mpr h)

theorem stallRing_stalls {s : State} {r : Fin 64} (ha : (s.ringAt r).state = .active) (hc : (s.ringAt r).cons ≠ (s.ringAt r).prod)
    (hp : nsMem (s.ringAt r).pending ((s.ringAt r).cons.toNat % (s.ringAt r).entries) = false) :
    stallRing r s = repRing 0x1009 (s.ringAt r).engine (s.modRing r (fun R => { R with state := .stalled })) := if_pos ⟨ha, hc, hp⟩

/-- A report of a ring's class after an update of a ring leaves the updated ring and counts the class once (R564). -/
theorem repRing_modRing {code : Nat} (h : code ≠ 0x402) (engine : Nat) (s : State) (r : Fin 64) (f : Ring → Ring) :
    let u := repRing code engine (s.modRing r f)
    u.ringAt r = f (s.ringAt r) ∧ Reported code s u ∧ SameBut (.rng :: reportParts) s u := by
  refine ⟨?_, (repRing_reported code engine _ h).of_flt rfl, ?_⟩
  · rw [ringAt_congr (s := s.modRing r f) (by simp), State.ringAt_modRing]
  · exact ((sameBut_modRing s r f).mono (by simp)).trans ((sameBut_repRing code engine _).mono (fun _ hm => List.mem_cons_of_mem _ hm))

/-! ## Completions (R153, R154) -/

/-- A ring without the operations of a tag. -/
def Ring.endTag (R : Ring) (tag : Nat) : Ring := { R with ops := R.ops.filter (fun o => o.desc.tag != tag) }

theorem Ring.endTag_ops {R : Ring} {tag : Nat} {o : RunOp} (h : o ∈ (R.endTag tag).ops) : o.desc.tag ≠ tag :=
  bne_iff_ne.mp (List.mem_filter.mp h).2

/-- The completion of any operation but a sent Ethernet frame leaves the timestamp queues alone (R70). -/
theorem takeTxTs_other {d : Desc} (h : d.opcode ≠ 0x20) (status : Nat) (s : State) : takeTxTs d status s = s :=
  if_neg (fun hc => h hc.1)

theorem completeOp_done {r : Fin 64} {tag : Nat} {d : Desc} {st ra rb : Nat} {s : State}
    (h : (s.ringAt r).ops.find? (fun o => o.desc.tag == tag && decide (o.stage ≠ .running)) = some { desc := d, stage := .done st ra rb })
    (hd : d.opcode ≠ 0x20) :
    completeOp r tag s = ringComplete r tag st ra rb (testBit d.flags 1) (s.modRing r (fun R => R.endTag tag)) := by
  simp only [completeOp, h, takeTxTs_other hd]
  rfl

/-- A completion stands in the ring's slot of its completion index, which advances; of the module nothing else changes but RING_DONE in
the lanes (R153, R154). -/
theorem ringComplete_writes (r : Fin 64) (tag st ra rb : Nat) (notify : Bool) (s : State) :
    let u := ringComplete r tag st ra rb notify s
    let R := s.ringAt r
    u.mem = memWrite s.mem (R.cqBase + 16 * (R.cp.toNat % 2 ^ R.sizeLog2)) (completionBytes R tag st ra rb) ∧
      (u.ringAt r).cp = R.cp + 1 ∧ (u.ringAt r).ops = R.ops ∧ SameBut [.mem, .rng, .irq] s u := by
  dsimp only
  unfold ringComplete
  dsimp only
  split
  case isTrue =>
    rw [ringDone_ringAt, State.ringAt_modRing]
    exact ⟨by simp, rfl, rfl, ((sameBut_mem_modRing s _ r _).mono (by simp)).trans ((sameBut_ringDone r _).mono (by simp))⟩
  case isFalse =>
    rw [State.ringAt_modRing]
    exact ⟨rfl, rfl, rfl, (sameBut_mem_modRing s _ r _).mono (by simp)⟩

end Sys2Proof.Machine

end

section

open Sys2Proof Sys2Proof.Machine

/-- Settles O18: enabling by whether the set-up is valid, draining through `disableRing_runs`, its end by `drainComplete_ends`. -/
theorem ringLifecycle : Obligations.RingLifecycle := by
  unfold Obligations.RingLifecycle
  intro s r ho
  refine ⟨fun he hok => ?valid, fun he hok => ?invalid, fun he => ?enabled, fun hst hh => ?drains, fun hst hops => ?ends⟩
  case valid =>
    refine ho.completes (f := enableRing r) rfl ?_
    rw [enableRing_valid he hok, State.ringAt_modRing]
    exact ⟨rfl, rfl, rfl, rfl, rfl, rfl, rfl, rfl, fun q hq => State.ringAt_modRing_other _ r q _ hq,
      (sameBut_mem_modRing s _ r _).mono (by simp)⟩
  case invalid => exact ho.completes (f := enableRing r) rfl (enableRing_refuses he hok)
  case enabled => exact ho.completes (f := enableRing r) rfl (enableRing_enabled he)
  case drains =>
    refine ho.completes (f := disableRing r) rfl ?_
    rw [disableRing_runs hst hh, State.ringAt_modRing, State.ringAt_modRing]
    refine ⟨rfl, rfl, rfl, rfl, fun q hq => ?_, (sameBut_modRing s r _).trans (sameBut_modRing _ r _)⟩
    rw [State.ringAt_modRing_other _ r q _ hq, State.ringAt_modRing_other _ r q _ hq]
  case ends =>
    refine ho.completes (f := drainComplete r) rfl ?_
    rw [drainComplete_ends hst hops, State.ringAt_modRing]
    exact ⟨rfl, rfl, fun q hq => State.ringAt_modRing_other _ r q _ hq, sameBut_modRing s r _⟩

/-- Settles O19: each write by whether the ring takes or refuses it, the stall by `stallRing_stalls`. -/
theorem ringQueues : Obligations.RingQueues := by
  unfold Obligations.RingQueues
  intro s r ho
  refine ⟨fun off k bs hslot => ⟨fun hlen hal hp => ?fill, fun hlen hal hp => ?pending, fun hbad => ?misfit⟩,
    fun prod hne => ⟨fun ha hle => ?taken, fun h => ?refused⟩, fun head h => ?head, fun head h => ?beyond, fun ha hc hp => ?stall⟩
  case fill =>
    refine ho.completes (f := descriptorWrite off bs) rfl ?_
    rw [descriptorWrite_inQueue hslot, writeSlot_free ⟨hlen, hal⟩ hp, State.ringAt_modRing]
    exact ⟨rfl, rfl, sameBut_mem_modRing s _ r _⟩
  case pending =>
    refine ho.completes (f := descriptorWrite off bs) rfl ?_
    rw [descriptorWrite_inQueue hslot, writeSlot_pending ⟨hlen, hal⟩ hp]
    exact repRing_alone (by decide) _ s
  case misfit =>
    refine ho.completes (f := descriptorWrite off bs) rfl ?_
    rw [descriptorWrite_inQueue hslot, writeSlot_misfit hbad]
    exact ⟨rep_reported 0x0C06 s (by decide), sameBut_rep 0x0C06 s⟩
  case taken =>
    refine ho.completes (f := doorbell r prod) rfl ?_
    rw [doorbell_taken hne ha hle, State.ringAt_modRing]
    exact ⟨rfl, sameBut_modRing s r _⟩
  case refused =>
    refine ho.completes (f := doorbell r prod) rfl ?_
    rw [doorbell_refused hne h]
    exact repRing_alone (by decide) _ s
  case head => exact ho.completes (f := writeHead r head) rfl (writeHead_taken h)
  case beyond =>
    refine ho.completes (f := writeHead r head) rfl ?_
    rw [writeHead_refused h]
    exact repRing_alone (by decide) _ s
  case stall =>
    refine ho.completes (f := stallRing r) rfl ?_
    rw [stallRing_stalls ha hc hp]
    obtain ⟨hring, hrep, hbut⟩ := repRing_modRing (code := 0x1009) (by decide) (s.ringAt r).engine s r (fun R => { R with state := .stalled })
    exact ⟨by rw [hring], hrep, hbut⟩

/-- Settles O21: NOP and ECHO by `opDone_alone`, the completion entry by `ringComplete_writes` on the ring without the operation. -/
theorem operationsComplete : Obligations.OperationsComplete := by
  unfold Obligations.OperationsComplete
  refine ⟨fun s r tag d ho => ⟨fun hd => ?nop, fun hd => ?echo⟩, fun s r tag d st ra rb ho hf hd => ?completion⟩
  case nop => exact ho.completes_runOp (f := fun d => opDone r d.tag 0 0 0) rfl hd (opDone_alone (startedOp_mem hd).1 0 0 0)
  case echo =>
    exact ho.completes_runOp (f := fun d => opDone r d.tag 0 d.paramA d.addr) rfl hd (opDone_alone (startedOp_mem hd).1 0 d.paramA d.addr)
  case completion =>
    refine ho.completes (f := completeOp r tag.val) rfl ?_
    rw [completeOp_done hf hd]
    obtain ⟨hmem, hcp, hops, hbut⟩ := ringComplete_writes r tag.val st ra rb (testBit d.flags 1) (s.modRing r (fun R => R.endTag tag.val))
    rw [State.ringAt_modRing] at hmem hcp hops
    exact ⟨hmem, hcp, fun o hm => Ring.endTag_ops (hops ▸ hm), ((sameBut_modRing s r _).mono (by simp)).trans hbut⟩

end

/-! # Program start, retained mirror and online change (R175, R196 to R201)

What the start of the program, the oldest mirror operation of a lane and the application of online changes leave, and the statement about
them. -/

section

namespace Sys2Proof.Machine

/-! ## The start of the program (R175) -/

/-- The module once the retained data of every counted lane has been checked for a program start (R175, R198). -/
def retainedChecked (s : State) : State := (countedLanes s).foldl checkRetained (applyBaselines (resetParams s))

theorem retainedChecked_tick (s : State) : (retainedChecked s).tick = s.tick := tick_congr (by simp [retainedChecked])

theorem retainedChecked_kmax (s : State) : kmax (retainedChecked s) = kmax s := by simp [kmax, retainedChecked]

/-- The start records of the counted lanes (R175). -/
def startRecords (s : State) : List (LaneId × List Byte) := (countedLanes s).map (fun l => (l, startRecordOf s l))

theorem programStart_starts {s : State} (h : canStart s = true) :
    programStart s = commitStart (startRecords (retainedChecked s)) (retainedChecked s) := if_pos h

theorem programStart_waits {s : State} (h : canStart s = false) : programStart s = s := if_neg (ne_true_of_eq_false h)

/-- Start records that are all equal, of two lanes at least, fix the start tick and leave no lane to be outvoted (R175). -/
theorem commitStart_agreed {recs : List (LaneId × List Byte)} (h2 : 2 ≤ recs.length) (heq : ∀ r ∈ recs, ∀ t ∈ recs, r.2 = t.2) (s : State) :
    ∃ warm, commitStart recs s = { s with cyc := { s.cyc with prog := .starting (startTickAfter s.tick (kmax s)), warm := warm } } := by
  cases recs with
  | nil => simp at h2
  | cons r rs =>
    have hall : (r :: rs).filter (fun t => t.2 == r.2) = r :: rs :=
      List.filter_eq_self.mpr (fun t ht => beq_iff_eq.mpr (heq t ht r List.mem_cons_self))
    have hnone : (r :: rs).filter (fun t => t.2 != r.2) = [] :=
      List.filter_eq_nil_iff.mpr (fun t ht => by simp [heq t ht r List.mem_cons_self])
    have hfind : (r :: rs).find? (fun t => decide (2 ≤ ((r :: rs).filter (fun x => x.2 == t.2)).length)) = some r :=
      List.find?_cons_of_pos (by rw [hall]; exact decide_eq_true h2)
    unfold commitStart
    dsimp only
    rw [hfind]
    dsimp only
    rw [hnone]
    exact ⟨_, rfl⟩

/-- Where at least two counted lanes start from equal records, the program waits for the aligned tick, and beyond the checks of the
retained data nothing else has changed (R175). -/
theorem programStart_aligned {s : State} (h : canStart s = true) (h2 : 2 ≤ (countedLanes (retainedChecked s)).length)
    (heq : ∀ l ∈ countedLanes (retainedChecked s), ∀ m ∈ countedLanes (retainedChecked s),
      startRecordOf (retainedChecked s) l = startRecordOf (retainedChecked s) m) :
    (programStart s).cyc.prog = .starting (startTickAfter s.tick (kmax s)) ∧ SameBut [.cyc] (retainedChecked s) (programStart s) := by
  have hlen : 2 ≤ (startRecords (retainedChecked s)).length := by simpa [startRecords] using h2
  have hrecs : ∀ r ∈ startRecords (retainedChecked s), ∀ t ∈ startRecords (retainedChecked s), r.2 = t.2 := by
    simpa [startRecords] using heq
  obtain ⟨warm, hw⟩ := commitStart_agreed hlen hrecs (retainedChecked s)
  rw [programStart_starts h, hw, retainedChecked_tick, retainedChecked_kmax]
  exact ⟨rfl, sameBut_cyc _ _⟩

/-! ## The retained mirror (R196, R197) -/

theorem padTo_length (n : Nat) (bs : List Byte) : (padTo n bs).length = n := by
  rw [padTo, zeros, List.length_append, List.length_take, List.length_replicate]
  omega

theorem retainedHeader_length (layout : List Byte) (epoch act tick seq busy : Nat) :
    (retainedHeader layout epoch act tick seq busy).length = 64 := by
  simp [retainedHeader, leBytes_length, padTo_length, zeros]

/-- The header that a mirror operation writes: the tick is the operation's, SEQ one higher than the stored one and BUSY 0 (R197). -/
def mirrorHeader (s : State) (tick : Nat) (L : Lane) : List Byte :=
  retainedHeader s.image.layout s.cls.epoch.toNat s.trust.actCnt.toNat tick ((leAt (memRead L.mram headerOff 64) 32 4 + 1) % 2 ^ 32) 0

/-- The header is written over the mirrored lines, so that it is read back as it is (R196, R197). -/
theorem mirrorInto_header (s : State) (lines : NatSet) (tick : Nat) (L : Lane) :
    memRead (mirrorInto s lines tick L).mram headerOff 64 = mirrorHeader s tick L := by
  have hlen : (mirrorHeader s tick L).length = 64 := retainedHeader_length _ _ _ _ _ _
  have hread : memRead (mirrorInto s lines tick L).mram headerOff (mirrorHeader s tick L).length = mirrorHeader s tick L :=
    memRead_memWrite (mirrorHeader s tick L) _ headerOff
  rwa [hlen] at hread

/-- A lane once its oldest waiting mirror operation has ended (R197). -/
def Lane.mirrorOldest (s : State) (L : Lane) : Lane :=
  match L.mirror with
  | [] => L
  | (lines, tick) :: rest => { mirrorInto s lines tick L with mirror := rest }

theorem Lane.mirrorOldest_waiting {L : Lane} {lines : NatSet} {tick : Nat} {rest : List (NatSet × Nat)} (h : L.mirror = (lines, tick) :: rest)
    (s : State) : L.mirrorOldest s = { mirrorInto s lines tick L with mirror := rest } := by
  rw [Lane.mirrorOldest, h]

theorem Lane.mirrorOldest_irqPend (s : State) (L : Lane) : (L.mirrorOldest s).irqPend = L.irqPend := by
  unfold Lane.mirrorOldest
  split <;> rfl

/-! ## Online changes (R200) -/

/-- The online changes of a task that are due. -/
def dueChanges (t : TaskId) (s : State) : List ParamWrite := s.cyc.changes.filter (fun p => p.task == t.val && p.due)

/-- The lanes that run a task once the bytes of its due changes are written in both their images (R200). -/
def writeDue (t : TaskId) (s : State) : State :=
  allLanes.foldl (fun u l =>
    if countedFor u l (.task t.val 0 0) then
      u.modLane l (fun L => { L with cores := L.cores.map (fun c =>
        c.writes ((dueChanges t s).flatMap (fun p => p.bytes.zipIdx.map (fun b => (p.addr + b.2, b.1))))) })
    else u) s

theorem writeDue_frame (t : TaskId) (s : State) : (writeDue t s).cyc = s.cyc ∧ (writeDue t s).flt = s.flt := by simp [writeDue]

theorem dueChanges_eq_nil_iff {t : TaskId} {s : State} :
    dueChanges t s = [] ↔ s.cyc.changes.any (fun p => p.task == t.val && p.due) = false := by
  rw [dueChanges, List.filter_eq_nil_iff, List.any_eq_false]

theorem applyChanges_none {t : TaskId} {s : State} (h : dueChanges t s = []) : applyChanges t s = s :=
  if_pos (List.isEmpty_iff.mpr h)

theorem applyChanges_due {t : TaskId} {s : State} (h : dueChanges t s ≠ []) :
    applyChanges t s = rep 0x0509 { writeDue t s with cyc := { (writeDue t s).cyc with
      changes := (writeDue t s).cyc.changes.filter (fun p => !(p.task == t.val && p.due)),
      params := (writeDue t s).cyc.params ++ dueChanges t s } } :=
  if_neg (fun e => h (List.isEmpty_iff.mp e))

/-- Due changes leave the list for the task's parameters, and the class is reported (R200). -/
theorem applyChanges_notes {t : TaskId} {s : State} (h : dueChanges t s ≠ []) :
    (applyChanges t s).cyc.changes = s.cyc.changes.filter (fun p => !(p.task == t.val && p.due)) ∧
      (applyChanges t s).cyc.params = s.cyc.params ++ dueChanges t s ∧ Reported 0x0509 s (applyChanges t s) := by
  have hcyc : ∀ u : State, (rep 0x0509 u).cyc = u.cyc := fun u => by simp
  obtain ⟨hwcyc, hwflt⟩ := writeDue_frame t s
  rw [applyChanges_due h, hcyc, hwcyc]
  exact ⟨rfl, rfl, (rep_reported 0x0509 _ (by decide)).of_flt hwflt⟩

end Sys2Proof.Machine

end

section

open Sys2Proof Sys2Proof.Machine

/-- Settles O22: the start by the records that agree, the mirror by the header written last, the changes by whether any is due. -/
theorem programStartAndMirror : Obligations.ProgramStartAndMirror := by
  unfold Obligations.ProgramStartAndMirror
  refine ⟨fun s ho => ⟨fun hc => ?start, fun hc => ?wait⟩, fun s l lines tick rest ho hm => ?mirror,
    fun s t ho => ⟨fun hd => ?due, fun hd => ?none⟩⟩
  case start => exact fun h2 heq => ho.completes (f := programStart) rfl (programStart_aligned hc h2 heq)
  case wait => exact ho.completes (f := programStart) rfl (programStart_waits hc)
  case mirror =>
    refine ho.completes (f := fun s => s.modLane l (Lane.mirrorOldest s)) rfl ?_
    rw [State.lane_modLane, Lane.mirrorOldest_waiting hm]
    exact ⟨rfl, mirrorInto_header s lines tick (s.lane l), sameBut_modLane (Lane.mirrorOldest_irqPend s)⟩
  case due => exact ho.completes (f := applyChanges t) rfl (applyChanges_notes (fun e => ne_false_of_eq_true hd (dueChanges_eq_nil_iff.mp e)))
  case none => exact ho.completes (f := applyChanges t) rfl (applyChanges_none (dueChanges_eq_nil_iff.mpr hd))

end

section

namespace Sys2Proof.Machine

/-- An operational module in whose lane 0 a mirror operation of tick 5 waits. -/
def mirroring : State :=
  { State.reset with
    pwr := { State.reset.pwr with held := false, pstate := .operational }, lanes := Vector.replicate 3 { mirror := [([], 5)] } }

/-- The clause of the mirror has a state that meets it, and there the first header of the lane has SEQ 1. -/
theorem mirroring_writes : Completes (.retainedMirror 0) mirroring (fun u => (u.lane 0).mirror = [] ∧
    memRead (u.lane 0).mram headerOff 64 = retainedHeader [] 0 0 5 1 0) := by
  obtain ⟨-, hmirror, -⟩ := programStartAndMirror
  obtain ⟨u, hu, hqueue, hhead, -⟩ := hmirror mirroring 0 [] 5 [] ⟨rfl, Or.inl rfl⟩ rfl
  exact ⟨u, hu, hqueue, hhead⟩

end Sys2Proof.Machine

end

/-! # Activation, revert, slot erasure and code swap (R203, R490 to R495)

What each accepted command of Utmus leaves, a refusal while the outputs are enabled, and the statement about them. -/

section

namespace Sys2Proof.Machine

/-! ## Commands that are refused (R509) -/

/-- A refusal keeps the activation count and the counts of the other classes. -/
theorem respond_refuse_keeps (cmd : Nat) (q : UtmusReq) (session : BitVec 32) {n : Nat} (hn : n ≠ 0) (v : State) :
    let u := respond cmd q session (refuse n v)
    u.trust.actCnt = v.trust.actCnt ∧
      ∀ code, code ≠ 0x4808 → code ≠ 0x402 → tgetD u.flt.cls code 0 = tgetD v.flt.cls code 0 := by
  dsimp only
  rw [respond_refused cmd q session (refuse n v) hn, rep_trust]
  exact ⟨rfl, fun code h h2 => rep_cls_other 0x4808 code _ h h2⟩

theorem respond_refuse_answered (cmd : Nat) (q : UtmusReq) {n : Nat} (hn : n ≠ 0) (v : State) :
    Answered (respond cmd q q.session (refuse n v)) cmd q n [] := by
  rw [respond_refused cmd q q.session (refuse n v) hn]
  exact (responded_answered cmd q (refuse n v)).congr (by rw [rep_trust])

/-- An accepted request that its command refuses with the activation-refused class is answered so, and the activation count stands (R491). -/
theorem Accepted.completes_refused {i : Instr} {f : State → Reply} {cmd : Nat} {perm : Option Nat} {q : UtmusReq} {s : State}
    (ha : Accepted cmd perm 0 q s) (he : exec i s = act (utmus cmd perm q f) s)
    (hf : f (seqTaken q s) = refuse 4 (rep 0x4404 (seqTaken q s))) :
    Completes i s (fun u => Answered u cmd q 4 [] ∧ Reported 0x4404 s u ∧ u.trust.actCnt = s.trust.actCnt) := by
  refine ha.1.completes he ?_
  rw [utmus_accepted f ha, hf]
  obtain ⟨hact, hcls⟩ := respond_refuse_keeps cmd q q.session (n := 4) (by decide) (rep 0x4404 (seqTaken q s))
  rw [rep_trust] at hact
  have hrep : Reported 0x4404 s (rep 0x4404 (seqTaken q s)) := (rep_reported 0x4404 _ (by decide)).of_flt rfl
  exact ⟨respond_refuse_answered cmd q (by decide) _, hrep.then_cls (hcls 0x4404 (by decide) (by decide)), hact⟩

/-! ## Activation and revert (R490, R491, R493) -/

/-- The outputs are off and no code swap runs (step 1 of R491). -/
theorem mayActivate_iff {s : State} : mayActivate s = true ↔ s.cls.outEn = false ∧ s.cyc.swap = .idle := by
  simp [mayActivate, outputsOn]

theorem mayActivate_outputsOn {s : State} (h : s.cls.outEn = true) : mayActivate s = false := by
  simp [mayActivate, outputsOn, h]

/-- With the program stopped, Signet accepts a slot's container (but for a revert with a higher CVER) and its image, the running form
exists and the activation count is not exhausted (steps 3 to 5 of R491). -/
structure SlotPasses (w : State) (i : Nat) (revert : Bool) (k : Nat) (p : List Byte) (m : Option (List Byte × Nat × List Byte)) : Prop where
  container : containerReason w (cfgSlot w i).cont = 0
  version : revert = true ∨ cverOk w (cfgSlot w i).cont = true
  named : imageSlot w (contApp (cfgSlot w i).cont) = some k
  image : containerReason w (imageAt w k) = 0
  form : runPayload w (cfgSlot w i) = some (p, m)
  count : w.trust.actCnt ≠ BitVec.allOnes 32

/-- The module with a slot ACTIVE and the activation count raised, before the software reset that loads it (R491). -/
def commitSlot (i : Nat) (revert : Bool) (m : Option (List Byte × Nat × List Byte)) (w : State) : State :=
  let s2 := if migratesNow (cfgSlot w i) m then rep 0x4405 w else w
  rep (if revert then 0x4403 else 0x4402) { s2 with trust := { s2.trust with
    slots := promote i { cfgSlot w i with migrated := m } s2.trust.slots, actCnt := s2.trust.actCnt + 1, running := none } }

theorem haltProgram_actCnt (s : State) : (haltProgram s).trust.actCnt = s.trust.actCnt := congrArg Trust.actCnt (by simp)

theorem activateSlot_commits {i : Nat} {revert : Bool} {k : Nat} {p : List Byte} {m : Option (List Byte × Nat × List Byte)} {s : State}
    (h : SlotPasses (haltProgram s) i revert k p m) :
    activateSlot i revert s = ⟨0, [], softwareReset (if revert then 2 else 1) (commitSlot i revert m (haltProgram s))⟩ := by
  have hver : (!revert && !cverOk (haltProgram s) (cfgSlot (haltProgram s) i).cont) = false := by
    rcases h.version with hr | hc
    · rw [hr]; rfl
    · rw [hc, Bool.not_true, Bool.and_false]
  unfold activateSlot
  dsimp only
  rw [if_neg (not_not_intro h.container), if_neg (ne_true_of_eq_false hver), h.named]
  dsimp only
  rw [if_neg (not_not_intro h.image), h.form]
  dsimp only
  rw [if_neg h.count]
  rfl

theorem commitSlot_counts (i : Nat) (revert : Bool) (m : Option (List Byte × Nat × List Byte)) (w : State) :
    (commitSlot i revert m w).trust.actCnt = w.trust.actCnt + 1 ∧ (commitSlot i revert m w).tim = w.tim := by
  unfold commitSlot
  split <;> simp

/-- An activation raises the count by one, and module time runs on through its software reset (R491, R529). -/
theorem activateSlot_counts {i : Nat} {revert : Bool} {k : Nat} {p : List Byte} {m : Option (List Byte × Nat × List Byte)} {s : State}
    (h : SlotPasses (haltProgram s) i revert k p m) :
    ∃ u, activateSlot i revert s = ⟨0, [], u⟩ ∧ u.trust.actCnt = s.trust.actCnt + 1 ∧ u.tim.now = s.tim.now := by
  obtain ⟨hact, htim⟩ := commitSlot_counts i revert m (haltProgram s)
  have hnow : (haltProgram s).tim = s.tim := by simp
  refine ⟨_, activateSlot_commits h, ?_, ?_⟩
  · rw [(softwareReset_store _ _).1, hact, haltProgram_actCnt]
  · rw [(softwareReset_tim _ _).1, htim, hnow]

/-- An accepted request whose command comes to a passing slot is carried out: the count is one higher and module time goes on (R491). -/
theorem Accepted.completes_activation {c : Instr} {f : State → Reply} {cmd : Nat} {perm : Option Nat} {q : UtmusReq} {s : State}
    (ha : Accepted cmd perm 0 q s) (he : exec c s = act (utmus cmd perm q f) s) {i : Nat} {revert : Bool} {k : Nat} {p : List Byte}
    {m : Option (List Byte × Nat × List Byte)} (hf : f (seqTaken q s) = activateSlot i revert (seqTaken q s))
    (h : SlotPasses (haltProgram (seqTaken q s)) i revert k p m) :
    Completes c s (fun u => Answered u cmd q 0 [] ∧ u.trust.actCnt = s.trust.actCnt + 1 ∧ u.tim.now = s.tim.now) := by
  obtain ⟨u, hu, hact, hnow⟩ := activateSlot_counts h
  refine ha.completes he (hf.trans hu) ?_
  rw [responded_trust, responded_tim]
  exact ⟨hact, hnow⟩

theorem activate_may {q : UtmusReq} {s : State} (hn : q.param 0x20 < 8) (hm : mayActivate s = true)
    (hl : (cfgSlot s (q.param 0x20)).state = .loaded) : activate q s = activateSlot (q.param 0x20) false s := by
  rw [activate, if_neg (Nat.not_le.mpr hn), hm, hl]
  rfl

theorem activate_refused {q : UtmusReq} {s : State} (hn : q.param 0x20 < 8) (hm : mayActivate s = false) :
    activate q s = refuse 4 (rep 0x4404 s) := by
  rw [activate, if_neg (Nat.not_le.mpr hn), hm]
  rfl

theorem revert_may {s : State} {i : Nat} (hp : slotIn s .previous = some i) (hm : mayActivate s = true) :
    revert s = activateSlot i true s := by
  rw [revert, hp]
  exact if_pos hm

/-- REVERT that may not activate is refused, whether or not a slot is PREVIOUS (R491, R493). -/
theorem revert_refused {s : State} (hm : mayActivate s = false) : revert s = refuse 4 (rep 0x4404 s) := by
  unfold revert
  split
  · exact if_neg (ne_true_of_eq_false hm)
  · rfl

/-! ## Slot erasure (R512) -/

theorem slotErase_erases {q : UtmusReq} {s : State} (hn : q.param 0x22 < 8) (ha : (cfgSlot s (q.param 0x22)).state ≠ .active)
    (hp : (cfgSlot s (q.param 0x22)).state ≠ .previous) : slotErase q s = ⟨0, [], setSlot (q.param 0x22) {} s⟩ := by
  rw [slotErase, if_neg (Nat.not_le.mpr hn)]
  exact if_neg (not_or.mpr ⟨ha, hp⟩)

/-! ## Code swap (R203, R495) -/

theorem swapLoad_loads {q : UtmusReq} {s : State} {img : AppImage} (hi : s.cyc.swap = .idle) (ha : cfgActive s = true)
    (hne : (imageAt s (q.param 0x28)).isEmpty = false) (ht : contType (imageAt s (q.param 0x28)) = 2)
    (hs : s.cfg.trust.swapImages.contains ((contDigest (imageAt s (q.param 0x28))).take 32) = true)
    (hr : containerReason s (imageAt s (q.param 0x28)) = 0)
    (hd : Config.decodeImage (contFmt (imageAt s (q.param 0x28))) (contPayload (imageAt s (q.param 0x28))) = some img) :
    swapLoad q s = ⟨0, [], { s with cyc := { s.cyc with swap := .loading, swapImage := some (q.param 0x28, img) } }⟩ := by
  unfold swapLoad
  dsimp only
  rw [if_neg (by simp [hi, ha]), if_neg (by rw [hne, ht, hs]; decide), if_neg (not_not_intro hr), hd]

theorem swapCommand_sets {s : State} (hr : s.cyc.swap = .ready) (ho : ¬ (s.cls.role = .active ∧ s.cls.outEn = true)) :
    swapCommand s = ⟨0, [], { s with cyc := { s.cyc with swapAt := some (nextAligned s, false) } }⟩ := by
  rw [swapCommand, if_neg (not_not_intro hr), if_neg ho]

/-- A committed trial ends the swap with its image running, and is reported (R203, R495). -/
theorem swapCommitted_ends (s : State) :
    (swapCommitted s).cyc.swap = .idle ∧ (swapCommitted s).trust.running = s.cyc.swapImage.map Prod.fst ∧
      Reported 0x050B s (swapCommitted s) := by
  refine ⟨?_, ?_, (rep_reported 0x050B _ (by decide)).of_flt rfl⟩ <;> simp [swapCommitted]

end Sys2Proof.Machine

end

section

open Sys2Proof Sys2Proof.Machine

/-- Settles O27: an activation by the slot that passes with the program stopped, the other clauses by the lemma of their command. -/
theorem configurationCommands : Obligations.ConfigurationCommands := by
  unfold Obligations.ConfigurationCommands
  intro s q
  refine ⟨fun k p m ha hn ho hi hl hc hv hk him hf hcnt => ?activate, fun i k p m ha hp ho hi hc hk him hf hcnt => ?revert,
    fun ho => ⟨fun ha hn => ?activateOn, fun ha => ?revertOn⟩, fun ha hn hact hprev => ?erase,
    fun img ha hi hact hne ht hs hr hd => ?load, fun ha hr ho => ?swap, fun ht => ⟨fun ha => ?commit, fun ha => ?swapBack⟩⟩
  case activate =>
    exact ha.completes_activation rfl (activate_may hn (mayActivate_iff.mpr ⟨ho, hi⟩) hl)
      ⟨hc, Or.inr hv, hk, him, hf, (haltProgram_actCnt _).trans_ne hcnt⟩
  case revert =>
    exact ha.completes_activation rfl (revert_may hp (mayActivate_iff.mpr ⟨ho, hi⟩))
      ⟨hc, Or.inl rfl, hk, him, hf, (haltProgram_actCnt _).trans_ne hcnt⟩
  case activateOn => exact ha.completes_refused rfl (activate_refused hn (mayActivate_outputsOn ho))
  case revertOn => exact ha.completes_refused rfl (revert_refused (mayActivate_outputsOn ho))
  case erase =>
    exact ha.completes rfl (slotErase_erases hn hact hprev) ⟨vget_vset_self _ _ _, (sameBut_trust _ _).then_responded (by simp) _ _⟩
  case load =>
    exact ha.completes rfl (swapLoad_loads (s := seqTaken q s) hi hact hne ht hs hr hd)
      ⟨rfl, rfl, ((sameBut_cyc _ _).mono (by simp)).then_responded (by simp) _ _⟩
  case swap =>
    exact ha.completes rfl (swapCommand_sets (s := seqTaken q s) hr ho)
      ⟨rfl, ((sameBut_cyc _ _).mono (by simp)).then_responded (by simp) _ _⟩
  case commit =>
    obtain ⟨hidle, hrun, hrep⟩ := swapCommitted_ends (seqTaken q s)
    exact ha.completes rfl (if_pos ht) ⟨hidle, hrun, hrep.of_flt rfl⟩
  case swapBack =>
    exact ha.completes rfl (if_pos ht) ⟨rfl, ((sameBut_cyc _ _).mono (by simp)).then_responded (by simp) _ _⟩

end

/-! # The ports of the Strath line (R205 to R215, R227)

What a command that moves one port leaves, the state's ports and channels under the updates of the line, and the statement about them. -/

section

namespace Sys2Proof.Machine

/-! ## Commands of one port -/

/-- Where the line runs, a command that changes one port leaves that port as changed, and everything else as it is. -/
theorem LineRuns.completes_port {i : Instr} {f : State → State} {g : Port → Port} {c : ChanId} {p : PortId} {s : State} {P : Port}
    (hl : LineRuns s) (he : exec i s = actLine f s) (hf : f s = s.modPort c p g) (hg : g (s.port c p) = P) :
    Completes i s (fun u => u.port c p = P ∧ PortOnly c p s u) := by
  refine hl.completes he ?_
  rw [hf]
  exact ⟨(State.port_modPort s c p g).trans hg, portOnly_modPort s c p g⟩

/-- Where the line runs, a command whose condition the port does not meet leaves the whole state. -/
theorem LineRuns.completes_unchanged {i : Instr} {f : State → State} {s : State} (hl : LineRuns s) (he : exec i s = actLine f s)
    (hf : f s = s) : Completes i s (fun u => u = s) := hl.completes he hf

theorem onlyIf_false {p : Bool} {f : State → State} {s : State} (h : p = false) : onlyIf p f s = s := if_neg (ne_true_of_eq_false h)

/-! ## Entering a port state (R212, R214) -/

@[simp] theorem Port.enter_lstate (P : Port) (t : LState) : (P.enter t).lstate = t := rfl

theorem Port.enter_train (P : Port) : P.enter .train = { P with lstate := .train, astate := .acquire } := rfl

theorem Port.enter_sync (P : Port) : P.enter .sync = { P with lstate := .sync } := rfl

/-! ## Proposals of a timed unwrap (R232) -/

/-- A port may close where it is WRAPPED and UP in a LOCKED or MASTER time base, without FORCE_WRAP. -/
theorem mayClose_iff {s : State} {c : ChanId} {p : PortId} : mayClose s c p = true ↔ (s.port c p).wrapped = true ∧
    (s.port c p).lstate = .up ∧ (s.tim.state = .locked ∨ s.tim.state = .master) ∧ forceWrap s c p = false := by
  simp [mayClose, timeGood, and_assoc]

/-- A port that is not WRAPPED makes no proposal. -/
theorem propose_unwrapped {s : State} {c : ChanId} {p : PortId} (h : (s.port c p).wrapped = false) : propose c s p = s := by
  simp [propose, mayClose, h]

/-- A port with a proposal keeps it. -/
theorem propose_proposed {s : State} {c : ChanId} {p : PortId} {q : BitVec 16} (h : (s.port c p).closeProp = some q) :
    propose c s p = s := by
  simp [propose, h]

/-! ## Going UP (R214) and requests of a link delay (R227) -/

/-- A port as it goes UP: counted, without RFI. -/
def Port.goUp (P : Port) : Port := { P.enter .up with upCnt := P.upCnt + 1, rfiRx := false, rfiRun := 0 }

theorem portUp_up {s : State} {c : ChanId} {p : PortId} (hs : (s.port c p).lstate = .sync) (hy : (s.port c p).sync = true)
    (hd : (s.port c p).dlyValid = true) (hw : (s.port c p).wrapped = false) : portUp c p s = s.modPort c p Port.goUp := by
  have hup : portUp c p s = propose c (s.modPort c p Port.goUp) p := if_pos ⟨hs, hy, hd⟩
  rw [hup]
  exact propose_unwrapped ((congrArg Port.wrapped (State.port_modPort s c p Port.goUp)).trans hw)

theorem portUp_held {s : State} {c : ChanId} {p : PortId}
    (h : (s.port c p).lstate ≠ .sync ∨ (s.port c p).sync = false ∨ (s.port c p).dlyValid = false) : portUp c p s = s := by
  refine if_neg ?_
  rintro ⟨hs, hy, hd⟩
  simp [hs, hy, hd] at h

theorem dlyReqSend_held {s : State} {c : ChanId} {p : PortId} (φ : Fin 8)
    (h : ¬((s.port c p).lstate = .sync ∨ (s.port c p).lstate = .up) ∨ (s.port c p).reqCycle = some (basicCycle s)) :
    dlyReqSend c p φ s = s :=
  if_neg (fun ⟨hs, hn⟩ => h.elim (fun k => k hs) hn)

end Sys2Proof.Machine

end

section

open Sys2Proof Sys2Proof.Machine

/-- Settles O29: each command by the change of its port, or by the condition that the port does not meet. -/
theorem strathPortStates : Obligations.StrathPortStates := by
  unfold Obligations.StrathPortStates
  intro s c p hl
  refine ⟨fun hd => ?detected, fun ht => ?synced, fun hy => ?lost, fun ht hy => ?timeout, fun h => ?trained, fun hs hy hd hw => ?up,
    fun h => ?notUp, fun hf hy => ?recovered, fun h => ?notRecovered, fun b => ?rfi, fun hf => ?thaw, fun hf => ?notFrozen,
    fun φ hs hn => ?request, fun φ h => ?noRequest, fun t => ?answer, ?dropped⟩
  case detected =>
    exact hl.completes_port (f := signalDetected c p) rfl rfl (by rw [if_pos (Or.inl hd), Port.enter_train])
  case synced => exact hl.completes_port (show execCodeGroupSync c p s = _ from rfl) rfl (by rw [if_pos ht, Port.enter_sync])
  case lost => exact hl.completes_port (show execCodeGroupSyncLost c p s = _ from rfl) (onlyIf_true hy) rfl
  case timeout =>
    obtain ⟨u, hu, hport, honly⟩ := hl.completes_port (i := .trainTimeout c p) (show execTrainTimeout c p s = _ from rfl)
      (onlyIf_true (by simp [ht, hy])) rfl
    exact ⟨u, hu, congrArg Port.lstate hport, honly⟩
  case trained => exact hl.completes_unchanged (show execTrainTimeout c p s = _ from rfl) (onlyIf_false (by rcases h with h | h <;> simp [h]))
  case up =>
    obtain ⟨u, hu, hport, honly⟩ := hl.completes_port (i := .portUp c p) (f := portUp c p) rfl (portUp_up hs hy hd hw) rfl
    exact ⟨u, hu, congrArg Port.lstate hport, congrArg Port.upCnt hport, congrArg Port.rfiRun hport, honly⟩
  case notUp => exact hl.completes_unchanged (f := portUp c p) rfl (portUp_held h)
  case recovered => exact hl.completes_port (show execPortRecovered c p s = _ from rfl) (onlyIf_true (by simp [hf, hy])) (by rw [Port.enter_sync])
  case notRecovered => exact hl.completes_unchanged (show execPortRecovered c p s = _ from rfl) (onlyIf_false (by rcases h with h | h <;> simp [h]))
  case rfi => exact hl.completes_port (show execRfiReceived c p b s = _ from rfl) rfl rfl
  case thaw => exact hl.completes_port (show execEqualiserFreezeExpiry c p s = _ from rfl) (onlyIf_true (by simp [hf])) rfl
  case notFrozen => exact hl.completes_unchanged (show execEqualiserFreezeExpiry c p s = _ from rfl) (onlyIf_false (by simp [hf]))
  case request => exact hl.completes_port (f := dlyReqSend c p φ) rfl (if_pos ⟨hs, hn⟩) rfl
  case noRequest => exact hl.completes_unchanged (f := dlyReqSend c p φ) rfl (dlyReqSend_held φ h)
  case answer => exact hl.completes_port (show execDlyReqReceived c p t s = _ from rfl) rfl rfl
  case dropped => exact hl.completes_port (show execDlyRspTimeout c p s = _ from rfl) rfl rfl

end

/-! # Wraps and measurements of the Strath line (R212 to R236)

How ports wrap and unwrap, what the eye monitor, the delay responses and received frames leave, and the statement about them. -/

section

namespace Sys2Proof.Machine

/-! ## Ports, channels and counts under the updates of the line -/

/-- The other channel of a node and the other port of a channel are others. -/
theorem one_sub_ne : ∀ x : Fin 2, 1 - x ≠ x := by decide

@[simp] theorem port_repStr (c : ChanId) (o : Nat) (s : State) (d : ChanId) (q : PortId) : (repStr c o s).port d q = s.port d q :=
  port_congr (repStr_stra c o s) d q

@[simp] theorem chan_repStr (c : ChanId) (o : Nat) (s : State) (d : ChanId) : (repStr c o s).chan d = s.chan d :=
  chan_congr (repStr_stra c o s) d

@[simp] theorem port_regPut (s : State) (a lo w v : Nat) (d : ChanId) (q : PortId) : (regPut s a lo w v).port d q = s.port d q :=
  port_congr (by simp) d q

/-- The classes of a channel are not the class of a configured reaction (R562, R574). -/
theorem strCode_ne_reaction (c : ChanId) (o : Nat) : faultCode (5 + c.val) o ≠ 0x402 := by
  unfold faultCode
  omega

theorem strCode_ne {a b : Nat} (h : a ≠ b) (c : ChanId) : faultCode (5 + c.val) a ≠ faultCode (5 + c.val) b := by
  unfold faultCode
  omega

/-- A report of one class of a channel counts no other class of it. -/
theorem repStr_cls_other {a b : Nat} (h : a ≠ b) (c : ChanId) (s : State) :
    tgetD (repStr c b s).flt.cls (faultCode (5 + c.val) a) 0 = tgetD s.flt.cls (faultCode (5 + c.val) a) 0 :=
  report_cls_other _ _ _ _ _ (strCode_ne h c) (strCode_ne_reaction c a)

theorem sameBut_stra (s : State) (x : Stra) : SameBut [.stra] s { s with stra := x } := by
  intro p hp
  cases p <;> simp_all [Part.same, State.lane]

theorem chanOnly_modChan (s : State) (c : ChanId) (f : Chan → Chan) : ChanOnly c s (s.modChan c f) :=
  ⟨(sameBut_stra s _).mono (by simp), rfl, rfl, rfl, fun d h => State.chan_modChan_other s c d f h⟩

theorem ChanOnly.trans {c : ChanId} {s u v : State} (h : ChanOnly c s u) (k : ChanOnly c u v) : ChanOnly c s v := by
  obtain ⟨hbut, hnode, htx, hbinds, hchan⟩ := h
  obtain ⟨kbut, knode, ktx, kbinds, kchan⟩ := k
  exact ⟨hbut.trans kbut, knode.trans hnode, ktx.trans htx, kbinds.trans hbinds, fun d hd => (kchan d hd).trans (hchan d hd)⟩

theorem chanOnly_repStr (c : ChanId) (o : Nat) (s : State) : ChanOnly c s (repStr c o s) := by
  have hstra : (repStr c o s).stra = s.stra := repStr_stra c o s
  exact ⟨(sameBut_rep _ s).mono (fun _ hm => List.mem_cons_of_mem _ hm), by rw [hstra], by rw [hstra], by rw [hstra],
    fun d _ => chan_congr hstra d⟩

/-! ## Failing and wrapping (R214, R215, R230) -/

/-- A wrap counts no class of its channel but those of a wrap (R230, R237). -/
theorem wrapPort_cls {a : Nat} (h2 : a ≠ 2) (hA : a ≠ 0xA) (c : ChanId) (p : PortId) (heal : Option (BitVec 16)) (s : State) :
    tgetD (wrapPort c p heal s).flt.cls (faultCode (5 + c.val) a) 0 = tgetD s.flt.cls (faultCode (5 + c.val) a) 0 := by
  unfold wrapPort
  dsimp only
  split
  · rfl
  · split
    · rw [repStr_cls_other hA, repStr_cls_other h2]
      rfl
    · rw [repStr_cls_other h2]
      rfl

/-- A port as a failure criterion takes it to FAILED (R214). -/
def Port.fail (cause : BitVec 3) (P : Port) : Port := { P.enter .failed with cause := cause, los := P.los || cause == 1 }

theorem portFailed_up {s : State} {c : ChanId} {p : PortId} {cause : BitVec 3} (hu : (s.port c p).lstate = .up)
    (hf : failureHolds (s.port c p) cause = true) (heal : BitVec 16) :
    portFailed c p cause heal s = repStr c 1 (wrapPort c p (some heal) (s.modPort c p (Port.fail cause))) :=
  (if_pos ⟨Or.inr hu, hf⟩).trans (if_pos hu)

/-- An UP port with a holding criterion fails with its cause, WRAPPED, and is reported (R214, R215, R237). -/
theorem portFailed_fails {s : State} {c : ChanId} {p : PortId} {cause : BitVec 3} (hu : (s.port c p).lstate = .up)
    (hf : failureHolds (s.port c p) cause = true) (heal : BitVec 16) :
    let u := portFailed c p cause heal s
    (u.port c p).lstate = .failed ∧ (u.port c p).cause = cause ∧ (u.port c p).wrapped = true ∧ Reported (faultCode (5 + c.val) 1) s u := by
  dsimp only
  obtain ⟨hwrap, hstate, hcause⟩ := wrapPort_port c p (some heal) (s.modPort c p (Port.fail cause))
  rw [State.port_modPort] at hstate hcause
  rw [portFailed_up hu hf, port_repStr]
  refine ⟨hstate, hcause, hwrap, (repStr_reported c 1 _ (strCode_ne_reaction c 1)).of_count ?_⟩
  rw [wrapPort_cls (by decide) (by decide)]
  rfl

/-- A commit of EN = 0 leaves the port DISABLED and WRAPPED; a port that was not WRAPPED is reported as one that wraps (R214, R230). -/
theorem portEnWrite_disables (c : ChanId) (p : PortId) (s : State) (h : (s.port c p).wrapped = false) :
    let u := portEnWrite c p false s
    (u.port c p).lstate = .disabled ∧ (u.port c p).wrapped = true ∧ Reported (faultCode (5 + c.val) 2) s u := by
  dsimp only
  have hu : portEnWrite c p false s = wrapPort c p none
      ((regPut s (STR c + 0x100 + 0x40 * p.val) 0 1 0).modPort c p (fun P => P.enter .disabled)) := by
    simp [portEnWrite, bit]
  rw [hu]
  generalize hm : (regPut s _ 0 1 0).modPort c p (fun P => P.enter .disabled) = m
  have hport : m.port c p = (s.port c p).enter .disabled := by rw [← hm, State.port_modPort, port_regPut]
  obtain ⟨hwrap, hstate, -⟩ := wrapPort_port c p none m
  rw [hport] at hstate
  refine ⟨hstate, hwrap, (wrapPort_reported c p none m ?_).of_flt (by simp [← hm])⟩
  rw [hport]
  exact h

theorem portEnWrite_enables {c : ChanId} {p : PortId} {s : State} (h : (s.port c p).lstate = .disabled) :
    portEnWrite c p true s = (regPut s (STR c + 0x100 + 0x40 * p.val) 0 1 1).modPort c p (fun P => P.enter .down) := by
  simp [portEnWrite, bit, h]

/-- A commit of FORCE_WRAP = 1 wraps the port without a proposal, and the bit holds (R230). -/
theorem forceWrapWrite_wraps (c : ChanId) (p : PortId) (s : State) :
    let u := forceWrapWrite c p true s
    (u.port c p).wrapped = true ∧ (u.port c p).closeProp = none ∧ regField u (STR c + 0x100 + 0x40 * p.val) 1 1 = 1 := by
  dsimp only
  have hu : forceWrapWrite c p true s = (wrapPort c p none (regPut s (STR c + 0x100 + 0x40 * p.val) 1 1 1)).modPort c p
      (fun P => { P with closeProp := none, closeHeard := none }) := by
    simp [forceWrapWrite, bit]
  rw [hu, State.port_modPort]
  refine ⟨(wrapPort_port c p none _).1, rfl, ?_⟩
  rw [regField_congr (s := regPut s (STR c + 0x100 + 0x40 * p.val) 1 1 1) (by simp)]
  exact regField_regPut s _ 1 1 1 (by decide)

/-- A commit of FORCE_WRAP = 0 at a port that is not WRAPPED only changes the bit (R230, R232). -/
theorem forceWrapWrite_unwrapped {c : ChanId} {p : PortId} {s : State} (h : (s.port c p).wrapped = false) :
    forceWrapWrite c p false s = regPut s (STR c + 0x100 + 0x40 * p.val) 1 1 0 := by
  have hport : ((regPut s (STR c + 0x100 + 0x40 * p.val) 1 1 0).port c p).wrapped = false := by rw [port_regPut, h]
  simp [forceWrapWrite, bit, propose_unwrapped hport]

/-! ## Unwrapping (R232 to R234) -/

/-- The interlock looks at the other channel alone (R234). -/
theorem interlockFree_modPort (s : State) (c : ChanId) (p : PortId) (f : Port → Port) :
    interlockFree (s.modPort c p f) c = interlockFree s c := by
  have hother : (s.modPort c p f).chan (1 - c) = s.chan (1 - c) := State.chan_modChan_other _ _ _ _ (one_sub_ne c)
  unfold interlockFree
  rw [hother]
  rfl

/-- Where a port may close, a later proposal replaces its own (R232). -/
theorem closeReceived_later {s : State} {c : ChanId} {p : PortId} {q own : BitVec 16} (hm : mayClose s c p = true)
    (ho : (s.port c p).closeProp = some own) (hq : 0 < sdiff 16 q.toNat own.toNat) :
    closeReceived c p q s = (s.modPort c p (fun P => { P with closeProp := some q, closeHeard := some (basicCycle s) })).modChan c
      (fun C => { C with closeCyc := q }) := by
  simp [closeReceived, propose_proposed ho, ho, hm, hq]

/-- A port that has sent one CLOSE_NOW more and received one more in succession (R233). -/
def Port.countCloseNow (P : Port) : Port :=
  { P with rfiRx := false, rfiRun := 0, closeNowSent := P.closeNowSent + 1, closeNowRecv := P.closeNowRecv + 1 }

/-- The eighth CLOSE_NOW in succession unwraps the port (R233). -/
theorem closeNowReceived_eighth {s : State} {c : ChanId} {p : PortId} (hw : (s.port c p).wrapped = true) (hu : (s.port c p).lstate = .up)
    (hs : (s.port c p).closeNowSent = 7) (hr : (s.port c p).closeNowRecv = 7) (hf : forceWrap s c p = false)
    (hi : interlockFree s c = true) : closeNowReceived c p true s = unwrapPort c p (s.modPort c p Port.countCloseNow) := by
  have hforce : ∀ f, forceWrap (s.modPort c p f) c p = false := fun _ => hf
  have hfacing : ((s.port c p).wrapped && (s.port c p).lstate == .up) = true := by rw [hw, hu]; rfl
  exact (if_pos hfacing).trans (if_pos (by simp [hs, hr, hforce, interlockFree_modPort, hi]))

/-! ## The eye monitor (R212, R213) -/

theorem eyeMonitor_port (c : ChanId) (p : PortId) (h w : BitVec 8) (b : BitVec 4) (t : Vector Int 5) (s : State) :
    (eyeMonitor c p h w b t s).port c p = { s.port c p with
      eyeH := h, eyeW := w, low := decide (h.toNat < regField s (STR c) 16 8),
      boost := adaptBoost (s.port c p) b, taps := adaptTaps (s.port c p) t } := by
  unfold eyeMonitor
  dsimp only
  split <;> simp

/-- In TRACK, BOOST moves by at most 1 (R212). -/
theorem adaptBoost_track {P : Port} (h : P.astate = .track) (want : BitVec 4) :
    (adaptBoost P want).toNat ≤ P.boost.toNat + 1 ∧ P.boost.toNat ≤ (adaptBoost P want).toNat + 1 := by
  simp only [adaptBoost, h]
  split
  · bv_omega
  · split
    · bv_omega
    · omega

/-- An equaliser in PRESET or FROZEN keeps its settings (R212). -/
theorem adapt_held {P : Port} (h : P.astate = .preset ∨ P.astate = .frozen) (want : BitVec 4) (t : Vector Int 5) :
    adaptBoost P want = P.boost ∧ adaptTaps P t = P.taps := by
  rcases h with h | h <;> simp [adaptBoost, adaptTaps, h]

/-! ## Link delays (R227, R228) -/

/-- A port that takes the measurement of a response, before DLY is computed from the kept ones (R228). -/
def Port.measure (d : Int) (P : Port) : Port :=
  { P with reqAt := none, gaveNow := true, rfiRx := false, rfiRun := 0, meas := (P.meas ++ [d]).drop (P.meas.length + 1 - 16) }

theorem dlyRspReceived_port {s : State} {c : ChanId} {p : PortId} {t1 : Nat} (h : (s.port c p).reqAt = some t1) (φ : Fin 8)
    (t : BitVec 24) : (dlyRspReceived c p φ t s).port c p =
      ((s.port c p).measure ((captureTime φ s : Int) - (t1 : Int) - ((t.toNat * 5 * 2 ^ 37 : Nat) : Int))).updateDelay := by
  unfold dlyRspReceived
  rw [h]
  dsimp only
  split <;> simp [Port.measure]

/-- VALID asks for a delay in range and 8 basic cycles with a measurement (R228). -/
theorem updateDelay_valid {P : Port} (h : P.updateDelay.dlyValid = true) :
    P.updateDelay.rangeErr = false ∧ 8 ≤ P.nvalid + bit P.gaveNow := by
  simpa [Port.updateDelay] using h

/-! ## Received frames (R220) -/

/-- A port that counts the invalid code groups of a frame; a frame ends a run of RFI (R215, R238). -/
def Port.countGroups (n : Nat) (P : Port) : Port := { P with cgErr := P.cgErr + BitVec.ofNat 16 n, rfiRx := false, rfiRun := 0 }

theorem frameReceived_wrapped {s : State} {c : ChanId} {p : PortId} (h : (s.port c p).wrapped = true) (φ : Fin 8) (f : Frame) :
    frameReceived c p φ f s = s.modPort c p (Port.countGroups f.badGroups) :=
  if_pos ((congrArg Port.wrapped (State.port_modPort s c p (Port.countGroups f.badGroups))).trans h)

theorem failedCheck_header {f : Frame} (h : leAt f.header 18 2 ≠ crc16 (f.header.take 18)) (c : ChanId) : failedCheck c f = some 1 :=
  if_pos h

/-- A frame whose header fails HCRC goes no further than the count of it (R220). -/
theorem frameReceived_header {s : State} {c : ChanId} {p : PortId} {f : Frame} (hw : (s.port c p).wrapped = false)
    (hh : leAt f.header 18 2 ≠ crc16 (f.header.take 18)) (φ : Fin 8) :
    frameReceived c p φ f s = checkFailed c p 1 f (s.modPort c p (Port.countGroups f.badGroups)) := by
  have hport : ((s.modPort c p (Port.countGroups f.badGroups)).port c p).wrapped = false :=
    (congrArg Port.wrapped (State.port_modPort s c p (Port.countGroups f.badGroups))).trans hw
  unfold frameReceived
  change (if ((s.modPort c p (Port.countGroups f.badGroups)).port c p).wrapped = true then _ else _) = _
  rw [if_neg (ne_true_of_eq_false hport), failedCheck_header hh]
  exact if_neg (fun h => absurd h.1 (by decide))

/-- A port that counts a header with a wrong HCRC (R220). -/
def Port.countHeader (P : Port) : Port := { P with hcrcErr := P.hcrcErr + 1 }

/-- A header that fails HCRC is counted at its port, and reported once in a basic cycle (R220). -/
theorem checkFailed_header (c : ChanId) (p : PortId) (f : Frame) (s : State) :
    checkFailed c p 1 f s = s.modPort c p Port.countHeader ∨
      checkFailed c p 1 f s = repStr c 6 ((s.modPort c p Port.countHeader).modChan c (fun C => { C with repFrame := true })) :=
  ite_eq_or_eq _ _ _

/-- Counting a wrong header leaves what was sent, delivered and seen, and everything but the channel. -/
theorem checkFailed_header_keeps (c : ChanId) (p : PortId) (f : Frame) (s : State) :
    let u := checkFailed c p 1 f s
    (∀ q, u.port c q = (s.modPort c p Port.countHeader).port c q) ∧ (u.chan c).seen = (s.chan c).seen ∧
      (u.chan c).inbox = (s.chan c).inbox ∧ ChanOnly c s u := by
  dsimp only
  have hport : ChanOnly c s (s.modPort c p Port.countHeader) := chanOnly_modChan s c _
  rcases checkFailed_header c p f s with h | h <;> rw [h]
  · exact ⟨fun _ => rfl, by simp [State.chan_modPort], by simp [State.chan_modPort], hport⟩
  · exact ⟨fun _ => by simp [State.port_modChan], by simp [State.chan_modPort], by simp [State.chan_modPort],
      (hport.trans (chanOnly_modChan _ c _)).trans (chanOnly_repStr c 6 _)⟩

/-! ## STR_LINK_READ (R236) -/

/-- RESULT_A of STR_LINK_READ: the state of a port. -/
def Port.linkState (P : Port) : Nat :=
  pack [(3, P.lstate.code), (1, bit P.wrapped), (4, P.boost.toNat), (2, P.astate.code), (1, bit P.dlyValid), (5, 0), (8, P.eyeH.toNat),
    (8, P.eyeW.toNat)]

/-- RESULT_B of STR_LINK_READ: the delay and the counts of a port and its channel. -/
def Port.linkCounts (P : Port) (C : Chan) : Nat :=
  pack [(16, P.dly.toNat), (16, P.cgErr.toNat), (16, P.fcsErr.toNat), (16, C.wrapCnt.toNat)]

/-- A bit that says which of two is meant. -/
theorem ofBit_eq : ∀ x : Fin 2, (if (x == 1) = true then (1 : Fin 2) else 0) = x := by decide

theorem strLinkReadOp_eq {d : Desc} {c : ChanId} {p : PortId} (hc : testBit d.paramA 0 = (c == 1)) (hp : testBit d.paramA 1 = (p == 1))
    (r : Fin 64) (s : State) : strLinkReadOp r d s =
      opDone r d.tag 0 (s.port c p).linkState ((s.port c p).linkCounts (s.chan c)) s := by
  unfold strLinkReadOp
  rw [hc, hp, ofBit_eq c, ofBit_eq p]
  rfl

end Sys2Proof.Machine

end

section

open Sys2Proof Sys2Proof.Machine

/-- Settles O30: a wrap and an unwrap by what they leave of the port, the measurements by the port they compute, a frame by its first check. -/
theorem strathWrapsAndMeasurements : Obligations.StrathWrapsAndMeasurements := by
  unfold Obligations.StrathWrapsAndMeasurements
  intro s c p
  refine ⟨fun hl => ⟨fun cause heal hu hf => ?failed, fun hw hu ht hf hd => ⟨fun hi => ?unwraps, fun hi => ?locked⟩,
    fun q own hw hu ht hf ho hq => ?proposal, fun hw hu hs hr hf hi => ?closeNow, fun h w b t => ?eye, fun φ t t1 hr => ?response,
    fun φ h y x g e hw => ?atWrap, fun φ h y x g e hw hh => ?badHeader⟩,
    fun ho => ⟨fun hd => ?enabled, fun hw => ?disabled, ?forced, fun hw => ?released, fun r tag d hd hc hp => ?read⟩⟩
  case failed => exact hl.completes (f := portFailed c p cause heal) rfl (portFailed_fails hu hf heal)
  case unwraps =>
    refine hl.completes (show execTimedUnwrap c p s = _ from rfl) ?_
    rw [onlyIf_true (by rw [mayClose_iff.mpr ⟨hw, hu, ht, hf⟩, hd, hi]; rfl)]
    exact unwrapPort_port c p s
  case locked => exact hl.completes_unchanged (show execTimedUnwrap c p s = _ from rfl) (onlyIf_false (by rw [hi, Bool.and_false]))
  case proposal =>
    refine hl.completes (show execCloseReceived c p q s = _ from rfl) ?_
    rw [closeReceived_later (own := own) (mayClose_iff.mpr (by simpa using ⟨hw, hu, ht, hf⟩)) (by simpa using ho) hq]
    refine ⟨?_, ?_, ?_⟩
    · simp [State.port_modChan]
    · simp [State.port_modChan, basicCycle, State.tick]
    · simp
  case closeNow =>
    refine hl.completes (f := closeNowReceived c p true) rfl ?_
    rw [closeNowReceived_eighth hw hu hs hr hf hi]
    obtain ⟨hopen, -, -, hrep⟩ := unwrapPort_port c p (s.modPort c p Port.countCloseNow)
    exact ⟨hopen, hrep.of_flt rfl⟩
  case eye =>
    refine hl.completes (f := eyeMonitor c p h w b t) rfl ?_
    rw [eyeMonitor_port]
    exact ⟨rfl, rfl, rfl, fun ha => adaptBoost_track ha b, fun ha => adapt_held ha b t⟩
  case response =>
    refine hl.completes (f := dlyRspReceived c p φ t) rfl ?_
    rw [dlyRspReceived_port hr]
    refine ⟨rfl, rfl, fun hv => ?_⟩
    obtain ⟨hrange, hn⟩ := updateDelay_valid hv
    exact ⟨hrange, Nat.le_of_succ_le_succ hn⟩
  case atWrap =>
    exact hl.completes_port (f := frameReceived c p φ ⟨h, y, x, g, e⟩) rfl (frameReceived_wrapped hw φ _) rfl
  case badHeader =>
    refine hl.completes (f := frameReceived c p φ ⟨h, y, x, g, e⟩) rfl ?_
    rw [frameReceived_header hw hh]
    obtain ⟨hport, hseen, hinbox, honly⟩ := checkFailed_header_keeps c p ⟨h, y, x, g, e⟩ (s.modPort c p (Port.countGroups g))
    refine ⟨?_, ?_, ?_, ?_, ?_, ?_⟩
    · simp [hport, Port.countHeader, Port.countGroups]
    · simp [hport, Port.countHeader, Port.countGroups]
    · rw [hport, State.port_modPort_other _ _ _ _ _ _ (Or.inr (one_sub_ne p)), State.port_modPort_other _ _ _ _ _ _ (Or.inr (one_sub_ne p))]
    · exact hseen.trans (by simp [State.chan_modPort])
    · exact hinbox.trans (by simp [State.chan_modPort])
    · exact (chanOnly_modChan s c _).trans honly
  case enabled =>
    refine ho.completes (f := portEnWrite c p true) rfl ?_
    rw [portEnWrite_enables hd, State.port_modPort, Port.enter_lstate]
  case disabled => exact ho.completes (f := portEnWrite c p false) rfl (portEnWrite_disables c p s hw)
  case forced => exact ho.completes (f := forceWrapWrite c p true) rfl (forceWrapWrite_wraps c p s)
  case released =>
    refine ho.completes (f := forceWrapWrite c p false) rfl ?_
    rw [forceWrapWrite_unwrapped hw]
    exact ⟨by rw [port_regPut, hw], regField_regPut s _ 1 1 0 (by decide)⟩
  case read =>
    obtain ⟨hrun, -, -⟩ := startedOp_mem hd
    refine ho.completes_runOp (f := strLinkReadOp r) rfl hd ?_
    rw [strLinkReadOp_eq hc hp]
    exact opDone_alone hrun 0 (s.port c p).linkState ((s.port c p).linkCounts (s.chan c))

end

/-! # Own slots, Bezel and the operations of the schedule (R222, R223, R253 to R270)

What an own slot puts on the line, what Bezel does to it, how mode requests are handled and answered, and the statement about them. -/

section

namespace Sys2Proof.Machine

/-! ## Bezel (R262 to R264) -/

@[simp] theorem State.chan_modBezel (s : State) (c : ChanId) (f : Bezel → Bezel) :
    (s.modBezel c f).chan c = { s.chan c with bezel := f (s.chan c).bezel } := State.chan_modChan s c _

@[simp] theorem State.port_modBezel (s : State) (c d : ChanId) (q : PortId) (f : Bezel → Bezel) : (s.modBezel c f).port d q = s.port d q :=
  State.port_modChan s c d q _ (fun _ => rfl)

theorem chanOnly_modBezel (s : State) (c : ChanId) (f : Bezel → Bezel) : ChanOnly c s (s.modBezel c f) := chanOnly_modChan s c _

/-- A block or a truncation noted in its cycle and reported (R263). -/
def noteHit (c : ChanId) (s : State) : State :=
  repStr c 0x1C (s.modBezel c (fun B => { B with hits := basicCycle s :: (s.chan c).bezel.hits.filter (fun h => basicCycle s < h + 16) }))

/-- A block or a truncation is noted, and latches the Bezel where it is the third (R264). -/
theorem bezelHit_cases (c : ChanId) (s : State) : bezelHit c s = noteHit c s ∨
    bezelHit c s = repStr c 0x1D ((noteHit c s).modBezel c (fun B => { B with latched := true })) :=
  (ite_eq_or_eq _ _ _).symm

theorem noteHit_reported (c : ChanId) (s : State) : Reported (faultCode (5 + c.val) 0x1C) s (noteHit c s) :=
  (repStr_reported c 0x1C _ (strCode_ne_reaction c 0x1C)).of_flt rfl

theorem chanOnly_noteHit (c : ChanId) (s : State) : ChanOnly c s (noteHit c s) := (chanOnly_modBezel s c _).trans (chanOnly_repStr c 0x1C _)

theorem bezelHit_reported (c : ChanId) (s : State) : Reported (faultCode (5 + c.val) 0x1C) s (bezelHit c s) := by
  rcases bezelHit_cases c s with h | h <;> rw [h]
  · exact noteHit_reported c s
  · exact (noteHit_reported c s).then_cls (repStr_cls_other (by decide) c _)

theorem chanOnly_bezelHit (c : ChanId) (s : State) : ChanOnly c s (bezelHit c s) := by
  rcases bezelHit_cases c s with h | h <;> rw [h]
  · exact chanOnly_noteHit c s
  · exact ((chanOnly_noteHit c s).trans (chanOnly_modBezel _ c _)).trans (chanOnly_repStr c 0x1D _)

/-- Of the channel, a block or a truncation changes the Bezel's history and latch alone. -/
theorem bezelHit_chan (c : ChanId) (s : State) : ∃ hits latched,
    (bezelHit c s).chan c = { s.chan c with bezel := { (s.chan c).bezel with hits := hits, latched := latched } } := by
  rcases bezelHit_cases c s with h | h <;> rw [h]
  · exact ⟨_, (s.chan c).bezel.latched, by rw [noteHit, chan_repStr, State.chan_modBezel]⟩
  · exact ⟨_, true, by rw [chan_repStr, State.chan_modBezel, noteHit, chan_repStr, State.chan_modBezel]⟩

@[simp] theorem bezelHit_port (c d : ChanId) (q : PortId) (s : State) : (bezelHit c s).port d q = s.port d q := by
  rcases bezelHit_cases c s with h | h <;> rw [h] <;> simp [noteHit]

/-- An own frame in transmission on the east pair is cut with ABT and counted (R263). -/
theorem bezelTruncation_cuts {c : ChanId} {s : State} {k t : Nat} (ho : (s.chan c).ownUntil = some (k, t)) (ht : s.tim.now < t)
    (hw : (s.port c 1).wrapped = false) : bezelTruncation c s = bezelHit c (((s.modChan c (fun C => { C with ownUntil := none })).modPort c 1
      (fun P => { P with lastAbt := true })).modBezel c (fun B => { B with truncCnt := B.truncCnt + 1 })) := by
  simp [bezelTruncation, ho, ht, hw]

/-- Without an own frame in transmission there is nothing to cut. -/
theorem bezelTruncation_none {c : ChanId} {s : State}
    (h : (s.chan c).ownUntil = none ∨ ∃ k t, (s.chan c).ownUntil = some (k, t) ∧ t ≤ s.tim.now) : bezelTruncation c s = s := by
  rcases h with h | ⟨k, t, h, ht⟩
  · simp [bezelTruncation, h]
  · simp [bezelTruncation, h, Nat.not_lt.mpr ht]

/-! ## Own slots (R223, R259, R265) -/

/-- An own, used slot of one sender is due once own frames are allowed (R240, R250). -/
theorem slotDue_single {s : State} {c : ChanId} {e : SlotEntry} {k : Nat} (ho : ownSlot s e k = true) (hu : usedNow s e = true)
    (hc : testBit e.ch c.val = true) (hf : s.stra.node.ownFrom ≤ basicCycle s) (h2 : e.sender2 = 0) : slotDue s c e k = true := by
  simp [slotDue, ho, hu, hc, hf, h2]

/-- A DATA slot sends what its buffer held at the start of the cycle (R265). -/
theorem slotContent_data {s : State} {e : SlotEntry} {k : Nat} {b : List Byte} (hk : k ≠ 0) (h4 : e.kind ≠ 4)
    (hb : (tgetD s.stra.tx e.txBuf {}).atStart = some b) (φ : Fin 8) : slotContent s e k φ = some (1, b) := by
  simp [slotContent, hk, h4, hb]

theorem ownSlotSend_offers {s : State} {c : ChanId} {e : SlotEntry} {k kind : Nat} {φ : Fin 8} {b : List Byte}
    (hn : s.stra.node.nstate = .synced) (he : slotEntry? s s.stra.node.actMode k = some e) (hd : slotDue s c e k = true)
    (hc : slotContent s e k φ = some (kind, b)) (bz : Int) (since : Nat) :
    ownSlotSend c k φ bz since s = offerOwn c e k kind b s.stra.node.actMode φ bz since s := by
  simp [ownSlotSend, hn, he, hd, hc]

theorem ownSlotSend_silent {s : State} {c : ChanId} {e : SlotEntry} {k : Nat} (hn : s.stra.node.nstate = .silent)
    (he : slotEntry? s s.stra.node.actMode k = some e) (ho : ownSlot s e k = true) (hu : usedNow s e = true)
    (hc : testBit e.ch c.val = true) (φ : Fin 8) (bz : Int) (since : Nat) : ownSlotSend c k φ bz since s = missOwn c s := by
  simp [ownSlotSend, hn, he, ho, hu, hc]

/-- Where no late wrap of a SYNCED node's slot is to be reported, the command is the own slot alone (R336). -/
theorem LineRuns.completes_ownSlot {c : ChanId} {k : Fin 512} {φ : Fin 8} {bz : Int} {since : Nat} {s : State} {e : SlotEntry}
    {P : State → Prop} (hl : LineRuns s) (he : slotEntry? s s.stra.node.actMode k.val = some e)
    (hr : s.stra.node.nstate = .synced → reportLate (.txBuf e.txBuf) s = s) (hp : P (ownSlotSend c k.val φ bz since s)) :
    Completes (.ownSlotSend c k φ bz since) s P := by
  refine hl.completes (show execOwnSlotSend c k φ bz since s = _ from rfl) ?_
  have hlate : (if e.kind = 1 ∧ s.stra.node.nstate = .synced ∧ slotDue s c e k.val then reportLate (.txBuf e.txBuf) s else s) = s :=
    ite_eq_right_iff.mpr (fun h => hr h.2.1)
  simp only [he, hlate]
  exact hp

/-! ## Sending, blocking and missing an own frame -/

theorem offerOwn_passes {c : ChanId} {e : SlotEntry} {k kind : Nat} {b : List Byte} {bz : Int} {since : Nat} {s : State}
    (hf : (s.chan c).fwdUntil ≤ s.tim.now) (hz : bezelPasses s c e kind (b.length / 8) k bz since = true) (mode : Nat) (φ : Fin 8) :
    offerOwn c e k kind b mode φ bz since s = sendOwn c k kind b mode φ s := by
  rw [offerOwn, if_neg (Nat.not_lt.mpr hf), if_pos hz]

theorem offerOwn_blocked {c : ChanId} {e : SlotEntry} {k kind : Nat} {b : List Byte} {bz : Int} {since : Nat} {s : State}
    (hf : (s.chan c).fwdUntil ≤ s.tim.now) (hz : bezelPasses s c e kind (b.length / 8) k bz since = false) (mode : Nat) (φ : Fin 8) :
    offerOwn c e k kind b mode φ bz since s = bezelHit c (s.modBezel c (fun B => { B with blockCnt := B.blockCnt + 1 })) := by
  rw [offerOwn, if_neg (Nat.not_lt.mpr hf), if_neg (ne_true_of_eq_false hz)]

theorem offerOwn_collides {c : ChanId} {s : State} (hf : s.tim.now < (s.chan c).fwdUntil) (e : SlotEntry) (k kind : Nat) (b : List Byte)
    (mode : Nat) (φ : Fin 8) (bz : Int) (since : Nat) : offerOwn c e k kind b mode φ bz since s =
      missOwn c (repStr c 8 (s.modChan c (fun C => { C with collCnt := C.collCnt + 1 }))) := if_pos hf

/-- The bytes of an own frame at its source (R217, R219). -/
def ownFrame (s : State) (c : ChanId) (k kind mode : Nat) (b : List Byte) : List Byte :=
  newHeader kind (nodeId s c) c k mode (basicCycle s) (b.length / 8) ++ b ++
    frameFcs (newHeader kind (nodeId s c) c k mode (basicCycle s) (b.length / 8)) b

/-- An own DATA frame goes out on the east pair and holds the line for its time (R222, R223). -/
theorem sendOwn_data {s : State} {c : ChanId} (hs : s.pwr.shutdown = false) (hw : (s.port c 1).wrapped = false) (k : Nat) (b : List Byte)
    (mode : Nat) (φ : Fin 8) : sendOwn c k 1 b mode φ s =
      (s.modPort c 1 (fun P => { P with lastTx := ownFrame s c k 1 mode b, lastAbt := false })).modChan c
        (fun C => { C with ownUntil := some (k, s.tim.now + lineTime b.length) }) := by
  simp [sendOwn, hw, sendOn, hs, ownFrame]

theorem sendOwn_sends {s : State} {c : ChanId} (hs : s.pwr.shutdown = false) (hw : (s.port c 1).wrapped = false) (k : Nat) (b : List Byte)
    (mode : Nat) (φ : Fin 8) :
    let u := sendOwn c k 1 b mode φ s
    (u.port c 1).lastTx = ownFrame s c k 1 mode b ∧ (u.port c 1).lastAbt = false ∧
      (u.chan c).ownUntil = some (k, s.tim.now + lineTime b.length) ∧ SameBut [.stra] s u := by
  dsimp only
  rw [sendOwn_data hs hw, State.port_modChan, State.port_modPort, State.chan_modChan]
  · exact ⟨rfl, rfl, rfl, sameBut_stra s _⟩
  · exact fun _ => rfl

theorem missOwn_chan (c : ChanId) (s : State) : (missOwn c s).chan c = { s.chan c with ownMiss := (s.chan c).ownMiss + 1 } := by
  simp [missOwn]

theorem missOwn_port (c : ChanId) (s : State) (d : ChanId) (q : PortId) : (missOwn c s).port d q = s.port d q := by
  simp [missOwn, State.port_modChan]

theorem chanOnly_missOwn (c : ChanId) (s : State) : ChanOnly c s (missOwn c s) := (chanOnly_modChan s c _).trans (chanOnly_repStr c 0x1B _)

/-! ## MODE frames (R254) -/

/-- The MODE frames of a node taken out of both channels' inboxes. -/
def takeModeFrames (src : Nat) (s : State) : State :=
  bothChans.foldl (fun u c => u.modChan c (fun C => { C with inbox := C.inbox.filter (fun x => !(x.kind == 4 && x.src == src)) })) s

theorem sameBut_takeModeFrames (src : Nat) (s : State) : SameBut [.stra] s (takeModeFrames src s) := sameBut_stra s _

theorem takeModeFrames_keeps (src : Nat) (s : State) : (takeModeFrames src s).stra.node = s.stra.node ∧
    (takeModeFrames src s).regs = s.regs ∧ (takeModeFrames src s).tim = s.tim ∧ (takeModeFrames src s).flt = s.flt := ⟨rfl, rfl, rfl, rfl⟩

/-- A waiting MODE frame is taken; a SYNCED active master that has handled none in this cycle handles its request. -/
theorem modeFrameReceived_takes {s : State} {d : Delivered} (hd : lowestMode s = some d) (hn : s.stra.node.nstate = .synced)
    (hh : s.stra.node.handled = false) : modeFrameReceived s =
      if s.stra.node.master = true then handleRequest (byteAt d.payload 0 % 8) (takeModeFrames d.src s) else takeModeFrames d.src s := by
  obtain ⟨hnode, -⟩ := takeModeFrames_keeps d.src s
  have htaken : modeFrameReceived s = if (takeModeFrames d.src s).stra.node.master ∧ (takeModeFrames d.src s).stra.node.nstate = .synced then
      handleRequest (byteAt d.payload 0 % 8) (takeModeFrames d.src s) else takeModeFrames d.src s := by
    simp only [modeFrameReceived, hd, hh, Bool.false_eq_true, and_false, if_false]
    rfl
  rw [htaken, hnode]
  simp [hn]

theorem modeLead_congr {s u : State} (h : u.regs = s.regs) : modeLead u = modeLead s := by
  simp only [modeLead, syncHold, nodeCfg, regField_congr h]

/-- The node with a mode announced for a cycle (R254). -/
def Node.announce (mode cycle : Nat) (n : Node) : Node := { n with handled := true, pend := true, nextMode := mode, switchCycle := cycle }

/-- A present mode is announced MODE_LEAD + 1 cycles ahead where no other is (R254, R256). -/
theorem handleRequest_announces {s : State} {mode : Nat} (hm : modePresent s mode = true) (hp : s.stra.node.pend = false) :
    handleRequest mode s = repStr 0 0x19 (s.modNode (Node.announce mode ((basicCycle s + 1 + modeLead s) % 2 ^ 32))) :=
  if_pos ⟨hm, by rw [hp]; rfl⟩

/-! ## The operations of the schedule (R265, R268 to R270) -/

theorem strSlotWriteOp_now {d : Desc} (h : testBit d.flags 2 = false) (r : Fin 64) (s : State) :
    strSlotWriteOp r d s = opDone r d.tag 0 0 0 (loadTxBuf (field d.paramA 0 9) d.data s) := if_neg (ne_true_of_eq_false h)

theorem loadTxBuf_content (n : Nat) (b : List Byte) (s : State) :
    tgetD (loadTxBuf n b s).stra.tx n {} = { tgetD s.stra.tx n {} with content := some b } := tgetD_tset_self _ _ _ _

/-- The binding that STR_SLOT_BIND asks for (R268). -/
def slotBindOf (d : Desc) : SlotBind :=
  ⟨field d.paramA 9 3, field d.paramA 0 9, field d.paramA 12 1, field d.paramA 16 13, field d.paramB 0 7, field d.paramB 8 7, d.length⟩

/-- Does a binding stand in the way of another: of the same mode, with its slot and channel or its item (R269)? -/
def SlotBind.clashes (b x : SlotBind) : Bool := x.mode == b.mode && ((x.slot == b.slot && x.chan == b.chan) || x.item == b.item)

/-- The checks of STR_SLOT_BIND in their order (R269). -/
theorem strSlotBindOp_eq (r : Fin 64) (d : Desc) (s : State) : strSlotBindOp r d s =
    if 4096 ≤ s.stra.binds.length then opDone r d.tag 0x80 0 0 s
    else if !slotReceived s (field d.paramA 9 3) (field d.paramA 0 9) (field d.paramA 12 1) d.length then opDone r d.tag 0x81 0 0 s
    else if s.stra.binds.any (slotBindOf d).clashes then opDone r d.tag 0x82 0 0 s
    else opDone r d.tag 0 s.stra.binds.length 0 { s with stra := { s.stra with binds := s.stra.binds ++ [slotBindOf d] } } := rfl

/-- A request of a ring that waits for no answer is carried out (R253). -/
theorem Operational.completes_modeReq {r : Fin 64} {tag : Fin 1024} {d : Desc} {s : State} {P : State → Prop} (ho : Operational s)
    (hq : s.stra.node.reqs = []) (hd : startedOp s r tag.val 0x12 = some d) (hp : P (strModeReqOp r d s)) :
    Completes (.strModeReq r tag) s P := by
  refine ho.completes (show execStrModeReq r tag s = _ from rfl) ?_
  rw [hq, List.any_nil, if_neg Bool.false_ne_true, runOp_some _ hd]
  exact hp

theorem strModeReqOp_barred {s : State} (h : s.stra.node.nstate ≠ .synced ∨ nodeCfg s 3 1 = 0) (r : Fin 64) (d : Desc) :
    strModeReqOp r d s = opDone r d.tag 0x85 0 0 s := if_pos h

theorem strModeReqOp_absent {s : State} {d : Desc} (hn : s.stra.node.nstate = .synced) (hc : nodeCfg s 3 1 ≠ 0)
    (hm : modePresent s (field d.paramA 0 3) = false) (r : Fin 64) : strModeReqOp r d s = opDone r d.tag 0x83 0 0 s := by
  simp [strModeReqOp, hn, hc, hm]

/-- The node with one request more waiting (R253). -/
def Node.addRequest (q : ModeReq) (n : Node) : Node := { n with reqSeq := n.reqSeq + 1, reqs := n.reqs ++ [q] }

/-- At a node that is not master, a request for a present mode waits (R253, R270). -/
theorem strModeReqOp_waits {s : State} {d : Desc} (hn : s.stra.node.nstate = .synced) (hc : nodeCfg s 3 1 ≠ 0)
    (hm : modePresent s (field d.paramA 0 3) = true) (hs : s.stra.node.master = false) (r : Fin 64) :
    strModeReqOp r d s = s.modNode (Node.addRequest
      { ring := r.val, tag := d.tag, mode := field d.paramA 0 3, seq := (s.stra.node.reqSeq + 1).toNat }) := by
  unfold strModeReqOp
  rw [if_neg (by simp [hn, hc]), if_neg (by simp [hm])]
  exact if_neg (ne_true_of_eq_false hs)

/-! ## Answers to mode requests (R254, R270) -/

/-- A request that has come to its end leaves the waiting ones, and its operation ends. -/
def endRequest (q : ModeReq) (status switch : Nat) (s : State) : State :=
  opDone (Fin.ofNat 64 q.ring) q.tag status switch 0 (s.modNode (fun n => { n with reqs := n.reqs.erase q }))

theorem endRequest_ends {q : ModeReq} {qs : List ModeReq} {r : Fin 64} {d : Desc} {s : State} (hq : s.stra.node.reqs = q :: qs)
    (hr : q.ring = r.val) (ht : d.tag = q.tag) (hd : { desc := d, stage := .running : RunOp } ∈ (s.ringAt r).ops) (status switch : Nat) :
    Concluded (endRequest q status switch s) r d status switch 0 ∧ (endRequest q status switch s).stra.node.reqs = qs := by
  have hring : Fin.ofNat 64 q.ring = r := by rw [hr, Fin.ofNat_val_eq_self]
  unfold endRequest
  rw [hring, ← ht]
  exact ⟨opDone_concluded status switch 0 hd, by simp [hq]⟩

/-- A request is met where the announced mode is its own (R254). -/
theorem finishRequest_met {q : ModeReq} {next : Nat} (h : next = q.mode) (switch : Nat) (s : State) :
    finishRequest q true next switch s = endRequest q 0 switch s := if_pos (by simp [h])

theorem finishRequest_unannounced (q : ModeReq) (next switch : Nat) (s : State) :
    finishRequest q false next switch s = endRequest q 0x84 0 s := rfl

/-- The REF of a cycle after the first sending answers the oldest request (R270). -/
theorem modeReqAnswer_answered {q : ModeReq} {qs : List ModeReq} {s : State} {m nx sw c c0 : Nat} {p : Bool}
    (hq : s.stra.node.reqs = q :: qs) (hs : s.stra.node.master = false) (hl : s.stra.node.lastRef = some (m, p, nx, sw, c))
    (h0 : q.sentIn = some c0) (hc : c0 < c) : modeReqAnswer s = finishRequest q p nx sw s := by
  simp [modeReqAnswer, hq, hs, hl, h0, hc]

/-- Without an answer, a request ends after 64 cycles (R270). -/
theorem modeReqAnswer_expires {q : ModeReq} {qs : List ModeReq} {s : State} (hq : s.stra.node.reqs = q :: qs)
    (hs : s.stra.node.master = false) (h0 : q.sentIn = none) (hw : 64 ≤ q.waited) : modeReqAnswer s = endRequest q 0x86 0 s := by
  simp [modeReqAnswer, hq, hs, h0, hw, endRequest]

end Sys2Proof.Machine

end

section

open Sys2Proof Sys2Proof.Machine

/-- Settles O32: an own slot by whether it passes, is blocked or is missed, the operations by their checks in order, a request by its answer. -/
theorem slotsBezelAndRequests : Obligations.SlotsBezelAndRequests := by
  unfold Obligations.SlotsBezelAndRequests
  intro s
  refine ⟨fun hl => ⟨fun c k φ bz since e b hn hk he hown hu hch hfrom h2 h4 hb hr => ?own, fun c k φ bz since e hn he hown hu hch => ?silent,
    fun c k t ho ht hw => ?cut, fun c h => ?uncut, fun c h => ?unaligned, fun d hd hn hh => ?modeFrame⟩,
    fun ho => ⟨fun c => ?unlatch, fun r tag d hd hf => ?write, fun r tag d hd => ?bind, fun r tag d hd hq => ?request,
    fun r q qs d hq hr ht hd hs => ?answer⟩⟩
  case own =>
    have hoffer := ownSlotSend_offers hn he (slotDue_single hown hu hch hfrom h2)
      (slotContent_data (fun h => hk (Fin.ext h)) h4 hb φ) bz since
    refine ⟨fun hf hz hsd hw => ?passes, fun hf hz => ?blocked, fun hf => ?collides⟩ <;>
      refine hl.completes_ownSlot he (fun _ => hr) ?_ <;> rw [hoffer]
    case passes =>
      rw [offerOwn_passes hf hz]
      exact sendOwn_sends hsd hw k.val b s.stra.node.actMode φ
    case blocked =>
      rw [offerOwn_blocked hf hz]
      obtain ⟨hits, latched, hchan⟩ := bezelHit_chan c (s.modBezel c (fun B => { B with blockCnt := B.blockCnt + 1 }))
      refine ⟨by rw [hchan, State.chan_modBezel], fun p => by simp, (bezelHit_reported c _).of_flt rfl,
        (chanOnly_modBezel s c _).trans (chanOnly_bezelHit c _)⟩
    case collides =>
      rw [offerOwn_collides hf]
      refine ⟨?_, ?_, fun p => ?_, ((chanOnly_modChan s c _).trans (chanOnly_repStr c 8 _)).trans (chanOnly_missOwn c _)⟩
      · simp [missOwn_chan]
      · simp [missOwn_chan]
      · simp [missOwn_port, State.port_modChan]
  case silent =>
    refine hl.completes_ownSlot he (fun h => absurd (hn.symm.trans h) (by decide)) ?_
    rw [ownSlotSend_silent hn he hown hu hch]
    exact ⟨by rw [missOwn_chan], missOwn_port c s c, chanOnly_missOwn c s⟩
  case cut =>
    refine hl.completes (f := bezelTruncation c) rfl ?_
    rw [bezelTruncation_cuts ho ht hw]
    generalize hv : ((s.modChan c _).modPort c 1 _).modBezel c _ = v
    obtain ⟨hits, latched, hchan⟩ := bezelHit_chan c v
    rw [hchan, bezelHit_port]
    refine ⟨?_, ?_, ?_, ?_, ChanOnly.trans ?_ (chanOnly_bezelHit c v)⟩ <;> rw [← hv]
    · simp [State.chan_modPort]
    · simp [State.chan_modPort]
    · simp
    · simp [State.port_modChan]
    · exact ((chanOnly_modChan s c _).trans (chanOnly_modChan _ c _)).trans (chanOnly_modBezel _ c _)
  case uncut => exact hl.completes_unchanged (f := bezelTruncation c) rfl (bezelTruncation_none h)
  case unaligned =>
    refine hl.completes (show execBezelUnaligned c s = _ from rfl) ?_
    rw [onlyIf_true (decide_eq_true h)]
    exact ⟨by rw [State.chan_modBezel], chanOnly_modBezel s c _⟩
  case modeFrame =>
    obtain ⟨hnode, hregs, htim, hflt⟩ := takeModeFrames_keeps d.src s
    refine ⟨fun hm hmode hp => ?announced, fun hm => ?taken⟩ <;> refine hl.completes (f := modeFrameReceived) rfl ?_ <;>
      rw [modeFrameReceived_takes hd hn hh]
    case announced =>
      have hpresent : modePresent (takeModeFrames d.src s) (byteAt d.payload 0 % 8) = true := hmode
      have hcycle : basicCycle (takeModeFrames d.src s) = s.tick / 8 := congrArg (· / 8) (tick_congr htim)
      rw [if_pos hm, handleRequest_announces hpresent (by rw [hnode, hp]), hcycle, modeLead_congr hregs]
      obtain ⟨hafter, hrep, -⟩ := repStr_modNode (takeModeFrames d.src s)
        (Node.announce (byteAt d.payload 0 % 8) ((s.tick / 8 + 1 + modeLead s) % 2 ^ 32)) 0x19 (by decide)
      exact ⟨by rw [hafter, hnode]; rfl, hrep.of_flt hflt⟩
    case taken =>
      rw [if_neg (ne_true_of_eq_false hm)]
      exact ⟨hnode, sameBut_takeModeFrames d.src s⟩
  case unlatch =>
    exact ho.completes (f := Machine.unlatch c) rfl ⟨by rw [Machine.unlatch, State.chan_modBezel], chanOnly_modBezel s c _⟩
  case write =>
    obtain ⟨hrun, -, -⟩ := startedOp_mem hd
    refine ho.completes_runOp (f := strSlotWriteOp r) rfl hd ?_
    rw [strSlotWriteOp_now hf]
    exact ⟨loadTxBuf_content _ _ s, opDone_concluded 0 0 0 hrun,
      ((sameBut_stra s _).mono (by simp)).trans ((sameBut_opDone r d.tag 0 0 0 _).mono (by simp))⟩
  case bind =>
    obtain ⟨hrun, -, -⟩ := startedOp_mem hd
    refine ⟨fun hfull => ?full, fun hroom hslot => ?notReceived, fun hroom hslot hany => ?taken, fun hroom hslot hany => ?free⟩ <;>
      refine ho.completes_runOp (f := strSlotBindOp r) rfl hd ?_ <;> rw [strSlotBindOp_eq]
    case full =>
      rw [if_pos hfull]
      exact opDone_alone hrun 0x80 0 0
    case notReceived =>
      rw [if_neg (Nat.not_le.mpr hroom), if_pos (by rw [hslot]; rfl)]
      exact opDone_alone hrun 0x81 0 0
    case taken =>
      rw [if_neg (Nat.not_le.mpr hroom), if_neg (by rw [hslot]; decide), if_pos (show s.stra.binds.any (slotBindOf d).clashes = true from hany)]
      exact opDone_alone hrun 0x82 0 0
    case free =>
      rw [if_neg (Nat.not_le.mpr hroom), if_neg (by rw [hslot]; decide),
        if_neg (ne_true_of_eq_false (show s.stra.binds.any (slotBindOf d).clashes = false from hany))]
      exact ⟨opDone_concluded 0 s.stra.binds.length 0 hrun, rfl,
        ((sameBut_stra s _).mono (by simp)).trans ((sameBut_opDone r d.tag 0 _ 0 _).mono (by simp))⟩
  case request =>
    obtain ⟨hrun, -, -⟩ := startedOp_mem hd
    refine ⟨fun h => ?barred, fun hn hc hm => ?absent, fun hn hc hm hs => ?waits⟩ <;> refine ho.completes_modeReq hq hd ?_
    case barred =>
      rw [strModeReqOp_barred h]
      exact opDone_alone hrun 0x85 0 0
    case absent =>
      rw [strModeReqOp_absent hn hc hm]
      exact opDone_alone hrun 0x83 0 0
    case waits =>
      rw [strModeReqOp_waits hn hc hm hs]
      exact ⟨by rw [State.modNode_node, Node.addRequest, hq]; rfl, sameBut_modNode s _⟩
  case answer =>
    have hends := endRequest_ends hq hr ht hd
    refine ⟨fun m p nx sw c c0 hl h0 hc => ⟨fun hp hx => ?met, fun hp => ?unmet⟩, fun h0 hw => ?expired⟩ <;>
      refine ho.completes (f := modeReqAnswer) rfl ?_
    case met =>
      subst hp
      rw [modeReqAnswer_answered hq hs hl h0 hc, finishRequest_met hx]
      exact hends 0 sw
    case unmet =>
      subst hp
      rw [modeReqAnswer_answered hq hs hl h0 hc, finishRequest_unannounced]
      exact hends 0x84 0
    case expired =>
      rw [modeReqAnswer_expires hq hs h0 hw]
      exact hends 0x86 0

end

/-! # Node states, time masters and mode switches of the Strath schedule (R246 to R260)

What the node's events leave of it, how a COLD or REF frame moves it, how it becomes active master, and the statement about them. -/

section

namespace Sys2Proof.Machine

/-! ## Commands that change the node and report it -/

/-- Where the line runs, a command that changes the node and reports a class of the node leaves everything else as it is. -/
theorem LineRuns.completes_node {i : Instr} {f : State → State} {g : Node → Node} {o : Nat} {s : State} {N : Node} (hl : LineRuns s)
    (he : exec i s = actLine f s) (hf : f s = repStr 0 o (s.modNode g)) (hg : g s.stra.node = N) :
    Completes i s (fun u => u.stra.node = N ∧ Reported (faultCode 5 o) s u ∧ NodeOnly s u) := by
  refine hl.completes he ?_
  rw [hf, ← hg]
  exact repStr_modNode s g o (strCode_ne_reaction 0 o)

theorem repStr_tim (c : ChanId) (o : Nat) (s : State) : (repStr c o s).tim = s.tim := by simp

theorem ownId_congr {s u : State} (h : u.regs = s.regs) : ownId u = ownId s := regField_congr h

/-! ## The listen timer and the slow integration (R250) -/

theorem listenExpiry_coldStarts {s : State} (hn : s.stra.node.nstate = .listen) (hm : masterEn s = true) :
    listenExpiry s = repStr 0 0x11 (s.modNode (fun n => { n with nstate := .coldstart, coldStarts := n.coldStarts + 1, coldSent := [] })) :=
  (if_neg (not_not.mpr hn)).trans (if_pos hm)

theorem listenExpiry_restarts {s : State} (hn : s.stra.node.nstate = .listen) (hm : masterEn s = false) :
    listenExpiry s = restartListen s := (if_neg (not_not.mpr hn)).trans (if_neg (ne_true_of_eq_false hm))

theorem restartListen_node (s : State) : (restartListen s).stra.node = { s.stra.node with listenMs := 20 + ownId s } := rfl

/-! ## Frames taken from an inbox -/

/-- A delivered frame taken out of a channel's inbox. -/
def takeFrame (c : ChanId) (d : Delivered) (s : State) : State := s.modChan c (fun C => { C with inbox := C.inbox.erase d })

theorem takeFrame_inbox (c : ChanId) (d : Delivered) (s : State) : ((takeFrame c d s).chan c).inbox = (s.chan c).inbox.erase d :=
  congrArg Chan.inbox (State.chan_modChan s c _)

theorem ownId_takeFrame (c : ChanId) (d : Delivered) (s : State) : ownId (takeFrame c d s) = ownId s := ownId_congr rfl

/-- A handler is given the oldest waiting frame of its kind, taken out of the inbox. -/
theorem takeInbox_oldest {c : ChanId} {kind : Nat} {d : Delivered} {s : State} (h : (s.chan c).inbox.find? (fun d => d.kind == kind) = some d)
    (f : Delivered → State → State) : takeInbox c kind f s = f d (takeFrame c d s) := by
  rw [takeInbox, h, takeFrame]

/-! ## COLD frames (R250, R252) -/

/-- A node that has heard another SCHED_ID (R250). -/
def Node.refuse (n : Node) : Node := { n with nstate := .incompatible }

/-- A node in COLDSTART that gives way to a lower node ID (R252). -/
def Node.yield (n : Node) : Node := { n with nstate := .listen, yields := n.yields + 1 }

section

variable {d : Delivered} {s : State} (hsrc : d.src ≠ ownId s)

include hsrc

/-- In LISTEN, a COLD frame of another node restarts the timer. -/
theorem coldReceived_restarts (hn : s.stra.node.nstate = .listen) (hid : leAt d.payload 28 4 = s.cfg.stra.schedId) :
    coldReceived d s = restartListen s := by
  simp [coldReceived, hsrc, hn, hid]

/-- In COLDSTART, a COLD frame of a lower node ID makes the node yield. -/
theorem coldReceived_yields (hn : s.stra.node.nstate = .coldstart) (hid : leAt d.payload 28 4 = s.cfg.stra.schedId)
    (hlow : d.src < ownId s) : coldReceived d s = repStr 0 0x12 (restartListen (s.modNode Node.yield)) := by
  simp only [coldReceived, if_neg hsrc, hn, if_neg (not_not.mpr hid), if_pos hlow]
  rfl

/-- Before integration, a COLD frame of another SCHED_ID makes the node INCOMPATIBLE. -/
theorem coldReceived_refuses (hn : s.stra.node.nstate = .listen ∨ s.stra.node.nstate = .coldstart)
    (hid : leAt d.payload 28 4 ≠ s.cfg.stra.schedId) : coldReceived d s = repStr 0 0x14 (s.modNode Node.refuse) := by
  rcases hn with hn | hn <;> simp only [coldReceived, if_neg hsrc, hn, if_pos hid] <;> rfl

end

/-! ## REF frames (R247, R249, R250) -/

/-- A node in LISTEN that has heard a REF of its schedule (R250). -/
def Node.integrate (f : RefFields) (n : Node) : Node := { takeMode f n with nstate := .integrating, integCycles := 0, integSlow := false }

/-- The state in which a node that is not master takes a REF by its own state: the frame is out of the inbox, Bezel aligned, and the REF
noted (R247, R262). -/
def refNoted (c : ChanId) (d : Delivered) (f : RefFields) (s : State) : State :=
  noteRef c d f (bezelAlign c ((d.rxTime : Int) - (d.path * 4096 : Nat)) (takeFrame c d s))

theorem refReceived_slave {d : Delivered} {f : RefFields} {s : State} (hf : refFields d = some f) (hm : s.stra.node.master = false)
    (c : ChanId) : refReceived c d (takeFrame c d s) = refInState f (refNoted c d f s) := by
  have hslave : (bezelAlign c ((d.rxTime : Int) - (d.path * 4096 : Nat)) (takeFrame c d s)).stra.node.master = false := hm
  simp only [refReceived, hf, hslave, Bool.false_eq_true, false_and, if_false]
  rfl

/-- Noting a REF takes the master's node ID; of the time base it sets the UTC fields alone (R249). -/
theorem refNoted_notes (c : ChanId) (d : Delivered) (f : RefFields) (s : State) :
    (refNoted c d f s).stra.node.masterId = d.src ∧ (refNoted c d f s).tim.utcOfs = BitVec.ofNat 16 f.utcOfs ∧
      (refNoted c d f s).tim.now = s.tim.now := ⟨rfl, rfl, rfl⟩

theorem refInState_integrates {f : RefFields} {s : State} (hn : s.stra.node.nstate = .listen) (hid : f.sched = s.cfg.stra.schedId) :
    refInState f s = s.modNode (Node.integrate f) := by
  simp only [refInState, hn, if_neg (not_not.mpr hid)]
  rfl

theorem refInState_refuses {f : RefFields} {s : State} (hn : s.stra.node.nstate = .listen) (hid : f.sched ≠ s.cfg.stra.schedId) :
    refInState f s = repStr 0 0x14 (s.modNode Node.refuse) := by
  simp only [refInState, hn, if_pos hid]
  rfl

/-! ## The active time master (R246, R247, R251) -/

/-- From any state but UNSET, the time base becomes master without a step of module time or a report (R57). -/
theorem becomeMaster_set {s : State} (h : s.tim.state ≠ .unset) :
    (becomeMaster s).tim.state = .master ∧ (becomeMaster s).tim.now = s.tim.now ∧ (becomeMaster s).flt = s.flt := by
  cases hs : s.tim.state with
  | unset => exact absurd hs h
  | master => simp [becomeMaster, hs]
  | acquiring | locked | holdover => simp [becomeMaster, hs]

/-- The node as active time master (R247). -/
def Node.lead (id rank : Nat) (n : Node) : Node := { n with master := true, masterId := id, masterRnk := rank }

/-- A node whose time is set becomes the active time master, its time with it. -/
theorem takeMaster_takes {s : State} (h : s.tim.state ≠ .unset) :
    (takeMaster s).stra.node = s.stra.node.lead (ownId s) (nodeCfg s 0 2) ∧ (takeMaster s).tim.state = .master ∧
      (takeMaster s).tim.now = s.tim.now ∧ (takeMaster s).flt = s.flt :=
  ⟨by simp [takeMaster, Node.lead], becomeMaster_set (s := s.modNode (Node.lead (ownId s) (nodeCfg s 0 2))) h⟩

/-- The node of a completed cold start: SYNCED in mode 0, sending from a given cycle (R251). -/
def Node.syncFirst (cycle : Nat) (n : Node) : Node :=
  { n with nstate := .synced, actMode := 0, pend := false, nextMode := 0, switchCycle := 0, ownFrom := cycle }

theorem coldstartComplete_leads {s : State} (hn : s.stra.node.nstate = .coldstart) (hc : 16 ≤ s.stra.node.coldSent.length)
    (ht : s.tim.state ≠ .unset) :
    coldstartComplete s = (takeMaster s).modNode (Node.syncFirst (basicCycle (takeMaster s) + 1)) := by
  rw [coldstartComplete, if_pos ⟨hn, hc⟩, if_neg ht]
  rfl

/-- A completed cold start that steps no time leaves nothing to follow a step. -/
theorem LineRuns.completes_coldstart {inp : TickInputs} {s : State} {P : State → Prop} (hl : LineRuns s)
    (ht : (coldstartComplete s).tim.now = s.tim.now) (hp : P (coldstartComplete s)) : Completes (.coldstartComplete inp) s P := by
  refine hl.completes (show execColdstartComplete inp s = _ from rfl) ?_
  rwa [if_pos ht]

theorem masterTakeover_takes {s : State} (he : masterEn s = true) (hm : s.stra.node.master = false) (hn : s.stra.node.nstate = .synced)
    (hr : 2 + nodeCfg s 0 2 ≤ s.stra.node.missRun) :
    masterTakeover s = repStr 0 0x13 (takeMaster (s.modNode (fun n => { n with takeovers := n.takeovers + 1 }))) :=
  if_pos ⟨he, by rw [hm]; rfl, hn, hr⟩

/-! ## The sync monitor, TX_EN and the return of a silent node (R258 to R260) -/

/-- A node silenced for a cause (R258). -/
def Node.silent (cause : Nat) (n : Node) : Node := { n with nstate := .silent, silCause := BitVec.ofNat 3 cause, silCnt := n.silCnt + 1 }

theorem silence_eq (cause : Nat) (s : State) : silence cause s = repStr 0 0x15 (s.modNode (Node.silent cause)) := rfl

theorem txEnWrite_silences {s : State} (h : s.stra.node.nstate = .synced) :
    txEnWrite false s = silence 5 (regPut s (STR 0 + 0x1000) 4 1 0) := by
  have hsynced : (regPut s (STR 0 + 0x1000) 4 1 0).stra.node.nstate = .synced := h
  simp only [txEnWrite, bit, Bool.false_eq_true, if_false, Bool.not_false, hsynced, beq_self_eq_true, Bool.and_self, if_true]

theorem currentRef_now {s : State} {m nx sw : Nat} {p : Bool} (h : s.stra.node.lastRef = some (m, p, nx, sw, s.tick / 8)) :
    currentRef s = some (m, p, nx, sw) := by
  rw [currentRef, h]
  exact if_pos rfl

theorem anyLatched_false {s : State} (h : ∀ c, (s.chan c).bezel.latched = false) : anyLatched s = false := by
  simp [anyLatched, h]

/-- A silent node as it resumes with a REF's mode and announcement, sending from a given cycle (R260). -/
def Node.resume (m : Nat) (p : Bool) (nx sw cycle : Nat) (n : Node) : Node :=
  { n with nstate := .synced, actMode := m, pend := p, nextMode := nx, switchCycle := sw, ownFrom := cycle }

theorem nodeResume_resumes {s : State} {m nx sw : Nat} {p : Bool} (hr : s.stra.node.lastRef = some (m, p, nx, sw, s.tick / 8))
    (hn : s.stra.node.nstate = .silent) (ht : s.tim.state = .locked) (hm : modePresent s m = true)
    (hz : ∀ c, (s.chan c).bezel.latched = false) (hx : nodeCfg s 4 1 = 1) (ho : Operational s) :
    nodeResume s = repStr 0 0x16 (s.modNode (Node.resume m p nx sw (basicCycle s + 1))) := by
  rw [nodeResume, currentRef_now hr]
  exact if_pos ⟨hn, ht, hm, by rw [anyLatched_false hz]; rfl, hx, ho.2⟩

/-! ## Mode switches (R255) -/

theorem sdiff_self (w a : Nat) : sdiff w a a = 0 := by
  simp [sdiff, unsigned, signed]

theorem modeSwitch_switches {s : State} (hn : s.stra.node.nstate = .synced) (hp : s.stra.node.pend = true)
    (hc : s.stra.node.switchCycle = s.tick / 8 % 2 ^ 32) : modeSwitch s =
      repStr 0 0x1A (s.modNode (fun n => { n with actMode := n.nextMode, pend := false, nextMode := 0, switchCycle := 0 })) := by
  have hdue : 0 ≤ sdiff 32 (basicCycle s % 2 ^ 32) s.stra.node.switchCycle := by
    rw [hc, basicCycle, sdiff_self]
  exact if_pos ⟨hn, hp, hdue⟩

end Sys2Proof.Machine

end

section

open Sys2Proof Sys2Proof.Machine

/-- Settles O31: an event of the node by the change it makes, a COLD or REF frame by the node's state, a new master by its time base. -/
theorem nodeStatesAndMasters : Obligations.NodeStatesAndMasters := by
  unfold Obligations.NodeStatesAndMasters
  intro s
  refine ⟨fun hl => ⟨fun hn hm => ?coldStart, fun hn hm => ?restart, fun inp hn hc ht => ?synced,
    fun c d hd hsrc => ⟨fun hn hid => ?heardCold, fun hn hid hlow => ?yields, fun hn hid => ?refusesCold⟩,
    fun c d f hd hf hm hn => ⟨fun hid => ?integrates, fun hid => ?refusesRef⟩, fun hn hc hs => ?slow, fun he hm hn hr ht => ?takeover,
    fun hn hc => ?trips, fun h => ?holds, fun m p nx sw hr hn ht hm hz hx ho => ?resumes, fun hn hp hc => ?switches⟩,
    fun ho => ⟨fun hn => ?silenced, ?permitted⟩⟩
  case coldStart => exact hl.completes_node (f := listenExpiry) rfl (listenExpiry_coldStarts hn hm) rfl
  case restart =>
    refine hl.completes (f := listenExpiry) rfl ?_
    rw [listenExpiry_restarts hn hm]
    exact ⟨restartListen_node s, nodeOnly_modNode s _⟩
  case synced =>
    obtain ⟨hnode, hstate, hnow, -⟩ := takeMaster_takes ht
    have hcycle : basicCycle (takeMaster s) = s.tick / 8 := by rw [basicCycle, State.tick, hnow, State.tick]
    refine hl.completes_coldstart ?_ ?_ <;> rw [coldstartComplete_leads hn hc ht]
    · exact hnow
    · rw [State.modNode_node, hnode, hcycle]
      exact ⟨rfl, rfl, rfl, rfl, rfl, rfl, hstate, hnow⟩
  case heardCold =>
    refine hl.completes (f := takeInbox c 3 coldReceived) rfl ?_
    rw [takeInbox_oldest hd, coldReceived_restarts (s := takeFrame c d s) hsrc hn hid, restartListen_node, ownId_takeFrame]
    exact ⟨rfl, takeFrame_inbox c d s⟩
  case yields =>
    refine hl.completes (f := takeInbox c 3 coldReceived) rfl ?_
    rw [takeInbox_oldest hd, coldReceived_yields (s := takeFrame c d s) hsrc hn hid hlow]
    exact ⟨by rw [repStr_stra]; rfl, (repStr_reported 0 0x12 _ (strCode_ne_reaction 0 0x12)).of_flt rfl⟩
  case refusesCold =>
    refine hl.completes (f := takeInbox c 3 coldReceived) rfl ?_
    rw [takeInbox_oldest hd, coldReceived_refuses (s := takeFrame c d s) hsrc hn hid]
    obtain ⟨hnode, hrep, -⟩ := repStr_modNode (takeFrame c d s) Node.refuse 0x14 (strCode_ne_reaction 0 0x14)
    exact ⟨hnode, hrep.of_flt rfl⟩
  case integrates =>
    obtain ⟨hmaster, hutc, hnow⟩ := refNoted_notes c d f s
    refine hl.completes (f := takeInbox c 2 (refReceived c)) rfl ?_
    rw [takeInbox_oldest hd, refReceived_slave hf hm, refInState_integrates (s := refNoted c d f s) hn hid]
    exact ⟨rfl, rfl, rfl, hmaster, hutc, hnow⟩
  case refusesRef =>
    refine hl.completes (f := takeInbox c 2 (refReceived c)) rfl ?_
    rw [takeInbox_oldest hd, refReceived_slave hf hm, refInState_refuses (s := refNoted c d f s) hn hid]
    obtain ⟨hnode, hrep, -⟩ := repStr_modNode (refNoted c d f s) Node.refuse 0x14 (strCode_ne_reaction 0 0x14)
    exact ⟨by rw [hnode]; rfl, hrep.of_flt rfl⟩
  case slow =>
    exact hl.completes_node (show execIntegrationSlow s = _ from rfl) (onlyIf_true (by simp [hn, hc, hs])) rfl
  case takeover =>
    obtain ⟨hnode, hstate, -, hflt⟩ := takeMaster_takes (s := s.modNode (fun n => { n with takeovers := n.takeovers + 1 })) ht
    refine hl.completes (f := masterTakeover) rfl ?_
    rw [masterTakeover_takes he hm hn hr, repStr_stra, repStr_tim, hnode]
    exact ⟨rfl, rfl, rfl, hstate, (repStr_reported 0 0x13 _ (strCode_ne_reaction 0 0x13)).of_flt hflt⟩
  case trips =>
    exact hl.completes_node (show execSyncMonitorTrip s = _ from rfl) ((onlyIf_true (by simp [hn, hc])).trans (silence_eq _ s)) rfl
  case holds => exact hl.completes_unchanged (show execSyncMonitorTrip s = _ from rfl) (onlyIf_false (by rcases h with h | h <;> simp [h]))
  case resumes => exact hl.completes_node (f := nodeResume) rfl (nodeResume_resumes hr hn ht hm hz hx ho) rfl
  case switches => exact hl.completes_node (f := modeSwitch) rfl (modeSwitch_switches hn hp hc) rfl
  case silenced =>
    refine ho.completes (f := txEnWrite false) rfl ?_
    rw [txEnWrite_silences hn, silence_eq]
    obtain ⟨hnode, hrep, -⟩ := repStr_modNode (regPut s (STR 0 + 0x1000) 4 1 0) (Node.silent 5) 0x15 (strCode_ne_reaction 0 0x15)
    refine ⟨?_, hnode, hrep.of_flt (regPut_flt s _ 4 1 0)⟩
    rw [regField_congr (s := regPut s (STR 0 + 0x1000) 4 1 0) (by simp)]
    exact regField_regPut s _ 4 1 0 (by decide)
  case permitted => exact ho.completes (f := txEnWrite true) rfl ⟨regField_regPut s _ 4 1 1 (by decide), sameBut_regPut s _ 4 1 1⟩

end

/-! # Ethernet links and frames, TRDP, PTP and their operations (R275 to R293) -/

section

namespace Sys2Proof.Machine

/-! ## Updates of the Ethernet unit -/

theorem sameBut_eth (s : State) (x : Eth) : SameBut [.eth] s { s with eth := x } := by
  intro p hp
  cases p <;> simp_all [Part.same, State.lane]

theorem sameBut_modEth (s : State) (q : EthId) (f : EthPort → EthPort) : SameBut [.eth] s (s.modEth q f) := sameBut_eth s _

theorem State.ethPort_modEth_other (s : State) {q p : EthId} (h : p ≠ q) (f : EthPort → EthPort) :
    (s.modEth q f).ethPort p = s.ethPort p := vget_vmod_other _ _ _ f h

theorem ethPort_congr {s u : State} (h : u.eth = s.eth) (q : EthId) : u.ethPort q = s.ethPort q := by
  rw [State.ethPort, h, State.ethPort]

/-- A port is ready by its own registers and its own link (R294). -/
theorem ethReady_congr {s u : State} {q : EthId} (hregs : u.regs = s.regs) (hport : u.ethPort q = s.ethPort q) :
    ethReady u q = ethReady s q := by
  rw [ethReady, ethCfg, regField_congr hregs, hport, ethReady, ethCfg]

theorem ethTransmit_port (q : EthId) (t : EthTx) (s : State) : (ethTransmit q t s).ethPort q = { s.ethPort q with sent := some t } :=
  State.ethPort_modEth s q _

theorem ethTransmit_port_other {q p : EthId} (h : p ≠ q) (t : EthTx) (s : State) : (ethTransmit q t s).ethPort p = s.ethPort p :=
  State.ethPort_modEth_other s h _

theorem ethTransmit_sends (q : EthId) (t : EthTx) (s : State) :
    ((ethTransmit q t s).ethPort q).sent = some t ∧ SameBut [.eth] s (ethTransmit q t s) :=
  ⟨by rw [ethTransmit_port], sameBut_modEth s q _⟩

/-- A report after an update of a port counts its class and changes nothing else but that port (R563). -/
theorem rep_modEth {code : Nat} (h : code ≠ 0x402) (q : EthId) (f : EthPort → EthPort) (s : State) :
    (rep code (s.modEth q f)).ethPort q = f (s.ethPort q) ∧ (∀ p, p ≠ q → (rep code (s.modEth q f)).ethPort p = s.ethPort p) ∧
      Reported code s (rep code (s.modEth q f)) ∧ SameBut (.eth :: reportParts) s (rep code (s.modEth q f)) := by
  have hport : ∀ p, (rep code (s.modEth q f)).ethPort p = (s.modEth q f).ethPort p := ethPort_congr (by simp)
  refine ⟨(hport q).trans (State.ethPort_modEth s q f), fun p hp => (hport p).trans (State.ethPort_modEth_other s hp f),
    (rep_reported code _ h).of_flt rfl, ?_⟩
  exact ((sameBut_modEth s q f).mono (by simp)).trans ((sameBut_rep code _).mono (fun _ hm => List.mem_cons_of_mem _ hm))

/-- An operation that ends after an update of the Ethernet unit (R153). -/
theorem opDone_eth {s : State} {r : Fin 64} {d : Desc} (h : { desc := d, stage := .running : RunOp } ∈ (s.ringAt r).ops)
    (st ra rb : Nat) (x : Eth) :
    Concluded (opDone r d.tag st ra rb { s with eth := x }) r d st ra rb ∧ (opDone r d.tag st ra rb { s with eth := x }).eth = x ∧
      SameBut [.eth, .rng] s (opDone r d.tag st ra rb { s with eth := x }) :=
  ⟨opDone_concluded st ra rb h, rfl,
    ((sameBut_eth s x).mono (by simp)).trans ((sameBut_opDone r d.tag st ra rb _).mono (by simp))⟩

/-- An operation that ends once its frame has left a port (R153). -/
theorem opDone_transmit {s : State} {r : Fin 64} {d : Desc} (h : { desc := d, stage := .running : RunOp } ∈ (s.ringAt r).ops)
    (q : EthId) (t : EthTx) :
    Concluded (opDone r d.tag 0 0 0 (ethTransmit q t s)) r d 0 0 0 ∧
      ((opDone r d.tag 0 0 0 (ethTransmit q t s)).ethPort q).sent = some t ∧
      SameBut [.eth, .rng] s (opDone r d.tag 0 0 0 (ethTransmit q t s)) := by
  obtain ⟨hdone, heth, hbut⟩ := opDone_eth h 0 0 0 (ethTransmit q t s).eth
  obtain ⟨hsent, -⟩ := ethTransmit_sends q t s
  exact ⟨hdone, (congrArg EthPort.sent (ethPort_congr heth q)).trans hsent, hbut⟩

/-- An event of a link whose condition holds changes its port and reports its class (R293). -/
theorem Operational.completes_linkEvent {i : Instr} {s : State} {code : Nat} (ho : Operational s) (q : EthId) (p : State → Bool)
    (f : EthPort → EthPort) (hc : code ≠ 0x402) (he : exec i s = act (fun u => onlyIf (p u) (fun v => rep code (v.modEth q f)) u) s)
    (hp : p s = true) :
    Completes i s (fun u => u.ethPort q = f (s.ethPort q) ∧ u.ethPort (1 - q) = s.ethPort (1 - q) ∧ Reported code s u ∧
      SameBut (.eth :: reportParts) s u) := by
  have hother : ∀ q : EthId, 1 - q ≠ q := by decide
  obtain ⟨hport, hkeep, hrep, hbut⟩ := rep_modEth hc q f s
  refine ho.completes he ?_
  rw [onlyIf_true hp]
  exact ⟨hport, hkeep _ (hother q), hrep, hbut⟩

/-! ## Received frames (R275, R282) -/

theorem ethFrameReceived_unready {s : State} {q : EthId} (h : ethReady s q = false) (φ : Fin 8) (full : Bool) (f : EthFrame) :
    ethFrameReceived q φ full f s = s := if_pos (by rw [h]; rfl)

theorem ethFrameReceived_badFcs {s : State} {q : EthId} (h : ethReady s q = true) (φ : Fin 8) (full : Bool) :
    ethFrameReceived q φ full .badFcs s = s.modEth q (fun P => { P with fcsErr := P.fcsErr + 1 }) := by
  simp [ethFrameReceived, h]

theorem ethFrameReceived_subscribed {s : State} {q : EthId} {comId : Nat} {b : Subscription} (h : ethReady s q = true)
    (hb : subFor s q comId = some b) (φ : Fin 8) (full : Bool) (src seq etb op : Nat) (x : List Byte) :
    ethFrameReceived q φ full (.pd comId src seq etb op x) s = acceptFrame q full (pdArrival q φ b src seq etb op x) s := by
  simp [ethFrameReceived, h, hb]

/-- A port with one accepted frame more (R275). -/
def countRx (q : EthId) (s : State) : State := s.modEth q (fun P => { P with rxFrames := P.rxFrames + 1 })

theorem countRx_port (q : EthId) (s : State) : (countRx q s).ethPort q = { s.ethPort q with rxFrames := (s.ethPort q).rxFrames + 1 } :=
  State.ethPort_modEth s q _

theorem countRx_sameBut (q : EthId) (s : State) : SameBut [.eth] s (countRx q s) := sameBut_modEth s q _

theorem acceptFrame_room (q : EthId) (f : State → State) (s : State) : acceptFrame q false f s = f (countRx q s) := rfl

/-- A frame that finds the buffer full is dropped and counted; the first of a tick is reported (R275). -/
theorem ethOverflow_drops (q : EthId) (s : State) :
    ((ethOverflow q s).ethPort q).rxDrop = (s.ethPort q).rxDrop + 1 ∧ ((ethOverflow q s).ethPort q).rxFrames = (s.ethPort q).rxFrames ∧
      SameBut (.eth :: reportParts) s (ethOverflow q s) := by
  have hdrop : (ethDrop q s).ethPort q = { s.ethPort q with rxDrop := (s.ethPort q).rxDrop + 1 } := State.ethPort_modEth s q _
  have hbut : SameBut (.eth :: reportParts) s (ethDrop q s) := (sameBut_modEth s q _).mono (by simp)
  unfold ethOverflow
  dsimp only
  split
  · rw [hdrop]
    exact ⟨rfl, rfl, hbut⟩
  · obtain ⟨hport, -, -, hrep⟩ := rep_modEth (code := 0x2003) (by decide) q (fun P => { P with ovfTick := true }) (ethDrop q s)
    rw [hport, hdrop]
    exact ⟨rfl, rfl, hbut.trans hrep⟩

/-- Does a PD frame's sequence counter not follow the last one of its subscription (R282)? -/
def Subscription.gapBefore (b : Subscription) (seq : Nat) : Bool :=
  match b.lastSeq with
  | some n => seq != (n + 1) % 2 ^ 32
  | none => false

/-- A PD frame's source is none that its subscription names (R282). -/
def Subscription.foreign (b : Subscription) (src : Nat) : Bool :=
  (b.src1 != 0 || b.src2 != 0) && !((b.src1 != 0 && src == b.src1) || (b.src2 != 0 && src == b.src2))

/-- A PD frame's topology counters are neither 0 nor the configured ones (R282). -/
def foreignTopo (s : State) (etb op : Nat) : Bool :=
  (etb != 0 && etb != s.cfg.eth.etbTopo) || (op != 0 && op != s.cfg.eth.opTopo)

/-- The value that a PD frame brings to its item (R282). -/
def pdValue (s : State) (q : EthId) (φ : Fin 8) (b : Subscription) (src seq etb op : Nat) (x : List Byte) : Arrival :=
  { valid := !b.foreign src && !(x.length != b.length) && !foreignTopo s etb op,
    engBits := BitVec.ofNat 8 (q.val + 2 * bit (b.gapBefore seq) + 4 * bit (b.foreign src) + 8 * bit (x.length != b.length) +
      16 * bit (foreignTopo s etb op)),
    rxTs := compactTs (ingressTime q φ s), payload := x }

/-- The state with a PD frame's sequence counter noted, and a gap before it counted (R282). -/
def notePd (q : EthId) (b : Subscription) (seq : Nat) (s : State) : State :=
  let s1 := { s with eth := { s.eth with subs := s.eth.subs.map (fun x => if x = b then { b with lastSeq := some seq } else x) } }
  if b.gapBefore seq then s1.modEth q (fun P => { P with seqGap := P.seqGap + 1 }) else s1

theorem pdArrival_eq (q : EthId) (φ : Fin 8) (b : Subscription) (src seq etb op : Nat) (x : List Byte) (s : State) :
    pdArrival q φ b src seq etb op x s = arriveFrom 4 b.item (pdValue s q φ b src seq etb op x) (notePd q b seq s) := rfl

theorem notePd_sameBut (q : EthId) (b : Subscription) (seq : Nat) (s : State) : SameBut [.eth] s (notePd q b seq s) := by
  unfold notePd
  split
  · exact (sameBut_eth s _).trans (sameBut_modEth _ q _)
  · exact sameBut_eth s _

theorem notePd_rxFrames (q : EthId) (b : Subscription) (seq : Nat) (s : State) :
    ((notePd q b seq s).ethPort q).rxFrames = (s.ethPort q).rxFrames := by
  unfold notePd
  split
  · rw [State.ethPort_modEth]
    rfl
  · rfl

/-- A source that is not foreign is one of those named, or none is named. -/
theorem Subscription.foreign_eq_false (b : Subscription) (src : Nat) : b.foreign src = false ↔
    (b.src1 = 0 ∧ b.src2 = 0) ∨ (b.src1 ≠ 0 ∧ src = b.src1) ∨ (b.src2 ≠ 0 ∧ src = b.src2) := by
  by_cases h1 : b.src1 = 0 <;> by_cases h2 : b.src2 = 0 <;> simp [foreign, h1, h2, or_iff_not_imp_left]

theorem foreignTopo_eq_false (s : State) (etb op : Nat) : foreignTopo s etb op = false ↔
    (etb = 0 ∨ etb = s.cfg.eth.etbTopo) ∧ (op = 0 ∨ op = s.cfg.eth.opTopo) := by
  simp [foreignTopo, or_iff_not_imp_left]

theorem pdValue_valid (s : State) (q : EthId) (φ : Fin 8) (b : Subscription) (src seq etb op : Nat) (x : List Byte) :
    (pdValue s q φ b src seq etb op x).valid = true ↔
      ((b.src1 = 0 ∧ b.src2 = 0) ∨ (b.src1 ≠ 0 ∧ src = b.src1) ∨ (b.src2 ≠ 0 ∧ src = b.src2)) ∧ x.length = b.length ∧
        (etb = 0 ∨ etb = s.cfg.eth.etbTopo) ∧ (op = 0 ∨ op = s.cfg.eth.opTopo) := by
  rw [← b.foreign_eq_false src, ← foreignTopo_eq_false s etb op]
  simp [pdValue, and_assoc]

/-- A subscribed PD frame for which there is room counts and fills its item's back buffer (R275, R282). -/
theorem acceptFrame_pd {s : State} {b : Subscription} {c : InItemCfg} (hc : inItem? s b.item = some c) (hn : receiverOf s b.item = none)
    (q : EthId) (φ : Fin 8) (src seq etb op : Nat) (x : List Byte) :
    let u := acceptFrame q false (pdArrival q φ b src seq etb op x) s
    (u.ethPort q).rxFrames = (s.ethPort q).rxFrames + 1 ∧ SameBut [.eth, .cyc] s u ∧
      (tgetD u.cyc.items b.item {}).back =
        some { pdValue s q φ b src seq etb op x with payload := padTo c.length x } := by
  have hnote := (countRx_sameBut q s).trans (notePd_sameBut q b seq (countRx q s))
  have hcfg : (notePd q b seq (countRx q s)).cfg = s.cfg := hnote .cfg (by simp)
  obtain ⟨hback, -, hbut, -⟩ := arriveFrom_item 4 b.item (pdValue (countRx q s) q φ b src seq etb op x)
    (notePd q b seq (countRx q s)) c ((inItem_congr hcfg _).trans hc) ((receiverOf_congr hcfg _).trans hn)
  dsimp only
  rw [acceptFrame_room, pdArrival_eq]
  refine ⟨?_, (hnote.mono (by simp)).trans (hbut.mono (by simp)), hback⟩
  rw [ethPort_congr (hbut .eth (by simp)), notePd_rxFrames, countRx_port]

/-! ## Sessions (R284) -/

/-- A session of this module that times out closes, and its operation ends (R284). -/
theorem mdTimeout_own {s : State} {h t : Nat} {r : Fin 64} {x : Session} (hx : s.eth.sessions.find? (fun y => y.handle == h) = some x)
    (hop : x.op = some (r.val, t)) : mdTimeout h s = opDone r t 0x84 0 0 (closeSession x s) := by
  simp [mdTimeout, hx, hop]

/-! ## Publications (R280, R281) -/

/-- A publication's frame out of a port, where its mask names the port and the port is ready (R281). -/
def pdOut (c : PubCfg) (seq : Nat) (b : List Byte) (s : State) (q : EthId) : State :=
  if testBit c.mask q.val && ethReady s q then
    ethTransmit q (.pd c.comId c.dest seq s.cfg.eth.etbTopo s.cfg.eth.opTopo b) s
  else s

/-- The state with a publication's next sequence counter taken and its sending noted (R280). -/
def countPd (n comId seq : Nat) (s : State) : State :=
  { s with eth := { s.eth with
    seqs := tset s.eth.seqs comId seq, pubs := tset s.eth.pubs n { tgetD s.eth.pubs n {} with sentIn := some (basicCycle s) } } }

/-- The next sequence counter of a ComId (R280). -/
def nextSeq (s : State) (comId : Nat) : Nat := (tgetD s.eth.seqs comId (2 ^ 32 - 1) + 1) % 2 ^ 32

/-- A publication with content at its send instant is offered to both ports (R280, R281, R452). -/
theorem pdSend_due {s : State} {n : Nat} {c : PubCfg} {b : List Byte} (hc : tget? s.cfg.eth.pubs n = some c)
    (hb : (tgetD s.eth.pubs n {}).atTick = some b) (hd : pdDue s n c = true) (hg : gateOpen s (.pd n) = true) :
    pdSend n s = bothEth.foldl (pdOut c (nextSeq s c.comId) b) (countPd n c.comId (nextSeq s c.comId) s) := by
  have hdue : pdDue s n c = true ∧ gateOpen s (.pd n) = true := ⟨hd, hg⟩
  unfold pdSend
  rw [hc]
  dsimp only
  split
  case h_1 hnone => simp [hb] at hnone
  case h_2 x hx =>
    cases hb.symm.trans hx
    exact if_pos hdue

theorem pdOut_cases (c : PubCfg) (seq : Nat) (b : List Byte) (s : State) (q : EthId) :
    pdOut c seq b s q = ethTransmit q (.pd c.comId c.dest seq s.cfg.eth.etbTopo s.cfg.eth.opTopo b) s ∨ pdOut c seq b s q = s :=
  ite_eq_or_eq _ _ _

theorem pdOut_port_other {q p : EthId} (h : p ≠ q) (c : PubCfg) (seq : Nat) (b : List Byte) (s : State) :
    (pdOut c seq b s q).ethPort p = s.ethPort p := by
  rcases pdOut_cases c seq b s q with he | he <;> rw [he]
  exact ethTransmit_port_other h _ s

theorem pdOut_seqs (c : PubCfg) (seq : Nat) (b : List Byte) (s : State) (q : EthId) : (pdOut c seq b s q).eth.seqs = s.eth.seqs := by
  rcases pdOut_cases c seq b s q with he | he <;> rw [he]
  rfl

theorem pdOut_sameBut (c : PubCfg) (seq : Nat) (b : List Byte) (s : State) (q : EthId) : SameBut [.eth] s (pdOut c seq b s q) := by
  rcases pdOut_cases c seq b s q with he | he <;> rw [he]
  · exact sameBut_modEth s q _
  · exact SameBut.refl _ s

theorem pdOut_sends {c : PubCfg} {s : State} {q : EthId} (hm : testBit c.mask q.val = true) (hr : ethReady s q = true) (seq : Nat)
    (b : List Byte) : ((pdOut c seq b s q).ethPort q).sent = some (.pd c.comId c.dest seq s.cfg.eth.etbTopo s.cfg.eth.opTopo b) := by
  rw [pdOut, if_pos (by rw [hm, hr]; rfl), ethTransmit_port]

/-- Offered to both ports, the frame leaves each that the mask names and that is ready: the ports do not disturb each other. -/
theorem bothEth_pdOut_sends {c : PubCfg} {s : State} {q : EthId} (hm : testBit c.mask q.val = true) (hr : ethReady s q = true) (seq : Nat)
    (b : List Byte) :
    ((bothEth.foldl (pdOut c seq b) s).ethPort q).sent = some (.pd c.comId c.dest seq s.cfg.eth.etbTopo s.cfg.eth.opTopo b) := by
  change ((pdOut c seq b (pdOut c seq b s 0) 1).ethPort q).sent = _
  match q with
  | 0 =>
    rw [pdOut_port_other (by decide), pdOut_sends hm hr]
  | 1 =>
    have hfirst := pdOut_sameBut c seq b s 0
    have hregs : (pdOut c seq b s 0).regs = s.regs := hfirst .regs (by simp)
    have hcfg : (pdOut c seq b s 0).cfg = s.cfg := hfirst .cfg (by simp)
    rw [pdOut_sends hm ((ethReady_congr hregs (pdOut_port_other (by decide) c seq b s)).trans hr), hcfg]

/-- Where a late wrap has nothing to report, the command is the send instant of its publication alone (R281, R336). -/
theorem Operational.completes_publication {s : State} {n : Fin 512} {P : State → Prop} (ho : Operational s)
    (hr : reportLate (.pd n.val) s = s) (hp : P (pdSend n.val s)) : Completes (.pdPublicationSend n) s P := by
  refine ho.completes (show execPdPublicationSend n s = _ from rfl) ?_
  have hlate : ∀ due, onlyIf due (reportLate (.pd n.val)) s = s := by
    intro due
    cases due with
    | false => exact onlyIf_false rfl
    | true => exact (onlyIf_true rfl).trans hr
  dsimp only
  rw [hlate]
  exact hp

theorem pdSend_sends {s : State} {q : EthId} {n : Nat} {c : PubCfg} {b : List Byte} (hc : tget? s.cfg.eth.pubs n = some c)
    (hb : (tgetD s.eth.pubs n {}).atTick = some b) (hd : pdDue s n c = true) (hg : gateOpen s (.pd n) = true)
    (hm : testBit c.mask q.val = true) (hr : ethReady s q = true) :
    ((pdSend n s).ethPort q).sent = some (.pd c.comId c.dest (nextSeq s c.comId) s.cfg.eth.etbTopo s.cfg.eth.opTopo b) ∧
      tgetD (pdSend n s).eth.seqs c.comId 0 = nextSeq s c.comId ∧ SameBut [.eth] s (pdSend n s) := by
  rw [pdSend_due hc hb hd hg]
  refine ⟨bothEth_pdOut_sends (s := countPd n c.comId (nextSeq s c.comId) s) hm hr _ b, ?_,
    (sameBut_eth s _).trans (SameBut.foldl (pdOut_sameBut c _ b) bothEth _)⟩
  change tgetD (pdOut c _ b (pdOut c _ b _ 0) 1).eth.seqs c.comId 0 = _
  rw [pdOut_seqs, pdOut_seqs]
  exact tgetD_tset_self _ _ _ _

/-! ## PTP (R285) -/

theorem ptpReceived_otherDomain {s : State} {q : EthId} {m : Nat} (h : m ≠ ethCfg s q 4 7) (φ : Fin 8) (x : PtpMsg) :
    ptpReceived q φ m x s = s := if_pos (by simp [h])

/-- A MASTER port counts a Delay_Req and answers it with the time of its arrival (R285). -/
theorem ptpReceived_delayReq {s : State} {q : EthId} {m : Nat} (hr : ethReady s q = true) (hrole : ptpRole s q = .master)
    (hm : m = ethCfg s q 4 7) (hst : (s.ethPort q).ptpState = ptpMaster) (φ : Fin 8) (seq : Nat) :
    ptpReceived q φ m (.delayReq seq) s = ethTransmit q (.ptpDelayResp seq (ingressTime q φ s / 2 ^ 24))
      (countRx q s) := by
  have hpass : (!ethReady s q || ptpRole s q == .disabled || m != ethCfg s q 4 7) = false := by simp [hr, hrole, hm]
  have hmaster : ((countRx q s).ethPort q).ptpState = ptpMaster := by
    rw [countRx_port]
    exact hst
  unfold ptpReceived
  rw [if_neg (ne_true_of_eq_false hpass)]
  refine (if_pos hmaster).trans ?_
  rw [Int.toNat_natCast]
  rfl

theorem ptpSend_announce {s : State} {q : EthId} (hr : ethReady s q = true) (hrole : ptpRole s q = .master)
    (hst : (s.ethPort q).ptpState = ptpMaster) (ht : timeGood s = true) (φ : Fin 8) :
    ptpSend q φ .announce s = ethTransmit q (.ptpAnnounce s.tim.utcOfs s.tim.utcValid) s := by
  simp [ptpSend, hr, hrole, hst, ht]

/-! ## Operations (R291, R292) -/

/-- An operation that is not TIMED takes effect at once (R161). -/
theorem runTimed_now {d : Desc} (h : testBit d.flags 2 = false) (r : Fin 64) (ra rb : Nat) (f : State → State) (s : State) :
    runTimed r d ra rb f s = f s := if_neg (ne_true_of_eq_false h)

/-- The port that an operation's PARAM_A names (R291). -/
theorem paramPort_eq {d : Desc} {q : EthId} (h : field d.paramA 0 1 = q.val) : (Fin.ofNat 2 (field d.paramA 0 1) : EthId) = q := by
  rw [h, Fin.ofNat_val_eq_self]

/-- ETH_SEND that is not TIMED: the port is checked, then the frame goes out, with its timestamp where one is asked for (R291). -/
theorem ethSendOp_now {q : EthId} {d : Desc} (hf : testBit d.flags 2 = false) (hq : field d.paramA 0 1 = q.val) (r : Fin 64)
    (φ : Fin 8) (s : State) : ethSendOp r φ d s =
      let s1 := ethFrameOut q (d.withData s).data s
      let ts := compactTs (egressTime q φ s1)
      let queued := pushTxTs q (field d.paramB 0 16) ts s1
      if !ethReady s q then opDone r d.tag 0x81 0 0 s
      else if testBit d.paramA 1 then
        if queued.2 then opDone r d.tag 0 (field d.paramB 0 16) ts.toNat queued.1 else opDone r d.tag 0x80 (field d.paramB 0 16) 0 queued.1
      else opDone r d.tag 0 0 0 s1 := by
  unfold ethSendOp
  rw [runTimed_now (d := d.withData s) hf, ← paramPort_eq hq]
  rfl

theorem ethSendOp_unready {s : State} {q : EthId} {d : Desc} (hf : testBit d.flags 2 = false) (hq : field d.paramA 0 1 = q.val)
    (h : ethReady s q = false) (r : Fin 64) (φ : Fin 8) : ethSendOp r φ d s = opDone r d.tag 0x81 0 0 s := by
  rw [ethSendOp_now hf hq, if_pos (by rw [h]; rfl)]

theorem ethSendOp_untimed {s : State} {q : EthId} {d : Desc} (hf : testBit d.flags 2 = false) (hq : field d.paramA 0 1 = q.val)
    (h : ethReady s q = true) (ht : testBit d.paramA 1 = false) (r : Fin 64) (φ : Fin 8) :
    ethSendOp r φ d s = opDone r d.tag 0 0 0 (ethFrameOut q (d.withData s).data s) := by
  rw [ethSendOp_now hf hq, if_neg (by rw [h]; decide), if_neg (ne_true_of_eq_false ht)]

theorem trdpPdPubOp_now {d : Desc} (h : testBit d.flags 2 = false) (r : Fin 64) (s : State) :
    trdpPdPubOp r d s = opDone r d.tag 0 0 0 (loadPub (field d.paramA 0 9) (d.withData s).data s) :=
  runTimed_now (d := d.withData s) h r 0 0 (fun u => opDone r d.tag 0 0 0 (loadPub (field d.paramA 0 9) (d.withData s).data u)) s

theorem loadPub_content (n : Nat) (b : List Byte) (s : State) : (tgetD (loadPub n b s).eth.pubs n {}).content = some b :=
  congrArg PubSt.content (tgetD_tset_self _ _ _ _)

/-- The subscription that TRDP_PD_SUB asks for (R291). -/
def subscriptionOf (d : Desc) : Subscription :=
  { item := field d.paramA 0 13, port := field d.paramA 16 1, comId := d.paramB, src1 := d.paramC, src2 := d.addr % 2 ^ 32,
    length := d.length }

/-- Does a subscription stand in the way of another: with its item, or its port and ComId (R292)? -/
def Subscription.clashes (b x : Subscription) : Bool := x.item == b.item || (x.port == b.port && x.comId == b.comId)

/-- The checks of TRDP_PD_SUB in their order (R292). -/
theorem trdpPdSubOp_eq (r : Fin 64) (d : Desc) (s : State) : trdpPdSubOp r d s =
    if 512 ≤ s.eth.subs.length || !s.cfg.eth.subComIds.contains d.paramB then opDone r d.tag 0x82 0 0 s
    else if s.eth.subs.any (subscriptionOf d).clashes then opDone r d.tag 0x83 0 0 s
    else opDone r d.tag 0 s.eth.subs.length 0 { s with eth := { s.eth with subs := s.eth.subs ++ [subscriptionOf d] } } := rfl

theorem trdpPdSubOp_barred {s : State} {d : Desc} (h : 512 ≤ s.eth.subs.length ∨ s.cfg.eth.subComIds.contains d.paramB = false)
    (r : Fin 64) : trdpPdSubOp r d s = opDone r d.tag 0x82 0 0 s := by
  have hbar : (decide (512 ≤ s.eth.subs.length) || !s.cfg.eth.subComIds.contains d.paramB) = true := by
    rcases h with h | h
    · rw [decide_eq_true h, Bool.true_or]
    · rw [h, Bool.not_false, Bool.or_true]
  rw [trdpPdSubOp_eq, if_pos (by simpa only [Bool.or_eq_true, decide_eq_true_eq] using hbar)]

/-- There is room for the subscription and its ComId is configured (R292). -/
theorem trdpPdSubOp_fits {s : State} {d : Desc} (hn : s.eth.subs.length < 512) (hc : s.cfg.eth.subComIds.contains d.paramB = true)
    (r : Fin 64) : trdpPdSubOp r d s =
      if s.eth.subs.any (subscriptionOf d).clashes then opDone r d.tag 0x83 0 0 s
      else opDone r d.tag 0 s.eth.subs.length 0 { s with eth := { s.eth with subs := s.eth.subs ++ [subscriptionOf d] } } := by
  rw [trdpPdSubOp_eq, if_neg (by rw [hc]; simpa using hn)]

theorem trdpMdSendOp_notice {s : State} {q : EthId} {d : Desc} (hq : field d.paramA 0 1 = q.val) (hk : field d.paramA 1 2 = 0)
    (h : ethReady s q = true) (r : Fin 64) :
    trdpMdSendOp r d s = opDone r d.tag 0 0 0 (ethTransmit q (.md 0 d.paramB d.paramC 0 (readBuffer s d.addr d.length)) s) := by
  unfold trdpMdSendOp
  dsimp only
  rw [paramPort_eq hq, hk, if_neg (by rw [h]; decide)]
  rfl

/-- A started operation that waits neither in a session nor in a posted buffer is carried out (R284). -/
theorem Operational.completes_unwaiting {i : Instr} {s : State} {r : Fin 64} {tag : Fin 1024} {opcode : Nat} {d : Desc}
    {f : Desc → State → State} {P : State → Prop} (ho : Operational s)
    (he : exec i s = act (fun s => onlyIf (!ethWaits s r tag) (runOp r tag opcode f) s) s) (hw : ethWaits s r tag = false)
    (hd : startedOp s r tag.val opcode = some d) (hp : P (f d s)) : Completes i s P := by
  refine ho.completes he ?_
  rw [onlyIf_true (by rw [hw]; rfl), runOp_some f hd]
  exact hp

theorem ptpReadOp_port {s : State} {q : EthId} {d : Desc} (hq : field d.paramA 0 1 = q.val) (r : Fin 64) :
    ptpReadOp r d s = opDone r d.tag 0
      ((s.ethPort q).ptpState.toNat + 16 * bit (s.ethPort q).offset.isSome + 256 * (s.ethPort q).steps.toNat)
      (unsigned 64 ((s.ethPort q).offset.getD 0)) s := by
  rw [ptpReadOp, paramPort_eq hq]

end Sys2Proof.Machine

end

section

open Sys2Proof Sys2Proof.Machine

/-- Settles O33: a link by its event, a frame by what the port accepts of it, a publication by the two ports it is offered to, the
operations by their checks in order. -/
theorem ethernetAndTrdp : Obligations.EthernetAndTrdp := by
  unfold Obligations.EthernetAndTrdp
  intro s q ho
  refine ⟨fun v h => ?up, fun h => ?down, fun φ full f h => ?unready, fun φ full h => ?badFcs,
    fun φ comId src seq etb op x b h hb => ?full, fun φ comId src seq etb op x b c h hb hc hn => ?arrives,
    fun h x r d hx hop hrun => ?timeout, fun n c b hc hb hd hg hr hm h => ?publishes, fun φ m x hm => ?otherDomain,
    fun φ m seq h hrole hm hst => ?delayReq, fun φ h hrole hst ht => ?announce, fun r tag d φ hd hf hq => ?send,
    fun r tag d hd hf => ?publish, fun r tag d hd => ?subscribe, fun r tag d hd hw hq hk h => ?notice, fun r tag d hd hw => ?post,
    fun r tag d hd hq => ?read⟩
  case up =>
    exact ho.completes_linkEvent q (fun u => !(u.ethPort q).link) (fun P => { P with link := true, speed := v, linkCnt := P.linkCnt + 1 })
      (by decide) rfl (by simp [h])
  case down =>
    exact ho.completes_linkEvent q (fun u => (u.ethPort q).link) (fun P => { P with link := false, speed := 0 }) (by decide) rfl h
  case unready => exact ho.completes (f := ethFrameReceived q φ full f) rfl (ethFrameReceived_unready h φ full f)
  case badFcs =>
    refine ho.completes (f := ethFrameReceived q φ full .badFcs) rfl ?_
    rw [ethFrameReceived_badFcs h, State.ethPort_modEth]
    exact ⟨rfl, sameBut_modEth s q _⟩
  case full =>
    refine ho.completes (f := ethFrameReceived q φ true (.pd comId src seq etb op x)) rfl ?_
    rw [ethFrameReceived_subscribed h hb]
    exact ethOverflow_drops q s
  case arrives =>
    refine ho.completes (f := ethFrameReceived q φ false (.pd comId src seq etb op x)) rfl ?_
    rw [ethFrameReceived_subscribed h hb]
    obtain ⟨hcount, hbut, hback⟩ := acceptFrame_pd hc hn q φ src seq etb op x
    exact ⟨hcount, hbut, _, hback, rfl, rfl, pdValue_valid s q φ b src seq etb op x⟩
  case timeout =>
    refine ho.completes (f := mdTimeout h.toNat) rfl ?_
    rw [mdTimeout_own hx hop]
    obtain ⟨hdone, heth, hbut⟩ := opDone_eth hrun 0x84 0 0 (closeSession x s).eth
    exact ⟨hdone, congrArg Eth.sessions heth, hbut⟩
  case publishes => exact ho.completes_publication hr (pdSend_sends hc hb hd hg hm h)
  case otherDomain => exact ho.completes (f := ptpReceived q φ m.toNat x) rfl (ptpReceived_otherDomain hm φ x)
  case delayReq =>
    refine ho.completes (f := ptpReceived q φ m.toNat (.delayReq seq)) rfl ?_
    rw [ptpReceived_delayReq h hrole hm hst]
    obtain ⟨hsent, hbut⟩ := ethTransmit_sends q (.ptpDelayResp seq (ingressTime q φ s / 2 ^ 24)) (countRx q s)
    exact ⟨hsent, (countRx_sameBut q s).trans hbut⟩
  case announce =>
    refine ho.completes (f := ptpSend q φ .announce) rfl ?_
    rw [ptpSend_announce h hrole hst ht]
    exact ethTransmit_sends q _ s
  case send =>
    obtain ⟨hrun, -, -⟩ := startedOp_mem hd
    refine ⟨fun h => ?notReady, fun h ht => ?sends⟩ <;> refine ho.completes_runOp (f := ethSendOp r φ) rfl hd ?_
    case notReady =>
      rw [ethSendOp_unready hf hq h]
      exact opDone_alone hrun 0x81 0 0
    case sends =>
      rw [ethSendOp_untimed hf hq h ht]
      exact opDone_transmit hrun q _
  case publish =>
    obtain ⟨hrun, -, -⟩ := startedOp_mem hd
    refine ho.completes_runOp (f := trdpPdPubOp r) rfl hd ?_
    rw [trdpPdPubOp_now hf]
    obtain ⟨hdone, -, hbut⟩ := opDone_eth hrun 0 0 0 (loadPub (field d.paramA 0 9) (d.withData s).data s).eth
    exact ⟨hdone, loadPub_content (field d.paramA 0 9) (d.withData s).data s, hbut⟩
  case subscribe =>
    obtain ⟨hrun, -, -⟩ := startedOp_mem hd
    refine ⟨fun h => ?barred, fun hn hc hany => ?taken, fun hn hc hany => ?free⟩ <;>
      refine ho.completes_runOp (f := trdpPdSubOp r) rfl hd ?_
    case barred =>
      rw [trdpPdSubOp_barred h]
      exact opDone_alone hrun 0x82 0 0
    case taken =>
      rw [trdpPdSubOp_fits hn hc, if_pos (show s.eth.subs.any (subscriptionOf d).clashes = true from hany)]
      exact opDone_alone hrun 0x83 0 0
    case free =>
      rw [trdpPdSubOp_fits hn hc, if_neg (ne_true_of_eq_false (show s.eth.subs.any (subscriptionOf d).clashes = false from hany))]
      obtain ⟨hdone, heth, hbut⟩ := opDone_eth hrun 0 s.eth.subs.length 0 { s.eth with subs := s.eth.subs ++ [subscriptionOf d] }
      exact ⟨hdone, congrArg Eth.subs heth, hbut⟩
  case notice =>
    obtain ⟨hrun, -, -⟩ := startedOp_mem hd
    refine ho.completes_unwaiting (f := trdpMdSendOp r) rfl hw hd ?_
    rw [trdpMdSendOp_notice hq hk h]
    exact opDone_transmit hrun q _
  case post => exact ho.completes_unwaiting (f := trdpMdPostOp r) rfl hw hd ⟨rfl, sameBut_eth s _⟩
  case read =>
    obtain ⟨hrun, -, -⟩ := startedOp_mem hd
    refine ho.completes_runOp (f := ptpReadOp r) rfl hd ?_
    rw [ptpReadOp_port hq]
    exact opDone_alone hrun 0 _ _

end

/-! # The write enable of the backplane follows the output enable (R320, R425, R443, R568) -/

section

namespace Sys2Proof.Machine

/-- What a command that answers a next state comes to: the state as it was, or its own effect taken to the end of the fabric cycle. -/
def EndsCycle (s : State) (o : Host.Outcome State Fault Refusal) : Prop := ∀ t, o = .next t → t = s ∨ ∃ u, t = endCycle u

/-- What `act` and `actLine` answer. -/
theorem endsCycle_gated {acts : Bool} {s u : State} : EndsCycle s (.next (if acts then endCycle u else s)) := by
  rintro t ⟨⟩
  split
  · exact Or.inr ⟨u, rfl⟩
  · exact Or.inl rfl

/-- What `actAny` answers. -/
theorem endsCycle_always {s u : State} : EndsCycle s (.next (endCycle u)) := by
  rintro t ⟨⟩
  exact Or.inr ⟨u, rfl⟩

theorem endsCycle_fault {s : State} {r : Fault} : EndsCycle s (.fault r) := by
  rintro t ⟨⟩

/-- No command takes effect without the end of its fabric cycle. -/
theorem exec_endsCycle (i : Instr) (s : State) : EndsCycle s (exec i s) := by
  cases i
  case registerWrite lane addr data =>
    show EndsCycle s (execRegisterWrite lane addr data s)
    unfold execRegisterWrite
    split
    · exact endsCycle_gated
    · exact endsCycle_fault
  case powerOnReset | powerOnResetRelease | convertersOff | wake => exact endsCycle_always
  all_goals exact endsCycle_gated

/-- An idle fabric cycle counts module time alone. -/
theorem idleCycle_follows {s : State} (h : WriteEnableFollows s) : WriteEnableFollows (idleCycle s) := by
  simpa [WriteEnableFollows] using h

/-- A command leaves the two equal: whatever its effect, the end of its fabric cycle makes the write enable follow (R320). -/
theorem exec_follows {i : Instr} {s t : State} (h : WriteEnableFollows s) (he : exec i s = .next t) : WriteEnableFollows t := by
  rcases exec_endsCycle i s t he with rfl | ⟨u, rfl⟩
  · exact h
  · exact endCycle_follows u

end Sys2Proof.Machine

end

section

open Sys2Proof Sys2Proof.Machine

/-- Settles O54: an idle cycle leaves both enables, and a command ends with the cycle's end, where the one follows the other. -/
theorem writeEnableFollowsOutput : Obligations.WriteEnableFollowsOutput := by
  unfold Obligations.WriteEnableFollowsOutput
  intro s t hw h
  unfold step at h
  split at h
  · cases h
    exact idleCycle_follows hw
  · refine exec_follows ?_ h
    exact hw

end

/-! # The operations of the Col bridge (R299 to R320) -/

section

namespace Sys2Proof.Machine

/-! ## What an ended operation leaves -/

/-- An operation that ends with a report (R153, R563). -/
theorem rep_opDone {s : State} {r : Fin 64} {d : Desc} {code : Nat} (h : { desc := d, stage := .running : RunOp } ∈ (s.ringAt r).ops)
    (hc : code ≠ 0x402) (st ra rb : Nat) :
    Concluded (rep code (opDone r d.tag st ra rb s)) r d st ra rb ∧ Reported code s (rep code (opDone r d.tag st ra rb s)) ∧
      SameBut (.rng :: reportParts) s (rep code (opDone r d.tag st ra rb s)) := by
  obtain ⟨hdone, hbut⟩ := opDone_alone h st ra rb
  exact ⟨hdone.congr (by simp), (rep_reported code _ hc).of_flt rfl,
    (hbut.mono (by simp)).trans ((sameBut_rep code _).mono (fun _ hm => List.mem_cons_of_mem _ hm))⟩

/-- An operation that ends after an update of the bridge (R153). -/
theorem opDone_modCol {s : State} {r : Fin 64} {d : Desc} (h : { desc := d, stage := .running : RunOp } ∈ (s.ringAt r).ops)
    (st ra rb : Nat) (f : Col → Col) :
    Concluded (opDone r d.tag st ra rb (s.modCol f)) r d st ra rb ∧ (opDone r d.tag st ra rb (s.modCol f)).col = f s.col ∧
      SameBut [.rng, .col] s (opDone r d.tag st ra rb (s.modCol f)) :=
  ⟨opDone_concluded st ra rb h, by simp,
    ((sameBut_modCol s f).mono (by simp)).trans ((sameBut_opDone r d.tag st ra rb _).mono (by simp))⟩

theorem sameBut_writeBuffer (addr : Nat) (b : List Byte) (s : State) : SameBut [.mem] s (writeBuffer addr b s) := by
  intro p hp
  cases p <;> simp_all [Part.same, State.lane]

/-- An operation that ends after it has written its buffer and the bridge has changed (R311). -/
theorem opDone_writeBuffer_modCol {s : State} {r : Fin 64} {d : Desc}
    (h : { desc := d, stage := .running : RunOp } ∈ (s.ringAt r).ops) (st ra rb addr : Nat) (b : List Byte) (f : Col → Col) :
    let u := opDone r d.tag st ra rb (writeBuffer addr b (s.modCol f))
    Concluded u r d st ra rb ∧ u.mem = memWrite s.mem (offsetOf addr) b ∧ SameBut [.rng, .col, .mem] s u :=
  ⟨opDone_concluded st ra rb h, rfl, ((sameBut_modCol s f).mono (by simp)).trans
    (((sameBut_writeBuffer addr b _).mono (by simp)).trans ((sameBut_opDone r d.tag st ra rb _).mono (by simp)))⟩

/-- A report after an update of the bridge counts its class and changes nothing else but the bridge (R563). -/
theorem rep_modCol {code : Nat} (h : code ≠ 0x402) (f : Col → Col) (s : State) :
    (rep code (s.modCol f)).col = f s.col ∧ Reported code s (rep code (s.modCol f)) ∧
      SameBut (.col :: reportParts) s (rep code (s.modCol f)) :=
  ⟨by simp, (rep_reported code _ h).of_flt rfl,
    ((sameBut_modCol s f).mono (by simp)).trans ((sameBut_rep code _).mono (fun _ hm => List.mem_cons_of_mem _ hm))⟩

/-! ## The checks on route and window (R299, R305) -/

theorem withRoute_refused {s : State} {d : Desc} (h : refused s d = true) (r : Fin 64) (f : Nat → State → State) :
    withRoute r d f s = rep 0x2802 (opDone r d.tag 0x80 0 0 s) := if_pos h

theorem withRoute_disabled {s : State} {d : Desc} (h : refused s d = false) (hw : winField s (windowOf (opOffset s d)) 0 1 = 0)
    (r : Fin 64) (f : Nat → State → State) : withRoute r d f s = opDone r d.tag 0x81 0 0 s := by
  simp [withRoute, h, hw]

theorem withRoute_ready {s : State} {d : Desc} (h : refused s d = false) (hw : winField s (windowOf (opOffset s d)) 0 1 = 1)
    (r : Fin 64) (f : Nat → State → State) : withRoute r d f s = f (opOffset s d) s := by
  simp [withRoute, h, hw]

/-! ## Transactions on the bus (R311 to R316) -/

/-- What issued data phases leave of the bridge: the phases, and the windows with their counts (R314). -/
def Col.issued (ps : List BusPhase) (w : Vector Window 16) (C : Col) : Col := { C with phases := ps, win := w }

theorem issue_succeeds {ps : List BusPhase} {ans : List BusAnswer} {done : List (BusPhase × BitVec 32)} (m : Nat) (s : State)
    (h : runPhases ps ans = (done, none)) : ∃ w, issue m ps ans s = (⟨done, none⟩, s.modCol (Col.issued (ps.take done.length) w)) :=
  issue_good m s h

theorem issue_fails {ps : List BusPhase} {ans : List BusAnswer} {done : List (BusPhase × BitVec 32)} {f : BusPhase × Nat} (m : Nat) (s : State)
    (h : runPhases ps ans = (done, some f)) : ∃ q w, issue m ps ans s = (⟨done, some f⟩, rep 0x2803 (s.modCol (Col.issued q w))) :=
  issue_bad m s h

theorem colReadRun_waits {s : State} {d : Desc} (h : busFree s d = false) (r : Fin 64) (ans : List BusAnswer) (x : Nat) :
    colReadRun r ans d x s = s := if_pos (by simp [h])

/-- A read whose data phases all succeed writes its buffer and ends (R311). -/
theorem colReadRun_succeeds {s : State} {d : Desc} {x : Nat} {ans : List BusAnswer} {done : List (BusPhase × BitVec 32)}
    (hb : busFree s d = true) (h : runPhases (readPhases (busAddr s x) d.length (winWidth s (windowOf x))) ans = (done, none)) (r : Fin 64) :
    ∃ f, colReadRun r ans d x s = opDone r d.tag 0 d.length d.seq
      (writeBuffer d.addr (readBytes (busAddr s x) d.length (winField s (windowOf x) 3 2) done) (s.modCol f)) := by
  obtain ⟨w, hi⟩ := issue_succeeds (windowOf x) s h
  simp only [colReadRun, hb, Bool.not_true, Bool.false_eq_true, if_false, hi]
  exact ⟨_, rfl⟩

/-- A read ends with the failure of its first failing phase (R314, R316). -/
theorem colReadRun_fails {s : State} {d : Desc} {x : Nat} {ans : List BusAnswer} {done : List (BusPhase × BitVec 32)} {p : BusPhase} {k : Nat}
    (hb : busFree s d = true) (h : runPhases (readPhases (busAddr s x) d.length (winWidth s (windowOf x))) ans = (done, some (p, k)))
    (r : Fin 64) : ∃ f, colReadRun r ans d x s = busOpFailed r d x p k (rep 0x2803 (s.modCol f)) := by
  obtain ⟨q, w, hi⟩ := issue_fails (windowOf x) s h
  simp only [colReadRun, hb, Bool.not_true, Bool.false_eq_true, if_false, hi]
  exact ⟨_, rfl⟩

/-- A write that is not posted and whose data phases all succeed ends (R311). -/
theorem colWriteNpRun_succeeds {s : State} {d : Desc} {x : Nat} {ans : List BusAnswer} {done : List (BusPhase × BitVec 32)}
    (hb : busFree s d = true)
    (h : runPhases (writePhases (busAddr s x) (winWidth s (windowOf x)) (winField s (windowOf x) 3 2) d.data) ans = (done, none)) (r : Fin 64) :
    ∃ f, colWriteNpRun r ans d x s = opDone r d.tag 0 d.length d.seq (s.modCol f) := by
  obtain ⟨w, hi⟩ := issue_succeeds (windowOf x) s h
  simp only [colWriteNpRun, hb, Bool.not_true, Bool.false_eq_true, if_false, hi]
  exact ⟨_, rfl⟩

theorem colWriteNpRun_fails {s : State} {d : Desc} {x : Nat} {ans : List BusAnswer} {done : List (BusPhase × BitVec 32)} {p : BusPhase}
    {k : Nat} (hb : busFree s d = true)
    (h : runPhases (writePhases (busAddr s x) (winWidth s (windowOf x)) (winField s (windowOf x) 3 2) d.data) ans = (done, some (p, k)))
    (r : Fin 64) : ∃ f, colWriteNpRun r ans d x s = busOpFailed r d x p k (rep 0x2803 (s.modCol f)) := by
  obtain ⟨q, w, hi⟩ := issue_fails (windowOf x) s h
  simp only [colWriteNpRun, hb, Bool.not_true, Bool.false_eq_true, if_false, hi]
  exact ⟨_, rfl⟩

/-- Results of an operation that failed at a phase of an error kind (R316). -/
def failureOf (d : Desc) (x : Nat) (p : BusPhase) (k : Nat) : Nat × Nat :=
  busFailure (regionOf x p.addr) d.seq p.be k (testBit d.flags 2) (field d.paramA 0 14)

/-- A failed operation concludes with its results and its report, and leaves the memory (R313, R314, R316). -/
theorem busOpFailed_concluded {s : State} {r : Fin 64} {d : Desc} (h : { desc := d, stage := .running : RunOp } ∈ (s.ringAt r).ops)
    (x : Nat) (p : BusPhase) (k : Nat) (f : Col → Col) :
    let u := busOpFailed r d x p k (rep 0x2803 (s.modCol f))
    Concluded u r d (0x83 + k) (failureOf d x p k).1 (failureOf d x p k).2 ∧ u.mem = s.mem ∧ Reported 0x2803 s u ∧
      SameBut (.rng :: .col :: reportParts) s u := by
  obtain ⟨-, hrep, hbut⟩ := rep_modCol (code := 0x2803) (by decide) f s
  have hrun : { desc := d, stage := .running : RunOp } ∈ ((rep 0x2803 (s.modCol f)).ringAt r).ops := by
    rwa [ringAt_congr (s := s) (by simp)]
  exact ⟨opDone_concluded _ _ _ hrun, by simp, hrep.then_cls (by simp [busOpFailed]),
    (hbut.mono (fun _ hm => List.mem_cons_of_mem _ hm)).trans ((sameBut_opDone r d.tag _ _ _ _).mono (by simp))⟩

/-! ## Writes and bindings (R311 to R313, R320) -/

/-- A posted write with room in the buffer enters it and ends (R312). -/
theorem colWriteOp_posts {s : State} {d : Desc} (hr : refused s d = false) (hw : winField s (windowOf (opOffset s d)) 0 1 = 1)
    (ho : s.cls.outEn = true) (ht : testBit d.flags 2 = false) (hn : s.col.posted.length < 64) (hb : s.col.bpRst = false) (r : Fin 64) :
    colWriteOp r d s = opDone r d.tag 0 0 d.seq
      (s.modCol (fun C => { C with posted := C.posted ++ [postedOf s r d (opOffset s d)] })) := by
  simp [colWriteOp, withRoute_ready hr hw, ho, runTimed_now ht, hn, hb]

theorem colWriteOp_waits {s : State} {d : Desc} (hr : refused s d = false) (hw : winField s (windowOf (opOffset s d)) 0 1 = 1)
    (ho : s.cls.outEn = true) (ht : testBit d.flags 2 = false) (hn : 64 ≤ s.col.posted.length) (r : Fin 64) :
    colWriteOp r d s = s := by
  simp [colWriteOp, withRoute_ready hr hw, ho, runTimed_now ht, Nat.not_lt.mpr hn]

/-- While backplane writes are not enabled a posted write is withheld (R320). -/
theorem colWriteOp_withheld {s : State} {d : Desc} (hr : refused s d = false) (hw : winField s (windowOf (opOffset s d)) 0 1 = 1)
    (ho : s.cls.outEn = false) (r : Fin 64) : colWriteOp r d s = opDone r d.tag 0x88 0 d.seq s := by
  simp [colWriteOp, withRoute_ready hr hw, ho, withheld]

theorem colWriteNpOp_withheld {s : State} {d : Desc} (hr : refused s d = false) (hw : winField s (windowOf (opOffset s d)) 0 1 = 1)
    (ho : s.cls.outEn = false) (r : Fin 64) (ans : List BusAnswer) : colWriteNpOp r ans d s = opDone r d.tag 0x88 0 d.seq s := by
  simp [colWriteNpOp, withRoute_ready hr hw, colWriteNpRoute, ho, withheld]

/-- While they are enabled, one that is neither posted nor TIMED goes to the bus (R311). -/
theorem colWriteNpOp_now {s : State} {d : Desc} (hr : refused s d = false) (hw : winField s (windowOf (opOffset s d)) 0 1 = 1)
    (ho : s.cls.outEn = true) (ht : testBit d.flags 2 = false) (r : Fin 64) (ans : List BusAnswer) :
    colWriteNpOp r ans d s = colWriteNpRun r ans d (opOffset s d) s := by
  simp [colWriteNpOp, withRoute_ready hr hw, colWriteNpRoute, ho, runTimed_now ht]

/-- A route takes a latest-value binding of a length (R311). -/
def Bindable (s : State) (d : Desc) : Prop :=
  ((routeOf s (field d.paramA 0 8)).kind = 2 ∨ (routeOf s (field d.paramA 0 8)).kind = 4) ∧ (routeOf s (field d.paramA 0 8)).rlen = d.length

theorem colLvBindOp_unfit {s : State} {d : Desc} (h : ¬ Bindable s d) (r : Fin 64) : colLvBindOp r d s = opDone r d.tag 0x82 0 0 s := by
  refine if_pos ?_
  rw [Bindable, not_and_or] at h
  simpa using h

theorem colLvBindOp_fits {s : State} {d : Desc} (h : Bindable s d) (r : Fin 64) : colLvBindOp r d s =
    if s.col.binds.any (fun b => b.1 == field d.paramA 0 8 || b.2 == field d.paramA 16 13) then opDone r d.tag 0x83 0 0 s
    else opDone r d.tag 0 (field d.paramA 0 8) 0
      (s.modCol (fun C => { C with binds := tset C.binds (field d.paramA 0 8) (field d.paramA 16 13) })) := by
  obtain ⟨hk, hl⟩ := h
  refine if_neg ?_
  simpa [hl, or_iff_not_imp_left] using hk

end Sys2Proof.Machine

end

section

open Sys2Proof Sys2Proof.Machine

/-- Settles O35: the checks of `withRoute` first, then each operation by the rule of its run on the bus, its buffer or its binding. -/
theorem colOperations : Obligations.ColOperations := by
  unfold Obligations.ColOperations
  intro s r tag d ho x n rd wr failed
  refine ⟨fun hd => ?read, fun hd => ?write, fun hd => ?writeNp, fun hd => ?bind⟩ <;> obtain ⟨hrun, -, -⟩ := startedOp_mem hd
  case read =>
    refine ⟨fun ans hr => ?refused, fun ans hr hw => ?disabled, fun ans hr hw hb => ?waits, fun ans done hr hw hb h => ?succeeds,
      fun ans done p k hr hw hb h => ?fails⟩ <;> refine ho.completes_runOp (f := colReadOp r ans) rfl hd ?_
    case refused =>
      rw [colReadOp, withRoute_refused hr]
      exact rep_opDone hrun (by decide) 0x80 0 0
    case disabled =>
      rw [colReadOp, withRoute_disabled hr hw]
      exact opDone_alone hrun 0x81 0 0
    case waits =>
      rw [colReadOp, withRoute_ready hr hw]
      exact colReadRun_waits hb r ans x
    case succeeds =>
      obtain ⟨f, hf⟩ := colReadRun_succeeds hb h r
      rw [colReadOp, withRoute_ready hr hw, hf]
      exact opDone_writeBuffer_modCol hrun 0 d.length d.seq d.addr _ f
    case fails =>
      obtain ⟨f, hf⟩ := colReadRun_fails hb h r
      rw [colReadOp, withRoute_ready hr hw, hf]
      exact busOpFailed_concluded hrun x p k f
  case write =>
    refine ⟨fun hr => ?refused, fun hr hw => ?disabled, fun hr hw hout => ?withheld, fun hr hw hout ht hn hb => ?posted,
      fun hr hw hout ht hn => ?waits⟩ <;> refine ho.completes_runOp (f := colWriteOp r) rfl hd ?_
    case refused =>
      rw [colWriteOp, withRoute_refused hr]
      exact rep_opDone hrun (by decide) 0x80 0 0
    case disabled =>
      rw [colWriteOp, withRoute_disabled hr hw]
      exact opDone_alone hrun 0x81 0 0
    case withheld =>
      rw [colWriteOp_withheld hr hw hout]
      exact opDone_alone hrun 0x88 0 d.seq
    case posted =>
      rw [colWriteOp_posts hr hw hout ht hn hb, postedOf, ht]
      exact opDone_modCol hrun 0 0 d.seq _
    case waits => exact colWriteOp_waits hr hw hout ht hn r
  case writeNp =>
    refine ⟨fun ans hr => ?refused, fun ans hr hw hout => ?withheld, fun ans done hr hw hout ht hb h => ?succeeds,
      fun ans done p k hr hw hout ht hb h => ?fails⟩ <;> refine ho.completes_runOp (f := colWriteNpOp r ans) rfl hd ?_
    case refused =>
      rw [colWriteNpOp, withRoute_refused hr]
      exact rep_opDone hrun (by decide) 0x80 0 0
    case withheld =>
      rw [colWriteNpOp_withheld hr hw hout]
      exact opDone_alone hrun 0x88 0 d.seq
    case succeeds =>
      obtain ⟨f, hf⟩ := colWriteNpRun_succeeds hb h r
      rw [colWriteNpOp_now hr hw hout ht, hf]
      obtain ⟨hdone, -, hbut⟩ := opDone_modCol hrun 0 d.length d.seq f
      exact ⟨hdone, by simp, hbut⟩
    case fails =>
      obtain ⟨f, hf⟩ := colWriteNpRun_fails hb h r
      rw [colWriteNpOp_now hr hw hout ht, hf]
      obtain ⟨hdone, hmem, hrep, -⟩ := busOpFailed_concluded hrun x p k f
      exact ⟨hdone, hmem, hrep⟩
  case bind =>
    intro m item ok
    refine ⟨fun h => ?unfit, fun h hb => ?taken, fun h hb => ?free⟩ <;> refine ho.completes_runOp (f := colLvBindOp r) rfl hd ?_
    case unfit =>
      rw [colLvBindOp_unfit h]
      exact opDone_alone hrun 0x82 0 0
    case taken =>
      rw [colLvBindOp_fits h, if_pos hb]
      exact opDone_alone hrun 0x83 0 0
    case free =>
      rw [colLvBindOp_fits h, if_neg (ne_true_of_eq_false hb)]
      obtain ⟨hdone, hcol, hbut⟩ := opDone_modCol hrun 0 m 0 (fun C => { C with binds := tset C.binds m item })
      refine ⟨hdone, ?_, hbut⟩
      rw [hcol]
      exact tget?_tset_self _ _ _

end

/-! # Events of the Col bridge (R297 to R320) -/

section

namespace Sys2Proof.Machine

/-! ## Commands -/

/-- An event whose effect would change nothing changes nothing, whatever its condition. -/
theorem onlyIf_fixed {f : State → State} {s : State} (h : f s = s) (p : Bool) : onlyIf p f s = s := by
  unfold onlyIf
  split
  · exact h
  · rfl

/-! ## Issued transactions (R314) -/

/-- Whether a phase fails or not, issued phases change the bridge and report no other class than the bus error's (R314). -/
theorem issue_spec (m : Nat) (ps : List BusPhase) (ans : List BusAnswer) (s : State) : ∃ q w, (issue m ps ans s).2.col = s.col.issued q w ∧
    SameBut (.col :: reportParts) s (issue m ps ans s).2 ∧
    ∀ c, c ≠ 0x2803 → c ≠ 0x402 → tgetD (issue m ps ans s).2.flt.cls c 0 = tgetD s.flt.cls c 0 := by
  obtain ⟨done, bad, h⟩ : ∃ done bad, runPhases ps ans = (done, bad) := ⟨_, _, rfl⟩
  cases bad with
  | none =>
    obtain ⟨w, hi⟩ := issue_succeeds m s h
    rw [hi]
    exact ⟨_, w, rfl, (sameBut_modCol s _).mono (by simp), fun _ _ _ => rfl⟩
  | some f =>
    obtain ⟨q, w, hi⟩ := issue_fails m s h
    obtain ⟨hcol, -, hbut⟩ := rep_modCol (code := 0x2803) (by decide) (Col.issued q w) s
    rw [hi]
    exact ⟨q, w, hcol, hbut, fun c h h2 => rep_cls_other 0x2803 c (s.modCol (Col.issued q w)) h h2⟩

/-! ## Posted errors (R315, R316) -/

/-- A posted write has become a posted error: the latched results, the count, and no change beyond what its entry and report make (R315). -/
def PostedFailed (s u : State) (p : Posted) (off k : Nat) (be : BitVec 4) : Prop :=
  u.col.perrA = BitVec.ofNat 32 (busFailure off p.seq be k p.timed p.route).1 ∧
  u.col.perrB = BitVec.ofNat 64 (busFailure off p.seq be k p.timed p.route).2 ∧ u.col.perrCnt = s.col.perrCnt + 1 ∧
  SameBut (.rng :: .col :: .mem :: reportParts) s u

/-- A posted error after changes of the bridge that left the count. -/
theorem postedError_failed {s v : State} (hbut : SameBut (.rng :: .col :: .mem :: reportParts) s v)
    (hcnt : v.col.perrCnt = s.col.perrCnt) (p : Posted) (off k : Nat) (be : BitVec 4) :
    PostedFailed s (postedError p true off be k v) p off k be := by
  obtain ⟨hpost, -, l, hcol⟩ := postedError_spec p off be k v
  unfold PostedFailed
  rw [hcol, ← hcnt]
  exact ⟨rfl, rfl, rfl, hbut.trans hpost⟩

/-- Of the bridge, a posted error changes the latched results and the counts alone. -/
theorem postedError_keeps (p : Posted) (off : Nat) (be : BitVec 4) (k : Nat) (s : State) :
    (postedError p true off be k s).col.posted = s.col.posted ∧ (postedError p true off be k s).col.bpRst = s.col.bpRst ∧
      (postedError p true off be k s).col.holdTmoCnt = s.col.holdTmoCnt ∧
      (postedError p true off be k s).col.perrCnt = s.col.perrCnt + 1 := by
  obtain ⟨-, -, l, hcol⟩ := postedError_spec p off be k s
  rw [hcol]
  exact ⟨rfl, rfl, rfl, rfl⟩

/-- Each of a list of posted writes becomes a posted error (R320). -/
theorem foldl_postedError (k : Nat) (ps : List Posted) (s : State) :
    let u := ps.foldl (fun s p => postedError p true p.off 0 k s) s
    u.col.posted = s.col.posted ∧ u.col.bpRst = s.col.bpRst ∧ u.col.perrCnt = s.col.perrCnt + BitVec.ofNat 16 ps.length ∧
      SameBut (.rng :: .col :: .mem :: reportParts) s u := by
  induction ps generalizing s with
  | nil => exact ⟨rfl, rfl, by simp, SameBut.refl _ s⟩
  | cons p ps ih =>
    obtain ⟨hposted, hrst, hcnt, hbut⟩ := ih (postedError p true p.off 0 k s)
    obtain ⟨hposted1, hrst1, -, hcnt1⟩ := postedError_keeps p p.off 0 k s
    obtain ⟨hbut1, -, -⟩ := postedError_spec p p.off 0 k s
    dsimp only
    rw [List.foldl_cons]
    refine ⟨hposted.trans hposted1, hrst.trans hrst1, hcnt.trans ?_, hbut1.trans hbut⟩
    rw [hcnt1, List.length_cons, Nat.add_comm ps.length, BitVec.ofNat_add, BitVec.add_assoc]
    rfl

/-! ## The oldest posted write (R312 to R315) -/

/-- The posted writes behind the oldest. -/
def Col.behind (rest : List Posted) (C : Col) : Col := { C with posted := rest }

/-- The data phases of a write at an offset of the window region (R300). -/
def phasesAt (s : State) (x : Nat) (data : List Byte) : List BusPhase :=
  writePhases (busAddr s x) (winWidth s (windowOf x)) (winField s (windowOf x) 3 2) data

theorem postedWriteIssue_waits {s : State} {p : Posted} {rest : List Posted} (hp : s.col.posted = p :: rest)
    (h : busUp s = false ∨ completionWritten s p = false) (ans : List BusAnswer) : postedWriteIssue ans s = s := by
  rcases h with h | h <;> simp [postedWriteIssue, hp, h]

theorem postedWriteIssue_succeeds {s : State} {p : Posted} {rest : List Posted} {ans : List BusAnswer}
    {done : List (BusPhase × BitVec 32)} (hp : s.col.posted = p :: rest) (hb : busUp s = true) (hc : completionWritten s p = true)
    (h : runPhases (phasesAt s p.off p.data) ans = (done, none)) :
    ∃ q w, postedWriteIssue ans s = (s.modCol (Col.behind rest)).modCol (Col.issued q w) := by
  obtain ⟨w, hi⟩ := issue_succeeds (windowOf p.off) (s.modCol (Col.behind rest)) h
  have hs : s.modCol (fun C => { C with posted := rest }) = s.modCol (Col.behind rest) := rfl
  rw [phasesAt] at hi
  simp only [postedWriteIssue, hp, hb, hc, Bool.not_true, Bool.or_self, Bool.false_eq_true, if_false, hs, hi]
  exact ⟨_, _, rfl⟩

theorem postedWriteIssue_fails {s : State} {p : Posted} {rest : List Posted} {ans : List BusAnswer}
    {done : List (BusPhase × BitVec 32)} {ph : BusPhase} {k : Nat} (hp : s.col.posted = p :: rest) (hb : busUp s = true)
    (hc : completionWritten s p = true) (h : runPhases (phasesAt s p.off p.data) ans = (done, some (ph, k))) :
    ∃ q w, postedWriteIssue ans s = postedError p true (regionOf p.off ph.addr) ph.be k
      (rep 0x2803 ((s.modCol (Col.behind rest)).modCol (Col.issued q w))) := by
  obtain ⟨q, w, hi⟩ := issue_fails (windowOf p.off) (s.modCol (Col.behind rest)) h
  have hs : s.modCol (fun C => { C with posted := rest }) = s.modCol (Col.behind rest) := rfl
  rw [phasesAt] at hi
  simp only [postedWriteIssue, hp, hb, hc, Bool.not_true, Bool.or_self, Bool.false_eq_true, if_false, hs, hi]
  exact ⟨_, _, rfl⟩

/-- A failing phase of the oldest posted write makes it a posted error (R314, R315). -/
theorem postedWriteIssue_failed {s : State} {p : Posted} {rest : List Posted} {ans : List BusAnswer}
    {done : List (BusPhase × BitVec 32)} {ph : BusPhase} {k : Nat} (hp : s.col.posted = p :: rest) (hb : busUp s = true)
    (hc : completionWritten s p = true) (h : runPhases (phasesAt s p.off p.data) ans = (done, some (ph, k))) :
    let u := postedWriteIssue ans s
    u.col.posted = rest ∧ Reported 0x2804 s u ∧ PostedFailed s u p (regionOf p.off ph.addr) k ph.be := by
  obtain ⟨q, w, hi⟩ := postedWriteIssue_fails hp hb hc h
  obtain ⟨hcol, -, hbut⟩ := rep_modCol (code := 0x2803) (by decide) (Col.issued q w) (s.modCol (Col.behind rest))
  dsimp only
  rw [hi]
  generalize hv : rep 0x2803 ((s.modCol (Col.behind rest)).modCol (Col.issued q w)) = v at *
  have hcls : tgetD v.flt.cls 0x2804 0 = tgetD s.flt.cls 0x2804 0 := by
    rw [← hv]
    exact rep_cls_other 0x2803 0x2804 _ (by decide) (by decide)
  obtain ⟨hposted, -⟩ := postedError_keeps p (regionOf p.off ph.addr) ph.be k v
  obtain ⟨-, hrep, -⟩ := postedError_spec p (regionOf p.off ph.addr) ph.be k v
  exact ⟨by rw [hposted, hcol]; rfl, hrep.of_cls hcls,
    postedError_failed (((sameBut_modCol s _).mono (by simp)).trans (hbut.mono (by simp [reportParts]))) (by rw [hcol]; rfl) _ _ _ _⟩

/-! ## Transactions held too long (R319) -/

/-- A hold timeout is counted. -/
def Col.countHold (C : Col) : Col := { C with holdTmoCnt := C.holdTmoCnt + 1 }

theorem holdTimeout_posted {s : State} {p : Posted} {rest : List Posted} (hp : s.col.posted = p :: rest) :
    holdTimeout none s = rep 0x2808 ((postedError p true (firstPhase s p.off p.data).1 (firstPhase s p.off p.data).2 3
      (s.modCol (Col.behind rest))).modCol Col.countHold) := by
  simp only [holdTimeout, hp]
  rfl

theorem holdTimeout_operation {s : State} {r : Fin 64} {tag : Fin 1024} {o : RunOp}
    (hf : (s.ringAt r).ops.find? (fun o => o.desc.tag == tag.val && decide (o.stage = .running)) = some o)
    (hop : o.desc.opcode = 0x40 ∨ o.desc.opcode = 0x42) :
    ∃ a b, holdTimeout (some (r, tag)) s = rep 0x2808 ((opDone r tag.val 0x87 a b s).modCol Col.countHold) := by
  simp only [holdTimeout, hf, if_pos hop]
  exact ⟨_, _, rfl⟩

/-- The oldest posted write becomes a posted error of kind 3, and the timeout is counted and reported (R319). -/
theorem holdTimeout_posted_failed {s : State} {p : Posted} {rest : List Posted} (hp : s.col.posted = p :: rest) :
    let u := holdTimeout none s
    u.col.posted = rest ∧ u.col.holdTmoCnt = s.col.holdTmoCnt + 1 ∧ Reported 0x2808 s u ∧
      PostedFailed s u p (firstPhase s p.off p.data).1 3 (firstPhase s p.off p.data).2 := by
  dsimp only
  rw [holdTimeout_posted hp]
  generalize (firstPhase s p.off p.data).1 = off
  generalize (firstPhase s p.off p.data).2 = be
  obtain ⟨hposted, -, hhold, -⟩ := postedError_keeps p off be 3 (s.modCol (Col.behind rest))
  obtain ⟨ha, hb, hcnt, hbut1⟩ := postedError_failed ((sameBut_modCol s (Col.behind rest)).mono (by simp)) rfl p off 3 be
  have hcls := postedError_cls p off be 3 (s.modCol (Col.behind rest)) 0x2808 (by decide) (by decide)
  generalize postedError p true off be 3 (s.modCol (Col.behind rest)) = v at *
  obtain ⟨hcol, hrep, hbut⟩ := rep_modCol (code := 0x2808) (by decide) Col.countHold v
  unfold PostedFailed
  rw [hcol]
  exact ⟨hposted, congrArg (· + 1) hhold, hrep.of_cls hcls, ha, hb, hcnt, hbut1.trans (hbut.mono (by simp [reportParts]))⟩

/-- The running operation that a tag names is among the ring's operations at work (R145). -/
theorem runningOp_mem {R : Ring} {tag : Nat} {o : RunOp}
    (h : R.ops.find? (fun o => o.desc.tag == tag && decide (o.stage = .running)) = some o) :
    { desc := o.desc, stage := .running : RunOp } ∈ R.ops ∧ o.desc.tag = tag := by
  have hmem := List.mem_of_find?_eq_some h
  have hfound := List.find?_some h
  simp only [Bool.and_eq_true, beq_iff_eq, decide_eq_true_eq] at hfound
  obtain ⟨htag, hrun⟩ := hfound
  rw [← hrun]
  exact ⟨hmem, htag⟩

/-- The waiting operation ends with status 16#87, and the timeout is counted and reported (R319). -/
theorem holdTimeout_operation_concluded {s : State} {r : Fin 64} {tag : Fin 1024} {o : RunOp}
    (hf : (s.ringAt r).ops.find? (fun o => o.desc.tag == tag.val && decide (o.stage = .running)) = some o)
    (hop : o.desc.opcode = 0x40 ∨ o.desc.opcode = 0x42) :
    let u := holdTimeout (some (r, tag)) s
    (∃ a b, Concluded u r o.desc 0x87 a b) ∧ u.col.holdTmoCnt = s.col.holdTmoCnt + 1 ∧ u.mem = s.mem ∧ Reported 0x2808 s u ∧
      SameBut (.rng :: .col :: reportParts) s u := by
  obtain ⟨hrun, htag⟩ := runningOp_mem hf
  obtain ⟨a, b, hh⟩ := holdTimeout_operation hf hop
  obtain ⟨hdone, hbut1⟩ := opDone_alone hrun 0x87 a b
  dsimp only
  rw [hh, ← htag]
  obtain ⟨hcol, hrep, hbut⟩ := rep_modCol (code := 0x2808) (by decide) Col.countHold (opDone r o.desc.tag 0x87 a b s)
  refine ⟨⟨a, b, hdone.congr (by simp)⟩, by rw [hcol]; simp [Col.countHold], by simp, hrep.of_flt rfl,
    (hbut1.mono (by simp)).trans (hbut.mono (fun _ hm => List.mem_cons_of_mem _ hm))⟩

/-! ## Latest-value routes (R307, R308, R310) -/

/-- A route served in this tick, with the next route sequence number taken (R307, R312). -/
def Col.serve (n : Nat) (C : Col) : Col := { C with nextSeq := C.nextSeq + 1, served := nsAdd C.served n }

theorem latestRead_succeeds {s : State} {n item : Nat} {e : RouteEntry} {ans : List BusAnswer} {done : List (BusPhase × BitVec 32)}
    (he : routeDue s n 2 (s.tick + 1) = some e) (hi : tget? s.col.binds n = some item)
    (h : runPhases (readPhases (busAddr s e.waddr) e.rlen (winWidth s (windowOf e.waddr))) ans = (done, none)) :
    ∃ q w, latestRead n ans s = arriveFrom 6 item
      ⟨true, 0, s.ts, readBytes (busAddr s e.waddr) e.rlen (winField s (windowOf e.waddr) 3 2) done⟩
      ((s.modCol (Col.serve n)).modCol (Col.issued q w)) := by
  obtain ⟨w, hr⟩ := issue_succeeds (windowOf e.waddr) (s.modCol (Col.serve n)) h
  have hs : markServed n (takeSeq s).2 = s.modCol (Col.serve n) := rfl
  simp only [latestRead, he, hs, hr, State.modCol_col, Col.issued, Col.serve, hi]
  exact ⟨_, _, rfl⟩

theorem latestRead_fails {s : State} {n item : Nat} {e : RouteEntry} {ans : List BusAnswer} {done : List (BusPhase × BitVec 32)}
    {f : BusPhase × Nat} (he : routeDue s n 2 (s.tick + 1) = some e) (hi : tget? s.col.binds n = some item)
    (h : runPhases (readPhases (busAddr s e.waddr) e.rlen (winWidth s (windowOf e.waddr))) ans = (done, some f)) :
    ∃ q w, latestRead n ans s = rep 0x2805 (arriveFrom 6 item ⟨false, 0, s.ts, []⟩
      ((rep 0x2803 ((s.modCol (Col.serve n)).modCol (Col.issued q w))).modCol (fun C => { C with lvFailCnt := C.lvFailCnt + 1 }))) := by
  obtain ⟨q, w, hr⟩ := issue_fails (windowOf e.waddr) (s.modCol (Col.serve n)) h
  have hs : markServed n (takeSeq s).2 = s.modCol (Col.serve n) := rfl
  simp only [latestRead, he, hs, hr, State.modCol_col, rep_col, Col.issued, Col.serve, hi]
  exact ⟨_, _, rfl⟩

/-- The arrival of a latest-value read fills the item's back buffer, behind changes of the bridge and its reports (R307). -/
theorem arriveFrom_after {s v : State} {item : Nat} {c : InItemCfg} (hcfg : v.cfg = s.cfg) (hc : inItem? s item = some c)
    (hn : receiverOf s item = none) (a : Arrival) :
    (tgetD (arriveFrom 6 item a v).cyc.items item {}).back = some { a with payload := padTo c.length a.payload } ∧
      SameBut [.cyc] v (arriveFrom 6 item a v) := by
  obtain ⟨hback, -, hbut, -⟩ := arriveFrom_item 6 item a v c ((inItem_congr hcfg item).trans hc) ((receiverOf_congr hcfg item).trans hn)
  exact ⟨hback, hbut⟩

/-- The phases all succeed: the arrival is VALID with the bytes read (R307). -/
theorem latestRead_valid {s : State} {n item : Nat} {e : RouteEntry} {c : InItemCfg} {ans : List BusAnswer}
    {done : List (BusPhase × BitVec 32)} (he : routeDue s n 2 (s.tick + 1) = some e) (hi : tget? s.col.binds n = some item)
    (hc : inItem? s item = some c) (hn : receiverOf s item = none)
    (h : runPhases (readPhases (busAddr s e.waddr) e.rlen (winWidth s (windowOf e.waddr))) ans = (done, none)) :
    let u := latestRead n ans s
    (tgetD u.cyc.items item {}).back =
        some ⟨true, 0, s.ts, padTo c.length (readBytes (busAddr s e.waddr) e.rlen (winField s (windowOf e.waddr) 3 2) done)⟩ ∧
      u.col.nextSeq = s.col.nextSeq + 1 ∧ u.col.lvFailCnt = s.col.lvFailCnt ∧ SameBut [.col, .cyc] s u := by
  obtain ⟨q, w, hr⟩ := latestRead_succeeds he hi h
  dsimp only
  rw [hr]
  have hcol := (sameBut_modCol s (Col.serve n)).trans (sameBut_modCol _ (Col.issued q w))
  have hserved : ((s.modCol (Col.serve n)).modCol (Col.issued q w)).col = (s.col.serve n).issued q w := rfl
  generalize (s.modCol (Col.serve n)).modCol (Col.issued q w) = v at *
  obtain ⟨hback, hbut⟩ := arriveFrom_after (hcol .cfg (by simp)) hc hn
    ⟨true, 0, s.ts, readBytes (busAddr s e.waddr) e.rlen (winField s (windowOf e.waddr) 3 2) done⟩
  have hkeep : (arriveFrom 6 item _ v).col = v.col := hbut .col (by simp)
  rw [hkeep, hserved]
  exact ⟨hback, rfl, rfl, (hcol.mono (by simp)).trans (hbut.mono (by simp))⟩

/-- A phase fails: the arrival has VALID 0, and the failure is counted and reported (R307). -/
theorem latestRead_invalid {s : State} {n item : Nat} {e : RouteEntry} {c : InItemCfg} {ans : List BusAnswer}
    {done : List (BusPhase × BitVec 32)} {f : BusPhase × Nat} (he : routeDue s n 2 (s.tick + 1) = some e)
    (hi : tget? s.col.binds n = some item) (hc : inItem? s item = some c) (hn : receiverOf s item = none)
    (h : runPhases (readPhases (busAddr s e.waddr) e.rlen (winWidth s (windowOf e.waddr))) ans = (done, some f)) :
    let u := latestRead n ans s
    (tgetD u.cyc.items item {}).back = some ⟨false, 0, s.ts, padTo c.length []⟩ ∧ u.col.nextSeq = s.col.nextSeq + 1 ∧
      u.col.lvFailCnt = s.col.lvFailCnt + 1 ∧ Reported 0x2805 s u := by
  obtain ⟨q, w, hr⟩ := latestRead_fails he hi h
  dsimp only
  rw [hr]
  have hcls := rep_cls_other 0x2803 0x2805 ((s.modCol (Col.serve n)).modCol (Col.issued q w)) (by decide) (by decide)
  have hserved : (rep 0x2803 ((s.modCol (Col.serve n)).modCol (Col.issued q w))).col = (s.col.serve n).issued q w := rep_col _ _
  have hcfg : (rep 0x2803 ((s.modCol (Col.serve n)).modCol (Col.issued q w))).cfg = s.cfg := by simp
  generalize rep 0x2803 ((s.modCol (Col.serve n)).modCol (Col.issued q w)) = v at *
  obtain ⟨hback, hbut⟩ := arriveFrom_after (v := v.modCol (fun C => { C with lvFailCnt := C.lvFailCnt + 1 })) hcfg hc hn
    ⟨false, 0, s.ts, []⟩
  generalize arriveFrom 6 item ⟨false, 0, s.ts, []⟩ (v.modCol (fun C => { C with lvFailCnt := C.lvFailCnt + 1 })) = y at *
  have hcol : y.col = (v.modCol (fun C => { C with lvFailCnt := C.lvFailCnt + 1 })).col := hbut .col (by simp)
  have hflt : y.flt = v.flt := hbut .flt (by simp)
  have hcyc : (rep 0x2805 y).cyc = y.cyc := by simp
  rw [hcyc, rep_col, hcol, State.modCol_col, hserved]
  exact ⟨hback, rfl, rfl, (rep_reported 0x2805 y (by decide)).of_cls (by rw [hflt]; exact hcls)⟩

theorem privilegedOverrun_due {s : State} {n : Nat} {e : RouteEntry} (he : routeDue s n 2 (s.tick + 1) = some e) (ans : List BusAnswer) :
    privilegedOverrun n ans s = rep 0x2806 ((issue (windowOf e.waddr)
      (readPhases (busAddr s e.waddr) e.rlen (winWidth s (windowOf e.waddr))) ans (s.modCol (Col.serve n))).2.modCol
        (fun C => { C with lvOvrCnt := C.lvOvrCnt + 1 })) := by
  simp only [privilegedOverrun, he]
  rfl

/-- A transfer that overruns is counted and reported, and its sequence number is taken (R310, R312). -/
theorem privilegedOverrun_counts {s : State} {n : Nat} {e : RouteEntry} (he : routeDue s n 2 (s.tick + 1) = some e) (ans : List BusAnswer) :
    let u := privilegedOverrun n ans s
    u.col.lvOvrCnt = s.col.lvOvrCnt + 1 ∧ u.col.nextSeq = s.col.nextSeq + 1 ∧ Reported 0x2806 s u ∧ SameBut (.col :: reportParts) s u := by
  obtain ⟨q, w, hissued, hbut1, hcls⟩ := issue_spec (windowOf e.waddr)
    (readPhases (busAddr s e.waddr) e.rlen (winWidth s (windowOf e.waddr))) ans (s.modCol (Col.serve n))
  dsimp only
  rw [privilegedOverrun_due he]
  generalize (issue (windowOf e.waddr) (readPhases (busAddr s e.waddr) e.rlen (winWidth s (windowOf e.waddr))) ans
    (s.modCol (Col.serve n))).2 = v at *
  obtain ⟨hcol, hrep, hbut⟩ := rep_modCol (code := 0x2806) (by decide) (fun C => { C with lvOvrCnt := C.lvOvrCnt + 1 }) v
  rw [hcol, hissued]
  exact ⟨rfl, rfl, hrep.of_cls (hcls 0x2806 (by decide) (by decide)), ((sameBut_modCol s _).mono (by simp)).trans (hbut1.trans hbut)⟩

theorem latestWrite_skips {s : State} {n : Nat} {e : RouteEntry} {v : List Byte} (he : routeDue s n 3 s.tick = some e)
    (hv : releasedValue s e.outItem = some v) (ho : s.cls.outEn = false) (ans : List BusAnswer) : latestWrite n ans s = markServed n s := by
  simp [latestWrite, he, hv, ho]

theorem latestWrite_succeeds {s : State} {n : Nat} {e : RouteEntry} {v : List Byte} {ans : List BusAnswer}
    {done : List (BusPhase × BitVec 32)} (he : routeDue s n 3 s.tick = some e) (hv : releasedValue s e.outItem = some v)
    (ho : s.cls.outEn = true) (h : runPhases (phasesAt s e.waddr (padTo e.rlen v)) ans = (done, none)) :
    ∃ w, latestWrite n ans s = (s.modCol (Col.serve n)).modCol
      (Col.issued ((phasesAt s e.waddr (padTo e.rlen v)).take done.length) w) := by
  obtain ⟨w, hr⟩ := issue_succeeds (windowOf e.waddr) (s.modCol (Col.serve n)) h
  have hs : markServed n (takeSeq s).2 = s.modCol (Col.serve n) := rfl
  simp only [phasesAt] at hr
  simp only [latestWrite, he, hv, ho, Bool.not_true, Bool.false_eq_true, if_false, hs, hr]
  exact ⟨_, rfl⟩

/-- Where a late wrap has nothing to report, a due kind 3 transfer is what the bridge makes of it (R308, R336). -/
theorem Operational.completes_latestWrite {s : State} {n : Fin 256} {ans : List BusAnswer} {P : State → Prop} (ho : Operational s)
    (hr : reportLate (.route n.val) s = s) (hp : P (latestWrite n.val ans s)) : Completes (.latestValueWrite n ans) s P := by
  refine ho.completes (f := fun u => latestWrite n.val ans
    (onlyIf (routeDue u n.val 3 u.tick).isSome (reportLate (.route n.val)) u)) rfl ?_
  rwa [onlyIf_fixed hr]

/-! ## Inbound accesses (R309, R318) -/

/-- An access that met the module's own bus request is counted (R318). -/
def Col.noteCrossing (x : Bool) (C : Col) : Col := { C with xingCnt := C.xingCnt + BitVec.ofNat 16 (bit x) }

theorem noteCrossing_false (C : Col) : C.noteCrossing false = C := by
  simp [Col.noteCrossing, bit]

/-- An inbound access, after its crossing is counted. -/
theorem Operational.completes_inbound {s : State} {addr : Nat} {data : Option (List Byte)} {x : Bool} {P : State → Prop}
    (ho : Operational s) (hp : P (inboundAccess addr data (s.modCol (Col.noteCrossing x)))) : Completes (.inboundWrite addr data x) s P := by
  refine ho.completes (f := fun u => inboundAccess addr data
    (if x then u.modCol (fun C => { C with xingCnt := C.xingCnt + 1 }) else u)) rfl ?_
  cases x with
  | false =>
    have hsame : s.modCol (Col.noteCrossing false) = s := by simp [State.modCol, noteCrossing_false]
    rwa [hsame] at hp
  | true => exact hp

/-- The offset at which the inbound range begins (R309). -/
def inboundBase (s : State) : Nat := regField s (COL + 0x8) 20 12 * 2 ^ 20

/-- The inbound range is enabled and holds an address (R309). -/
def InInbound (s : State) (addr : Nat) : Prop :=
  regField s (COL + 0x8) 0 1 = 1 ∧ inboundBase s ≤ addr ∧ addr < inboundBase s + 2 ^ 20

theorem InInbound.not_outside {s : State} {addr : Nat} (h : InInbound s addr) :
    ¬ (regField s (COL + 0x8) 0 1 = 0 ∨ addr < regField s (COL + 0x8) 20 12 * 2 ^ 20 ∨ regField s (COL + 0x8) 20 12 * 2 ^ 20 + 2 ^ 20 ≤ addr) := by
  obtain ⟨hen, hlo, hhi⟩ := h
  unfold inboundBase at *
  omega

theorem inboundAccess_read {s : State} {addr : Nat} (h : InInbound s addr) : inboundAccess addr none s = rep 0x2807 s :=
  if_neg h.not_outside

theorem inboundAccess_unrouted {s : State} {addr : Nat} {b : List Byte} (h : InInbound s addr)
    (hr : inboundRoute s (addr - inboundBase s) b.length = none) : inboundAccess addr (some b) s = rep 0x2807 s := by
  unfold inboundBase at hr
  simp only [inboundAccess, if_neg h.not_outside, hr]

/-- The staged bytes of a route with an inbound write at an index of its range (R309). -/
def stagedWith (s : State) (n : Nat) (e : RouteEntry) (j : Nat) (b : List Byte) : Mem :=
  memWrites (tgetD s.col.staged n []) (b.zipIdx.map (fun p => (laneSwap e.inswap (j + p.2), p.1)))

/-- The bytes of a route's range are staged (R309). -/
def Col.stage (n : Nat) (m : Mem) (C : Col) : Col := { C with staged := tset C.staged n m }

theorem inboundAccess_routed {s : State} {addr n item j : Nat} {e : RouteEntry} {b : List Byte} (h : InInbound s addr)
    (hr : inboundRoute s (addr - inboundBase s) b.length = some (n, e)) (hi : tget? s.col.binds n = some item)
    (hj : addr - inboundBase s - e.waddr = j) : inboundAccess addr (some b) s =
      if j + b.length = e.rlen then
        arriveFrom 6 item ⟨true, 0, s.ts, memRead (stagedWith s n e j b) 0 e.rlen⟩ (s.modCol (Col.stage n (stagedWith s n e j b)))
      else s.modCol (Col.stage n (stagedWith s n e j b)) := by
  subst hj
  unfold inboundBase at *
  simp only [inboundAccess, if_neg h.not_outside, hr, hi]
  rfl

theorem inboundAccess_stages {s : State} {addr n item j : Nat} {e : RouteEntry} {b : List Byte} (h : InInbound s addr)
    (hr : inboundRoute s (addr - inboundBase s) b.length = some (n, e)) (hi : tget? s.col.binds n = some item)
    (hj : addr - inboundBase s - e.waddr = j) (hl : j + b.length ≠ e.rlen) :
    inboundAccess addr (some b) s = s.modCol (Col.stage n (stagedWith s n e j b)) := by
  rw [inboundAccess_routed h hr hi hj, if_neg hl]

/-- With the range's last byte the staged bytes are an arrival (R309). -/
theorem inboundAccess_arrives {s : State} {addr n item j : Nat} {e : RouteEntry} {b : List Byte} {c : InItemCfg} (h : InInbound s addr)
    (hr : inboundRoute s (addr - inboundBase s) b.length = some (n, e)) (hi : tget? s.col.binds n = some item)
    (hj : addr - inboundBase s - e.waddr = j) (hl : j + b.length = e.rlen) (hc : inItem? s item = some c) (hn : receiverOf s item = none) :
    let u := inboundAccess addr (some b) s
    (tgetD u.cyc.items item {}).back = some ⟨true, 0, s.ts, padTo c.length (memRead (stagedWith s n e j b) 0 e.rlen)⟩ ∧
      SameBut [.col, .cyc] s u := by
  dsimp only
  rw [inboundAccess_routed h hr hi hj, if_pos hl]
  obtain ⟨hback, hbut⟩ := arriveFrom_after (v := s.modCol (Col.stage n (stagedWith s n e j b))) rfl hc hn
    ⟨true, 0, s.ts, memRead (stagedWith s n e j b) 0 e.rlen⟩
  exact ⟨hback, ((sameBut_modCol s _).mono (by simp)).trans (hbut.mono (by simp))⟩

/-! ## BP_RST (R320) -/

/-- With no operation on the bus, BP_RST makes every posted write a posted error (R320). -/
theorem bpReset_fails (s : State) :
    let u := bpReset none s
    u.col.bpRst = true ∧ u.col.posted = [] ∧ u.col.perrCnt = s.col.perrCnt + BitVec.ofNat 16 s.col.posted.length ∧
      SameBut (.rng :: .col :: .mem :: reportParts) s u := by
  obtain ⟨hposted, hrst, hcnt, hbut⟩ := foldl_postedError 4 s.col.posted (s.modCol (fun C => { C with bpRst := true, posted := [] }))
  exact ⟨hrst, hposted, hcnt, ((sameBut_modCol s _).mono (by simp)).trans hbut⟩

end Sys2Proof.Machine

end

section

open Sys2Proof Sys2Proof.Machine

/-- Settles O36: each clause by the rule of its event above; posted errors by `postedError_failed`, arrivals by `arriveFrom_item`. -/
theorem colEvents : Obligations.ColEvents := by
  unfold Obligations.ColEvents
  intro s ho wp posted
  refine ⟨fun ans p rest hp => ?oldest, fun r tag o hf hop => ?heldOperation, fun n ans done e item c he => ?latestRead,
    fun n ans done e v he hv hr => ?latestWrite, fun addr x b n e item c => ?inbound, fun l c addr hw hc => ?direct,
    fun w => ⟨fun h => ?buffered, fun h => ?applied⟩, fun b h => ?inReset, fun h => ?reset, ?resetEnd⟩
  case oldest =>
    refine ⟨fun h => ?waits, fun done hb hc h => ?issued, fun done ph k hb hc h => ?failed, ?held⟩
    case waits => exact ho.completes (f := postedWriteIssue ans) rfl (postedWriteIssue_waits hp h ans)
    case issued =>
      refine ho.completes (f := postedWriteIssue ans) rfl ?_
      obtain ⟨q, w, hi⟩ := postedWriteIssue_succeeds hp hb hc h
      rw [hi]
      exact ⟨rfl, rfl, (sameBut_modCol s _).trans (sameBut_modCol _ _)⟩
    case failed => exact ho.completes (f := postedWriteIssue ans) rfl (postedWriteIssue_failed hp hb hc h)
    case held => exact ho.completes (f := holdTimeout none) rfl (holdTimeout_posted_failed hp)
  case heldOperation => exact ho.completes (f := holdTimeout (some (r, tag))) rfl (holdTimeout_operation_concluded hf hop)
  case latestRead =>
    exact ⟨fun hi hc hn h => ho.completes (f := latestRead n.val ans) rfl (latestRead_valid he hi hc hn h),
      fun f hi hc hn h => ho.completes (f := latestRead n.val ans) rfl (latestRead_invalid he hi hc hn h),
      ho.completes (f := privilegedOverrun n.val ans) rfl (privilegedOverrun_counts he ans)⟩
  case latestWrite =>
    refine ⟨fun hout => ?skipped, fun hout h => ?written⟩ <;> refine ho.completes_latestWrite hr ?_
    case skipped =>
      rw [latestWrite_skips he hv hout]
      exact ⟨rfl, sameBut_modCol s _⟩
    case written =>
      obtain ⟨w, hw⟩ := latestWrite_succeeds he hv hout h
      rw [hw]
      exact ⟨rfl, rfl, (sameBut_modCol s _).trans (sameBut_modCol _ _)⟩
  case inbound =>
    intro base hen hlo hhi
    have hin : InInbound s addr := ⟨hen, hlo, hhi⟩
    refine ⟨?read, fun hnone => ?unrouted, fun hsome hbound => ⟨fun hj => ?staged, fun hj hc hn => ?arrived⟩⟩
      <;> refine ho.completes_inbound ?_
    case read =>
      rw [inboundAccess_read (s := s.modCol _) hin]
      exact (rep_modCol (by decide) _ s).2
    case unrouted =>
      rw [inboundAccess_unrouted (s := s.modCol _) hin hnone]
      exact rep_modCol (by decide) _ s
    case staged =>
      rw [inboundAccess_stages (s := s.modCol (Col.noteCrossing false)) hin hsome hbound rfl hj]
      refine ⟨?_, (sameBut_modCol s _).trans (sameBut_modCol _ _)⟩
      rw [State.modCol_col, State.modCol_col, noteCrossing_false]
      rfl
    case arrived =>
      obtain ⟨hback, hbut⟩ := inboundAccess_arrives (s := s.modCol (Col.noteCrossing x)) hin hsome hbound rfl hj hc hn
      exact ⟨hback, ((sameBut_modCol s _).mono (by simp)).trans hbut⟩
  case direct =>
    refine ho.completes (f := fun u => onlyIf (inWindows addr && (vget (u.lane l).cores c).fetching) (rep 0x2801) u) rfl ?_
    rw [onlyIf_true (by simp [hw, hc])]
    exact ⟨rep_reported 0x2801 s (by decide), sameBut_rep 0x2801 s⟩
  case buffered =>
    refine ho.completes (f := fun u => onlyIf (!u.col.posted.any (fun p => windowOf p.off == w.val)) _ u) rfl ?_
    exact onlyIf_false (by rw [h]; rfl)
  case applied =>
    refine ho.completes (f := fun u => onlyIf (!u.col.posted.any (fun p => windowOf p.off == w.val)) _ u) rfl ?_
    rw [onlyIf_true (by rw [h]; rfl)]
    refine ⟨?_, fun v hv => ?_, sameBut_modCol s _⟩
    · rw [State.modCol_col, vget_vmod_self]
    · rw [State.modCol_col, vget_vmod_other _ _ _ _ hv]
  case inReset =>
    refine ho.completes (f := fun u => onlyIf (!u.col.bpRst) (bpReset b) u) rfl ?_
    exact onlyIf_false (by rw [h]; rfl)
  case reset =>
    refine ho.completes (f := fun u => onlyIf (!u.col.bpRst) (bpReset none) u) rfl ?_
    rw [onlyIf_true (by rw [h]; rfl)]
    exact bpReset_fails s
  case resetEnd => exact ho.completes (f := fun u => u.modCol (fun C => { C with bpRst := false })) rfl ⟨rfl, sameBut_modCol s _⟩

end

/-! # Clock domains, their crossings, and the sticky flags of SYS (R546 to R561, R572) -/

section

namespace Sys2Proof.Machine

/-! ## A domain's crossings -/

/-- Of the crossings, nothing but one domain has changed, to `y`. -/
def DomOnly (d : Fin 16) (y : XDom) (s u : State) : Prop :=
  vget u.cross.dom d = y ∧ (∀ e, e ≠ d → vget u.cross.dom e = vget s.cross.dom e) ∧ u.cross.fabLost = s.cross.fabLost

theorem DomOnly.refl (d : Fin 16) (s : State) : DomOnly d (vget s.cross.dom d) s s := ⟨rfl, fun _ _ => rfl, rfl⟩

theorem DomOnly.congr {d : Fin 16} {y : XDom} {s u v : State} (h : DomOnly d y s u) (e : v.cross = u.cross) : DomOnly d y s v := by
  unfold DomOnly at *
  rwa [e]

theorem DomOnly.modDom {d : Fin 16} {y : XDom} {s u : State} (h : DomOnly d y s u) (f : XDom → XDom) : DomOnly d (f y) s (modDom d f u) := by
  obtain ⟨hdom, hother, hfab⟩ := h
  refine ⟨?_, fun e he => ?_, hfab⟩
  · rw [Machine.modDom, vget_vmod_self, hdom]
  · rw [Machine.modDom, vget_vmod_other _ _ _ _ he, hother e he]

theorem DomOnly.repDom {d : Fin 16} {y : XDom} {s u : State} (h : DomOnly d y s u) (code : Nat) (e : Fin 16) :
    DomOnly d y s (repDom code e u) := h.congr (by simp)

theorem sameBut_cross (s : State) (x : Cross) : SameBut [.cross] s { s with cross := x } := by
  intro p hp
  cases p <;> simp_all [Part.same, State.lane]

theorem sameBut_modDom (d : Fin 16) (f : XDom → XDom) (s : State) : SameBut [.cross] s (modDom d f s) := sameBut_cross s _

theorem sameBut_repDom (code : Nat) (d : Fin 16) (s : State) : SameBut reportParts s (repDom code d s) := sameBut_report _ _ _ _

theorem repDom_cls_other {code c : Nat} (d : Fin 16) (s : State) (h : c ≠ code) (h2 : c ≠ 0x402) :
    tgetD (repDom code d s).flt.cls c 0 = tgetD s.flt.cls c 0 := report_cls_other _ _ _ _ _ h h2

/-- A change of a domain that is reported (R560). -/
theorem repDom_modDom {code : Nat} (h : code ≠ 0x402) (d : Fin 16) (f : XDom → XDom) (s : State) :
    Reported code s (repDom code d (modDom d f s)) ∧ SameBut (.cross :: reportParts) s (repDom code d (modDom d f s)) :=
  ⟨(report_reported code 8 _ _ h).of_flt rfl,
    ((sameBut_modDom d f s).mono (by simp)).trans ((sameBut_repDom code d _).mono (fun _ hm => List.mem_cons_of_mem _ hm))⟩

/-! ## Lost clocks (R554, R559) -/

/-- The domain with its clock lost (R554). -/
def XDom.loseClock (x : XDom) : XDom := { x with clkOk := false, clkLost := true }

/-- The loss of a clock, before its consequences: noted in its domain and reported (R554). -/
def noteLost (d : Fin 16) (s : State) : State := repDom 0x0601 d (modDom d XDom.loseClock s)

theorem clockLost_unmonitored {d : Fin 16} {s : State} (h : monitored s d = false ∨ (vget s.cross.dom d).clkOk = false)
    (onBus : Option (Fin 64 × Fin 1024 × Nat)) (posted : Bool) : clockLost d onBus posted s = s := by
  rcases h with h | h <;> simp [clockLost, clockGood, h]

theorem clockLost_monitored {d : Fin 16} {s : State} (h : monitored s d = true) (hk : (vget s.cross.dom d).clkOk = true)
    (onBus : Option (Fin 64 × Fin 1024 × Nat)) (posted : Bool) :
    clockLost d onBus posted s = clockLostEffect d onBus posted (noteLost d s) := by
  refine if_pos ?_
  rw [clockGood, h, hk]
  rfl

theorem noteLost_only (d : Fin 16) (s : State) : DomOnly d (vget s.cross.dom d).loseClock s (noteLost d s) :=
  ((DomOnly.refl d s).modDom XDom.loseClock).repDom 0x0601 d

theorem noteLost_reported (d : Fin 16) (s : State) :
    Reported 0x0601 s (noteLost d s) ∧ SameBut (.cross :: reportParts) s (noteLost d s) := repDom_modDom (by decide) d XDom.loseClock s

/-- The loss of a clock other than Bezel's and the backplane's has no further consequence (R559). -/
theorem clockLostEffect_other {d : Fin 16} (h : d ≠ 8) (h2 : d ≠ 13) (onBus : Option (Fin 64 × Fin 1024 × Nat)) (posted : Bool) (s : State) :
    clockLostEffect d onBus posted s = s := by
  unfold clockLostEffect
  split
  next hd => exact absurd (Fin.ext hd) h
  next hd => exact absurd (Fin.ext hd) h2
  next => rfl

/-- Bezel without its oscillator: not aligned, and blocking every own frame (R559). -/
def Bezel.stop (B : Bezel) : Bezel := { B with oscOk := false, aligned := false, blocked := true }

theorem clockLostEffect_bezel (onBus : Option (Fin 64 × Fin 1024 × Nat)) (posted : Bool) (s : State) :
    clockLostEffect 8 onBus posted s = modBezels Bezel.stop s := rfl

theorem clockLostEffect_backplane (onBus : Option (Fin 64 × Fin 1024 × Nat)) (posted : Bool) (s : State) :
    clockLostEffect 13 onBus posted s =
      if posted then failOldest (endOnBus onBus 3 (fun _ => 0x86) s) else endOnBus onBus 3 (fun _ => 0x86) s := rfl

/-- A change of both Bezels is one of each channel. -/
theorem modBezels_chan (f : Bezel → Bezel) (s : State) (c : ChanId) :
    (modBezels f s).chan c = { s.chan c with bezel := f (s.chan c).bezel } := by
  unfold modBezels State.modBezel
  match c with
  | 0 => rw [State.chan_modChan_other _ _ _ _ (by decide), State.chan_modChan]
  | 1 => rw [State.chan_modChan, State.chan_modChan_other _ _ _ _ (by decide)]

theorem sameBut_modBezels (f : Bezel → Bezel) (s : State) : SameBut [.stra] s (modBezels f s) :=
  (sameBut_stra s _).trans (sameBut_stra _ _)

/-- An operation on the bus ends in its ring alone (R316). -/
theorem sameBut_endOnBus (onBus : Option (Fin 64 × Fin 1024 × Nat)) (k : Nat) (status : Nat → Nat) (s : State) :
    SameBut [.rng] s (endOnBus onBus k status s) := by
  unfold endOnBus
  split
  · exact SameBut.refl _ s
  · split
    · split
      · exact sameBut_opDone _ _ _ _ _ s
      · exact SameBut.refl _ s
    · exact SameBut.refl _ s

/-- The oldest posted write becomes a posted error, where there is one (R315, R559). -/
theorem failOldest_fails (s : State) :
    let u := failOldest s
    u.col.posted = s.col.posted.tail ∧ (s.col.posted ≠ [] → u.col.perrCnt = s.col.perrCnt + 1 ∧ Reported 0x2804 s u) ∧
      SameBut (.rng :: .col :: .mem :: reportParts) s u ∧
      ∀ c, c ≠ 0x2804 → c ≠ 0x402 → tgetD u.flt.cls c 0 = tgetD s.flt.cls c 0 := by
  dsimp only
  unfold failOldest
  split
  case h_1 hnil => exact ⟨by rw [hnil]; rfl, fun h => absurd hnil h, SameBut.refl _ s, fun _ _ _ => rfl⟩
  case h_2 p rest hp =>
    have hs : s.modCol (fun C => { C with posted := rest }) = s.modCol (Col.behind rest) := rfl
    rw [hs, hp]
    obtain ⟨hposted, -, -, hcnt⟩ := postedError_keeps p p.off 0 3 (s.modCol (Col.behind rest))
    obtain ⟨hbut, hrep, -⟩ := postedError_spec p p.off 0 3 (s.modCol (Col.behind rest))
    exact ⟨hposted, fun _ => ⟨hcnt, hrep.of_flt rfl⟩, ((sameBut_modCol s _).mono (by simp)).trans hbut,
      fun c h h2 => postedError_cls p p.off 0 3 (s.modCol (Col.behind rest)) c h h2⟩

/-- The loss of the backplane's clock: what it leaves of the posted writes and of the rest of the module (R314, R559). -/
theorem clockLostEffect_backplane_spec (onBus : Option (Fin 64 × Fin 1024 × Nat)) (posted : Bool) (s : State) :
    let u := clockLostEffect 13 onBus posted s
    (posted = false → u.col = s.col) ∧
      (posted = true → u.col.posted = s.col.posted.tail ∧
        (s.col.posted ≠ [] → u.col.perrCnt = s.col.perrCnt + 1 ∧ Reported 0x2804 s u)) ∧
      SameBut (.rng :: .col :: .mem :: reportParts) s u ∧
      ∀ c, c ≠ 0x2804 → c ≠ 0x402 → tgetD u.flt.cls c 0 = tgetD s.flt.cls c 0 := by
  have hend := sameBut_endOnBus onBus 3 (fun _ => 0x86) s
  dsimp only
  rw [clockLostEffect_backplane]
  generalize endOnBus onBus 3 (fun _ => 0x86) s = v at *
  have hcol : v.col = s.col := hend .col (by simp)
  have hflt : v.flt = s.flt := hend .flt (by simp)
  cases posted with
  | false => exact ⟨fun _ => hcol, fun h => absurd h (by decide), hend.mono (by simp), fun _ _ _ => by rw [if_neg (by decide), hflt]⟩
  | true =>
    obtain ⟨hposted, herr, hbut, hcls⟩ := failOldest_fails v
    rw [hcol] at hposted herr
    rw [if_pos rfl]
    exact ⟨fun h => absurd h (by decide), fun _ => ⟨hposted, fun h => (herr h).imp_right (fun hrep => hrep.of_flt hflt)⟩,
      (hend.mono (by simp)).trans hbut, fun c h h2 => (hcls c h h2).trans (by rw [hflt])⟩

/-- The consequences of a lost clock report no other class than the posted error's (R559). -/
theorem clockLostEffect_cls (d : Fin 16) (onBus : Option (Fin 64 × Fin 1024 × Nat)) (posted : Bool) (s : State) {c : Nat}
    (h : c ≠ 0x2804) (h2 : c ≠ 0x402) : tgetD (clockLostEffect d onBus posted s).flt.cls c 0 = tgetD s.flt.cls c 0 := by
  by_cases h13 : d = 13
  · subst h13
    obtain ⟨-, -, -, hcls⟩ := clockLostEffect_backplane_spec onBus posted s
    exact hcls c h h2
  · by_cases h8 : d = 8
    · subst h8
      rfl
    · rw [clockLostEffect_other h8 h13]

/-! ## Restored clocks (R558) -/

/-- The return of a clock, noted in its domain and reported (R558). -/
def noteRestored (d : Fin 16) (s : State) : State := repDom 0x0602 d (modDom d XDom.restore s)

theorem clockRestored_unmonitored {d : Fin 16} {s : State} (h : monitored s d = false ∨ (vget s.cross.dom d).clkOk = true) :
    clockRestored d s = s := by
  rcases h with h | h <;> simp [clockRestored, clockGood, h]

/-- Bezel with its oscillator restored (R558). -/
def Bezel.resume (B : Bezel) : Bezel := { B with oscOk := true }

theorem clockRestored_monitored {d : Fin 16} {s : State} (h : monitored s d = true) (hk : (vget s.cross.dom d).clkOk = false) :
    clockRestored d s = if d = 8 then modBezels Bezel.resume (noteRestored d s) else noteRestored d s := by
  refine if_pos ?_
  rw [clockGood, h, hk]
  rfl

theorem noteRestored_only (d : Fin 16) (s : State) : DomOnly d (vget s.cross.dom d).restore s (noteRestored d s) :=
  ((DomOnly.refl d s).modDom XDom.restore).repDom 0x0602 d

theorem noteRestored_reported (d : Fin 16) (s : State) :
    Reported 0x0602 s (noteRestored d s) ∧ SameBut (.cross :: reportParts) s (noteRestored d s) := repDom_modDom (by decide) d XDom.restore s

/-! ## Stalled crossings (R550, R551, R557, R560) -/

/-- A domain that stalls; one that has stalled is not counted again (R557). -/
def XDom.beginStall (x : XDom) : XDom := { x with stall := true, stallCnt := if x.stall then x.stallCnt else x.stallCnt + 1 }

/-- A loss of counts is reported: one has occurred, and none has been reported in this tick (R560). -/
abbrev LossReported (x : XDom) (counts tick : Nat) : Prop := 255 < x.acc + counts ∧ x.lostTick ≠ some tick

/-- A domain stalls, where it has not (R557). -/
def noteStall (d : Fin 16) (s : State) : State :=
  if (vget s.cross.dom d).stall then s else repDom 0x0603 d (modDom d (fun x => { x with stall := true, stallCnt := x.stallCnt + 1 }) s)

theorem noteStall_only (d : Fin 16) (s : State) : DomOnly d (vget s.cross.dom d).beginStall s (noteStall d s) := by
  have hcur := DomOnly.refl d s
  unfold noteStall XDom.beginStall
  generalize vget s.cross.dom d = x at *
  split
  next h =>
    have heq : { x with stall := true, stallCnt := x.stallCnt } = x := by rw [← h]
    rw [heq]
    exact hcur
  next => exact (hcur.modDom (fun x => { x with stall := true, stallCnt := x.stallCnt + 1 })).repDom 0x0603 d

theorem noteStall_stalled {d : Fin 16} {s : State} (h : (vget s.cross.dom d).stall = true) : noteStall d s = s := if_pos h

theorem noteStall_reported {d : Fin 16} {s : State} (h : (vget s.cross.dom d).stall = false) : Reported 0x0603 s (noteStall d s) := by
  rw [noteStall, if_neg (ne_true_of_eq_false h)]
  exact (repDom_modDom (by decide) d _ s).1

theorem noteStall_sameBut (d : Fin 16) (s : State) : SameBut (.cross :: reportParts) s (noteStall d s) := by
  unfold noteStall
  split
  · exact SameBut.refl _ s
  · exact (repDom_modDom (by decide) d _ s).2

theorem noteStall_cls (d : Fin 16) (s : State) : tgetD (noteStall d s).flt.cls 0x604 0 = tgetD s.flt.cls 0x604 0 := by
  unfold noteStall
  split
  · rfl
  · exact repDom_cls_other d _ (by decide) (by decide)

theorem crossingStalled_none (events counts : Nat) (s : State) : crossingStalled 0 events counts s = s := rfl

/-- The counts that a stalled domain gathers, with nothing to report. -/
theorem crossingStalled_gathers {d : Fin 16} {counts : Nat} {s : State} (hd : d ≠ 0) (h : ¬ LossReported (vget s.cross.dom d) counts s.tick)
    (events : Nat) : crossingStalled d events counts s = modDom d (fun x => x.gather events counts) (noteStall d s) := by
  rw [crossingStalled, if_neg hd]
  refine if_pos ?_
  rw [LossReported, not_and_or, not_not] at h
  exact h.imp_left Nat.le_of_not_lt

/-- The tick of the last reported loss (R560). -/
def XDom.noteLoss (tick : Nat) (x : XDom) : XDom := { x with lostTick := some tick }

theorem crossingStalled_loses {d : Fin 16} {counts : Nat} {s : State} (hd : d ≠ 0) (h : LossReported (vget s.cross.dom d) counts s.tick)
    (events : Nat) : crossingStalled d events counts s =
      repDom 0x0604 d (modDom d (XDom.noteLoss s.tick) (modDom d (fun x => x.gather events counts) (noteStall d s))) := by
  rw [crossingStalled, if_neg hd]
  refine if_neg ?_
  obtain ⟨hmany, htick⟩ := h
  exact not_or.mpr ⟨Nat.not_le.mpr hmany, htick⟩

/-- A count is lost where more than 255 have gathered (R551). -/
theorem gathered_lost (n : Nat) : 0 < n - min 255 n ↔ 255 < n := by omega

/-- A domain after a stall with waiting events and counts (R550, R551, R557, R560). -/
def XDom.stalled (x : XDom) (events counts tick : Nat) : XDom :=
  { x with
    stall := true, stallCnt := if x.stall then x.stallCnt else x.stallCnt + 1, merged := x.merged || decide (1 < events),
    mergeCnt := min 255 (x.mergeCnt + (events - 1)), acc := min 255 (x.acc + counts), lost := x.lost || decide (255 < x.acc + counts),
    lostCnt := x.lostCnt + BitVec.ofNat 16 (x.acc + counts - min 255 (x.acc + counts)),
    lostTick := if LossReported x counts tick then some tick else x.lostTick }

theorem stalled_of_loss {x : XDom} {counts tick : Nat} (h : LossReported x counts tick) (events : Nat) :
    (x.beginStall.gather events counts).noteLoss tick = x.stalled events counts tick := by
  simp only [XDom.beginStall, XDom.gather, XDom.noteLoss, XDom.stalled, gathered_lost, if_pos h]

theorem stalled_of_no_loss {x : XDom} {counts tick : Nat} (h : ¬ LossReported x counts tick) (events : Nat) :
    x.beginStall.gather events counts = x.stalled events counts tick := by
  simp only [XDom.beginStall, XDom.gather, XDom.stalled, gathered_lost, if_neg h]

/-- A crossing that stalls changes its domain alone (R557). -/
theorem crossingStalled_only {d : Fin 16} (hd : d ≠ 0) (events counts : Nat) (s : State) :
    DomOnly d ((vget s.cross.dom d).stalled events counts s.tick) s (crossingStalled d events counts s) := by
  have hgathered := (noteStall_only d s).modDom (fun x => x.gather events counts)
  by_cases h : LossReported (vget s.cross.dom d) counts s.tick
  · rw [crossingStalled_loses hd h, ← stalled_of_loss h]
    exact (hgathered.modDom (XDom.noteLoss s.tick)).repDom 0x0604 d
  · rw [crossingStalled_gathers hd h, ← stalled_of_no_loss h]
    exact hgathered

/-- The first stall is reported (R557, R560). -/
theorem crossingStalled_reports_stall {d : Fin 16} (hd : d ≠ 0) (events counts : Nat) {s : State} (hs : (vget s.cross.dom d).stall = false) :
    Reported 0x0603 s (crossingStalled d events counts s) := by
  have hstall := noteStall_reported hs
  by_cases h : LossReported (vget s.cross.dom d) counts s.tick
  · rw [crossingStalled_loses hd h]
    exact hstall.then_cls (repDom_cls_other d _ (by decide) (by decide))
  · rw [crossingStalled_gathers hd h]
    exact hstall

/-- Lost counts are reported at most once a tick (R560). -/
theorem crossingStalled_reports_loss {d : Fin 16} (hd : d ≠ 0) (events counts : Nat) {s : State}
    (h : LossReported (vget s.cross.dom d) counts s.tick) : Reported 0x0604 s (crossingStalled d events counts s) := by
  rw [crossingStalled_loses hd h]
  exact (repDom_modDom (by decide) d _ _).1.of_cls (noteStall_cls d s)

theorem crossingStalled_sameBut {d : Fin 16} (hd : d ≠ 0) (events counts : Nat) (s : State) :
    SameBut (.cross :: reportParts) s (crossingStalled d events counts s) := by
  have hgathered := (noteStall_sameBut d s).trans ((sameBut_modDom d (fun x => x.gather events counts) _).mono (by simp))
  by_cases h : LossReported (vget s.cross.dom d) counts s.tick
  · rw [crossingStalled_loses hd h]
    exact hgathered.trans (repDom_modDom (by decide) d _ _).2
  · rw [crossingStalled_gathers hd h]
    exact hgathered

/-- A stalled domain that goes on stalling with no loss to report changes nothing else (R550, R551). -/
theorem crossingStalled_silent {d : Fin 16} (hd : d ≠ 0) (events counts : Nat) {s : State} (hs : (vget s.cross.dom d).stall = true)
    (h : ¬ LossReported (vget s.cross.dom d) counts s.tick) : SameBut [.cross] s (crossingStalled d events counts s) := by
  rw [crossingStalled_gathers hd h, noteStall_stalled hs]
  exact sameBut_modDom d _ s

/-! ## The fabric clock (R555) -/

/-- The loss of the fabric clock holds the module in reset: the claim and the output enable go, and the recorder's staging stays (R555). -/
theorem fabricClockLost_holds (s : State) :
    let u := fabricClockLost s
    u.pwr.held = true ∧ u.pwr.cause = 6 ∧ u.pwr.fabReport = true ∧ u.cross.fabLost = true ∧ u.cls.outEn = false ∧ u.cls.role = .none ∧
      u.rcd.staged = s.rcd.staged ∧ u.rcd.perm = s.rcd.perm ∧ u.otp = s.otp ∧ u.pending = s.pending ∧ u.mem = [] ∧
      u.tim = State.reset.tim ∧ u.rng = State.reset.rng :=
  ⟨rfl, rfl, rfl, rfl, rfl, rfl, rfl, rfl, rfl, rfl, rfl, rfl, rfl⟩

/-! ## Sticky flags (R558, R561, R572) -/

theorem testBit_toNat {w : Nat} (m : BitVec w) (i : Nat) : testBit m.toNat i = m.getLsbD i := by
  rw [BitVec.getLsbD, Nat.testBit_eq_decide_div_mod_eq, testBit]
  rfl

/-- SYS_XCLR clears the sticky flags of the domains its mask names, the fabric's apart, and nothing else (R558, R561). -/
theorem clearCrossings_clears {w : Nat} (m : BitVec w) (d : Fin 16) (s : State) :
    let u := clearCrossings m.toNat s
    vget u.cross.dom d = (if m.getLsbD d.val = true ∧ d ≠ 0 then { vget s.cross.dom d with merged := false, lost := false, clkLost := false }
      else vget s.cross.dom d) ∧ u.cross.fabLost = s.cross.fabLost ∧ SameBut [.cross] s u := by
  dsimp only
  unfold clearCrossings
  refine ⟨?_, rfl, sameBut_cross s _⟩
  rw [vget_ofFn, testBit_toNat]

theorem faultRecord_pinLatch (code origin : Nat) (data : List Byte) (s : State) :
    (faultRecord code origin data s).flt.pinLatch = s.flt.pinLatch := by
  unfold faultRecord
  dsimp only
  (repeat' split) <;> rfl

theorem noteReport_pinLatch (f : FaultRep) (code origin : Nat) : (f.noteReport code origin).pinLatch = f.pinLatch := by
  unfold FaultRep.noteReport
  dsimp only
  (repeat' split) <;> rfl

theorem reportOnly_pinLatch (code origin : Nat) (data : List Byte) (s : State) :
    (reportOnly code origin data s).flt.pinLatch = s.flt.pinLatch := by
  unfold reportOnly
  dsimp only
  rw [raiseAll_flt]
  dsimp only
  rw [noteReport_pinLatch, faultRecord_pinLatch]

/-- A report latches the PIN where its class declares that reaction (R568, R570). -/
theorem report_pinLatch {code : Nat} (h : code ≠ 0x402) (origin : Nat) (data : List Byte) (s : State) :
    (report code origin data s).flt.pinLatch = (s.flt.pinLatch || testBit (tgetD s.cfg.flt.reactions code 0) 1) := by
  have hcfg : (reportOnly code origin data s).cfg = s.cfg := by simp
  unfold report
  dsimp only
  rw [hcfg]
  split
  next hno =>
    rw [reportOnly_pinLatch, hno.resolve_right h]
    simp [testBit]
  next =>
    rw [reportOnly_pinLatch]
    dsimp only
    rw [reportOnly_pinLatch]

theorem clearPin_clear {s : State} (h : s.flt.pinLatch = false) : clearPin s = s := if_neg (ne_true_of_eq_false h)

theorem sameBut_flt (s : State) (x : FaultRep) : SameBut [.flt] s { s with flt := x } := by
  intro p hp
  cases p <;> simp_all [Part.same, State.lane]

/-- The PIN latch without its set mark. -/
def unlatchPin (s : State) : State := { s with flt := { s.flt with pinLatch := false } }

/-- Clearing a set latch is reported, and the report latches the PIN again where its class declares that reaction (R568, R572). -/
theorem clearPin_set {s : State} (h : s.flt.pinLatch = true) :
    let u := clearPin s
    u.flt.pinLatch = testBit (tgetD s.cfg.flt.reactions 0x0403 0) 1 ∧ Reported 0x0403 s u ∧ SameBut reportParts s u := by
  have hclear : clearPin s = rep 0x0403 (unlatchPin s) := if_pos h
  dsimp only
  rw [hclear]
  refine ⟨?_, (rep_reported 0x0403 _ (by decide)).of_cls rfl, ((sameBut_flt s _).mono (by simp [reportParts])).trans (sameBut_rep 0x0403 _)⟩
  rw [rep, report_pinLatch (by decide)]
  exact Bool.false_or _

end Sys2Proof.Machine

end

section

open Sys2Proof Sys2Proof.Machine

/-- Settles O49: a domain's events by the rules of its own crossings (`DomOnly`), their consequences by `clockLostEffect`'s rules, the fabric
clock's loss by what a held reset keeps, and the flags by the rules of their clears. -/
theorem clockDomains : Obligations.ClockDomains := by
  unfold Obligations.ClockDomains
  intro s d x only
  refine ⟨fun onBus posted hl h => ?notLost, fun onBus posted hl hm hk => ?lost, fun hl h => ?notRestored, fun hl hm hk => ?restored,
    fun ev n hl hd => ?fabricCrossing, fun ev n hl hd => ?stalled, fun hl => ?fabric, fun hl => ?drift, fun m ho => ?cleared,
    fun ho h => ?pinClear, fun ho h => ?pinSet⟩
  case notLost => exact hl.completes (f := clockLost d onBus posted) rfl (clockLost_unmonitored h onBus posted)
  case lost =>
    refine hl.completes (f := clockLost d onBus posted) rfl ?_
    rw [clockLost_monitored hm hk]
    obtain ⟨hrep, hbut⟩ := noteLost_reported d s
    refine ⟨(noteLost_only d s).congr (by simp), ?reported, fun h8 h13 => ?other, fun h8 => ?bezel, fun h13 => ?backplane⟩
    case reported => exact hrep.then_cls (clockLostEffect_cls d onBus posted _ (by decide) (by decide))
    case other =>
      rw [clockLostEffect_other h8 h13]
      exact hbut
    case bezel =>
      subst h8
      rw [clockLostEffect_bezel]
      exact ⟨(hbut.mono (by simp [reportParts])).trans ((sameBut_modBezels _ _).mono (by simp)),
        fun c => by rw [modBezels_chan, chan_congr (hbut .stra (by simp [reportParts]))]; rfl⟩
    case backplane =>
      subst h13
      obtain ⟨hkept, hfailed, hbut1, -⟩ := clockLostEffect_backplane_spec onBus posted (noteLost 13 s)
      have hcol : (noteLost 13 s).col = s.col := hbut .col (by simp [reportParts])
      rw [hcol] at hkept hfailed
      refine ⟨hkept, fun hp => (hfailed hp).imp_right (fun herr hne => (herr hne).imp_right (fun hr => hr.of_cls ?_)),
        (hbut.mono (by simp [reportParts])).trans (hbut1.mono (by simp [reportParts]))⟩
      exact repDom_cls_other 13 _ (by decide) (by decide)
  case notRestored => exact hl.completes (f := clockRestored d) rfl (clockRestored_unmonitored h)
  case restored =>
    refine hl.completes (f := clockRestored d) rfl ?_
    rw [clockRestored_monitored hm hk]
    obtain ⟨hrep, hbut⟩ := noteRestored_reported d s
    by_cases h8 : d = 8
    · rw [if_pos h8]
      exact ⟨(noteRestored_only d s).congr (by simp), hrep.then_cls (by simp), fun h => absurd h8 h, fun _ =>
        ⟨(hbut.mono (by simp [reportParts])).trans ((sameBut_modBezels _ _).mono (by simp)),
          fun c => by rw [modBezels_chan, chan_congr (hbut .stra (by simp [reportParts]))]; rfl⟩⟩
    · rw [if_neg h8]
      exact ⟨noteRestored_only d s, hrep, fun _ => hbut, fun h => absurd h h8⟩
  case fabricCrossing =>
    subst hd
    exact hl.completes (f := crossingStalled 0 ev n) rfl (crossingStalled_none ev n s)
  case stalled =>
    exact hl.completes (f := crossingStalled d ev n) rfl ⟨crossingStalled_only hd ev n s, crossingStalled_reports_stall hd ev n,
      crossingStalled_reports_loss hd ev n, crossingStalled_sameBut hd ev n s, crossingStalled_silent hd ev n⟩
  case fabric => exact hl.completes (f := fabricClockLost) rfl (fabricClockLost_holds s)
  case drift => exact hl.completes (f := rep 0x0606) rfl ⟨rep_reported 0x0606 s (by decide), sameBut_rep 0x0606 s⟩
  case cleared => exact ho.completes (f := clearCrossings m.toNat) rfl (clearCrossings_clears m d s)
  case pinClear => exact ho.completes (f := clearPin) rfl (clearPin_clear h)
  case pinSet => exact ho.completes (f := clearPin) rfl (clearPin_set h)

end

/-! # Steps and the queue of waiting commands (R529) -/

section

namespace Sys2Proof.Machine

/-! ## The queue -/

/-- Where an outcome is a next state, the same commands wait there, in the same order. -/
def KeepsQueue (s : State) (o : Host.Outcome State Fault Refusal) : Prop := ∀ t, o = .next t → t.pending = s.pending

theorem endCycle_pending (u : State) : (endCycle u).pending = u.pending := by simp

@[simp] theorem onlyIf_pending (p : Bool) (f : State → State) (s : State) (h : ∀ u, (f u).pending = u.pending) :
    (onlyIf p f s).pending = s.pending := by
  unfold onlyIf
  split
  · exact h s
  · rfl

/-- What `act` and `actLine` answer: the effect with the end of its fabric cycle where the module acts, else the state as it was. -/
theorem keepsQueue_gated {acts : Bool} {s u : State} (hu : u.pending = s.pending) :
    KeepsQueue s (.next (if acts then endCycle u else s)) := by
  rintro t ⟨⟩
  split
  · exact (endCycle_pending u).trans hu
  · rfl

/-- What `actAny` answers: the effect with the end of its fabric cycle. -/
theorem keepsQueue_endCycle {s u : State} (hu : u.pending = s.pending) : KeepsQueue s (.next (endCycle u)) := by
  rintro t ⟨⟩
  exact (endCycle_pending u).trans hu

theorem keepsQueue_fault (s : State) (r : Fault) : KeepsQueue s (.fault r) := by
  rintro t ⟨⟩

/-- No command touches the queue. The named cases choose between operations by the state; every effect keeps the waiting commands by the
frame of its own operation. -/
theorem exec_keepsQueue (i : Instr) (s : State) : KeepsQueue s (exec i s) := by
  cases i
  case registerWrite lane addr data =>
    show KeepsQueue s (execRegisterWrite lane addr data s)
    unfold execRegisterWrite
    split
    · exact keepsQueue_gated (by simp)
    · exact keepsQueue_fault s _
  case proposalArrival lane =>
    refine keepsQueue_gated ?_
    beta_reduce
    split <;> simp
  case ownSlotSend chan slot phase bz since =>
    refine keepsQueue_gated ?_
    simp only [ownSlotSend_frame]
    (repeat' split) <;> simp
  case swapCommit req =>
    refine keepsQueue_gated (utmus_pending _ _ _ _ s (fun t => ?_))
    split <;> simp
  case swapRevert req =>
    refine keepsQueue_gated (utmus_pending _ _ _ _ s (fun t => ?_))
    split <;> simp
  case programStop req => exact keepsQueue_gated (utmus_pending _ _ _ _ s (fun t => by simp))
  case programStart req =>
    refine keepsQueue_gated (utmus_pending _ _ _ _ s (fun t => ?_))
    split <;> simp
  case powerOnReset | powerOnResetRelease | convertersOff | wake => exact keepsQueue_endCycle (by simp)
  all_goals exact keepsQueue_gated (by simp)

/-! ## Steps -/

theorem step_waiting {s : State} {c : Instr} {rest : List Instr} (h : s.pending = c :: rest) : step s = exec c { s with pending := rest } := by
  unfold step
  rw [h]

theorem step_idle {s : State} (h : s.pending = []) : step s = .next (idleCycle s) := by
  unfold step
  rw [h]

/-- An idle fabric cycle counts module time within the tick, or changes nothing (R54). -/
theorem idleCycle_counts (s : State) : (idleCycle s).tick = s.tick ∧ SameBut [.tim] s (idleCycle s) ∧
    (idleCycle s).tim = { s.tim with now := (idleCycle s).tim.now, cycles := (idleCycle s).tim.cycles } := by
  unfold idleCycle
  split
  next h => exact ⟨h.2.2, sameBut_tim s _, rfl⟩
  next => exact ⟨rfl, SameBut.refl _ s, rfl⟩

theorem idleCycle_stands {s : State} (h : s.tim.counting = false ∨ s.pwr.held = true) : idleCycle s = s := by
  refine if_neg (fun hc => ?_)
  obtain ⟨hcount, hheld, -⟩ := hc
  rcases h with h | h <;> simp_all

end Sys2Proof.Machine

end

section

open Sys2Proof Sys2Proof.Machine

/-- Settles O55: a step takes the front command off and runs it with the rest, which no command's effect touches; an idle cycle finds none
waiting and adds none. -/
theorem queueFirstInFirstOut : Obligations.QueueFirstInFirstOut := by
  unfold Obligations.QueueFirstInFirstOut
  refine ⟨fun s t h => ?_, fun i s t h => exec_keepsQueue i s t h⟩
  cases hp : s.pending with
  | nil =>
    rw [step_idle hp] at h
    cases h
    obtain ⟨-, hbut, -⟩ := idleCycle_counts s
    exact (hbut .pending (by simp)).trans hp
  | cons c rest =>
    rw [step_waiting hp] at h
    exact exec_keepsQueue c { s with pending := rest } t h

/-- Settles O51, by what a step does with and without a waiting command, and what an idle cycle counts. -/
theorem stepTakesFront : Obligations.StepTakesFront := by
  unfold Obligations.StepTakesFront
  refine ⟨fun c rest s => step_waiting (s := { s with pending := c :: rest }) rfl, fun s hp => ⟨idleCycle s, step_idle hp, ?_⟩⟩
  obtain ⟨htick, hbut, htim⟩ := idleCycle_counts s
  exact ⟨htick, hbut, htim, idleCycle_stands⟩

end

/-! # What updates, ended operations and reports leave

Rules that the statements on check units, motion, the analog chain, the field channels, Clasp, the recorder, Utmus, Signet and power share. -/

section

namespace Sys2Proof.Machine

/-! ## Updates of one part -/

theorem sameBut_chk (s : State) (x : Chk) : SameBut [.chk] s { s with chk := x } := by
  intro p hp
  cases p <;> simp_all [Part.same, State.lane]

theorem sameBut_ana (s : State) (x : Ana) : SameBut [.ana] s { s with ana := x } := by
  intro p hp
  cases p <;> simp_all [Part.same, State.lane]

theorem sameBut_fld (s : State) (x : Fld) : SameBut [.fld] s { s with fld := x } := by
  intro p hp
  cases p <;> simp_all [Part.same, State.lane]

theorem sameBut_rcd (s : State) (x : Recorder) : SameBut [.rcd] s { s with rcd := x } := by
  intro p hp
  cases p <;> simp_all [Part.same, State.lane]

theorem sameBut_mem (s : State) (x : Mem) : SameBut [.mem] s { s with mem := x } := by
  intro p hp
  cases p <;> simp_all [Part.same, State.lane]

/-! ## Ends of operations and reports after an effect -/

/-- An operation that ends after an effect that leaves the rings (R153). -/
theorem opDone_after {s v : State} {r : Fin 64} {d : Desc} (h : { desc := d, stage := .running : RunOp } ∈ (s.ringAt r).ops)
    (hv : v.rng = s.rng) (st ra rb : Nat) : Concluded (opDone r d.tag st ra rb v) r d st ra rb :=
  opDone_concluded st ra rb (by rwa [ringAt_congr hv])

theorem SameBut.then_opDone {ps : List Part} {s v : State} (h : SameBut ps s v) (hp : .rng ∈ ps) (r : Fin 64) (tag st ra rb : Nat) :
    SameBut ps s (opDone r tag st ra rb v) :=
  h.trans ((sameBut_opDone r tag st ra rb v).mono (by simpa using hp))

theorem SameBut.then_rep {ps : List Part} {s v : State} (h : SameBut ps s v) (hp : ∀ p ∈ reportParts, p ∈ ps) (code : Nat) :
    SameBut ps s (rep code v) :=
  h.trans ((sameBut_rep code v).mono hp)

/-- An effect followed by a report of its class counts that class where the effect leaves the reporting counters (R563). -/
theorem rep_after {code : Nat} {s v : State} (hc : code ≠ 0x402) (hv : v.flt = s.flt) : Reported code s (rep code v) :=
  (rep_reported code v hc).of_flt hv

/-- An event that finds its condition false changes nothing. -/
theorem Operational.completes_unchanged {i : Instr} {f : State → State} {s : State} (ho : Operational s) (he : exec i s = act f s)
    (hf : f s = s) : Completes i s (fun u => u = s) := ho.completes he hf

end Sys2Proof.Machine

end

/-! # Check units (R323 to R331) -/

section

namespace Sys2Proof.Machine

/-! ## Giving an operation to a unit -/

theorem onRingUnit_none {s : State} (h : unitFor s 0 = none) (r : Fin 64) (u : Fin 16) (d : Desc) (f : State → State) :
    onRingUnit r u d f s = opDone r d.tag 0x81 0 0 s := by
  unfold onRingUnit
  rw [h]

/-- A RING unit that has not failed takes the operation and counts it (R330). -/
theorem onRingUnit_ready {s : State} {n u : Fin 16} (h : unitFor s 0 = some n) (hr : (vget s.chk.unit u).role = 0)
    (hf : (vget s.chk.unit u).failed = false) (r : Fin 64) (d : Desc) (f : State → State) : onRingUnit r u d f s = f (countUnit u s) := by
  unfold onRingUnit
  rw [h]
  exact if_pos ⟨hr, by rw [hf]; rfl⟩

theorem rep_chk (code : Nat) (s : State) : (rep code s).chk = s.chk := by simp

theorem sameBut_countUnit (u : Fin 16) (s : State) : SameBut [.chk] s (countUnit u s) := sameBut_chk s _

theorem sameBut_writeAt (off : Nat) (b : List Byte) (s : State) : SameBut [.mem] s (writeAt off b s) := sameBut_mem s _

/-! ## The operations (R328) -/

/-- The cycles an operation's unit takes (R326). -/
def opCycles (d : Desc) : Nat := unitCycles (if (chkParams d).noFold then 0 else 8) d.length (feedWidth (chkParams d).feed)

theorem chkComputeOp_none {s : State} (h : unitFor s 0 = none) (append : Bool) (r : Fin 64) (u : Fin 16) (d : Desc) :
    chkComputeOp append r u d s = opDone r d.tag 0x81 0 0 s := onRingUnit_none h r u d _

theorem chkStripOp_none {s : State} (h : unitFor s 0 = none) (r : Fin 64) (u : Fin 16) (d : Desc) :
    chkStripOp r u d s = opDone r d.tag 0x81 0 0 s := onRingUnit_none h r u d _

section

variable {s : State} {n u : Fin 16} (h : unitFor s 0 = some n) (hr : (vget s.chk.unit u).role = 0) (hf : (vget s.chk.unit u).failed = false)

include h hr hf

theorem chkComputeOp_computes (r : Fin 64) (d : Desc) :
    chkComputeOp false r u d s = opDone r d.tag 0 (opCycles d) (chkValue (chkParams d) (readBuffer s d.addr d.length)) (countUnit u s) :=
  onRingUnit_ready h hr hf r d _

theorem chkComputeOp_appends (r : Fin 64) (d : Desc) :
    let v := chkValue (chkParams d) (readBuffer s d.addr d.length)
    chkComputeOp true r u d s = opDone r d.tag 0 (opCycles d) v
      (writeAt (chkParams d).dest (readBuffer s d.addr d.length ++ leBytes (checkLen (chkParams d).alg) v) (countUnit u s)) :=
  onRingUnit_ready h hr hf r d _

/-- The check value agrees with the last bytes of the buffer, or the operation fails and is reported (R328, R330). -/
theorem chkStripOp_compares (r : Fin 64) (d : Desc) :
    let n := d.length - checkLen (chkParams d).alg
    let data := (readBuffer s d.addr d.length).take n
    let v := chkValue (chkParams d) data
    chkStripOp r u d s =
      if ofLe ((readBuffer s d.addr d.length).drop n) = v then opDone r d.tag 0 n v (writeAt (chkParams d).dest data (countUnit u s))
      else rep 0x2C07 (opDone r d.tag 0x80 0 v (countUnit u s)) :=
  onRingUnit_ready h hr hf r d _

end

/-- An operation that ends on a unit counts it there and changes nothing else but the rings and the units. -/
theorem opDone_countUnit {s : State} {r : Fin 64} {d : Desc} (h : { desc := d, stage := .running : RunOp } ∈ (s.ringAt r).ops)
    (u : Fin 16) (st ra rb : Nat) :
    let t := opDone r d.tag st ra rb (countUnit u s)
    Concluded t r d st ra rb ∧ t.chk = (countUnit u s).chk ∧ SameBut [.rng, .chk] s t :=
  ⟨opDone_after h rfl st ra rb, rfl, ((sameBut_countUnit u s).mono (by simp)).then_opDone (by simp) r _ _ _ _⟩

/-- An operation that ends on a unit after it has written its destination. -/
theorem opDone_writeAt_countUnit {s : State} {r : Fin 64} {d : Desc} (h : { desc := d, stage := .running : RunOp } ∈ (s.ringAt r).ops)
    (u : Fin 16) (st ra rb off : Nat) (b : List Byte) :
    let t := opDone r d.tag st ra rb (writeAt off b (countUnit u s))
    Concluded t r d st ra rb ∧ t.mem = memWrite s.mem off b ∧ t.chk = (countUnit u s).chk ∧ SameBut [.rng, .chk, .mem] s t :=
  ⟨opDone_after h rfl st ra rb, rfl, rfl,
    (((sameBut_countUnit u s).mono (by simp)).trans ((sameBut_writeAt off b _).mono (by simp))).then_opDone (by simp) r _ _ _ _⟩

/-! ## Self-tests (R327) -/

/-- A unit with the result of its self-test. -/
def ChkUnit.tested (ok : Bool) (U : ChkUnit) : ChkUnit := { U with stOk := ok, failed := U.failed || !ok }

/-- The units with one of them tested. -/
def testUnit (u : Fin 16) (ok : Bool) (s : State) : State := { s with chk := { s.chk with unit := vmod s.chk.unit u (ChkUnit.tested ok) } }

theorem testUnit_unit (u : Fin 16) (ok : Bool) (s : State) : vget (testUnit u ok s).chk.unit u = (vget s.chk.unit u).tested ok ∧
    ∀ v, v ≠ u → vget (testUnit u ok s).chk.unit v = vget s.chk.unit v :=
  ⟨vget_vmod_self _ _ _, fun _ hv => vget_vmod_other _ _ _ _ hv⟩

theorem sameBut_testUnit (u : Fin 16) (ok : Bool) (s : State) : SameBut [.chk] s (testUnit u ok s) := sameBut_chk s _

end Sys2Proof.Machine

end

section

open Sys2Proof Sys2Proof.Machine

/-- Settles O37: without a RING unit by `onRingUnit_none`, on one by what the unit's count, the destination and the end of the operation
leave, and a self-test by the tested unit. -/
theorem checkOperations : Obligations.CheckOperations := by
  unfold Obligations.CheckOperations
  intro s r tag u ho
  refine ⟨fun d opcode i hi hd hnone => ?noUnit, fun n hu hrole hfail => ⟨fun d hd => ?compute, fun d hd => ?append, fun d hd => ?strip⟩,
    ?passes, ?fails⟩
  case noUnit =>
    obtain ⟨hrun, -, -⟩ := startedOp_mem hd
    have hdone := opDone_alone hrun 0x81 0 0
    simp only [List.mem_cons, Prod.mk.injEq, List.not_mem_nil, or_false] at hi
    rcases hi with ⟨rfl, rfl⟩ | ⟨rfl, rfl⟩ | ⟨rfl, rfl⟩
    · exact ho.completes_runOp (f := chkComputeOp false r u) rfl hd (chkComputeOp_none hnone false r u d ▸ hdone)
    · exact ho.completes_runOp (f := chkComputeOp true r u) rfl hd (chkComputeOp_none hnone true r u d ▸ hdone)
    · exact ho.completes_runOp (f := chkStripOp r u) rfl hd (chkStripOp_none hnone r u d ▸ hdone)
  case compute =>
    obtain ⟨hrun, -, -⟩ := startedOp_mem hd
    refine ho.completes_runOp (f := chkComputeOp false r u) rfl hd ?_
    rw [chkComputeOp_computes hu hrole hfail r d]
    exact opDone_countUnit hrun u 0 _ _
  case append =>
    obtain ⟨hrun, -, -⟩ := startedOp_mem hd
    refine ho.completes_runOp (f := chkComputeOp true r u) rfl hd ?_
    rw [chkComputeOp_appends hu hrole hfail r d]
    exact opDone_writeAt_countUnit hrun u 0 _ _ _ _
  case strip =>
    obtain ⟨hrun, -, -⟩ := startedOp_mem hd
    refine ⟨fun heq => ?agrees, fun hne => ?differs⟩ <;> refine ho.completes_runOp (f := chkStripOp r u) rfl hd ?_ <;>
      rw [chkStripOp_compares hu hrole hfail r d]
    case agrees =>
      rw [if_pos heq]
      exact opDone_writeAt_countUnit hrun u 0 _ _ _ _
    case differs =>
      rw [if_neg hne]
      obtain ⟨hdone, hchk, hbut⟩ := opDone_countUnit hrun u 0x80 0
        (chkValue (chkParams d) ((readBuffer s d.addr d.length).take (d.length - checkLen (chkParams d).alg)))
      exact ⟨hdone.congr (by simp), rep_after (by decide) rfl, (rep_chk _ _).trans hchk,
        (hbut.mono (by simp)).then_rep (by simp [reportParts]) _⟩
  case passes =>
    obtain ⟨hunit, hothers⟩ := testUnit_unit u true s
    refine ho.completes (f := testUnit u true) rfl ⟨?_, hothers, sameBut_testUnit u true s⟩
    simpa [ChkUnit.tested] using hunit
  case fails =>
    obtain ⟨hunit, hothers⟩ := testUnit_unit u false s
    refine ho.completes (f := fun v => rep 0x2C06 (testUnit u false v)) rfl ⟨?_, ?_, rep_after (by decide) rfl,
      ((sameBut_testUnit u false s).mono (by simp)).then_rep (by simp [reportParts]) _⟩
    · simpa [ChkUnit.tested] using hunit
    · simpa using hothers

end

/-! # The analog chain (R383 to R399) -/

section

namespace Sys2Proof.Machine

/-! ## Channels -/

theorem sameBut_modAna (c : Fin 16) (f : AnaCh → AnaCh) (s : State) : SameBut [.ana] s (modAna c f s) := sameBut_ana s _

theorem modAna_self (c : Fin 16) (f : AnaCh → AnaCh) (s : State) : vget (modAna c f s).ana.ch c = f (vget s.ana.ch c) := vget_vmod_self _ _ _

theorem modAna_other {c n : Fin 16} (h : n ≠ c) (f : AnaCh → AnaCh) (s : State) : vget (modAna c f s).ana.ch n = vget s.ana.ch n :=
  vget_vmod_other _ _ _ _ h

theorem rep_ana (code : Nat) (s : State) : (rep code s).ana = s.ana := by simp

/-! ## Decimator resets (R391 to R395) -/

/-- The reset of every channel by one source, before its report (R391, R392). -/
def resetAll (src : Nat) (s : State) : State :=
  { s with ana := { s.ana with
    ch := Vector.ofFn (fun c : Fin 16 => resetChannel s 0 c (vget s.ana.ch c)), syncCnt := s.ana.syncCnt + 1,
    lastSrc := BitVec.ofNat 4 (2 ^ src), syncTs := s.ts, resetCyc := some s.tim.cycles } }

/-- A request in the fabric cycle of an earlier reset adds its source alone (R392). -/
theorem decimatorReset_joins {s : State} (h : s.ana.resetCyc = some s.tim.cycles) (src : Nat) :
    decimatorReset src s = { s with ana := { s.ana with lastSrc := s.ana.lastSrc ||| BitVec.ofNat 4 (2 ^ src) } } := if_pos h

theorem decimatorReset_resets {s : State} (h : s.ana.resetCyc ≠ some s.tim.cycles) (src : Nat) :
    decimatorReset src s = rep 0x3404 (resetAll src s) := if_neg h

/-- A channel's reset without further dead time: one group delay to either side, and 1 600 ns of the coarse path (R391, R395). -/
theorem resetChannel_plain (s : State) (c : Fin 16) (a : AnaCh) : resetChannel s 0 c a =
    { a with
      settle := ((s.tim.now : Int) - anaDelay (anaCfg s c), (s.tim.now : Int) + anaDelay (anaCfg s c)) :: a.settle,
      coarseFrom := s.tim.now + 1600 * nsUnits } := by
  simp [resetChannel]

theorem resetAll_channel (src : Nat) (s : State) (n : Fin 16) : vget (resetAll src s).ana.ch n =
    { vget s.ana.ch n with
      settle := ((s.tim.now : Int) - anaDelay (anaCfg s n), (s.tim.now : Int) + anaDelay (anaCfg s n)) :: (vget s.ana.ch n).settle,
      coarseFrom := s.tim.now + 1600 * nsUnits } :=
  (vget_ofFn _ n).trans (resetChannel_plain s n _)

/-- What a reset that is not joined leaves (R391, R392, R395). -/
theorem decimatorReset_spec {s : State} (h : s.ana.resetCyc ≠ some s.tim.cycles) (src : Nat) :
    let u := decimatorReset src s
    u.ana = (resetAll src s).ana ∧ Reported 0x3404 s u ∧ SameBut (.ana :: reportParts) s u := by
  dsimp only
  rw [decimatorReset_resets h]
  exact ⟨rep_ana _ _, rep_after (by decide) rfl, ((sameBut_ana s _).mono (by simp)).then_rep (by simp [reportParts]) _⟩

/-! ## The SYNC pin and the auxiliary multiplexer (R391, R394) -/

/-- The state with the time of an edge of the SYNC pin. -/
def notePin (phase : Fin 8) (s : State) : State := { s with ana := { s.ana with pinTs := capTs s phase } }

/-- Is an edge of the SYNC pin the one that resets? -/
def pinResets (s : State) (rise : Bool) : Prop := regField s (ANA + 4) 0 1 = 1 ∧ rise = !(regField s (ANA + 4) 1 1 == 1)

theorem pinResets_iff (s : State) (rise : Bool) :
    (regField s (ANA + 4) 0 1 == 1 && rise != (regField s (ANA + 4) 1 1 == 1)) = true ↔ pinResets s rise := by
  unfold pinResets
  cases rise <;> simp

theorem Operational.completes_pinEdge {s : State} {rise : Bool} {phase : Fin 8} {P : State → Prop} (ho : Operational s)
    (h : pinResets s rise) (hp : P (decimatorReset 0 (notePin phase s))) : Completes (.syncPinEdge rise phase) s P := by
  refine ho.completes (f := fun u => onlyIf (regField u (ANA + 4) 0 1 == 1 && rise != (regField u (ANA + 4) 1 1 == 1)) (decimatorReset 0)
    (notePin phase u)) rfl ?_
  rwa [onlyIf_true ((pinResets_iff s rise).mpr h)]

theorem Operational.completes_otherEdge {s : State} {rise : Bool} {phase : Fin 8} {P : State → Prop} (ho : Operational s)
    (h : ¬ pinResets s rise) (hp : P (notePin phase s)) : Completes (.syncPinEdge rise phase) s P := by
  refine ho.completes (f := fun u => onlyIf (regField u (ANA + 4) 0 1 == 1 && rise != (regField u (ANA + 4) 1 1 == 1)) (decimatorReset 0)
    (notePin phase u)) rfl ?_
  rwa [onlyIf_false (by rw [← Bool.not_eq_true, pinResets_iff]; exact h)]

theorem auxSwitch_same {s : State} {sel : BitVec 3} (h : s.ana.auxSel = sel) : auxSwitch sel s = s := if_pos h

/-- The state with another auxiliary input noted as selected. -/
def noteSwitch (sel : BitVec 3) (s : State) : State :=
  { s with ana := { s.ana with auxSel := sel, swCnt := s.ana.swCnt + 1, switches := (s.tim.now, sel) :: s.ana.switches } }

theorem auxSwitch_other {s : State} {sel : BitVec 3} (h : s.ana.auxSel ≠ sel) :
    auxSwitch sel s = modAna 15 (resetChannel s 20000 15) (noteSwitch sel s) := if_neg h

theorem sameBut_auxSwitch (sel : BitVec 3) (s : State) : SameBut [.ana] s (auxSwitch sel s) := by
  by_cases h : s.ana.auxSel = sel
  · rw [auxSwitch_same h]
    exact SameBut.refl _ s
  · rw [auxSwitch_other h]
    exact (sameBut_ana s _).trans (sameBut_modAna 15 _ _)

theorem auxSelOp_off {s : State} (h : (anaCfg s 15).auxEn = false) (r : Fin 64) (d : Desc) : auxSelOp r d s = opDone r d.tag 0x80 0 0 s :=
  if_pos (by rw [h]; rfl)

theorem auxSelOp_same {s : State} {d : Desc} (h : (anaCfg s 15).auxEn = true) (ht : testBit d.flags 2 = false)
    (hs : s.ana.auxSel = BitVec.ofNat 3 (field d.paramA 0 3)) (r : Fin 64) : auxSelOp r d s = opDone r d.tag 0 1 0 s := by
  unfold auxSelOp
  rw [if_neg (by rw [h]; decide), runTimed_now ht, auxSwitch_same hs, hs, BEq.rfl]
  rfl

theorem auxSelOp_switches {s : State} {d : Desc} (h : (anaCfg s 15).auxEn = true) (ht : testBit d.flags 2 = false)
    (hs : s.ana.auxSel ≠ BitVec.ofNat 3 (field d.paramA 0 3)) (r : Fin 64) :
    auxSelOp r d s = opDone r d.tag 0 0 s.ts.toNat (auxSwitch (BitVec.ofNat 3 (field d.paramA 0 3)) s) := by
  unfold auxSelOp
  rw [if_neg (by rw [h]; decide), runTimed_now ht, beq_false_of_ne hs]
  rfl

/-! ## Blocks (R386 to R389) -/

/-- Is a block whole and due (R388, R393)? -/
def BlockWhole (s : State) (c : Fin 16) (first : Nat) (raws : List Int) : Prop :=
  let k := anaCfg s c
  anaOn k = true ∧ first % anaBlock k = 0 ∧ raws.length = anaRate k * anaBlock k ∧
    s.tick + 1 = first + anaBlock k - 1 + anaLatency k ∧ noTickEvent s first (anaBlock k) = false

/-- The word and flags of a block's sample. -/
def blockSample (s : State) (c : Fin 16) (first : Nat) (raws : List Int) (i : Nat) : Nat × Bool × Bool × Bool × Bool :=
  sampleWord s c (sampleInstant (anaCfg s c) first i) (raws.getD i 0)

/-- The numbered samples of a block. -/
def blockWords (s : State) (c : Fin 16) (first : Nat) (raws : List Int) : List (Nat × Nat × Bool × Bool × Bool × Bool) :=
  (List.range (anaRate (anaCfg s c) * anaBlock (anaCfg s c))).map (fun i => (i, blockSample s c first raws i))

/-- Some sample carries neither SETTLING nor GAP. -/
theorem blockWords_usable (s : State) (c : Fin 16) (first : Nat) (raws : List Int) :
    (blockWords s c first raws).any (fun w => !w.2.2.1 && !w.2.2.2.2.2) = true ↔ ∃ i, i < anaRate (anaCfg s c) * anaBlock (anaCfg s c) ∧
      (blockSample s c first raws i).2.1 = false ∧ (blockSample s c first raws i).2.2.2.2 = false := by
  simp [blockWords]

theorem blockWords_bytes (s : State) (c : Fin 16) (first : Nat) (raws : List Int) :
    (blockWords s c first raws).flatMap (fun w => leBytes 4 w.2.1) =
      (List.range (anaRate (anaCfg s c) * anaBlock (anaCfg s c))).flatMap (fun i => leBytes 4 (blockSample s c first raws i).1) :=
  List.flatMap_map ..

theorem blockWords_clipped (s : State) (c : Fin 16) (first : Nat) (raws : List Int) :
    ((blockWords s c first raws).filter (fun w => w.2.2.2.1)).length =
      ((List.range (anaRate (anaCfg s c) * anaBlock (anaCfg s c))).filter (fun i => (blockSample s c first raws i).2.2.1)).length := by
  rw [blockWords, List.filter_map, List.length_map]
  rfl

theorem blockWrite_unfit {s : State} {c : Fin 16} {first : Nat} {raws : List Int} (h : ¬ BlockWhole s c first raws) :
    blockWrite c first raws s = s := by
  refine if_pos ?_
  by_contra hc
  refine h ?_
  simpa [BlockWhole, and_assoc] using hc

/-- A whole block is an arrival of its item, an update of its channel and reports of its clipped ticks. -/
theorem blockWrite_whole {s : State} {c : Fin 16} {first : Nat} {raws : List Int} (h : BlockWhole s c first raws) :
    ∃ eng aux f m, blockWrite c first raws s =
        (List.range m).foldl (fun s _ => rep 0x3401 s) (modAna c f (arrive (anaCfg s c).item
          ⟨(blockWords s c first raws).any (fun w => !w.2.2.1 && !w.2.2.2.2.2), eng, compactTs (first * tickUnits),
            leBytes 4 (compactTick first) ++ leBytes 1 c.val ++ leBytes 1 ((anaCfg s c).orCode + 4 * min 6 (anaCfg s c).blkLog2)
              ++ leBytes 1 aux ++ zeros 1 ++ (blockWords s c first raws).flatMap (fun w => leBytes 4 w.2.1)⟩ s)) ∧
      ∀ a, (f a).ovrCnt = a.ovrCnt + BitVec.ofNat 16 ((blockWords s c first raws).filter (fun w => w.2.2.2.1)).length := by
  refine ⟨_, _, _, _, if_neg ?_, fun a => rfl⟩
  obtain ⟨hon, hfirst, hlen, htick, hgap⟩ := h
  simp [hon, hfirst, hlen, htick, hgap]

theorem arrive_item {item : Nat} {s : State} {ic : InItemCfg} (h : inItem? s item = some ic) (a : Arrival) :
    (tgetD (arrive item a s).cyc.items item {}).back = some { a with payload := padTo ic.length a.payload } := by
  unfold arrive
  rw [h]
  simp [tgetD_tset_self]

theorem sameBut_arrive (item : Nat) (a : Arrival) (s : State) : SameBut [.cyc] s (arrive item a s) := by
  unfold arrive
  split
  · exact SameBut.refl _ s
  · exact sameBut_cyc s _

/-- The same report made several times leaves what one leaves. -/
theorem foldl_rep_keeps (code m : Nat) (s : State) : let u := (List.range m).foldl (fun s _ => rep code s) s
    u.cyc = s.cyc ∧ u.ana = s.ana ∧ SameBut reportParts s u := by
  refine ⟨?_, ?_, SameBut.foldl (fun t _ => sameBut_rep code t) _ s⟩ <;> simp

/-! ## Modulator faults (R383) -/

/-- A channel whose modulator fault begins. -/
def AnaCh.beginModFault (s : State) (a : AnaCh) : AnaCh :=
  { a with modFault := true, modTick := some s.tick, modBad := (s.tim.now - modWindow, none) :: a.modBad }

/-- A channel whose modulator fault ends. -/
def AnaCh.endModFault (s : State) (a : AnaCh) : AnaCh :=
  { a with modFault := false, modBad := a.modBad.map (fun w => (w.1, some (w.2.getD (s.tim.now - modWindow)))) }

/-- The count of the modulator faults, with the channel's. -/
def noteModFault (c : Fin 16) (s : State) : State :=
  let s1 := modAna c (AnaCh.beginModFault s) s
  { s1 with ana := { s1.ana with modFltCnt := s1.ana.modFltCnt + 1 } }

theorem modulatorFault_kept {s : State} {c : Fin 16} {b : Bool} (h : (vget s.ana.ch c).modFault = b) : modulatorFault c b s = s := if_pos h

theorem modulatorFault_begins {s : State} {c : Fin 16} (h : (vget s.ana.ch c).modFault = false) :
    modulatorFault c true s = if (vget s.ana.ch c).modTick = some s.tick then noteModFault c s else rep 0x3402 (noteModFault c s) :=
  (if_neg (by simp [h])).trans (if_pos rfl)

theorem modulatorFault_ends {s : State} {c : Fin 16} (h : (vget s.ana.ch c).modFault = true) :
    modulatorFault c false s = modAna c (AnaCh.endModFault s) s :=
  (if_neg (by simp [h])).trans (if_neg (by decide))

theorem noteModFault_spec (c : Fin 16) (s : State) : let u := noteModFault c s
    (vget u.ana.ch c).modFault = true ∧ u.ana.modFltCnt = s.ana.modFltCnt + 1 ∧ (∀ n, n ≠ c → vget u.ana.ch n = vget s.ana.ch n) ∧
      SameBut [.ana] s u :=
  ⟨congrArg AnaCh.modFault (modAna_self c _ s), rfl, fun _ hn => modAna_other hn _ s, (sameBut_modAna c _ s).trans (sameBut_ana _ _)⟩

/-! ## The coarse path (R395 to R397) -/

/-- The word of a channel's coarse limits. -/
def limitWord (c : Fin 16) : Nat := ANA + 0x110 + 0x20 * c.val

/-- Is a coarse value below the channel's lower limit? -/
def belowLimit (s : State) (c : Fin 16) (v : BitVec 12) : Bool :=
  decide (signed 12 v.toNat < signed 12 (regField s (limitWord c) 0 12))

/-- Is a coarse value above the channel's upper limit? -/
def aboveLimit (s : State) (c : Fin 16) (v : BitVec 12) : Bool :=
  decide (signed 12 (regField s (limitWord c) 16 12) < signed 12 v.toNat)

/-- The limits that a coarse value passes outwards. -/
def limitRises (s : State) (c : Fin 16) (v : BitVec 12) : Nat :=
  bit (belowLimit s c v && !(vget s.ana.ch c).coarseLow) + bit (aboveLimit s c v && !(vget s.ana.ch c).coarseHigh)

/-- A coarse value kept, with its limit flags (R396). -/
def AnaCh.compareCoarse (s : State) (c : Fin 16) (v : BitVec 12) (a : AnaCh) : AnaCh :=
  let low := belowLimit s c v
  let high := aboveLimit s c v
  let b := vget s.ana.ch c
  let wasOut := b.coarseLow || b.coarseHigh
  { a with
    coarse := v, coarseLow := low, coarseHigh := high,
    coarseOut := if (low || high) && !wasOut then (s.tim.now, none) :: b.coarseOut
      else if !(low || high) && wasOut then b.coarseOut.map (fun w => (w.1, some (w.2.getD s.tim.now)))
      else b.coarseOut,
    coarseTick := if limitRises s c v = 0 then a.coarseTick else some s.tick }

/-- A coarse value compared with its limits, and its rises counted. -/
def noteCoarse (c : Fin 16) (v : BitVec 12) (s : State) : State :=
  let s1 := modAna c (AnaCh.compareCoarse s c v) s
  { s1 with ana := { s1.ana with coarseCnt := s1.ana.coarseCnt + BitVec.ofNat 16 (limitRises s c v) } }

theorem coarseValue_unlimited {s : State} {c : Fin 16} (h : regField s (limitWord c) 31 1 = 0) (v : BitVec 12) :
    coarseValue c v s = modAna c (fun a => { a with coarse := v }) s := if_pos h

theorem coarseValue_limited {s : State} {c : Fin 16} (h : regField s (limitWord c) 31 1 ≠ 0) (v : BitVec 12) :
    coarseValue c v s = if limitRises s c v = 0 ∨ (vget s.ana.ch c).coarseTick = some s.tick then noteCoarse c v s
      else rep 0x3403 (noteCoarse c v s) := if_neg h

theorem noteCoarse_self (c : Fin 16) (v : BitVec 12) (s : State) :
    vget (noteCoarse c v s).ana.ch c = (vget s.ana.ch c).compareCoarse s c v := modAna_self c _ s

theorem noteCoarse_other {c n : Fin 16} (h : n ≠ c) (v : BitVec 12) (s : State) :
    vget (noteCoarse c v s).ana.ch n = vget s.ana.ch n := modAna_other h _ s

theorem sameBut_noteCoarse (c : Fin 16) (v : BitVec 12) (s : State) : SameBut [.ana] s (noteCoarse c v s) :=
  (sameBut_modAna c _ s).trans (sameBut_ana _ _)

/-- A coarse value is kept by its channel alone, and leaves when the channel's coarse value is valid (R395). -/
theorem coarseValue_spec (c : Fin 16) (v : BitVec 12) (s : State) : let u := coarseValue c v s
    (vget u.ana.ch c).coarse = v ∧ (∀ n, n ≠ c → (vget u.ana.ch n).coarse = (vget s.ana.ch n).coarse) ∧
      (∀ n, (vget u.ana.ch n).coarseFrom = (vget s.ana.ch n).coarseFrom) ∧ SameBut (.ana :: reportParts) s u := by
  have hkeeps : ∀ (f : AnaCh → AnaCh), (∀ a, (f a).coarseFrom = a.coarseFrom) → ∀ n,
      (vget (modAna c f s).ana.ch n).coarseFrom = (vget s.ana.ch n).coarseFrom := by
    intro f hf n
    by_cases hn : n = c
    · subst hn
      rw [modAna_self, hf]
    · rw [modAna_other hn]
  by_cases h : regField s (limitWord c) 31 1 = 0
  · rw [coarseValue_unlimited h]
    exact ⟨congrArg AnaCh.coarse (modAna_self c _ s), fun n hn => congrArg AnaCh.coarse (modAna_other hn _ s), hkeeps _ (fun _ => rfl),
      (sameBut_modAna c _ s).mono (by simp)⟩
  · have hnote : (vget (noteCoarse c v s).ana.ch c).coarse = v ∧
        (∀ n, n ≠ c → (vget (noteCoarse c v s).ana.ch n).coarse = (vget s.ana.ch n).coarse) ∧
        (∀ n, (vget (noteCoarse c v s).ana.ch n).coarseFrom = (vget s.ana.ch n).coarseFrom) :=
      ⟨congrArg AnaCh.coarse (noteCoarse_self c v s), fun n hn => congrArg AnaCh.coarse (noteCoarse_other hn v s), hkeeps _ (fun _ => rfl)⟩
    have hbut : SameBut (.ana :: reportParts) s (noteCoarse c v s) := (sameBut_noteCoarse c v s).mono (by simp)
    obtain ⟨hself, hother, hfrom⟩ := hnote
    dsimp only
    rw [coarseValue_limited h]
    split
    · exact ⟨hself, hother, hfrom, hbut⟩
    · simp only [rep_ana]
      exact ⟨hself, hother, hfrom, hbut.then_rep (by simp [reportParts]) _⟩

/-- The coarse values of several channels. -/
def takeCoarse (values : Vector (BitVec 12) 16) (cs : List (Fin 16)) (s : State) : State :=
  cs.foldl (fun s c => coarseValue c (vget values c) s) s

theorem takeCoarse_sameBut (values : Vector (BitVec 12) 16) (cs : List (Fin 16)) (s : State) :
    SameBut (.ana :: reportParts) s (takeCoarse values cs s) :=
  SameBut.foldl (fun t c => by obtain ⟨-, -, -, hbut⟩ := coarseValue_spec c (vget values c) t; exact hbut) cs s

theorem takeCoarse_from (values : Vector (BitVec 12) 16) (cs : List (Fin 16)) (s : State) (n : Fin 16) :
    (vget (takeCoarse values cs s).ana.ch n).coarseFrom = (vget s.ana.ch n).coarseFrom :=
  foldl_keeps (fun u => (vget u.ana.ch n).coarseFrom) _
    (fun t c => by obtain ⟨-, -, hfrom, -⟩ := coarseValue_spec c (vget values c) t; exact hfrom n) cs s

/-- Every channel named, and every one that showed its value before, shows its value. -/
theorem takeCoarse_coarse (values : Vector (BitVec 12) 16) (cs : List (Fin 16)) (s : State) (n : Fin 16)
    (h : n ∈ cs ∨ (vget s.ana.ch n).coarse = vget values n) : (vget (takeCoarse values cs s).ana.ch n).coarse = vget values n := by
  induction cs generalizing s with
  | nil => simpa [takeCoarse] using h
  | cons c cs ih =>
    obtain ⟨hself, hother, -, -⟩ := coarseValue_spec c (vget values c) s
    refine ih _ ?_
    by_cases hn : n = c
    · subst hn
      exact Or.inr hself
    · rw [hother n hn]
      simpa [hn] using h

theorem mem_allAna (n : Fin 16) : n ∈ allAna := by
  revert n
  decide

theorem coarseValid_takeCoarse (values : Vector (BitVec 12) 16) (cs : List (Fin 16)) (s : State) (n : Fin 16) :
    coarseValid (takeCoarse values cs s) n = coarseValid s n := by
  have hbut := takeCoarse_sameBut values cs s
  have htim : (takeCoarse values cs s).tim = s.tim := hbut .tim (by simp [reportParts])
  have hcfg : (takeCoarse values cs s).cfg = s.cfg := hbut .cfg (by simp [reportParts])
  unfold coarseValid anaCfg
  rw [takeCoarse_from, htim, hcfg]

/-- The bytes ANA_COARSE_READ writes (R397). -/
def coarseBytes (s : State) (values : Vector (BitVec 12) 16) (d : Desc) : List Byte :=
  allAna.flatMap (fun n =>
    if testBit d.paramA n.val then leBytes 2 ((vget values n).toNat + 4096 * bit (coarseValid s n) + 8192) else zeros 2)

theorem coarseReadOp_reads (r : Fin 64) (values : Vector (BitVec 12) 16) (d : Desc) (s : State) :
    coarseReadOp r values d s = opDone r d.tag 0 0 s.ts.toNat (writeBuffer d.addr (coarseBytes s values d) (takeCoarse values allAna s)) := by
  have hbytes : coarseBytes (takeCoarse values allAna s) values d = coarseBytes s values d := by
    unfold coarseBytes
    simp only [coarseValid_takeCoarse]
  rw [← hbytes]
  rfl

end Sys2Proof.Machine

end

section

open Sys2Proof Sys2Proof.Machine

/-- Settles O39: edges and ANA_SYNC by `decimatorReset_spec`, the multiplexer by `auxSwitch_other`, blocks by `blockWrite_whole`, and the
coarse path by `coarseValue_limited` and `takeCoarse_coarse`. -/
theorem analogChain : Obligations.AnalogChain := by
  unfold Obligations.AnalogChain
  intro s c ho A a k reset
  have hreset : ∀ src v, v.tim = s.tim → v.cfg = s.cfg → v.flt = s.flt → v.ana.ch = A.ch → v.ana.syncCnt = A.syncCnt →
      v.ana.resetCyc = A.resetCyc → A.resetCyc ≠ some s.tim.cycles → reset src (decimatorReset src v) := ?resets
  refine ⟨fun rise phase => ⟨fun h => ?otherEdge, fun h hc => ?joined, fun h hc => ?edge⟩, fun r tag d hd ht hc => ?sync,
    fun r tag d hd => ⟨fun h => ?auxOff, fun h ht hs => ?auxSame, fun h ht hs => ?auxSwitch⟩,
    fun first raws => ⟨fun h => ?unfit, fun ic h hi => ?block⟩, fun b h => ?modKept, fun h => ?modBegins, fun h => ?modEnds,
    fun v => ⟨fun h => ?unlimited, fun h => ?limited⟩, fun r tag values d hd => ?read⟩
  case resets =>
    intro src v htim hcfg hflt hch hcnt hcyc hc
    obtain ⟨hana, hrep, -⟩ := decimatorReset_spec (s := v) (by rwa [htim, hcyc]) src
    refine ⟨?_, ?_, ?_, hrep.of_flt hflt, fun n => ?_⟩ <;> rw [hana]
    · exact congrArg (· + 1) hcnt
    · rfl
    · exact congrArg (fun t : Tim => compactTs t.now) htim
    · rw [resetAll_channel, hch, htim]
      unfold anaCfg
      rw [hcfg]
  case otherEdge => exact ho.completes_otherEdge h ⟨rfl, sameBut_ana s _⟩
  case joined =>
    refine ho.completes_pinEdge h ?_
    rw [decimatorReset_joins (s := notePin phase s) hc]
    exact ⟨rfl, sameBut_ana s _⟩
  case edge =>
    refine ho.completes_pinEdge h ?_
    obtain ⟨hana, -, hbut⟩ := decimatorReset_spec (s := notePin phase s) hc 0
    exact ⟨by rw [hana]; rfl, hreset 0 (notePin phase s) rfl rfl rfl rfl rfl rfl hc, ((sameBut_ana s _).mono (by simp)).trans hbut⟩
  case sync =>
    obtain ⟨hrun, -, -⟩ := startedOp_mem hd
    refine ho.completes_runOp (f := fun d s => runTimed r d 0 0 (fun s => opDone r d.tag 0 0 s.ts.toNat (decimatorReset 1 s)) s) rfl hd ?_
    rw [runTimed_now ht]
    obtain ⟨-, -, hbut⟩ := decimatorReset_spec hc 1
    exact ⟨opDone_after hrun (hbut .rng (by simp [reportParts])) 0 0 _, hreset 1 s rfl rfl rfl rfl rfl rfl hc,
      (hbut.mono (by simp [reportParts])).then_opDone (by simp) _ _ _ _ _⟩
  case auxOff =>
    obtain ⟨hrun, -, -⟩ := startedOp_mem hd
    exact ho.completes_runOp (f := auxSelOp r) rfl hd (auxSelOp_off h r d ▸ opDone_alone hrun 0x80 0 0)
  case auxSame =>
    obtain ⟨hrun, -, -⟩ := startedOp_mem hd
    exact ho.completes_runOp (f := auxSelOp r) rfl hd (auxSelOp_same h ht hs r ▸ opDone_alone hrun 0 1 0)
  case auxSwitch =>
    obtain ⟨hrun, -, -⟩ := startedOp_mem hd
    refine ho.completes_runOp (f := auxSelOp r) rfl hd ?_
    rw [auxSelOp_switches h ht hs]
    have hbut := sameBut_auxSwitch (BitVec.ofNat 3 (field d.paramA 0 3)) s
    refine ⟨opDone_after hrun (hbut .rng (by simp)) 0 0 _, ?_, ?_, ?_, fun n hn => ?_, (hbut.mono (by simp)).then_opDone (by simp) _ _ _ _ _⟩
      <;> rw [auxSwitch_other hs]
    · rfl
    · rfl
    · exact congrArg AnaCh.coarseFrom (modAna_self 15 _ _)
    · exact modAna_other hn _ _
  case unfit => exact ho.completes_unchanged (f := blockWrite c first raws) rfl (blockWrite_unfit h)
  case block =>
    refine ho.completes (f := blockWrite c first raws) rfl ?_
    obtain ⟨eng, aux, f, m, hw, hf⟩ := blockWrite_whole h
    rw [hw]
    obtain ⟨hcyc, hana, hbut⟩ := foldl_rep_keeps 0x3401 m _
    refine ⟨⟨_, (congrArg (fun x : Cyc => (tgetD x.items k.item {}).back) hcyc).trans (arrive_item hi _), rfl, ?valid, aux, ?payload⟩,
      ?count, ?frame⟩
    case valid => exact blockWords_usable s c first raws
    case payload => exact congrArg (fun b => padTo ic.length (_ ++ b)) (blockWords_bytes s c first raws)
    case count =>
      rw [hana, modAna_self, hf, blockWords_clipped, show (arrive k.item _ s).ana = s.ana from sameBut_arrive _ _ s .ana (by simp)]
      rfl
    case frame => exact (((sameBut_arrive _ _ s).mono (by simp)).trans ((sameBut_modAna c f _).mono (by simp))).trans (hbut.mono (by simp [reportParts]))
  case modKept => exact ho.completes_unchanged (f := modulatorFault c b) rfl (modulatorFault_kept h)
  case modBegins =>
    refine ho.completes (f := modulatorFault c true) rfl ?_
    rw [modulatorFault_begins h]
    obtain ⟨hfault, hcnt, hother, hbut⟩ := noteModFault_spec c s
    split
    next ht => exact ⟨hfault, hcnt, hother, fun _ => hbut, fun hne => absurd ht hne⟩
    next ht =>
      simp only [rep_ana]
      exact ⟨hfault, hcnt, hother, fun he => absurd he ht, fun _ =>
        ⟨rep_after (by decide) rfl, (hbut.mono (by simp)).then_rep (by simp [reportParts]) _⟩⟩
  case modEnds =>
    refine ho.completes (f := modulatorFault c false) rfl ?_
    rw [modulatorFault_ends h]
    exact ⟨congrArg AnaCh.modFault (modAna_self c _ s), rfl, fun n hn => modAna_other hn _ s, sameBut_modAna c _ s⟩
  case unlimited =>
    refine ho.completes (f := coarseValue c v) rfl ?_
    rw [coarseValue_unlimited h]
    exact ⟨modAna_self c _ s, fun n hn => modAna_other hn _ s, sameBut_modAna c _ s⟩
  case limited =>
    refine ho.completes (f := coarseValue c v) rfl ?_
    rw [coarseValue_limited (c := c) (by rw [show regField s (limitWord c) 31 1 = 1 from h]; decide)]
    have hself := noteCoarse_self c v s
    have hbut := sameBut_noteCoarse c v s
    split
    next hq =>
      exact ⟨congrArg AnaCh.coarse hself, congrArg AnaCh.coarseLow hself, congrArg AnaCh.coarseHigh hself, rfl,
        fun n hn => noteCoarse_other hn v s, fun _ => hbut, fun h0 ht => absurd hq (not_or.mpr ⟨h0, ht⟩)⟩
    next hq =>
      simp only [rep_ana]
      exact ⟨congrArg AnaCh.coarse hself, congrArg AnaCh.coarseLow hself, congrArg AnaCh.coarseHigh hself, rfl,
        fun n hn => noteCoarse_other hn v s, fun h0 => absurd h0 hq, fun _ _ =>
        ⟨rep_after (by decide) rfl, (hbut.mono (by simp)).then_rep (by simp [reportParts]) _⟩⟩
  case read =>
    obtain ⟨hrun, -, -⟩ := startedOp_mem hd
    refine ho.completes_runOp (f := coarseReadOp r values) rfl hd ?_
    rw [coarseReadOp_reads]
    have hbut := takeCoarse_sameBut values allAna s
    refine ⟨opDone_after hrun (hbut .rng (by simp [reportParts])) 0 0 _, fun n => takeCoarse_coarse values allAna s n (Or.inl (mem_allAna n)),
      congrArg (fun m => memWrite m (offsetOf d.addr) (coarseBytes s values d)) (hbut .mem (by simp [reportParts])), ?_⟩
    exact ((hbut.mono (by simp [reportParts])).trans ((sameBut_writeBuffer _ _ _).mono (by simp))).then_opDone (by simp) _ _ _ _ _

end

/-! # Commands of the field channels and voted outputs (R402 to R434) -/

section

namespace Sys2Proof.Machine

/-! ## Folds that touch one place once -/

theorem foldl_keeps_mem {α β : Type} (p : State → β) {g : State → α → State} {l : List α} (h : ∀ a ∈ l, ∀ t, p (g t a) = p t) (s : State) :
    p (l.foldl g s) = p s := by
  induction l generalizing s with
  | nil => rfl
  | cons a l ih =>
    rw [List.foldl_cons, ih (fun b hb => h b (List.mem_cons_of_mem _ hb)), h a List.mem_cons_self]

/-- Where one element of a list without repetitions sets what `p` shows, and the others leave it, the fold sets it. -/
theorem foldl_once {α β : Type} (p : State → β) {g : State → α → State} {l : List α} {i : α} {y : β} (hi : i ∈ l) (hnd : l.Nodup)
    (hother : ∀ a ∈ l, a ≠ i → ∀ t, p (g t a) = p t) (s : State) (hself : ∀ t, p t = p s → p (g t i) = y) : p (l.foldl g s) = y := by
  classical
  induction l generalizing s with
  | nil => exact absurd hi List.not_mem_nil
  | cons a l ih =>
    obtain ⟨ha, hnd'⟩ := List.nodup_cons.mp hnd
    rw [List.foldl_cons]
    by_cases hai : a = i
    · subst hai
      rw [foldl_keeps_mem p (fun b hb => hother b (List.mem_cons_of_mem _ hb) (fun e => ha (e ▸ hb))), hself s rfl]
    · have hs : p (g s a) = p s := hother a List.mem_cons_self hai s
      refine ih ((List.mem_cons.mp hi).resolve_left (fun e => hai e.symm)) hnd' (fun b hb => hother b (List.mem_cons_of_mem _ hb)) _ ?_
      rwa [hs]

/-! ## Bits -/

theorem getLsbD_putBit {w : Nat} (v : BitVec w) {i j : Nat} (hj : j < w) (b : Bool) :
    (putBit v i b).getLsbD j = if j = i then b else v.getLsbD j := by
  have hone : (BitVec.ofNat w (2 ^ i)).getLsbD j = decide (j = i) := by
    rw [BitVec.getLsbD_ofNat, Nat.testBit_two_pow]
    by_cases h : i = j <;> simp [h, hj, eq_comm]
  unfold putBit
  cases b
  · rw [if_neg Bool.false_ne_true, BitVec.getLsbD_and, BitVec.getLsbD_not, hone]
    by_cases h : j = i <;> simp [h, hj]
  · rw [if_pos rfl, BitVec.getLsbD_or, hone]
    by_cases h : j = i <;> simp [h]

theorem putBit_self {w : Nat} (v : BitVec w) (n : Fin w) (b : Bool) : (putBit v n.val b).getLsbD n.val = b :=
  (getLsbD_putBit v n.isLt b).trans (if_pos rfl)

theorem putBit_other {w : Nat} (v : BitVec w) {n m : Fin w} (h : m ≠ n) (b : Bool) : (putBit v n.val b).getLsbD m.val = v.getLsbD m.val :=
  (getLsbD_putBit v m.isLt b).trans (if_neg (fun e => h (Fin.ext e)))

/-- The sum of the powers of two of a list of numbers is 0 only where the list is empty. -/
theorem foldl_two_pow_eq_zero {l : List Nat} {m : Nat} (h : l.foldl (fun m k => m + 2 ^ k) m = 0) : l = [] := by
  have hle : ∀ (l : List Nat) (m : Nat), m ≤ l.foldl (fun m k => m + 2 ^ k) m := by
    intro l
    induction l with
    | nil => exact fun m => le_rfl
    | cons k l ih => exact fun m => le_trans (Nat.le_add_right m _) (ih _)
  cases l with
  | nil => rfl
  | cons k l =>
    have hk : 0 < 2 ^ k := Nat.two_pow_pos k
    have := hle l (m + 2 ^ k)
    rw [List.foldl_cons] at h
    omega

/-! ## Channels of a group -/

theorem val_groupCh {g k : Nat} (hg : g < 6) (hk : k < 8) : (groupCh g k).val = 8 * g + k := by
  simp only [groupCh, Fin.ofNat]
  omega

theorem groupCh_eq_iff {g k : Nat} (hg : g < 6) (hk : k < 8) (n : FldId) : groupCh g k = n ↔ n.val / 8 = g ∧ n.val % 8 = k := by
  rw [Fin.ext_iff, val_groupCh hg hk]
  omega

theorem modFld_self (n : FldId) (f : FldCh → FldCh) (s : State) : vget (modFld n f s).fld.ch n = f (vget s.fld.ch n) := vget_vmod_self _ _ _

theorem modFld_other {n m : FldId} (h : m ≠ n) (f : FldCh → FldCh) (s : State) : vget (modFld n f s).fld.ch m = vget s.fld.ch m :=
  vget_vmod_other _ _ _ _ h

theorem sameBut_modFld (n : FldId) (f : FldCh → FldCh) (s : State) : SameBut [.fld] s (modFld n f s) := sameBut_fld s _

/-! ## FLD_OUT_SET (R408, R411, R432) -/

/-- What FLD_OUT_SET decides by and changes of one channel. -/
def channelView (n : FldId) (s : State) : Cfg × Bool × FldCh := (s.cfg, s.fld.cmd.getLsbD n.val, vget s.fld.ch n)

/-- A channel after a command: a command that goes on releases a latched switch (R411). -/
def FldCh.commanded (c : FldCh) (was now : Bool) : FldCh := if now = true ∧ was = false then { c with latched := false } else c

theorem commanded_same (c : FldCh) (b : Bool) : c.commanded b b = c := by
  cases b <;> rfl

theorem setCmd_other {n m : FldId} (h : m ≠ n) (v : Bool) (s : State) : channelView n (setCmd m v s) = channelView n s := by
  have hcmd : (putBit s.fld.cmd m.val v).getLsbD n.val = s.fld.cmd.getLsbD n.val := putBit_other _ h.symm v
  unfold setCmd channelView
  split
  · rfl
  · split
    · exact congrArg₂ (fun b c => (s.cfg, b, c)) hcmd (modFld_other h.symm _ s)
    · exact congrArg (fun b => (s.cfg, b, vget s.fld.ch n)) hcmd

theorem setCmd_self {n : FldId} {s : State} (h : isOutput s n = true) (v : Bool) :
    channelView n (setCmd n v s) = (s.cfg, v, (vget s.fld.ch n).commanded (s.fld.cmd.getLsbD n.val) v) := by
  have hcmd : (putBit s.fld.cmd n.val v).getLsbD n.val = v := putBit_self _ n v
  unfold setCmd channelView FldCh.commanded
  rw [if_neg (by simp [h])]
  dsimp only
  split
  next hon =>
    obtain ⟨hv, hwas⟩ : v = true ∧ s.fld.cmd.getLsbD n.val = false := by simpa only [Bool.and_eq_true, Bool.not_eq_true'] using hon
    rw [if_pos ⟨hv, hwas⟩]
    exact congrArg₂ (fun b c => (s.cfg, b, c)) hcmd (modFld_self n _ s)
  next hoff =>
    rw [if_neg (fun hon => hoff (by simp only [hon.1, hon.2]; decide))]
    exact congrArg (fun b => (s.cfg, b, vget s.fld.ch n)) hcmd

theorem sameBut_setCmd (n : FldId) (v : Bool) (s : State) : SameBut [.fld] s (setCmd n v s) := by
  unfold setCmd
  split
  · exact SameBut.refl _ s
  · dsimp only
    split
    · exact (sameBut_modFld n _ s).trans (sameBut_fld _ _)
    · exact sameBut_fld s _

theorem sameBut_setGroup (g mask v : Nat) (s : State) : SameBut [.fld] s (setGroup g mask v s) := by
  refine SameBut.foldl (fun t k => ?_) _ s
  split
  · exact sameBut_setCmd _ _ t
  · exact SameBut.refl _ t

/-- Of a group whose masked channels are all outputs, each masked channel takes its command, and no other channel changes (R408). -/
theorem setGroup_channel {g mask : Nat} {s : State} (hg : g < 6)
    (ho : ∀ k, k < 8 → testBit mask k = true → isOutput s (groupCh g k) = true) (v : Nat) (n : FldId) :
    channelView n (setGroup g mask v s) =
      if n.val / 8 = g ∧ testBit mask (n.val % 8) = true then
        (s.cfg, testBit v (n.val % 8), (vget s.fld.ch n).commanded (s.fld.cmd.getLsbD n.val) (testBit v (n.val % 8)))
      else channelView n s := by
  have hother : ∀ k, k < 8 → groupCh g k ≠ n → ∀ t,
      channelView n (if testBit mask k then setCmd (groupCh g k) (testBit v k) t else t) = channelView n t := by
    intro k _ hne t
    split
    · exact setCmd_other hne _ t
    · rfl
  have hk : n.val % 8 < 8 := Nat.mod_lt _ (by decide)
  unfold setGroup
  split
  next h =>
    obtain ⟨hgrp, hmask⟩ := h
    have hself : groupCh g (n.val % 8) = n := (groupCh_eq_iff hg hk n).mpr ⟨hgrp, rfl⟩
    refine foldl_once (channelView n) (List.mem_range.mpr hk) List.nodup_range
      (fun k hm hne t => hother k (List.mem_range.mp hm) (fun e => hne ?_) t) s (fun t ht => ?_)
    · exact ((groupCh_eq_iff hg (List.mem_range.mp hm) n).mp e).2.symm
    · obtain ⟨hcfg, hcmd, hch⟩ : t.cfg = s.cfg ∧ t.fld.cmd.getLsbD n.val = s.fld.cmd.getLsbD n.val ∧ vget t.fld.ch n = vget s.fld.ch n := by
        simpa [channelView] using ht
      have hout : isOutput t n = true := by
        have := ho _ hk hmask
        rw [hself] at this
        unfold isOutput fldCfg at *
        rwa [hcfg]
      rw [if_pos hmask, hself, setCmd_self hout, hcfg, hcmd, hch]
  next h =>
    refine foldl_keeps_mem (channelView n) (fun k hm t => ?_) s
    by_cases hgk : groupCh g k = n
    · obtain ⟨hgrp, hmod⟩ := (groupCh_eq_iff hg (List.mem_range.mp hm) n).mp hgk
      subst hmod
      rw [if_neg (fun hmask => h ⟨hgrp, hmask⟩)]
    · exact hother k (List.mem_range.mp hm) hgk t

theorem isOutput_of_notOutputs {s : State} {g mask : Nat} (h : notOutputs s g mask = 0) {k : Nat} (hk : k < 8) (hm : testBit mask k = true) :
    isOutput s (groupCh g k) = true := by
  have hnil := foldl_two_pow_eq_zero h
  rw [List.filter_eq_nil_iff] at hnil
  simpa [hm] using hnil k (List.mem_range.mpr hk)

theorem fldOutSet_refused {s : State} {d : Desc} (h : notOutputs s (field d.paramA 0 3) (field d.paramA 8 8) ≠ 0) (r : Fin 64) :
    fldOutSet r d s = opDone r d.tag 0x80 (notOutputs s (field d.paramA 0 3) (field d.paramA 8 8)) 0 s := if_pos h

theorem fldOutSet_now {s : State} {d : Desc} (h : notOutputs s (field d.paramA 0 3) (field d.paramA 8 8) = 0)
    (ht : testBit d.flags 2 = false) (r : Fin 64) :
    fldOutSet r d s = opDone r d.tag 0 0 0 (setGroup (field d.paramA 0 3) (field d.paramA 8 8) (field d.paramA 16 8) s) :=
  (if_neg (not_not.mpr h)).trans (runTimed_now ht _ _ _ _ _)

/-! ## VO_SET and CFM_SET (R418, R427) -/

theorem setVo_only (mask v : Nat) (s : State) : SameBut [.fld] s (setVo mask v s) ∧
    (setVo mask v s).fld = { s.fld with voCmd := (setVo mask v s).fld.voCmd } := by
  constructor
  · refine SameBut.foldl (fun t k => ?_) _ s
    split
    · exact sameBut_fld t _
    · exact SameBut.refl _ t
  · have h : { (setVo mask v s).fld with voCmd := s.fld.voCmd } = { s.fld with voCmd := s.fld.voCmd } :=
      foldl_keeps_mem (fun u => { u.fld with voCmd := s.fld.voCmd }) (fun k _ t => by split <;> rfl) s
    exact congrArg (fun F : Fld => { F with voCmd := (setVo mask v s).fld.voCmd }) h

theorem setVo_output (mask v : Nat) (s : State) (o : VoId) : (setVo mask v s).fld.voCmd.getLsbD o.val =
    if testBit mask o.val then testBit v o.val else s.fld.voCmd.getLsbD o.val := by
  refine foldl_once (fun u => u.fld.voCmd.getLsbD o.val) (List.mem_range.mpr o.isLt) List.nodup_range (fun k _ hne t => ?_) s (fun t ht => ?_)
  · split
    · exact (getLsbD_putBit _ o.isLt _).trans (if_neg hne.symm)
    · rfl
  · split
    · exact putBit_self _ o _
    · exact ht

theorem setCfm_only (mask v : Nat) (s : State) : SameBut [.fld] s (setCfm mask v s) ∧
    (setCfm mask v s).fld = { s.fld with cfm := (setCfm mask v s).fld.cfm } := by
  constructor
  · refine SameBut.foldl (fun t k => ?_) _ s
    split
    · exact sameBut_fld t _
    · exact SameBut.refl _ t
  · have h : { (setCfm mask v s).fld with cfm := s.fld.cfm } = { s.fld with cfm := s.fld.cfm } :=
      foldl_keeps_mem (fun u => { u.fld with cfm := s.fld.cfm }) (fun k _ t => by split <;> rfl) s
    exact congrArg (fun F : Fld => { F with cfm := (setCfm mask v s).fld.cfm }) h

theorem setCfm_monitor (mask v : Nat) (s : State) (f : Fin 32) : vget (setCfm mask v s).fld.cfm f =
    if testBit mask f.val then { vget s.fld.cfm f with command := testBit v f.val } else vget s.fld.cfm f := by
  refine foldl_once (fun u => vget u.fld.cfm f) (List.mem_range.mpr f.isLt) List.nodup_range (fun k hk hne t => ?_) s (fun t ht => ?_)
  · have hf : f ≠ Fin.ofNat 32 k := by
      rintro rfl
      exact hne (Nat.mod_eq_of_lt (List.mem_range.mp hk)).symm
    split
    · exact vget_vmod_other _ _ _ _ hf
    · rfl
  · have hf : Fin.ofNat 32 f.val = f := Fin.ext (Nat.mod_eq_of_lt f.isLt)
    rw [hf]
    split
    · simp [ht]
    · exact ht

/-! ## Base currents (R414) -/

theorem sameBut_repNum (code n : Nat) (s : State) : SameBut reportParts s (repNum code n s) := sameBut_report _ _ _ _

theorem repNum_fld (code n : Nat) (s : State) : (repNum code n s).fld = s.fld := by simp

theorem repNum_after {code : Nat} {s v : State} (hc : code ≠ 0x402) (hv : v.flt = s.flt) (n : Nat) : Reported code s (repNum code n v) :=
  (report_reported code _ _ v hc).of_flt hv

theorem SameBut.then_repNum {ps : List Part} {s v : State} (h : SameBut ps s v) (hp : ∀ p ∈ reportParts, p ∈ ps) (code n : Nat) :
    SameBut ps s (repNum code n v) :=
  h.trans ((sameBut_repNum code n v).mono hp)

/-- A flag that takes a value is reported at its rising edge alone, and no other channel changes. -/
theorem flagEdge_spec {code : Nat} (hc : code ≠ 0x402) (n : FldId) (was now : Bool) (f : FldCh → FldCh) (s : State) :
    let u := flagEdge code n was now f s
    vget u.fld.ch n = f (vget s.fld.ch n) ∧ (∀ m, m ≠ n → vget u.fld.ch m = vget s.fld.ch m) ∧
      (now = true → was = false → Reported code s u ∧ SameBut (.fld :: reportParts) s u) ∧
      (now = false ∨ was = true → SameBut [.fld] s u) := by
  dsimp only
  unfold flagEdge
  dsimp only
  split
  next h =>
    obtain ⟨hnow, hwas⟩ : now = true ∧ was = false := by simpa using h
    rw [repNum_fld]
    exact ⟨modFld_self n f s, fun m hm => modFld_other hm f s, fun _ _ => ⟨repNum_after (v := modFld n f s) hc rfl _,
      ((sameBut_modFld n f s).mono (by simp)).then_repNum (by simp [reportParts]) _ _⟩, fun hno => by simp [hnow, hwas] at hno⟩
  next h =>
    exact ⟨modFld_self n f s, fun m hm => modFld_other hm f s, fun hnow hwas => absurd (by simp [hnow, hwas]) h, fun _ => sameBut_modFld n f s⟩

/-- BASE stays within LEARNED ± 25 % (R414). -/
theorem trackBase_bounds (base learned mean : Nat) : learned * 3072 ≤ trackBase base learned mean ∧
    trackBase base learned mean ≤ learned * 5120 := by
  unfold trackBase
  dsimp only
  omega

/-- Does a channel's base current follow its mean current (R414)? -/
def baseTracks (s : State) (n : FldId) : Bool :=
  (fldCfg s n).trackEn && isOutput s n && s.fld.cmd.getLsbD n.val && (vget s.fld.ch n).learned != 0

/-- Does the step of a base current reach a limit of it (R414)? -/
def FldCh.reachesLimit (c : FldCh) (mean : Nat) : Bool :=
  let b := trackBase c.base c.learned (mean * 4096)
  decide (b = c.learned * 3072 ∨ b = c.learned * 5120)

/-- One step of a channel's base current towards a mean current (R414). -/
def trackStep (n : FldId) (mean : Nat) (s : State) : State :=
  let c := vget s.fld.ch n
  flagEdge 0x3805 n c.baseLim (c.reachesLimit mean)
    (fun x => { x with base := trackBase c.base c.learned (mean * 4096), baseLim := c.reachesLimit mean }) s

theorem trackStep_spec (n : FldId) (mean : Nat) (s : State) :
    let c := vget s.fld.ch n
    let u := trackStep n mean s
    vget u.fld.ch n = { c with base := trackBase c.base c.learned (mean * 4096), baseLim := c.reachesLimit mean } ∧
      (∀ m, m ≠ n → vget u.fld.ch m = vget s.fld.ch m) ∧
      (c.reachesLimit mean = true → c.baseLim = false → Reported 0x3805 s u ∧ SameBut (.fld :: reportParts) s u) ∧
      (c.reachesLimit mean = false ∨ c.baseLim = true → SameBut [.fld] s u) :=
  flagEdge_spec (by decide) n _ _ _ s

theorem Operational.completes_track {s : State} {n : FldId} {mean : Nat} {P : State → Prop} (ho : Operational s)
    (hp : P (if baseTracks s n then trackStep n mean s else s)) : Completes (.baselineTrack n mean) s P := by
  refine ⟨_, act_next ho, ?_⟩
  simpa [trackStep, FldCh.reachesLimit, baseTracks, ← beq_eq_decide, Bool.decide_or] using hp

end Sys2Proof.Machine

end

section

open Sys2Proof Sys2Proof.Machine

/-- Settles O40: the masked channels by `setGroup_channel`, voted outputs and monitors by `setVo_output` and `setCfm_monitor`, the base
currents by `flagEdge_spec`. -/
theorem fieldCommands : Obligations.FieldCommands := by
  unfold Obligations.FieldCommands
  intro s ho
  refine ⟨fun r tag d hd => ⟨fun hbad => ?refused, fun hbad ht hg => ?outSet⟩, fun r tag d hd ht => ?voSet,
    fun r tag d hd => ⟨fun hbad => ?linked, fun hbad ht => ?cfmSet⟩, fun r tag readings start d hd => ?diagRead,
    fun r tag d hd hfree => ?learn, fun n b => ?base, fun n mean => ⟨fun h => ?untracked, fun h => ?tracked⟩, fun m => ?clear⟩
  case refused =>
    obtain ⟨hrun, -, -⟩ := startedOp_mem hd
    exact ho.completes_runOp (f := fldOutSet r) rfl hd (fldOutSet_refused hbad r ▸ opDone_alone hrun 0x80 _ 0)
  case outSet =>
    obtain ⟨hrun, -, -⟩ := startedOp_mem hd
    refine ho.completes_runOp (f := fldOutSet r) rfl hd ?_
    rw [fldOutSet_now hbad ht]
    have hbut := sameBut_setGroup (field d.paramA 0 3) (field d.paramA 8 8) (field d.paramA 16 8) s
    have hview := setGroup_channel hg (fun k hk hm => isOutput_of_notOutputs hbad hk hm) (field d.paramA 16 8)
    refine ⟨opDone_after hrun (hbut .rng (by simp)) 0 0 0, fun n => ?_, fun n => ?_, (hbut.mono (by simp)).then_opDone (by simp) _ _ _ _ _⟩
    · refine (congrArg (fun x => x.2.1) (hview n)).trans ?_
      split <;> rfl
    · refine (congrArg (fun x => x.2.2) (hview n)).trans ?_
      have hcmd := congrArg (fun x => x.2.1) (hview n)
      change (setGroup _ _ _ s).fld.cmd.getLsbD n.val = _ at hcmd
      show _ = FldCh.commanded (vget s.fld.ch n) (s.fld.cmd.getLsbD n.val) ((setGroup _ _ _ s).fld.cmd.getLsbD n.val)
      rw [hcmd]
      split
      · rfl
      · exact (commanded_same _ _).symm
  case voSet =>
    obtain ⟨hrun, -, -⟩ := startedOp_mem hd
    refine ho.completes_runOp (f := fun d s => runTimed r d 0 0
      (fun s => opDone r d.tag 0 0 0 (setVo (field d.paramA 0 8) (field d.paramA 8 8) s)) s) rfl hd ?_
    rw [runTimed_now ht]
    obtain ⟨hbut, hfld⟩ := setVo_only (field d.paramA 0 8) (field d.paramA 8 8) s
    exact ⟨opDone_after hrun (hbut .rng (by simp)) 0 0 0, hfld, (hbut.mono (by simp)).then_opDone (by simp) _ _ _ _ _, setVo_output _ _ s⟩
  case linked =>
    obtain ⟨hrun, -, -⟩ := startedOp_mem hd
    refine ho.completes_runOp (f := fun d s => if linkedMonitors s d.paramA ≠ 0 then opDone r d.tag 0x81 0 (linkedMonitors s d.paramA) s
      else runTimed r d 0 0 (fun s => opDone r d.tag 0 0 0 (setCfm d.paramA d.paramB s)) s) rfl hd ?_
    rw [if_pos hbad]
    exact opDone_alone hrun 0x81 0 _
  case cfmSet =>
    obtain ⟨hrun, -, -⟩ := startedOp_mem hd
    refine ho.completes_runOp (f := fun d s => if linkedMonitors s d.paramA ≠ 0 then opDone r d.tag 0x81 0 (linkedMonitors s d.paramA) s
      else runTimed r d 0 0 (fun s => opDone r d.tag 0 0 0 (setCfm d.paramA d.paramB s)) s) rfl hd ?_
    rw [if_neg (not_not.mpr hbad), runTimed_now ht]
    obtain ⟨hbut, hfld⟩ := setCfm_only d.paramA d.paramB s
    exact ⟨opDone_after hrun (hbut .rng (by simp)) 0 0 0, hfld, (hbut.mono (by simp)).then_opDone (by simp) _ _ _ _ _, setCfm_monitor _ _ s⟩
  case diagRead =>
    obtain ⟨hrun, -, -⟩ := startedOp_mem hd
    exact ho.completes_runOp (f := diagRead r readings start) rfl hd
      ⟨opDone_after hrun rfl 0 _ _, rfl, ((sameBut_writeBuffer _ _ s).mono (by simp)).then_opDone (by simp) _ _ _ _ _⟩
  case learn =>
    refine ho.completes_runOp (f := learnBegin r) rfl hd ?_
    unfold learnBegin
    rw [if_neg (ne_true_of_eq_false hfree)]
    exact ⟨rfl, sameBut_fld s _⟩
  case base =>
    refine ho.completes (f := setBase n b.toNat) rfl ⟨?_, fun m hm => modFld_other hm _ s, rfl, sameBut_modFld n _ s⟩
    have hb : b.toNat % 4096 = b.toNat := Nat.mod_eq_of_lt b.isLt
    exact (modFld_self n _ s).trans (by rw [hb])
  case untracked =>
    refine ho.completes_track ?_
    rw [if_neg]
    simpa [baseTracks, and_assoc] using h
  case tracked =>
    refine ho.completes_track ?_
    rw [if_pos (by simpa [baseTracks, and_assoc] using h)]
    obtain ⟨hself, hother, hrises, hquiet⟩ := trackStep_spec n mean s
    obtain ⟨hlow, hhigh⟩ := trackBase_bounds (vget s.fld.ch n).base (vget s.fld.ch n).learned (mean * 4096)
    exact ⟨hself, hlow, hhigh, hother, hrises, hquiet⟩
  case clear => exact ho.completes (f := clearVo m) rfl ⟨rfl, sameBut_fld s _⟩

end

/-! # What the field engine finds (R405 to R423) -/

section

namespace Sys2Proof.Machine

/-- A finding reported where its mark is not set yet counts its class (R411 to R424). -/
def markReport (marked : Bool) (code n : Nat) (s : State) : State := if marked then s else repNum code n s

theorem markReport_fld (marked : Bool) (code n : Nat) (s : State) : (markReport marked code n s).fld = s.fld := by
  cases marked
  · exact repNum_fld code n s
  · rfl

theorem sameBut_markReport (marked : Bool) (code n : Nat) (s : State) : SameBut reportParts s (markReport marked code n s) := by
  cases marked
  · exact sameBut_repNum code n s
  · exact SameBut.refl _ s

/-- What an effect on the field engine alone and its report leave. -/
theorem SameBut.then_markReport {s v : State} (h : SameBut [.fld] s v) (marked : Bool) (code n : Nat) :
    SameBut (.fld :: reportParts) s (markReport marked code n v) :=
  (h.mono (by simp)).trans ((sameBut_markReport marked code n v).mono (by simp [reportParts]))

theorem markReport_reported {code : Nat} {s v : State} (hc : code ≠ 0x402) (hv : v.flt = s.flt) (n : Nat) {marked : Bool}
    (h : marked = false) : Reported code s (markReport marked code n v) := by
  subst h
  exact repNum_after hc hv n

/-! ## Inputs and overload (R405, R411, R412) -/

/-- The state with a new level of a channel, marked changed (R405). -/
def noteLevel (n : FldId) (b : Bool) (s : State) : State :=
  { s with fld := { s.fld with level := putBit s.fld.level n.val b, changed := putBit s.fld.changed n.val true } }

/-- Does a channel take a raw level (R402, R405)? -/
def takesLevel (s : State) (n : FldId) (b : Bool) : Bool :=
  let m := (fldCfg s n).mode
  (m == 1 || m == 2) && s.fld.level.getLsbD n.val != b

theorem takesLevel_iff (s : State) (n : FldId) (b : Bool) :
    takesLevel s n b = true ↔ ((fldCfg s n).mode = 1 ∨ (fldCfg s n).mode = 2) ∧ s.fld.level.getLsbD n.val ≠ b := by
  simp only [takesLevel, Bool.and_eq_true, Bool.or_eq_true, beq_iff_eq, bne_iff_ne]

theorem overload_kept {s : State} {n : FldId} {b : Bool} (h : isOutput s n = false ∨ (vget s.fld.ch n).ovl = b) : overload n b s = s :=
  if_pos (by simpa using h)

/-- The state with an overload of a channel flagged and counted (R411). -/
def noteOverload (n : FldId) (s : State) : State :=
  let s1 := modFld n (fun c => { c with ovl := true, latched := c.latched || (fldCfg s n).latchOff }) s
  { s1 with fld := { s1.fld with ovlCnt := s1.fld.ovlCnt + 1 } }

theorem sameBut_noteOverload (n : FldId) (s : State) : SameBut [.fld] s (noteOverload n s) := (sameBut_modFld n _ s).trans (sameBut_fld _ _)

theorem overload_begins {s : State} {n : FldId} (ho : isOutput s n = true) (h : (vget s.fld.ch n).ovl = false) :
    overload n true s = repNum 0x3801 n.val (noteOverload n s) :=
  (if_neg (by simp [ho, h])).trans (if_pos rfl)

theorem overload_ends {s : State} {n : FldId} (ho : isOutput s n = true) (h : (vget s.fld.ch n).ovl = true) :
    overload n false s = modFld n (fun c => { c with ovl := false }) s :=
  (if_neg (by simp [ho, h])).trans (if_neg Bool.false_ne_true)

/-- A report of the thermal shutdown of a channel, or its end (R412). -/
def heatChange (n : FldId) (hot : Bool) (s : State) : State :=
  if !isOutput s n || (vget s.fld.ch n).ot == hot then s
  else
    let s1 := modFld n (fun c => { c with ot := hot }) s
    if hot then repNum 0x3802 n.val s1 else s1

theorem heatChange_kept {s : State} {n : FldId} {hot : Bool} (h : isOutput s n = false ∨ (vget s.fld.ch n).ot = hot) :
    heatChange n hot s = s := if_pos (by simpa using h)

theorem heatChange_edge {s : State} {n : FldId} {hot : Bool} (ho : isOutput s n = true) (h : (vget s.fld.ch n).ot ≠ hot) :
    heatChange n hot s = flagEdge 0x3802 n (!hot) hot (fun c => { c with ot := hot }) s := by
  unfold heatChange
  rw [if_neg (by simpa [ho] using h)]
  cases hot <;> rfl

/-! ## Open wire and external drive (R413) -/

theorem openWire_on (n : FldId) (x : Nat) (s : State) : openWire n true x s =
    if isOutput s n && conducts s n && !s.fld.supLow.getLsbD (groupOf n).val then
      flagEdge 0x3803 n (vget s.fld.ch n).owOn (belowOpenWire s n x) (fun c => { c with owOn := belowOpenWire s n x }) s
    else s := rfl

theorem openWire_off (n : FldId) (x : Nat) (s : State) : openWire n false x s =
    if offTests s n && (fldCfg s n).owOffEn then
      flagEdge 0x3803 n (vget s.fld.ch n).owOff (decide (8000 < x)) (fun c => { c with owOff := decide (8000 < x) }) s
    else s := rfl

/-- A pin voltage without the test current (R413). -/
def drive (n : FldId) (x : Nat) (s : State) : State :=
  if offTests s n then
    flagEdge 0x3804 n (vget s.fld.ch n).ext (decide (11000 < x)) (fun c => { c with ext := decide (11000 < x) }) s
  else s

/-! ## Groups (R415) -/

/-- The state with a group's overload flag. -/
def noteGroupOverload (g : Fin 6) (b : Bool) (s : State) : State :=
  { s with fld := { s.fld with grpOvl := putBit s.fld.grpOvl g.val b } }

/-- The state with a group's low supply flag. -/
def noteSupply (g : Fin 6) (b : Bool) (s : State) : State := { s with fld := { s.fld with supLow := putBit s.fld.supLow g.val b } }

/-- A change of a group's overload (R415). -/
def groupOverloadChange (g : Fin 6) (b : Bool) (s : State) : State :=
  if b && !s.fld.grpOvl.getLsbD g.val then repNum 0x3806 g.val (noteGroupOverload g b s) else noteGroupOverload g b s

theorem groupOverloadChange_marks (g : Fin 6) (b : Bool) (s : State) :
    groupOverloadChange g b s = markReport (!b || s.fld.grpOvl.getLsbD g.val) 0x3806 g.val (noteGroupOverload g b s) := by
  unfold groupOverloadChange markReport
  cases b <;> cases s.fld.grpOvl.getLsbD g.val <;> rfl

/-- A group's supply falls low (R415). -/
def supplyFalls (g : Fin 6) (s : State) : State :=
  if !s.fld.supLow.getLsbD g.val then repNum 0x3807 g.val (noteSupply g true s) else noteSupply g true s

theorem supplyFalls_marks (g : Fin 6) (s : State) :
    supplyFalls g s = markReport (s.fld.supLow.getLsbD g.val) 0x3807 g.val (noteSupply g true s) := by
  unfold supplyFalls markReport
  cases s.fld.supLow.getLsbD g.val <;> rfl

/-! ## Faults of the matrix (R421 to R423) -/

/-- The state with an output's element marked stuck. -/
def noteStuck (v : VoId) (s : State) : State :=
  { s with fld := { s.fld with stuck := putBit s.fld.stuck v.val true, voFault := putBit s.fld.voFault v.val true } }

theorem elementFault_marks (v : VoId) (s : State) :
    elementFault v s = markReport (s.fld.stuck.getLsbD v.val) 0x3808 v.val (noteStuck v s) := rfl

/-- Does a column test run (R422)? -/
def columnRuns (s : State) (v : VoId) : Prop := s.cfg.fld.testEn.getLsbD v.val = true ∧ matrixOn s v = true ∧ s.vot.mode = .triple

/-- Does a column test show an element stuck (R422)? -/
def columnFinds (s : State) (v : VoId) (l : LaneId) (x y : Bool) (i : Nat) : Prop :=
  columnRuns s v ∧ (x = true ∨ (y = true ∧ allLanes.all (fun m => m == l || columnCmd s m v) = true ∧ 50 < i))

theorem columnTest_found {s : State} {v : VoId} {l : LaneId} {x y : Bool} {i : Nat} (h : columnFinds s v l x y i) :
    columnTest v l x y i s = elementFault v s := by
  obtain ⟨⟨htest, hon, hmode⟩, hshows⟩ := h
  unfold columnTest
  rw [if_pos (by simp [-BitVec.getLsbD_eq_getElem, htest, hon, hmode])]
  exact if_pos (by simpa only [Bool.or_eq_true, Bool.and_eq_true, decide_eq_true_eq, and_assoc] using hshows)

theorem columnTest_clean {s : State} {v : VoId} {l : LaneId} {x y : Bool} {i : Nat} (h : ¬ columnFinds s v l x y i) :
    columnTest v l x y i s = s := by
  unfold columnTest
  split
  next hruns =>
    have hr : columnRuns s v := by simpa only [columnRuns, Bool.and_eq_true, beq_iff_eq, and_assoc] using hruns
    refine if_neg (fun hshows => h ⟨hr, ?_⟩)
    simpa only [Bool.or_eq_true, Bool.and_eq_true, decide_eq_true_eq, and_assoc] using hshows
  next => rfl

/-- The state with an output's sense (R423). -/
def noteSense (v : VoId) (b : Bool) (s : State) : State := { s with fld := { s.fld with voSense := putBit s.fld.voSense v.val b } }

/-- The state with an output's readback finding cleared. -/
def clearReadback (v : VoId) (s : State) : State := { s with fld := { s.fld with readback := putBit s.fld.readback v.val false } }

/-- The state with an output's readback marked at fault. -/
def noteReadback (v : VoId) (s : State) : State :=
  { s with fld := { s.fld with readback := putBit s.fld.readback v.val true, voFault := putBit s.fld.voFault v.val true } }

theorem readbackFault_agrees {s : State} {v : VoId} {b : Bool} (h : matrixOn s v = b) :
    readbackFault v b s = clearReadback v (noteSense v b s) := if_pos h

theorem readbackFault_differs {s : State} {v : VoId} {b : Bool} (h : matrixOn s v ≠ b) (he : s.cls.outEn = true) :
    readbackFault v b s = markReport (s.fld.readback.getLsbD v.val) 0x3809 v.val (noteReadback v (noteSense v b s)) :=
  (if_neg h).trans (if_pos he)

theorem readbackFault_off {s : State} {v : VoId} {b : Bool} (h : matrixOn s v ≠ b) (he : s.cls.outEn = false) :
    readbackFault v b s = noteSense v b s :=
  (if_neg h).trans (if_neg (by simp [he]))

/-! ## The field sample (R406) -/

/-- The state at a sample instant without monitors: the senses taken and the evaluation noted. -/
def sampled (sense : BitVec 8) (s : State) : State := { s with fld := { s.fld with voSense := sense, lastEval := s.tick } }

theorem evalMonitors_none {s : State} (h : s.cfg.fld.cfm = []) : evalMonitors s = { s with fld := { s.fld with lastEval := s.tick } } := by
  have hfold : ∀ (l : List (Fin 32)) dt, l.foldl (evalMonitor dt) s = s := by
    intro l dt
    induction l with
    | nil => rfl
    | cons f l ih =>
      have hf : evalMonitor dt s f = s := by
        unfold evalMonitor
        rw [h]
        rfl
      rw [List.foldl_cons, hf, ih]
  unfold evalMonitors
  rw [hfold]

/-- The arrival of the field item at a sample instant without monitors (R406). -/
def sampleArrival (sense : BitVec 8) (s : State) : Arrival :=
  ⟨true, BitVec.ofNat 8 (bit (s.fld.supLow != 0) + 2 * bit s.cls.outEn), s.ts, fieldPayload (sampled sense s)⟩

theorem fieldSample_unmonitored {s : State} {i : Nat} (hi : s.cfg.fld.item = some i) (h : s.cfg.fld.cfm = []) (sense : BitVec 8) :
    let s1 := arrive i (sampleArrival sense s) (sampled sense s)
    fieldSample sense s = { s1 with fld := { s1.fld with changed := 0 } } := by
  unfold fieldSample
  rw [evalMonitors_none (s := { s with fld := { s.fld with voSense := sense } }) h]
  dsimp only
  rw [hi]
  rfl

end Sys2Proof.Machine

end

section

open Sys2Proof Sys2Proof.Machine

/-- Settles O41: a channel's flags by `flagEdge_spec`, the groups and the matrix by what their marks and `markReport` leave, the sample
by `fieldSample_unmonitored`. -/
theorem fieldFindings : Obligations.FieldFindings := by
  unfold Obligations.FieldFindings
  intro s n g v ho c others shows edge
  have hedge : ∀ {i code was now} (f : FldCh → FldCh), code ≠ 0x402 → ∀ {F : State → State}, exec i s = act F s →
      F s = flagEdge code n was now f s → edge i code was now (f c) := ?edges
  refine ⟨fun b => ⟨fun h => ?levelKept, fun h => ?levelTaken⟩, fun b h => ?overloadKept, fun hout h => ?overloadBegins,
    fun hout h => ?overloadEnds, fun b => ⟨fun h => ?heatKept, fun hout h => ?heat⟩, fun x => ⟨fun h => ?onIdle, fun h => ?onTest⟩,
    fun x => ⟨fun h => ?offIdle, fun hoff hen => ?offTest⟩, fun x => ⟨fun h => ?driveIdle, fun h => ?driveTest⟩, fun b => ?groupOverload,
    ?supplyLow, ?supplyRestored, fun l x y i => ⟨fun h => ?columnClean, fun h => ?columnFound⟩,
    fun b => ⟨fun h => ?agrees, fun h he => ?differs, fun h he => ?disabled⟩, fun sense i ic hitem hi hcfm => ?sample⟩
  case edges =>
    intro i code was now f hc F he hF
    refine ho.completes he ?_
    rw [hF]
    obtain ⟨hself, hother, hrises, hquiet⟩ := flagEdge_spec hc n was now f s
    exact ⟨⟨hself, hother⟩, hrises, hquiet⟩
  case levelKept =>
    refine ho.completes_unchanged (f := fun s => onlyIf (takesLevel s n b) (noteLevel n b) s) rfl (onlyIf_false ?_)
    rwa [← Bool.not_eq_true, takesLevel_iff]
  case levelTaken =>
    refine ho.completes (f := fun s => onlyIf (takesLevel s n b) (noteLevel n b) s) rfl ?_
    rw [onlyIf_true ((takesLevel_iff s n b).mpr h)]
    exact ⟨putBit_self _ n b, putBit_self _ n true, fun m hm => ⟨putBit_other _ hm b, putBit_other _ hm true⟩, rfl, sameBut_fld s _⟩
  case overloadKept => exact ho.completes_unchanged (f := overload n b) rfl (overload_kept h)
  case overloadBegins =>
    refine ho.completes (f := overload n true) rfl ?_
    rw [overload_begins hout h]
    refine ⟨⟨?_, fun m hm => ?_⟩, ?_, repNum_after (v := noteOverload n s) (by decide) rfl _,
      ((sameBut_noteOverload n s).mono (by simp)).then_repNum (by simp [reportParts]) _ _⟩ <;> rw [repNum_fld]
    · exact modFld_self n _ s
    · exact modFld_other hm _ s
    · rfl
  case overloadEnds =>
    refine ho.completes (f := overload n false) rfl ?_
    rw [overload_ends hout h]
    exact ⟨⟨modFld_self n _ s, fun m hm => modFld_other hm _ s⟩, sameBut_modFld n _ s⟩
  case heatKept => exact ho.completes_unchanged (f := heatChange n b) rfl (heatChange_kept h)
  case heat => exact hedge _ (by decide) (F := heatChange n b) rfl (heatChange_edge hout h)
  case onIdle =>
    refine ho.completes_unchanged (f := openWire n true x) rfl ((openWire_on n x s).trans (if_neg ?_))
    simpa only [Bool.and_eq_true, Bool.not_eq_true', and_assoc] using h
  case onTest =>
    refine hedge _ (by decide) (F := openWire n true x) rfl ((openWire_on n x s).trans (if_pos ?_))
    simpa only [Bool.and_eq_true, Bool.not_eq_true', and_assoc] using h
  case offIdle =>
    refine ho.completes_unchanged (f := openWire n false x) rfl ((openWire_off n x s).trans (if_neg ?_))
    rcases h with h | h <;> simp [h]
  case offTest => exact hedge _ (by decide) (F := openWire n false x) rfl ((openWire_off n x s).trans (if_pos (by simp [hoff, hen])))
  case driveIdle => exact ho.completes_unchanged (f := drive n x) rfl (if_neg (ne_true_of_eq_false h))
  case driveTest => exact hedge _ (by decide) (F := drive n x) rfl (if_pos h)
  case groupOverload =>
    refine ho.completes (f := groupOverloadChange g b) rfl ?_
    rw [groupOverloadChange_marks]
    refine ⟨?_, fun hb hg => markReport_reported (v := noteGroupOverload g b s) (by decide) rfl _ (by simp [-BitVec.getLsbD_eq_getElem, hb, hg]),
      (sameBut_fld s _).then_markReport _ _ _⟩
    rw [markReport_fld]
    exact putBit_self _ g b
  case supplyLow =>
    refine ho.completes (f := supplyFalls g) rfl ?_
    rw [supplyFalls_marks]
    refine ⟨?_, fun hg => markReport_reported (v := noteSupply g true s) (by decide) rfl _ hg, (sameBut_fld s _).then_markReport _ _ _⟩
    rw [markReport_fld]
    exact putBit_self _ g true
  case supplyRestored =>
    exact ho.completes (f := noteSupply g false) rfl ⟨putBit_self _ g false, fun h hne => putBit_other _ hne false, sameBut_fld s _⟩
  case columnClean => exact ho.completes_unchanged (f := columnTest v l x y i) rfl (columnTest_clean h)
  case columnFound =>
    refine ho.completes (f := columnTest v l x y i) rfl ?_
    rw [columnTest_found h, elementFault_marks]
    refine ⟨?_, ?_, markReport_reported (v := noteStuck v s) (by decide) rfl _, (sameBut_fld s _).then_markReport _ _ _⟩ <;> rw [markReport_fld]
    · exact putBit_self _ v true
    · exact putBit_self _ v true
  case agrees =>
    refine ho.completes (f := readbackFault v b) rfl ?_
    rw [readbackFault_agrees h]
    exact ⟨putBit_self _ v false, putBit_self _ v b, rfl, (sameBut_fld s _).trans (sameBut_fld _ _)⟩
  case differs =>
    refine ho.completes (f := readbackFault v b) rfl ?_
    rw [readbackFault_differs h he]
    refine ⟨?_, ?_, ?_, markReport_reported (v := noteReadback v (noteSense v b s)) (by decide) rfl _,
      ((sameBut_fld s _).trans (sameBut_fld _ _)).then_markReport _ _ _⟩ <;> rw [markReport_fld]
    · exact putBit_self _ v true
    · exact putBit_self _ v true
    · exact putBit_self _ v b
  case disabled =>
    refine ho.completes (f := readbackFault v b) rfl ?_
    rw [readbackFault_off h he]
    exact ⟨rfl, rfl, putBit_self _ v b, sameBut_fld s _⟩
  case sample =>
    refine ho.completes (f := fieldSample sense) rfl ?_
    rw [fieldSample_unmonitored hitem hcfm]
    have hbut := sameBut_arrive i (sampleArrival sense s) (sampled sense s)
    have hback := arrive_item (s := sampled sense s) hi (sampleArrival sense s)
    refine ⟨congrArg (fun F : Fld => { F with changed := 0 }) (hbut .fld (by simp)), ⟨_, hback, rfl, rfl, rfl, rfl⟩, ?_⟩
    exact (((sameBut_fld s _).mono (by simp)).trans (hbut.mono (by simp))).trans ((sameBut_fld _ _).mono (by simp))

end

/-! # Matrix faults, column commands and reactions (R424) -/

section

namespace Sys2Proof.Machine

/-! ## Reactions to a report (R568) -/

/-- The reactions that wait: flush, fault pin, yield, module safe. -/
def State.reactions (s : State) : Bool × Bool × Bool × Bool := (s.rcd.flushPend, s.flt.pinLatch, s.flt.yieldPend, s.flt.safePend)

/-- The waiting reactions with those of a class's declaration. -/
def State.reactionsWith (s : State) (bits : Nat) : Bool × Bool × Bool × Bool :=
  (s.rcd.flushPend || testBit bits 0, s.flt.pinLatch || testBit bits 1, s.flt.yieldPend || testBit bits 2,
    s.flt.safePend || testBit bits 3)

theorem reactionsWith_none (s : State) : s.reactionsWith 0 = s.reactions := by simp [State.reactionsWith, State.reactions, testBit]

theorem faultRecord_reactions (code origin : Nat) (data : List Byte) (s : State) :
    (faultRecord code origin data s).reactions = s.reactions := by
  unfold faultRecord
  dsimp only
  (repeat' split) <;> rfl

theorem noteReport_pends (f : FaultRep) (code origin : Nat) : (f.noteReport code origin).pinLatch = f.pinLatch ∧
    (f.noteReport code origin).yieldPend = f.yieldPend ∧ (f.noteReport code origin).safePend = f.safePend := by
  unfold FaultRep.noteReport
  dsimp only
  (repeat' split) <;> exact ⟨rfl, rfl, rfl⟩

theorem reportOnly_reactions (code origin : Nat) (data : List Byte) (s : State) :
    (reportOnly code origin data s).reactions = s.reactions := by
  obtain ⟨hpin, hyield, hsafe⟩ := noteReport_pends
    { (faultRecord code origin data s).flt with
      cls := tset (faultRecord code origin data s).flt.cls code (tgetD (faultRecord code origin data s).flt.cls code 0 + 1),
      reports := (faultRecord code origin data s).flt.reports + 1, lastCode := BitVec.ofNat 16 code } code origin
  refine Eq.trans ?_ (faultRecord_reactions code origin data s)
  unfold reportOnly State.reactions
  rw [raiseAll_flt]
  exact congrArg (Prod.mk _) (congrArg₂ Prod.mk hpin (congrArg₂ Prod.mk hyield hsafe))

/-- A report sets the reactions its class declares and no other (R568). -/
theorem report_reactions {code : Nat} (h : code ≠ 0x402) (origin : Nat) (data : List Byte) (s : State) :
    (report code origin data s).reactions = s.reactionsWith (tgetD s.cfg.flt.reactions code 0) := by
  have hcfg : (reportOnly code origin data s).cfg = s.cfg := by simp
  have honly := reportOnly_reactions code origin data s
  unfold report
  dsimp only
  rw [hcfg]
  split
  next hno => rw [honly, hno.resolve_right h, reactionsWith_none]
  next =>
    rw [reportOnly_reactions]
    simp only [State.reactions, Prod.mk.injEq] at honly
    obtain ⟨hflush, hpin, hyield, hsafe⟩ := honly
    simp only [State.reactions, State.reactionsWith, hflush, hpin, hyield, hsafe]

/-- What a first finding of the matrix sets (R424, R568). -/
theorem repNum_reacts {code : Nat} {s v : State} (h : code ≠ 0x402) (hflt : v.flt = s.flt) (hrcd : v.rcd = s.rcd) (hcfg : v.cfg = s.cfg) (n : Nat) :
    (repNum code n v).reactions = s.reactionsWith (tgetD s.cfg.flt.reactions code 0) := by
  rw [repNum, report_reactions h, hcfg]
  unfold State.reactionsWith
  rw [hflt, hrcd]

/-! ## Column commands (R370) -/

theorem SameBut.lane_body {ps : List Part} {s u : State} (h : SameBut ps s u) (hp : .lanes ∉ ps) (l : LaneId) :
    (u.lane l).body = (s.lane l).body := by
  have hmap : u.lanes.map Lane.body = s.lanes.map Lane.body := h .lanes hp
  have hget := congrArg (fun v : Vector Lane 3 => vget v l) hmap
  simpa [vget, State.lane] using hget

/-- A lane's column command follows the committed commands, the lane's state and its monitors (R370). -/
theorem columnCmd_congr {ps : List Part} {s u : State} (h : SameBut ps s u) (hl : .lanes ∉ ps) (hc : .cfg ∉ ps)
    (hv : u.fld.voCmd = s.fld.voCmd) (l : LaneId) (w : VoId) : columnCmd u l w = columnCmd s l w := by
  have hbody := h.lane_body hl l
  have hstate : (u.lane l).state = (s.lane l).state :=
    show (u.lane l).body.state = (s.lane l).body.state from congrArg Lane.state hbody
  have hmot : (u.lane l).mot = (s.lane l).mot :=
    show (u.lane l).body.mot = (s.lane l).body.mot from congrArg Lane.mot hbody
  have hcfg : u.cfg = s.cfg := h .cfg hc
  unfold columnCmd monitorsAllow monCfg
  dsimp only
  rw [hv, hstate, hmot, hcfg]

/-- The column test and the readback change no committed command of a voted output. -/
theorem markReport_voCmd {s v : State} (marked : Bool) (code n : Nat) (h : v.fld.voCmd = s.fld.voCmd) :
    (markReport marked code n v).fld.voCmd = s.fld.voCmd := by rw [markReport_fld, h]

/-- A mark of the field engine and its report leave every column command. -/
theorem markReport_columns {s v : State} (h : SameBut [.fld] s v) (hv : v.fld.voCmd = s.fld.voCmd) (marked : Bool) (code n : Nat) (l : LaneId)
    (w : VoId) : columnCmd (markReport marked code n v) l w = columnCmd s l w :=
  columnCmd_congr (h.then_markReport marked code n) (by simp [reportParts]) (by simp [reportParts]) (markReport_voCmd marked code n hv) l w

/-- A first finding reacts as the configuration declares. -/
theorem markReport_reacts {code : Nat} {s v : State} (hc : code ≠ 0x402) (h : SameBut [.fld] s v) {marked : Bool} (hm : marked = false) (n : Nat) :
    Reported code s (markReport marked code n v) ∧
      (markReport marked code n v).reactions = s.reactionsWith (tgetD s.cfg.flt.reactions code 0) := by
  subst hm
  exact ⟨repNum_after hc (h .flt (by simp)) n, repNum_reacts hc (h .flt (by simp)) (h .rcd (by simp)) (h .cfg (by simp)) n⟩

end Sys2Proof.Machine

end

section

open Sys2Proof Sys2Proof.Machine

/-- Settles O56: both findings are a mark of the field engine and `markReport`, which keeps column commands and reacts by
`markReport_reacts`. -/
theorem matrixFaultKeepsColumns : Obligations.MatrixFaultKeepsColumns := by
  unfold Obligations.MatrixFaultKeepsColumns
  intro s v ho columns reacts
  have hreacts : ∀ {code n} {t : State}, code ≠ 0x402 → SameBut [.fld] s t → ∀ {marked}, marked = false →
      reacts code (markReport marked code n t) := by
    intro code n t hc ht marked hm
    obtain ⟨hrep, hset⟩ := markReport_reacts hc ht hm n
    simp only [State.reactions, State.reactionsWith, Prod.mk.injEq] at hset
    exact ⟨hrep, hset⟩
  refine ⟨fun l x y i => ?column, fun b => ?readback⟩
  case column =>
    refine ho.completes (f := columnTest v l x y i) rfl ?_
    have hstuck : SameBut [.fld] s (noteStuck v s) := sameBut_fld s _
    by_cases h : columnFinds s v l x y i
    · rw [columnTest_found h, elementFault_marks]
      exact ⟨markReport_columns hstuck rfl _ _ _, fun _ hfirst => hreacts (by decide) hstuck hfirst⟩
    · rw [columnTest_clean h]
      exact ⟨fun _ _ => rfl, fun hset hclear => absurd hset (ne_true_of_eq_false hclear)⟩
  case readback =>
    refine ho.completes (f := readbackFault v b) rfl ?_
    have hsense : SameBut [.fld] s (noteSense v b s) := sameBut_fld s _
    have hfault : SameBut [.fld] s (noteReadback v (noteSense v b s)) := sameBut_fld s _
    by_cases h : matrixOn s v = b
    · rw [readbackFault_agrees h]
      exact ⟨columnCmd_congr (hsense.trans (sameBut_fld _ _)) (by simp) (by simp) rfl,
        fun hset _ => absurd hset (ne_true_of_eq_false (putBit_self _ v false))⟩
    · cases he : s.cls.outEn
      · rw [readbackFault_off h he]
        exact ⟨columnCmd_congr hsense (by simp) (by simp) rfl, fun hset hclear => absurd hset (ne_true_of_eq_false hclear)⟩
      · rw [readbackFault_differs h he]
        exact ⟨markReport_columns hfault rfl _ _ _, fun _ hfirst => hreacts (by decide) hfault hfirst⟩

end

/-! # The event recorder (R459 to R477) -/

section

namespace Sys2Proof.Machine

/-! ## Records written to NAND (R469) -/

/-- Records that fit the permanent area stand there behind the earlier ones, and the circulating area and the counter stay. -/
theorem foldl_store_perm {l : List Record} {d : Recorder} (h : d.perm.length + l.length ≤ permCap) :
    let u := l.foldl Recorder.store d
    u.perm = d.perm ++ l ∧ u.circ = d.circ ∧ u.next = d.next := by
  induction l generalizing d with
  | nil => exact ⟨(List.append_nil _).symm, rfl, rfl⟩
  | cons r l ih =>
    have hroom : d.perm.length < permCap := by
      rw [List.length_cons] at h
      omega
    have hstore : d.store r = { d with flushed := r.seq, nandNext := r.seq + 1, perm := d.perm ++ [r] } := if_pos hroom
    have hl : (d.store r).perm.length + l.length ≤ permCap := by
      rw [hstore]
      simp only [List.length_append, List.length_cons, List.length_nil] at h ⊢
      omega
    obtain ⟨hperm, hcirc, hnext⟩ := ih hl
    refine ⟨hperm.trans ?_, hcirc.trans ?_, hnext.trans ?_⟩ <;> rw [hstore]
    exact List.append_assoc _ _ _

/-! ## Flushes (R466, R467, R470) -/

/-- The state with REC_CTRL.FLUSH reading 0 and no trigger waiting. -/
def dropTrigger (s : State) : State :=
  let s1 := regPut s (REC + 0x4) 0 1 0
  { s1 with rcd := { s1.rcd with flushPend := false } }

/-- The state with a flush of every staged record begun (R466). -/
def flushBegun (s : State) : State :=
  let s1 := dropTrigger s
  { s1 with rcd := { s1.rcd with flushing := true, flushCount := s1.rcd.staged.length, flushCnt := s1.rcd.flushCnt + 1 } }

theorem beginFlush_empty {s : State} (h : s.rcd.staged = []) : beginFlush s = dropTrigger s := by
  unfold beginFlush dropTrigger
  rw [h]
  rfl

theorem beginFlush_staged {s : State} (h : s.rcd.staged ≠ []) : beginFlush s = flushBegun s := by
  unfold beginFlush flushBegun dropTrigger
  dsimp only
  rw [if_neg (by simpa using h)]

theorem sameBut_dropTrigger (s : State) : SameBut [.rcd, .regs] s (dropTrigger s) :=
  ((sameBut_regPut s _ _ _ _).mono (by simp)).trans ((sameBut_rcd _ _).mono (by simp))

theorem sameBut_flushBegun (s : State) : SameBut [.rcd, .regs] s (flushBegun s) :=
  (sameBut_dropTrigger s).trans ((sameBut_rcd _ _).mono (by simp))

theorem dropTrigger_field (s : State) : regField (dropTrigger s) (REC + 0x4) 0 1 = 0 := by
  have hregs : (dropTrigger s).regs = (regPut s (REC + 0x4) 0 1 0).regs := by dsimp only [dropTrigger]
  rw [regField_congr hregs, regField_regPut s _ 0 1 0 (by decide)]
  rfl

theorem flushBegun_field (s : State) : regField (flushBegun s) (REC + 0x4) 0 1 = 0 := by
  have hregs : (flushBegun s).regs = (dropTrigger s).regs := by dsimp only [flushBegun]
  rw [regField_congr hregs, dropTrigger_field]

theorem flushRequest_field (s : State) : regField (flushRequest s) (REC + 0x4) 0 1 = 1 := by
  have hregs : (flushRequest s).regs = (regPut s (REC + 0x4) 0 1 1).regs := by dsimp only [flushRequest]
  rw [regField_congr hregs, regField_regPut s _ 0 1 1 (by decide)]
  rfl

theorem flushRequest_staged (s : State) : (flushRequest s).rcd.staged = s.rcd.staged := by simp [flushRequest]

theorem sameBut_beginFlush (s : State) : SameBut [.rcd, .regs] s (beginFlush s) := by
  by_cases h : s.rcd.staged = []
  · rw [beginFlush_empty h]
    exact sameBut_dropTrigger s
  · rw [beginFlush_staged h]
    exact sameBut_flushBegun s

/-- Beginning a flush leaves staging, both areas and the count of NAND errors. -/
theorem beginFlush_rcd (s : State) : (beginFlush s).rcd.staged = s.rcd.staged ∧ (beginFlush s).rcd.perm = s.rcd.perm ∧
    (beginFlush s).rcd.circ = s.rcd.circ ∧ (beginFlush s).rcd.nandErr = s.rcd.nandErr := by
  unfold beginFlush
  dsimp only
  split <;> simp

/-- The state with the records of the running flush written (R467). -/
def flushWritten (s : State) : State :=
  let d := s.rcd
  { s with rcd := { (d.staged.take d.flushCount).foldl Recorder.store d with
    staged := d.staged.drop d.flushCount, flushing := false, flushCount := 0 } }

/-- The state with the running flush given up and its error counted (R470). -/
def flushGivenUp (s : State) : State :=
  { s with rcd := { s.rcd with flushing := false, flushCount := 0, nandErr := s.rcd.nandErr + 1 } }

/-- A store to NAND neither ends a loss nor triggers a flush. -/
theorem foldl_store_marks (l : List Record) (d : Recorder) : (l.foldl Recorder.store d).losing = d.losing ∧
    (l.foldl Recorder.store d).flushPend = d.flushPend := by
  induction l generalizing d with
  | nil => exact ⟨rfl, rfl⟩
  | cons r l ih =>
    have hstore : (d.store r).losing = d.losing ∧ (d.store r).flushPend = d.flushPend := by
      unfold Recorder.store
      dsimp only
      (repeat' split) <;> exact ⟨rfl, rfl⟩
    obtain ⟨hlosing, hpend⟩ := ih (d.store r)
    exact ⟨hlosing.trans hstore.1, hpend.trans hstore.2⟩

/-- The state with a present loss ended where staging has room again (R464). -/
def endLoss (s : State) : State :=
  if s.rcd.losing && s.rcd.staged.length < stagingCap then
    requestRecord (lossRecord s.rcd.losingCount (s.rcd.next - 1) 1) { s with rcd := { s.rcd with losing := false, losingCount := 0 } }
  else s

theorem endLoss_none {s : State} (h : s.rcd.losing = false) : endLoss s = s := if_neg (by rw [h]; exact Bool.false_ne_true)

/-- The next flush where a trigger waits (R466). -/
def nextFlush (s : State) : State := if s.rcd.flushPend then beginFlush s else s

theorem nextFlush_none {s : State} (h : s.rcd.flushPend = false) : nextFlush s = s := if_neg (ne_true_of_eq_false h)

theorem endFlush_true (s : State) : endFlush true s = nextFlush (endLoss (flushWritten s)) := rfl

theorem endFlush_false (s : State) : endFlush false s = nextFlush (endLoss (rep 0x4003 (flushGivenUp s))) := rfl

theorem endFlush_written {s : State} (hl : s.rcd.losing = false) (hp : s.rcd.flushPend = false) : endFlush true s = flushWritten s := by
  obtain ⟨hlosing, hpend⟩ := foldl_store_marks (s.rcd.staged.take s.rcd.flushCount) s.rcd
  rw [endFlush_true, endLoss_none (hlosing.trans hl), nextFlush_none (hpend.trans hp)]

/-- After a write error a reaction to its report may trigger the next flush at once (R470, R568). -/
theorem endFlush_failed {s : State} (hl : s.rcd.losing = false) : endFlush false s = nextFlush (rep 0x4003 (flushGivenUp s)) := by
  rw [endFlush_false, endLoss_none]
  simpa [flushGivenUp] using hl

/-! ## The start of the recorder (R468) -/

/-- The running recorder, its kept staging written (R529) and no report held. -/
def runFrom (s : State) : State :=
  let s1 := flushKept s
  { s1 with rcd := { s1.rcd with running := true }, flt := { s1.flt with held := [], heldLost := 0 } }

/-- The numbers that were assigned and never flushed (R468). -/
def lostNumbers (s : State) : Nat := (flushKept s).rcd.next - (flushKept s).rcd.nandNext

theorem lostNumbers_empty {s : State} (h : s.rcd.staged = []) : lostNumbers s = s.rcd.next - s.rcd.nandNext := by
  unfold lostNumbers flushKept
  dsimp only
  rw [h]
  rfl

/-- The running recorder with the loss of numbers requested and reported (R468). -/
def lossReported (s : State) : State :=
  rep 0x4002 (requestRecord (lossRecord (lostNumbers s) ((flushKept s).rcd.nandNext - 1) 2) (runFrom s))

/-- The running recorder after the check of its numbers (R468). -/
def numbersChecked (s : State) : State := if 0 < lostNumbers s then lossReported s else runFrom s

theorem startRecord_congr {s u : State} (ht : u.trust = s.trust) (ho : u.otp = s.otp) (cause : Nat) :
    startRecord cause u = startRecord cause s := by
  unfold startRecord
  rw [ht, ho]

theorem startRecorder_quiet {s : State} (hh : s.flt.held = []) (hl : s.flt.heldLost = 0) (cause : Nat) :
    startRecorder cause s = stageCycle (requestRecord (startRecord cause s) (numbersChecked s)) := by
  have hrec : startRecord cause (numbersChecked s) = startRecord cause s := by
    unfold numbersChecked lossReported
    split <;> exact startRecord_congr (by simp [runFrom, flushKept, requestRecord]) (by simp [runFrom, flushKept, requestRecord]) cause
  unfold startRecorder
  dsimp only
  rw [show (flushKept s).flt.held = [] from hh, show (flushKept s).flt.heldLost = 0 from hl, if_neg (Nat.lt_irrefl 0), List.foldl_nil]
  rw [← hrec]
  rfl

/-- What staging leaves of the recorder: that it runs, and both areas. -/
def Recorder.kept (d : Recorder) : Bool × List Record × List Record := (d.running, d.perm, d.circ)

theorem stageRecord_kept (s : State) (r : RecReq) : (stageRecord s r).rcd.kept = s.rcd.kept ∧ (stageRecord s r).flt.cls = s.flt.cls := by
  unfold stageRecord
  dsimp only
  (repeat' split) <;> exact ⟨rfl, rfl⟩

theorem foldl_stageRecord_kept (l : List RecReq) (s : State) :
    (l.foldl stageRecord s).rcd.kept = s.rcd.kept ∧ (l.foldl stageRecord s).flt.cls = s.flt.cls :=
  ⟨foldl_keeps (fun u => u.rcd.kept) _ (fun t r => by obtain ⟨hrcd, -⟩ := stageRecord_kept t r; exact hrcd) l s,
    foldl_keeps (fun u => u.flt.cls) _ (fun t r => by obtain ⟨-, hcls⟩ := stageRecord_kept t r; exact hcls) l s⟩

theorem rep_kept (code : Nat) (s : State) : (rep code s).rcd.kept = s.rcd.kept := by simp [Recorder.kept]

theorem stageCycle_kept (s : State) : (stageCycle s).rcd.kept = s.rcd.kept := by
  obtain ⟨hrcd, -⟩ := foldl_stageRecord_kept (sortRequests s.rcd.cycle) { s with rcd := { s.rcd with cycle := [] } }
  unfold stageCycle
  dsimp only
  split
  · exact (rep_kept _ _).trans hrcd
  · exact hrcd

/-- The end of a fabric cycle reports staging losses alone. -/
theorem stageCycle_cls {code : Nat} (h : code ≠ 0x4001) (h2 : code ≠ 0x402) (s : State) :
    tgetD (stageCycle s).flt.cls code 0 = tgetD s.flt.cls code 0 := by
  obtain ⟨-, hcls⟩ := foldl_stageRecord_kept (sortRequests s.rcd.cycle) { s with rcd := { s.rcd with cycle := [] } }
  unfold stageCycle
  dsimp only
  split
  · rw [rep_cls_other _ _ _ h h2, hcls]
  · rw [hcls]

theorem runFrom_kept (s : State) : (runFrom s).rcd.kept =
    (true, (s.rcd.staged.foldl Recorder.store s.rcd).perm, (s.rcd.staged.foldl Recorder.store s.rcd).circ) := rfl

theorem numbersChecked_kept (s : State) : (numbersChecked s).rcd.kept = (runFrom s).rcd.kept := by
  unfold numbersChecked lossReported
  split
  · exact rep_kept _ _
  · rfl

/-- Once started the recorder runs, with the records it kept behind the permanent area (R468, R529). -/
theorem startRecorder_kept {s : State} (hh : s.flt.held = []) (hl : s.flt.heldLost = 0) (cause : Nat) :
    (startRecorder cause s).rcd.kept =
      (true, (s.rcd.staged.foldl Recorder.store s.rcd).perm, (s.rcd.staged.foldl Recorder.store s.rcd).circ) := by
  rw [startRecorder_quiet hh hl, stageCycle_kept, ← runFrom_kept, ← numbersChecked_kept]
  rfl

theorem lossReported_reported (s : State) : Reported 0x4002 s (lossReported s) :=
  (rep_reported 0x4002 _ (by decide)).of_cls rfl

/-- Numbers that were assigned and never flushed are reported lost (R468). -/
theorem startRecorder_reports {s : State} (hh : s.flt.held = []) (hl : s.flt.heldLost = 0) (h : 0 < lostNumbers s) (cause : Nat) :
    Reported 0x4002 s (startRecorder cause s) := by
  rw [startRecorder_quiet hh hl]
  have hchecked : numbersChecked s = lossReported s := if_pos h
  refine (lossReported_reported s).then_cls ?_
  rw [stageCycle_cls (by decide) (by decide), hchecked]
  rfl

/-- A record that fits staging and that no operation waits for takes the next number (R461). -/
theorem stageRecord_fits {s : State} {r : RecReq} (h : s.rcd.staged.length < stagingCap) (hw : r.wait = none) :
    let u := stageRecord s r
    u.rcd.staged = s.rcd.staged ++ [⟨s.rcd.next, r⟩] ∧ u.rcd.next = s.rcd.next + 1 ∧ u.rcd.losing = s.rcd.losing := by
  have hr : { r with wait := none } = r := by rw [← hw]
  unfold stageRecord
  dsimp only
  rw [if_pos h, hw, hr]
  dsimp only
  split <;> exact ⟨rfl, rfl, rfl⟩

/-- One requested record that no operation waits for is staged with the next number (R461). -/
theorem stageCycle_single {s : State} {r : RecReq} (hc : s.rcd.cycle = []) (hs : s.rcd.staged = []) (hw : r.wait = none) :
    (stageCycle (requestRecord r s)).rcd.staged = [⟨s.rcd.next, r⟩] ∧ (stageCycle (requestRecord r s)).rcd.next = s.rcd.next + 1 := by
  have hsort : sortRequests (requestRecord r s).rcd.cycle = [r] := by
    show sortRequests (s.rcd.cycle ++ [r]) = [r]
    rw [hc]
    rfl
  obtain ⟨hstaged, hnext, hlosing⟩ := stageRecord_fits (s := { s with rcd := { s.rcd with cycle := [] } })
    (show s.rcd.staged.length < stagingCap by rw [hs]; decide) hw
  rw [show ({ s with rcd := { s.rcd with cycle := [] } } : State).rcd.staged = [] from hs] at hstaged
  have hone : stageCycle (requestRecord r s) = stageRecord { s with rcd := { s.rcd with cycle := [] } } r := by
    unfold stageCycle
    rw [hsort]
    refine if_neg ?_
    rw [List.foldl_cons, List.foldl_nil]
    show ¬ ((stageRecord { s with rcd := { s.rcd with cycle := [] } } r).rcd.losing && !s.rcd.losing) = true
    rw [hlosing]
    simp
  rw [hone]
  exact ⟨hstaged, hnext⟩

/-! ## REC_WRITE and REC_READ (R472 to R475) -/

/-- The record REC_WRITE asks for (R473). -/
def appRequest (r : Fin 64) (d : Desc) (s : State) : RecReq :=
  let R := s.ringAt r
  let origin := appOrigin r.val
  let rt := origin != 8 && R.owner == 16
  { kind := .app, rt := rt, origin := origin, task := if rt || origin == 8 then 0 else R.owner, code := d.paramA % 65536,
    data := readBuffer s d.addr d.length, wait := some (r.val, d.tag) }

theorem recWriteOp_requests {s : State} (h : s.rcd.staged.length + s.rcd.cycle.length < 3840) (r : Fin 64) (d : Desc) :
    recWriteOp r d s = requestRecord (appRequest r d s) s := if_pos h

/-- The refusal of an application record (R475). -/
def refuseApp (r : Fin 64) (d : Desc) (s : State) : State :=
  opDone r d.tag 0x80 0 0 { s with rcd := { s.rcd with appRefused := s.rcd.appRefused + 1 } }

/-- The refusal noted as reported in this tick (R476). -/
def noteRefused (s : State) : State := { s with rcd := { s.rcd with refusedTick := true } }

theorem recWriteOp_refuses {s : State} (h : 3840 ≤ s.rcd.staged.length + s.rcd.cycle.length) (r : Fin 64) (d : Desc) :
    recWriteOp r d s = if s.rcd.refusedTick then refuseApp r d s else rep 0x4005 (noteRefused (refuseApp r d s)) :=
  if_neg (Nat.not_lt.mpr h)

theorem sameBut_refuseApp (r : Fin 64) (d : Desc) (s : State) : SameBut [.rng, .rcd] s (refuseApp r d s) :=
  ((sameBut_rcd s _).mono (by simp)).then_opDone (by simp) r d.tag 0x80 0 0

theorem refuseApp_concluded {s : State} {r : Fin 64} {d : Desc} (h : { desc := d, stage := .running : RunOp } ∈ (s.ringAt r).ops) :
    Concluded (refuseApp r d s) r d 0x80 0 0 := opDone_after h rfl 0x80 0 0

/-- The records REC_READ wants (R474). -/
def wantedRecords (d : Desc) (s : State) : List Record :=
  (s.rcd.all.filter (fun r => d.paramB + 2 ^ 32 * d.paramC ≤ r.seq)).take (field d.paramA 0 7)

theorem recordsFrom_readable (d : Desc) (s : State) :
    recordsFrom s (d.paramB + 2 ^ 32 * d.paramC) (field d.paramA 0 7) [] = wantedRecords d s := by
  unfold recordsFrom wantedRecords
  simp

theorem recordsFrom_none {d : Desc} {s : State} (h : wantedRecords d s = []) (bad : List Nat) :
    recordsFrom s (d.paramB + 2 ^ 32 * d.paramC) (field d.paramA 0 7) bad = [] := List.map_eq_nil_iff.mpr h

theorem reportUnreadable_none {rs : List Record} (h : ∀ y ∈ rs, y.body.kind ≠ .unreadable) (s : State) : reportUnreadable rs s = s := by
  have hnone : rs.filter (fun r => r.body.kind == .unreadable) = [] := by
    rw [List.filter_eq_nil_iff]
    exact fun y hy => by simpa using h y hy
  unfold reportUnreadable
  rw [hnone, List.foldl_nil]

/-- Is the item REC_READ names bound to the recorder with the length asked for (R474)? -/
def readItemOk (d : Desc) (s : State) : Bool :=
  match inItem? s (field d.paramA 16 13) with
  | some c => c.src == .recorder && c.length == 64 * field d.paramA 0 7
  | none => false

theorem readItemOk_false {d : Desc} {s : State}
    (h : ∀ c, inItem? s (field d.paramA 16 13) = some c → c.src ≠ .recorder ∨ c.length ≠ 64 * field d.paramA 0 7) :
    readItemOk d s = false := by
  unfold readItemOk
  split
  next c hc =>
    have hbad := h c hc
    rcases hbad with hsrc | hlen
    · simp [hsrc]
    · simp [hlen]
  next => rfl

theorem recReadOp_wrongItem {s : State} {r : Fin 64} {d : Desc} (hr : r.val < 32) (h : readItemOk d s = false) (bad : List Nat) :
    recReadOp r bad d s = opDone r d.tag 0x82 0 0 s := by
  refine if_pos (?_ : (decide (r.val < 32) && !readItemOk d s) = true)
  simp [hr, h]

theorem recReadOp_none {s : State} {r : Fin 64} {d : Desc} (hr : 32 ≤ r.val) (h : wantedRecords d s = []) (bad : List Nat) :
    recReadOp r bad d s = opDone r d.tag 0x81 0 s.rcd.next s := by
  unfold recReadOp
  dsimp only
  rw [recordsFrom_none h, if_neg (by simp [hr])]

theorem recReadOp_reads {s : State} {r : Fin 64} {d : Desc} {x : Record} (hr : 32 ≤ r.val) (hx : (wantedRecords d s).head? = some x)
    (h : ∀ y ∈ wantedRecords d s, y.body.kind ≠ .unreadable) :
    recReadOp r [] d s = opDone r d.tag 0 (wantedRecords d s).length x.seq
      (writeBuffer d.addr (padTo (64 * field d.paramA 0 7) ((wantedRecords d s).flatMap Record.bytes)) s) := by
  unfold recReadOp
  dsimp only
  rw [recordsFrom_readable, if_neg (by simp [hr]), reportUnreadable_none h]
  obtain ⟨tl, htl⟩ := List.head?_eq_some_iff.mp hx
  rw [htl]
  dsimp only
  rw [if_neg (Nat.not_lt.mpr hr)]

end Sys2Proof.Machine

end

section

open Sys2Proof Sys2Proof.Machine

/-- Settles O5: flushes by the two forms of `beginFlush` and `endFlush`, records in NAND by `foldl_store_perm`. -/
theorem flushesWriteStagedRecords : Obligations.FlushesWriteStagedRecords := by
  unfold Obligations.FlushesWriteStagedRecords
  refine ⟨fun s ho => ?request, fun s hl hrun hpend hflush hst => ?begins, fun s hl hrun hpend hflush hst => ?nothing,
    fun s hl hflush hlosing hpend hroom => ?written, fun s hl hflush hlosing hpend => ?failed, fun s l ho => ?latch⟩
  case request =>
    exact ho.completes (f := flushRequest) rfl ⟨flushRequest_field s, rfl, flushRequest_staged s,
      ((sameBut_regPut s _ _ _ _).mono (by simp)).trans ((sameBut_rcd _ _).mono (by simp))⟩
  case begins =>
    refine hl.completes (f := fun s => onlyIf (s.rcd.running && s.rcd.flushPend && !s.rcd.flushing) beginFlush s) rfl ?_
    rw [onlyIf_true (by simp [hrun, hpend, hflush]), beginFlush_staged hst]
    exact ⟨rfl, rfl, rfl, rfl, flushBegun_field s, rfl, sameBut_flushBegun s⟩
  case nothing =>
    refine hl.completes (f := fun s => onlyIf (s.rcd.running && s.rcd.flushPend && !s.rcd.flushing) beginFlush s) rfl ?_
    rw [onlyIf_true (by simp [hrun, hpend, hflush]), beginFlush_empty hst]
    exact ⟨hflush, rfl, rfl, dropTrigger_field s, sameBut_dropTrigger s⟩
  case written =>
    refine hl.completes (f := fun s => onlyIf s.rcd.flushing (endFlush true) s) rfl ?_
    rw [onlyIf_true hflush, endFlush_written hlosing hpend]
    obtain ⟨hperm, hcirc, hnext⟩ := foldl_store_perm (l := s.rcd.staged.take s.rcd.flushCount) (d := s.rcd)
      (le_trans (Nat.add_le_add_left (List.length_take_le _ _) _) hroom)
    exact ⟨hperm, hcirc, rfl, rfl, hnext, sameBut_rcd s _⟩
  case failed =>
    refine hl.completes (f := fun s => onlyIf s.rcd.flushing (endFlush false) s) rfl ?_
    rw [onlyIf_true hflush, endFlush_failed hlosing]
    have hrep : Reported 0x4003 s (rep 0x4003 (flushGivenUp s)) := rep_after (by decide) rfl
    have hkeeps : (rep 0x4003 (flushGivenUp s)).rcd.staged = s.rcd.staged ∧ (rep 0x4003 (flushGivenUp s)).rcd.perm = s.rcd.perm ∧
        (rep 0x4003 (flushGivenUp s)).rcd.circ = s.rcd.circ ∧ (rep 0x4003 (flushGivenUp s)).rcd.nandErr = s.rcd.nandErr + 1 := by
      simp [flushGivenUp]
    obtain ⟨hstaged, hperm, hcirc, herr⟩ := hkeeps
    unfold nextFlush
    split
    · obtain ⟨hstaged', hperm', hcirc', herr'⟩ := beginFlush_rcd (rep 0x4003 (flushGivenUp s))
      exact ⟨hstaged'.trans hstaged, hperm'.trans hperm, hcirc'.trans hcirc, herr'.trans herr,
        hrep.then_cls (congrArg (fun f : FaultRep => tgetD f.cls 0x4003 0) (sameBut_beginFlush _ .flt (by simp)))⟩
    · exact ⟨hstaged, hperm, hcirc, herr, hrep⟩
  case latch =>
    refine ho.completes (f := fun s => s.modLane l (fun L => { L with latch := { L.latch with
      recNextHi := BitVec.ofNat 32 (s.rcd.next / 2 ^ 32) } })) rfl ⟨?_, latch_frame l _ s⟩
    rw [State.lane_modLane]
    exact BitVec.toNat_ofNat _ _

/-- Settles O6: the start by `startRecorder_quiet`, what staging leaves by `startRecorder_kept`, the START record by `stageCycle_single`. -/
theorem recorderStartsWithStartRecord : Obligations.RecorderStartsWithStartRecord := by
  unfold Obligations.RecorderStartsWithStartRecord
  have hstart : ∀ {s : State} {P : State → Prop}, LineRuns s → s.rcd.running = false → P (startRecorder s.pwr.cause.toNat s) →
      Completes .recorderStart s P := by
    intro s P hl hrun hp
    refine hl.completes (f := fun s => onlyIf (!s.rcd.running) (startRecorder s.pwr.cause.toNat) s) rfl ?_
    rwa [onlyIf_true (by simp [hrun])]
  refine ⟨fun s hl hrun hheld hlost hcyc hst hnext => hstart hl hrun ?startRecord, fun s hl hrun hheld hlost hcyc hst hnext => hstart hl hrun ?loss,
    fun s hl hrun hheld hlost hcyc hroom => hstart hl hrun ?kept⟩
  case startRecord =>
    have hkept := startRecorder_kept hheld hlost s.pwr.cause.toNat
    rw [hst] at hkept
    simp only [Recorder.kept, Prod.mk.injEq, List.foldl_nil] at hkept
    obtain ⟨hrunning, hperm, hcirc⟩ := hkept
    have hfew : ¬ 0 < lostNumbers s := by
      rw [lostNumbers_empty hst]
      exact Nat.not_lt.mpr (Nat.le_of_eq (Nat.sub_eq_zero_of_le hnext))
    have hchecked : numbersChecked s = runFrom s := if_neg hfew
    have hrunFrom : (runFrom s).rcd.cycle = [] ∧ (runFrom s).rcd.next = s.rcd.next := by
      unfold runFrom flushKept
      dsimp only
      rw [hst]
      exact ⟨hcyc, rfl⟩
    obtain ⟨hcycle, hnumber⟩ := hrunFrom
    obtain ⟨hstaged, hadv⟩ := stageCycle_single (r := startRecord s.pwr.cause.toNat s) hcycle rfl rfl
    rw [← hchecked, ← startRecorder_quiet hheld hlost, hchecked, hnumber] at hstaged hadv
    exact ⟨hrunning, hstaged, hadv, hperm, hcirc⟩
  case loss =>
    have hkept := startRecorder_kept hheld hlost s.pwr.cause.toNat
    refine ⟨congrArg Prod.fst hkept, startRecorder_reports hheld hlost ?_ _⟩
    rw [lostNumbers_empty hst]
    exact Nat.sub_pos_of_lt hnext
  case kept =>
    have hkept := startRecorder_kept hheld hlost s.pwr.cause.toNat
    simp only [Recorder.kept, Prod.mk.injEq] at hkept
    obtain ⟨hrunning, hperm, hcirc⟩ := hkept
    obtain ⟨hstored, hcirculating, -⟩ := foldl_store_perm (l := s.rcd.staged) (d := s.rcd) hroom
    exact ⟨hperm.trans hstored, hcirc.trans hcirculating, hrunning⟩

/-- Settles O7: REC_WRITE by `recWriteOp_requests` and `recWriteOp_refuses`, REC_READ by `recReadOp_reads`, `recReadOp_none` and
`recReadOp_wrongItem`. -/
theorem recorderRingOperations : Obligations.RecorderRingOperations := by
  unfold Obligations.RecorderRingOperations
  refine ⟨fun s r t d ho hd hroom => ?staged, fun s r t d ho hd hfull => ?refused, fun s r t d rs x ho hd hr hrs hx hgood => ?found,
    fun s r t d bad ho hd hr hnone => ?none, fun s r t d bad ho hd hr hitem => ?wrongItem⟩
  case staged =>
    refine ho.completes_runOp (f := recWriteOp r) rfl hd ?_
    rw [recWriteOp_requests hroom]
    exact ⟨⟨appRequest r d s, rfl, rfl, rfl, rfl, rfl, rfl⟩, sameBut_rcd s _⟩
  case refused =>
    obtain ⟨hrun, -, -⟩ := startedOp_mem hd
    refine ho.completes_runOp (f := recWriteOp r) rfl hd ?_
    rw [recWriteOp_refuses hfull]
    have hdone := refuseApp_concluded hrun
    have hbut := sameBut_refuseApp r d s
    split
    next ht =>
      exact ⟨hdone, rfl, rfl, fun hf => absurd hf (by simp [ht]), hbut.mono (by simp [reportParts])⟩
    next ht =>
      refine ⟨hdone.congr (by simp [noteRefused]), ?_, ?_, fun _ => rep_after (v := noteRefused (refuseApp r d s)) (by decide) rfl, ?_⟩
      · simp [noteRefused, refuseApp]
      · simp [noteRefused, refuseApp]
      · exact ((hbut.trans ((sameBut_rcd _ _).mono (by simp))).mono (by simp [reportParts])).then_rep (by simp [reportParts]) _
  case found =>
    obtain ⟨hrun, -, -⟩ := startedOp_mem hd
    subst hrs
    refine ho.completes_runOp (f := recReadOp r []) rfl hd ?_
    rw [recReadOp_reads hr hx hgood]
    exact ⟨opDone_after hrun rfl 0 _ _, rfl, ((sameBut_writeBuffer _ _ s).mono (by simp)).then_opDone (by simp) _ _ _ _ _⟩
  case none =>
    obtain ⟨hrun, -, -⟩ := startedOp_mem hd
    exact ho.completes_runOp (f := recReadOp r bad) rfl hd (recReadOp_none hr hnone bad ▸ opDone_alone hrun 0x81 0 _)
  case wrongItem =>
    obtain ⟨hrun, -, -⟩ := startedOp_mem hd
    exact ho.completes_runOp (f := recReadOp r bad) rfl hd (recReadOp_wrongItem hr (readItemOk_false hitem) bad ▸ opDone_alone hrun 0x82 0 0)

end

/-! # The supply and its hold-up (R519 to R523) -/

section

namespace Sys2Proof.Machine

theorem sameBut_raiseAll (b : Nat) (s : State) : SameBut [.irq] s (raiseAll b s) := by
  intro p hp
  cases p <;> simp_all [Part.same]

/-- A trigger of a flush waits (R466). -/
def askFlush (s : State) : State := { s with rcd := { s.rcd with flushPend := true } }

theorem sameBut_askFlush (s : State) : SameBut [.rcd] s (askFlush s) := sameBut_rcd s _

theorem sameBut_supplyReading (x y : Nat) (s : State) : SameBut [.pwr] s (supplyReading x y s) := sameBut_pwr s _

theorem report_after {code : Nat} {s v : State} (hc : code ≠ 0x402) (hv : v.flt = s.flt) (origin : Nat) (data : List Byte) :
    Reported code s (report code origin data v) := (report_reported code origin data v hc).of_flt hv

theorem rep_pwr (code : Nat) (s : State) : (rep code s).pwr = s.pwr := by simp

theorem report_pwr (code origin : Nat) (data : List Byte) (s : State) : (report code origin data s).pwr = s.pwr := by simp

/-! ## The power warning (R521) -/

/-- A warning's flag and count, with its minima begun. -/
def Power.warned (x y : Nat) (p : Power) : Power := { p with warn := true, warnVin := x, warnStore := y, warnCnt := p.warnCnt + 1 }

/-- The state with a power warning begun and raised in every lane. -/
def warningBegun (x y : Nat) (s : State) : State :=
  let s1 := supplyReading x y s
  raiseAll 2 { s1 with pwr := s1.pwr.warned x y }

theorem powerWarning_reads {x y : Nat} {s : State} (h : s.pwr.warn = true ∨ s.pwr.shutdown = true ∨ 1350 ≤ x) :
    powerWarning x y s = supplyReading x y s := if_pos h

theorem powerWarning_begins {x y : Nat} {s : State} (hw : s.pwr.warn = false) (hs : s.pwr.shutdown = false) (hx : x < 1350) :
    powerWarning x y s = askFlush (rep 0x4C01 (warningBegun x y s)) :=
  if_neg (by simp [hw, hs, warnLevel, hx])

theorem sameBut_warningBegun (x y : Nat) (s : State) : SameBut [.pwr, .irq] s (warningBegun x y s) :=
  (((sameBut_supplyReading x y s).trans (sameBut_pwr _ _)).mono (by simp)).trans ((sameBut_raiseAll 2 _).mono (by simp))

/-! ## Recovery (R522) -/

/-- The state with the warning cleared and its lowest V_IN kept. -/
def warningEnded (x y : Nat) (s : State) : State :=
  let s1 := supplyReading x y s
  { s1 with pwr := { s1.pwr with warn := false, lastMin := s1.pwr.warnVin } }

/-- Does a warning end at a reading (R522)? -/
def warningEnds (x y : Nat) (s : State) : Prop := s.pwr.warn = true ∧ s.pwr.shutdown = false ∧ 1600 ≤ x ∧ 2400 ≤ y

theorem warningEnds_iff (x y : Nat) (s : State) :
    (s.pwr.warn = true ∧ ¬ s.pwr.shutdown = true ∧ recoverLevel ≤ x ∧ shutdownLevel ≤ y) ↔ warningEnds x y s := by
  unfold warningEnds
  rw [Bool.not_eq_true]
  rfl

theorem powerRecovered_reads {x y : Nat} {s : State} (h : ¬ warningEnds x y s) (us : Nat) :
    powerRecovered x y us s = supplyReading x y s := if_neg (fun hends => h ((warningEnds_iff x y s).mp hends))

theorem powerRecovered_ends {x y : Nat} {s : State} (h : warningEnds x y s) (us : Nat) :
    powerRecovered x y us s = report 0x4C02 8 (recoveredData (supplyReading x y s).pwr us) (warningEnded x y s) :=
  if_pos ((warningEnds_iff x y s).mpr h)

/-! ## The shutdown (R523) -/

/-- The shutdown begun and counted, a running warning's minimum kept. -/
def Power.shutDown (p : Power) : Power :=
  { p with shutdown := true, failCnt := p.failCnt + 1, lastMin := if p.warn then p.warnVin else p.lastMin }

/-- The state with claim, enable, program and lanes off. -/
def outputsOff (s : State) : State := holdLanes (stopProgram (withdrawClaim s))

/-- The state of a shutdown before its report. -/
def shutdownBegun (s : State) : State := { outputsOff s with pwr := (outputsOff s).pwr.shutDown }

/-- A claim withdrawn takes role and enable off (R440). -/
theorem withdrawClaim_clasp {s : State} (h : s.cls.role ≠ .none) :
    (withdrawClaim s).cls.outEn = false ∧ (withdrawClaim s).cls.role = .withdrawn := by
  have hset : withdrawClaim s = setRole .withdrawn { s with cls := { s.cls with outEn := false } } := if_neg h
  rw [hset]
  by_cases hr : s.cls.role = .withdrawn
  · rw [show setRole .withdrawn { s with cls := { s.cls with outEn := false } } = _ from if_pos hr]
    exact ⟨rfl, hr⟩
  · obtain ⟨score, deduct, hcls⟩ := setRole_clasp (s := { s with cls := { s.cls with outEn := false } }) hr
    rw [hcls]
    exact ⟨rfl, rfl⟩

theorem outputsOff_program (s : State) : (outputsOff s).cyc.prog = .stopped := stopProgram_prog _

theorem outputsOff_clasp (s : State) : (outputsOff s).cls = (withdrawClaim s).cls := by simp [outputsOff]

theorem outputsOff_lane (s : State) (l : LaneId) : ((outputsOff s).lane l).state = .off := by
  unfold outputsOff holdLanes
  rw [State.lane_modLanes]

theorem outputsOff_cls {code : Nat} (h : otherClass code = true) (s : State) :
    tgetD (outputsOff s).flt.cls code 0 = tgetD s.flt.cls code 0 := by
  have hflt : (outputsOff s).flt = (withdrawClaim s).flt := by simp [outputsOff]
  rw [hflt, withdrawClaim_cls _ _ h]

theorem rep_laneState (code : Nat) (s : State) (l : LaneId) : ((rep code s).lane l).state = (s.lane l).state := by
  have hbody := (sameBut_rep code s).lane_body (by simp [reportParts]) l
  exact show ((rep code s).lane l).body.state = (s.lane l).body.state from congrArg Lane.state hbody

/-- The state of a shutdown reported, with its flush asked for. -/
def shutdownReported (s : State) : State := askFlush (rep 0x4C03 (shutdownBegun s))

theorem powerFail_begins {s : State} (h : s.pwr.shutdown = false) : powerFail s = shutdownReported s := if_neg (by simp [h])

theorem powerFail_runsOn {s : State} (h : s.pwr.shutdown = true) : powerFail s = s := if_pos h

theorem shutdownReported_pwr (s : State) : (shutdownReported s).pwr = s.pwr.shutDown := by
  have hoff : (outputsOff s).pwr = s.pwr := by simp [outputsOff]
  refine (rep_pwr 0x4C03 (shutdownBegun s)).trans ?_
  show (outputsOff s).pwr.shutDown = _
  rw [hoff]

theorem shutdownReported_clasp {s : State} (h : s.cls.role ≠ .none) :
    (shutdownReported s).cls.outEn = false ∧ (shutdownReported s).cls.role = .withdrawn := by
  have hcls : (shutdownReported s).cls = (withdrawClaim s).cls := (rep_clasp 0x4C03 _).trans (outputsOff_clasp s)
  rw [hcls]
  exact withdrawClaim_clasp h

theorem shutdownReported_program (s : State) : (shutdownReported s).cyc.prog = .stopped := by
  have hcyc : (shutdownReported s).cyc = (outputsOff s).cyc := (sameBut_rep 0x4C03 (shutdownBegun s)) .cyc (by simp [reportParts])
  rw [hcyc, outputsOff_program]

theorem shutdownReported_lane (s : State) (l : LaneId) : ((shutdownReported s).lane l).state = .off :=
  (rep_laneState 0x4C03 (shutdownBegun s) l).trans (outputsOff_lane s l)

theorem shutdownReported_reported (s : State) : Reported 0x4C03 s (shutdownReported s) :=
  (rep_reported 0x4C03 (shutdownBegun s) (by decide)).of_cls (outputsOff_cls (by decide) s)

theorem shutdownReported_kept (s : State) : (shutdownReported s).otp = s.otp ∧ (shutdownReported s).tim = s.tim ∧
    (shutdownReported s).regs = s.regs ∧ (shutdownReported s).trust = s.trust := by
  simp [shutdownReported, askFlush, shutdownBegun, outputsOff]

/-- The shutdown where V_STORE has fallen below its level (R523). -/
def failBelow (x y : Nat) (s : State) : State := onlyIf (decide (y < shutdownLevel)) powerFail (supplyReading x y s)

theorem failBelow_reads {x y : Nat} {s : State} (h : s.pwr.shutdown = true ∨ 2400 ≤ y) : failBelow x y s = supplyReading x y s := by
  rcases h with h | h
  · unfold failBelow onlyIf
    rw [powerFail_runsOn (s := supplyReading x y s) h, ite_self]
  · exact onlyIf_false (decide_eq_false (Nat.not_lt.mpr h))

theorem failBelow_begins {x y : Nat} {s : State} (h : s.pwr.shutdown = false) (hy : y < 2400) :
    failBelow x y s = shutdownReported (supplyReading x y s) :=
  (onlyIf_true (decide_eq_true hy)).trans (powerFail_begins h)

/-! ## Over-voltage (R519) -/

/-- The state with the input disconnected. -/
def disconnect (s : State) : State := { s with pwr := { s.pwr with ovp := true } }

/-- An over-voltage (R519). -/
def overVolted (s : State) : State := onlyIf (!s.pwr.ovp) (fun s => rep 0x4C04 (disconnect s)) s

theorem overVolted_disconnects {s : State} (h : s.pwr.ovp = false) : overVolted s = rep 0x4C04 (disconnect s) :=
  onlyIf_true (by rw [h]; rfl)

theorem overVolted_disconnected {s : State} (h : s.pwr.ovp = true) : overVolted s = s := onlyIf_false (by rw [h]; rfl)

end Sys2Proof.Machine

end

section

open Sys2Proof Sys2Proof.Machine

/-- Settles O44: warning, recovery and shutdown by the two outcomes of each event, the shutdown's effects by `outputsOff`. -/
theorem supplyWatch : Obligations.SupplyWatch := by
  unfold Obligations.SupplyWatch
  intro s vin vst hl p x y read onlyReads
  have hreads : (supplyReading x y s).pwr = read ∧ SameBut [.pwr] s (supplyReading x y s) := ⟨rfl, sameBut_supplyReading x y s⟩
  refine ⟨fun h => ?unwarned, fun hw hs hx => ?warned, fun us => ⟨fun h => ?goesOn, fun h => ?recovered⟩, fun h => ?noShutdown,
    fun hs hy => ?shutdown, fun h => ?disconnected, fun h => ?overVoltage⟩
  case unwarned => exact hl.completes (f := powerWarning x y) rfl (by rw [powerWarning_reads h]; exact hreads)
  case warned =>
    refine hl.completes (f := powerWarning x y) rfl ?_
    rw [powerWarning_begins hw hs hx]
    have hbut := (sameBut_warningBegun x y s).mono (qs := .pwr :: reportParts) (by simp [reportParts])
    exact ⟨rep_pwr 0x4C01 _, rfl, rep_after (v := warningBegun x y s) (by decide) rfl,
      (hbut.then_rep (by simp [reportParts]) 0x4C01).trans ((sameBut_askFlush _).mono (by simp [reportParts]))⟩
  case goesOn => exact hl.completes (f := powerRecovered x y us) rfl (by rw [powerRecovered_reads h]; exact hreads)
  case recovered =>
    refine hl.completes (f := powerRecovered x y us) rfl ?_
    rw [powerRecovered_ends h]
    refine ⟨?_, report_after (v := warningEnded x y s) (by decide) rfl _ _,
      (((sameBut_supplyReading x y s).trans (sameBut_pwr _ _)).mono (by simp)).trans ((sameBut_report _ _ _ _).mono (by simp [reportParts]))⟩
    rw [report_pwr]
    exact congrArg (fun m => { read with warn := false, lastMin := m }) (if_pos h.1)
  case noShutdown => exact hl.completes (f := failBelow x y) rfl (by rw [failBelow_reads h]; exact hreads)
  case shutdown =>
    refine hl.completes (f := failBelow x y) rfl ?_
    rw [failBelow_begins hs hy]
    obtain ⟨hotp, htim, hregs, htrust⟩ := shutdownReported_kept (supplyReading x y s)
    refine ⟨(shutdownReported_pwr _).trans ?_, fun hr => shutdownReported_clasp hr, shutdownReported_program _, shutdownReported_lane _, rfl,
      shutdownReported_reported (supplyReading x y s), hotp, htim, hregs, congrArg Trust.ucal htrust⟩
    refine congrArg (fun m => { read with shutdown := true, failCnt := p.failCnt + 1, lastMin := m }) ?_
    show (if p.warn then (if p.warn then min p.warnVin x else p.warnVin) else p.lastMin) = _
    split <;> rfl
  case disconnected => exact hl.completes_unchanged (f := overVolted) rfl (overVolted_disconnected h)
  case overVoltage =>
    refine hl.completes (f := overVolted) rfl ?_
    rw [overVolted_disconnects h]
    exact ⟨rep_pwr 0x4C04 _, rep_after (v := disconnect s) (by decide) rfl,
      ((sameBut_pwr s _).mono (by simp)).then_rep (by simp [reportParts]) _⟩

end

/-! # Health monitors, the voltage loop and ageing (R539 to R543) -/

section

namespace Sys2Proof.Machine

/-! ## SUP_HEALTH_READ (R543) -/

/-- Is an item bound to the health source with the length of the record (R543)? -/
def HealthFits (d : Desc) (c : InItemCfg) : Prop := c.src = .health ∧ c.length = 96 ∧ d.length = 96

theorem healthReadOp_unfit {s : State} {d : Desc} (h : ∀ c, inItem? s (field d.paramA 16 13) = some c → ¬ HealthFits d c) (r : Fin 64) :
    healthReadOp r d s = opDone r d.tag 0x83 0 0 s := by
  unfold healthReadOp
  dsimp only
  split
  next c hc => exact if_neg (h c hc)
  next => rfl

theorem healthReadOp_fits {s : State} {d : Desc} {c : InItemCfg} (hc : inItem? s (field d.paramA 16 13) = some c) (h : HealthFits d c)
    (r : Fin 64) : healthReadOp r d s = opDone r d.tag 0 96 0 (arrive (field d.paramA 16 13) ⟨true, 0, s.ts, healthBytes s⟩ s) := by
  unfold healthReadOp
  dsimp only
  rw [hc]
  exact if_pos h

/-! ## Rails (R539) -/

theorem modRail_self (r : Fin 14) (f : RailSt → RailSt) (s : State) : vget (modRail r f s).pwr.rail r = f (vget s.pwr.rail r) :=
  vget_vmod_self _ _ _

theorem modRail_other {r q : Fin 14} (h : q ≠ r) (f : RailSt → RailSt) (s : State) : vget (modRail r f s).pwr.rail q = vget s.pwr.rail q :=
  vget_vmod_other _ _ _ _ h

theorem sameBut_modRail (r : Fin 14) (f : RailSt → RailSt) (s : State) : SameBut [.pwr] s (modRail r f s) := sameBut_pwr s _

/-- Is a reading below the rail's window? -/
def railLow (s : State) (r : Fin 14) (v : Nat) : Bool := decide (v < (railWindow s r).1)

/-- Is a reading above the rail's window? -/
def railHigh (s : State) (r : Fin 14) (v : Nat) : Bool := decide ((railWindow s r).2 < v)

/-- The rail's reading with its marks (R539). -/
def railRead (r : Fin 14) (v : Nat) (s : State) : State :=
  modRail r (fun R => { R with value := v, low := railLow s r v, high := railHigh s r v }) s

/-- The rail's reading on another side of the window, counted. -/
def railCounted (r : Fin 14) (v : Nat) (s : State) : State := modRail r (fun R => { R with cnt := R.cnt + 1 }) (railRead r v s)

/-- Does a rail leave its window on a side it was not marked on (R539)? -/
def railLeaves (s : State) (r : Fin 14) (v : Nat) : Prop :=
  (railLow s r v = true ∨ railHigh s r v = true) ∧
    ((vget s.pwr.rail r).low ≠ railLow s r v ∨ (vget s.pwr.rail r).high ≠ railHigh s r v)

theorem railLeaves_iff (s : State) (r : Fin 14) (v : Nat) :
    ((v < (railWindow s r).1 ∨ (railWindow s r).2 < v) ∧
      ¬(((vget s.pwr.rail r).low = true) = (v < (railWindow s r).1) ∧ ((vget s.pwr.rail r).high = true) = ((railWindow s r).2 < v))) ↔
    railLeaves s r v := by
  have hmark : ∀ (b : Bool) (p : Prop) [Decidable p], ((b = true) = p) ↔ b = decide p := by
    intro b p _
    cases b <;> simp
  unfold railLeaves railLow railHigh
  rw [hmark, hmark, not_and_or, decide_eq_true_eq, decide_eq_true_eq]

theorem railOut_leaves {s : State} {r : Fin 14} {v : Nat} (h : railLeaves s r v) : railOut r v s = rep 0x4C06 (railCounted r v s) :=
  if_pos ((railLeaves_iff s r v).mpr h)

theorem railOut_stays {s : State} {r : Fin 14} {v : Nat} (h : ¬ railLeaves s r v) : railOut r v s = railRead r v s :=
  if_neg (fun hleaves => h ((railLeaves_iff s r v).mp hleaves))

/-! ## Temperatures (R540) -/

theorem modTemp_self (i : Fin 12) (f : TempSt → TempSt) (s : State) : vget (modTemp i f s).pwr.temp i = f (vget s.pwr.temp i) :=
  vget_vmod_self _ _ _

theorem modTemp_other {i q : Fin 12} (h : q ≠ i) (f : TempSt → TempSt) (s : State) : vget (modTemp i f s).pwr.temp q = vget s.pwr.temp q :=
  vget_vmod_other _ _ _ _ h

theorem sameBut_modTemp (i : Fin 12) (f : TempSt → TempSt) (s : State) : SameBut [.pwr] s (modTemp i f s) := sameBut_pwr s _

/-- A sensor after a reading: each flag cleared below its limit (R540). -/
def TempSt.read (s : State) (i : Fin 12) (v : Int) (t : TempSt) : TempSt :=
  { t with value := v, peak := some (max v (t.peak.getD v)), warn := t.warn && decide (warnLimit s i - 24 < v),
           hot := t.hot && decide (ratedLimit i - 24 < v) }

theorem tempReading_self (i : Fin 12) (v : Int) (s : State) : vget (tempReading i v s).pwr.temp i = (vget s.pwr.temp i).read s i v :=
  modTemp_self i _ s

theorem tempReading_other {i q : Fin 12} (h : q ≠ i) (v : Int) (s : State) : vget (tempReading i v s).pwr.temp q = vget s.pwr.temp q :=
  modTemp_other h _ s

theorem sameBut_tempReading (i : Fin 12) (v : Int) (s : State) : SameBut [.pwr] s (tempReading i v s) := sameBut_modTemp i _ s

/-- A mark kept down to 24 units below a limit is set at a reading above the limit exactly where it was set before. -/
theorem keptMark_above {a v : Int} {b : Bool} (h : a < v) : (b && decide (a - 24 < v)) = b := by
  rw [decide_eq_true (by omega), Bool.and_true]

/-- A reading followed by a mark that is new. -/
def tempMarked (i : Fin 12) (v : Int) (f : TempSt → TempSt) (s : State) : State := modTemp i f (tempReading i v s)

theorem tempMarked_self (i : Fin 12) (v : Int) (f : TempSt → TempSt) (s : State) :
    vget (tempMarked i v f s).pwr.temp i = f ((vget s.pwr.temp i).read s i v) :=
  (modTemp_self i f _).trans (congrArg f (tempReading_self i v s))

theorem tempMarked_other {i q : Fin 12} (h : q ≠ i) (v : Int) (f : TempSt → TempSt) (s : State) :
    vget (tempMarked i v f s).pwr.temp q = vget s.pwr.temp q := (modTemp_other h f _).trans (tempReading_other h v s)

theorem sameBut_tempMarked (i : Fin 12) (v : Int) (f : TempSt → TempSt) (s : State) : SameBut [.pwr] s (tempMarked i v f s) :=
  (sameBut_tempReading i v s).trans (sameBut_modTemp i f _)

theorem tempWarning_begins {s : State} {i : Fin 12} {v : Int} (h : warnLimit s i < v) (hw : (vget s.pwr.temp i).warn = false) :
    tempWarning i v s = rep 0x4C07 (tempMarked i v (fun t => { t with warn := true }) s) := by
  refine if_pos ⟨h, ?_⟩
  rw [tempReading_self]
  simp [TempSt.read, hw]

theorem tempWarning_kept {s : State} {i : Fin 12} {v : Int} (h : v ≤ warnLimit s i ∨ (vget s.pwr.temp i).warn = true) :
    tempWarning i v s = tempReading i v s := by
  refine if_neg ?_
  rintro ⟨hv, hnew⟩
  have hwarn : (vget s.pwr.temp i).warn = true := h.resolve_left (not_le.mpr hv)
  rw [tempReading_self] at hnew
  exact hnew ((keptMark_above hv).trans hwarn)

theorem overTemperature_begins {s : State} {i : Fin 12} {v : Int} (h : ratedLimit i < v) (hw : (vget s.pwr.temp i).hot = false) :
    overTemperature i v s = rep 0x4C08 (tempMarked i v (fun t => { t with hot := true }) s) := by
  refine if_pos ⟨h, ?_⟩
  rw [tempReading_self]
  simp [TempSt.read, hw]

theorem overTemperature_kept {s : State} {i : Fin 12} {v : Int} (h : v ≤ ratedLimit i ∨ (vget s.pwr.temp i).hot = true) :
    overTemperature i v s = tempReading i v s := by
  refine if_neg ?_
  rintro ⟨hv, hnew⟩
  have hhot : (vget s.pwr.temp i).hot = true := h.resolve_left (not_le.mpr hv)
  rw [tempReading_self] at hnew
  exact hnew ((keptMark_above hv).trans hhot)

/-! ## The voltage loop (R541) -/

theorem modAvs_self (l : LaneId) (f : AvsSt → AvsSt) (s : State) : vget (modAvs l f s).pwr.avs l = f (vget s.pwr.avs l) := vget_vmod_self _ _ _

theorem modAvs_other {l k : LaneId} (h : k ≠ l) (f : AvsSt → AvsSt) (s : State) : vget (modAvs l f s).pwr.avs k = vget s.pwr.avs k :=
  vget_vmod_other _ _ _ _ h

theorem sameBut_modAvs (l : LaneId) (f : AvsSt → AvsSt) (s : State) : SameBut [.pwr] s (modAvs l f s) := sameBut_pwr s _

/-- A loop at the end of its period: the smallest margin decides, and OFF has ended (R541). -/
def AvsSt.period (a : AvsSt) : AvsSt :=
  { a with margin := a.least.getD a.margin, least := none, state := if a.state = .off then .track else a.state }

/-- A loop after the first rule that holds (R541). -/
def AvsSt.stepped (a : AvsSt) (nom mn tgt : Nat) : AvsSt := avsRule nom mn tgt { a with margin := a.least.getD a.margin, least := none }

theorem period_eq (a : AvsSt) : (if ({ a with margin := a.least.getD a.margin, least := none } : AvsSt).state = .off then
      { ({ a with margin := a.least.getD a.margin, least := none } : AvsSt) with state := .track }
      else { a with margin := a.least.getD a.margin, least := none }) = a.period := by
  unfold AvsSt.period
  dsimp only
  split <;> rfl

/-- The rules in their order (R541). -/
theorem stepped_eq (a : AvsSt) (nom mn tgt : Nat) : a.stepped nom mn tgt =
    if a.period.margin < tgt then
      if a.period.vcore < 900 then { a.period with vcore := a.period.vcore + 5 }
      else if mn < a.period.freq then { a.period with freq := a.period.freq - 2, state := .freqReduced }
      else { a.period with state := .atLimit }
    else if tgt + 16 < a.period.margin ∧ a.period.freq < nom then
      { a.period with freq := a.period.freq + 2, state := if nom ≤ a.period.freq + 2 then .track else .freqReduced }
    else if tgt + 8 < a.period.margin ∧ a.period.freq = nom ∧ 700 < a.period.vcore then
      { a.period with vcore := a.period.vcore - 5, state := .track }
    else a.period := by
  unfold AvsSt.stepped avsRule
  dsimp only
  rw [← period_eq a]

/-- A step that reduces the frequency does not reach the limit (R541). -/
theorem stepped_reduced {a : AvsSt} {nom mn tgt : Nat} (h : (a.stepped nom mn tgt).freq < a.freq) : (a.stepped nom mn tgt).state ≠ .atLimit := by
  have hf : a.period.freq = a.freq := rfl
  rw [stepped_eq] at h ⊢
  rw [← hf] at h
  split at h
  · split at h
    · exact absurd h (lt_irrefl _)
    · split at h
      next hmin =>
        rw [if_pos ‹_›, if_neg ‹_›, if_pos hmin]
        exact AvsState.noConfusion
      next => exact absurd h (lt_irrefl _)
  · split at h
    · exact absurd h (by simp)
    · split at h <;> exact absurd h (lt_irrefl _)

theorem avsStep_off {s : State} {l : LaneId} (h : (s.lane l).state = .off) : avsStep l s = s := if_pos h

/-- The state with a loop stepped. -/
def loopStepped (l : LaneId) (s : State) : State :=
  modAvs l (fun _ => (vget s.pwr.avs l).stepped (avsCfg s l).1 (avsCfg s l).2.1 (avsCfg s l).2.2) s

theorem avsStep_on {s : State} {l : LaneId} (h : (s.lane l).state ≠ .off) :
    let a := vget s.pwr.avs l
    let c := a.stepped (avsCfg s l).1 (avsCfg s l).2.1 (avsCfg s l).2.2
    avsStep l s = if c.freq < a.freq then repLane 0x4C09 l (loopStepped l s)
      else if c.state = .atLimit ∧ a.state ≠ .atLimit then repLane 0x4C0A l (loopStepped l s) else loopStepped l s := if_neg h

theorem repLane_pwr (code : Nat) (l : LaneId) (s : State) : (repLane code l s).pwr = s.pwr := by simp

theorem repLane_after {code : Nat} {s v : State} (hc : code ≠ 0x402) (hv : v.flt = s.flt) (l : LaneId) : Reported code s (repLane code l v) :=
  (repLane_reported code l v hc).of_flt hv

/-- What a step of a running loop leaves (R541). -/
theorem avsStep_spec {s : State} {l : LaneId} (h : (s.lane l).state ≠ .off) :
    let a := vget s.pwr.avs l
    let c := a.stepped (avsCfg s l).1 (avsCfg s l).2.1 (avsCfg s l).2.2
    let u := avsStep l s
    vget u.pwr.avs l = c ∧ (∀ k, k ≠ l → vget u.pwr.avs k = vget s.pwr.avs k) ∧ u.pwr = { s.pwr with avs := u.pwr.avs } ∧
      SameBut (.pwr :: reportParts) s u ∧ (c.freq < a.freq → Reported 0x4C09 s u) ∧
      (c.state = .atLimit → a.state ≠ .atLimit → Reported 0x4C0A s u) ∧
      (a.freq ≤ c.freq → c.state ≠ .atLimit ∨ a.state = .atLimit → SameBut [.pwr] s u) := by
  have hself : vget (loopStepped l s).pwr.avs l = _ := modAvs_self l _ s
  have hother : ∀ k, k ≠ l → vget (loopStepped l s).pwr.avs k = vget s.pwr.avs k := fun k hk => modAvs_other hk _ s
  have hbut : SameBut [.pwr] s (loopStepped l s) := sameBut_modAvs l _ s
  have hall : SameBut (.pwr :: reportParts) s (loopStepped l s) := hbut.mono (by simp)
  have hrep : ∀ code, SameBut (.pwr :: reportParts) s (repLane code l (loopStepped l s)) :=
    fun code => hall.trans ((sameBut_report code _ _ _).mono (by simp [reportParts]))
  dsimp only
  rw [avsStep_on h]
  split
  next hf =>
    rw [repLane_pwr]
    exact ⟨hself, hother, rfl, hrep _, fun _ => repLane_after (v := loopStepped l s) (by decide) rfl l,
      fun hlim => absurd hlim (stepped_reduced hf), fun hle => absurd hf (Nat.not_lt.mpr hle)⟩
  next hf =>
    split
    next hlim =>
      obtain ⟨hat, hwas⟩ := hlim
      rw [repLane_pwr]
      exact ⟨hself, hother, rfl, hrep _, fun hlt => absurd hlt hf,
        fun _ _ => repLane_after (v := loopStepped l s) (by decide) rfl l, fun _ hno => absurd hat (hno.resolve_right hwas)⟩
    next hlim =>
      exact ⟨hself, hother, rfl, hall, fun hlt => absurd hlt hf, fun hat hwas => absurd ⟨hat, hwas⟩ hlim, fun _ _ => hbut⟩

/-! ## Ageing (R542) -/

/-- Reports of one class, made several times, count each (R563) and change nothing but what reports may. -/
theorem foldl_report_counts {code : Nat} (hc : code ≠ 0x402) (origin : Nat) (data : List Byte) (n : Nat) (s : State) :
    let u := (List.range n).foldl (fun s _ => report code origin data s) s
    tgetD u.flt.cls code 0 = tgetD s.flt.cls code 0 + BitVec.ofNat 16 n ∧ SameBut reportParts s u := by
  induction n with
  | zero => exact ⟨(BitVec.add_zero _).symm, SameBut.refl _ s⟩
  | succ n ih =>
    obtain ⟨hcls, hbut⟩ := ih
    rw [List.range_succ, List.foldl_append, List.foldl_cons, List.foldl_nil]
    refine ⟨?_, hbut.trans (sameBut_report _ _ _ _)⟩
    have hone := report_reported code origin data ((List.range n).foldl (fun s _ => report code origin data s) s) hc
    unfold Reported at hone
    rw [hone, hcls, BitVec.add_assoc, BitVec.ofNat_add]
    rfl

/-- The rises of 5 mV not yet reported (R542). -/
def AvsSt.newSteps (v0 now : Nat) (a : AvsSt) : Nat := (((now : Int) - v0 - a.ageStep) / 5).toNat

/-- The state with a loop's day recorded. -/
def dayRecorded (l : LaneId) (v0 now : Nat) (s : State) : State :=
  let a := vget s.pwr.avs l
  modAvs l (fun x => { x with ageMv := (now : Int) - v0, days := min 16383 (a.days + 1), ageStep := x.ageStep + 5 * a.newSteps v0 now }) s

theorem ageingStep_reports {s : State} {l : LaneId} {v0 : Nat} (h : (vget s.pwr.avs l).vInit = some v0) (now : Nat) :
    let a := vget s.pwr.avs l
    ageingStep l now s = (List.range (a.newSteps v0 now)).foldl (fun s _ => report 0x4C0B (10 + l.val)
      (leBytes 1 l.val ++ leBytes 1 (unsigned 8 ((now : Int) - v0)) ++ leBytes 2 (min 16383 (a.days + 1))) s) (dayRecorded l v0 now s) := by
  unfold ageingStep
  dsimp only
  rw [h]
  rfl

end Sys2Proof.Machine

end

section

open Sys2Proof Sys2Proof.Machine

/-- Settles O48: rails, temperatures and loops by the outcomes of each event, ageing by `foldl_report_counts`. -/
theorem healthMonitors : Obligations.HealthMonitors := by
  unfold Obligations.HealthMonitors
  intro s
  refine ⟨fun r tag d ho hd => ⟨fun h => ?unfit, fun c hc h => ?health⟩, fun r v hl => ?rail,
    fun i v hl => ⟨fun h hw => ?warns, fun h => ?warnKept, fun h hw => ?heats, fun h => ?heatKept⟩,
    fun l ho => ?loops, fun l now ho => ⟨fun h => ?unaged, fun v0 h => ?aged⟩⟩
  case unfit =>
    obtain ⟨hrun, -, -⟩ := startedOp_mem hd
    exact ho.completes_runOp (f := healthReadOp r) rfl hd (healthReadOp_unfit h r ▸ opDone_alone hrun 0x83 0 0)
  case health =>
    obtain ⟨hrun, -, -⟩ := startedOp_mem hd
    refine ho.completes_runOp (f := healthReadOp r) rfl hd ?_
    rw [healthReadOp_fits hc h r]
    have hbut := sameBut_arrive (field d.paramA 16 13) ⟨true, 0, s.ts, healthBytes s⟩ s
    refine ⟨opDone_after hrun (hbut .rng (by simp)) 0 96 0, (hbut.mono (by simp)).then_opDone (by simp) _ _ _ _ _,
      _, arrive_item hc _, rfl, rfl, ?_⟩
    rw [h.2.1]
  case rail =>
    refine hl.completes (f := railOut r v.toNat) rfl ?_
    by_cases h : railLeaves s r v.toNat
    · rw [railOut_leaves h]
      have hbut : SameBut [.pwr] s (railCounted r v.toNat s) := (sameBut_modRail r _ s).trans (sameBut_modRail r _ _)
      rw [rep_pwr]
      refine ⟨?_, fun q hq => (modRail_other hq _ _).trans (modRail_other hq _ s), rfl,
        fun _ => ⟨rep_after (v := railCounted r v.toNat s) (by decide) rfl, (hbut.mono (by simp)).then_rep (by simp [reportParts]) _⟩,
        fun hno => absurd h hno⟩
      refine (modRail_self r _ _).trans ((congrArg (fun R : RailSt => { R with cnt := R.cnt + 1 }) (modRail_self r _ s)).trans ?_)
      exact congrArg (fun c => ({ value := v.toNat, low := railLow s r v.toNat, high := railHigh s r v.toNat, cnt := c } : RailSt)) (if_pos h).symm
    · rw [railOut_stays h]
      refine ⟨?_, fun q hq => modRail_other hq _ s, rfl, fun hyes => absurd hyes h, fun _ => sameBut_modRail r _ s⟩
      refine (modRail_self r _ s).trans ?_
      exact congrArg (fun c => ({ value := v.toNat, low := railLow s r v.toNat, high := railHigh s r v.toNat, cnt := c } : RailSt)) (if_neg h).symm
  case warns =>
    refine hl.completes (f := tempWarning i v) rfl ?_
    rw [tempWarning_begins h hw]
    dsimp only
    rw [rep_pwr]
    exact ⟨⟨tempMarked_self i v _ s, fun q hq => tempMarked_other hq v _ s, rfl⟩, rep_after (v := tempMarked i v _ s) (by decide) rfl,
      ((sameBut_tempMarked i v _ s).mono (by simp)).then_rep (by simp [reportParts]) _⟩
  case warnKept =>
    refine hl.completes (f := tempWarning i v) rfl ?_
    rw [tempWarning_kept h]
    exact ⟨⟨tempReading_self i v s, fun q hq => tempReading_other hq v s, rfl⟩, sameBut_tempReading i v s⟩
  case heats =>
    refine hl.completes (f := overTemperature i v) rfl ?_
    rw [overTemperature_begins h hw]
    dsimp only
    rw [rep_pwr]
    exact ⟨⟨tempMarked_self i v _ s, fun q hq => tempMarked_other hq v _ s, rfl⟩, rep_after (v := tempMarked i v _ s) (by decide) rfl,
      ((sameBut_tempMarked i v _ s).mono (by simp)).then_rep (by simp [reportParts]) _⟩
  case heatKept =>
    refine hl.completes (f := overTemperature i v) rfl ?_
    rw [overTemperature_kept h]
    exact ⟨⟨tempReading_self i v s, fun q hq => tempReading_other hq v s, rfl⟩, sameBut_tempReading i v s⟩
  case loops =>
    intro a m b nom mn tgt next
    have hnext : a.stepped nom mn tgt = next := stepped_eq a nom mn tgt
    refine ⟨fun h => ho.completes_unchanged (f := avsStep l) rfl (avsStep_off h), fun h => ho.completes (f := avsStep l) rfl ?_⟩
    have hstep := avsStep_spec h
    rw [← hnext]
    exact hstep
  case unaged =>
    refine ho.completes_unchanged (f := ageingStep l now) rfl ?_
    unfold ageingStep
    dsimp only
    rw [h]
  case aged =>
    refine ho.completes (f := ageingStep l now) rfl ?_
    rw [ageingStep_reports h]
    obtain ⟨hcount, hbut⟩ := foldl_report_counts (code := 0x4C0B) (by decide) (10 + l.val)
      (leBytes 1 l.val ++ leBytes 1 (unsigned 8 ((now : Int) - v0)) ++ leBytes 2 (min 16383 ((vget s.pwr.avs l).days + 1)))
      ((vget s.pwr.avs l).newSteps v0 now) (dayRecorded l v0 now s)
    have hday : SameBut [.pwr] s (dayRecorded l v0 now s) := sameBut_modAvs l _ s
    have hpwr := hbut .pwr (by simp [reportParts])
    refine ⟨(congrArg (fun p : Power => vget p.avs l) hpwr).trans (modAvs_self l _ s),
      fun k hk => (congrArg (fun p : Power => vget p.avs k) hpwr).trans (modAvs_other hk _ s), ?_, hcount,
      (hday.mono (by simp)).trans (hbut.mono (by simp [reportParts])), fun hnone => ?_⟩
    · rw [hpwr]
      rfl
    · rw [show (vget s.pwr.avs l).newSteps v0 now = 0 from hnone]
      exact hday

end

/-! # Low-power states (R531 to R535) -/

section

namespace Sys2Proof.Machine

/-! ## SUP_STATE_REQ (R532, R533) -/

/-- Is keep-alive the state asked for? -/
def asksKeepAlive (d : Desc) : Bool := field d.paramA 0 2 == 2

theorem stateReqOp_enabled {s : State} (h : s.cls.outEn = true) (r : Fin 64) (d : Desc) : stateReqOp r d s = opDone r d.tag 0x80 0 0 s := if_pos h

theorem stateReqOp_sourceless {s : State} {d : Desc} (h : s.cls.outEn = false) (hw : wakeEnabled s (asksKeepAlive d) = false) (r : Fin 64) :
    stateReqOp r d s = opDone r d.tag 0x81 0 0 s :=
  (if_neg (ne_true_of_eq_false h)).trans (if_pos ((Bool.not_eq_true' _).mpr hw))

/-- The Locket alarm of a request. -/
def requestAlarm (d : Desc) (s : State) : Nat := if d.paramB = 0 then 0 else (s.pwr.locketSec.toNat + d.paramB) % 2 ^ 32

/-- The state with a request accepted for the tick 16 ticks ahead (R533). -/
def requestAccepted (d : Desc) (s : State) : State :=
  { s with pwr := { s.pwr with
    pstate := .entering, req := some ⟨asksKeepAlive d, s.tick + 16⟩, locketAlarm := BitVec.ofNat 32 (requestAlarm d s) } }

section

variable {s : State} {d : Desc} (h : s.cls.outEn = false) (hw : wakeEnabled s (asksKeepAlive d) = true)

include h hw

theorem stateReqOp_waiting (hr : s.pwr.req.isSome = true) (r : Fin 64) : stateReqOp r d s = opDone r d.tag 0x82 0 0 s :=
  ((if_neg (ne_true_of_eq_false h)).trans (if_neg (by rw [show wakeEnabled s (field d.paramA 0 2 == 2) = true from hw]; decide))).trans (if_pos hr)

theorem stateReqOp_accepts (hr : s.pwr.req = none) (r : Fin 64) :
    stateReqOp r d s = opDone r d.tag 0 (compactTick (s.tick + 16)) (requestAlarm d s) (requestAccepted d s) :=
  ((if_neg (ne_true_of_eq_false h)).trans (if_neg (by rw [show wakeEnabled s (field d.paramA 0 2 == 2) = true from hw]; decide))).trans
    (if_neg (by rw [hr]; decide))

end

/-! ## The entry (R529, R533, R534) -/

theorem lowPowerEntry_waits {s : State} (h : ∀ q, s.pwr.req = some q → s.tick < q.tick) : lowPowerEntry s = s := by
  unfold lowPowerEntry
  split
  next q hq => exact if_neg (Nat.not_le.mpr (h q hq))
  next => rfl

theorem lowPowerEntry_due {s : State} {q : PwrReq} (h : s.pwr.req = some q) (ht : q.tick ≤ s.tick) :
    lowPowerEntry s = if q.keepAlive then enterKeepAlive (quiesce s) else enterParked (quiesce s) := by
  unfold lowPowerEntry
  rw [h]
  exact if_pos ht

/-- What the entry of a low-power state leaves beside what it silences and clears (R529, R533). -/
theorem quiesce_kept (s : State) : (quiesce s).tim = s.tim ∧ (quiesce s).cfg = s.cfg ∧ (quiesce s).otp = s.otp ∧
    (quiesce s).pending = s.pending ∧ (quiesce s).regs = s.regs ∧ (quiesce s).pwr = s.pwr := by
  simp

theorem silence_node (cause : Nat) (s : State) : (silence cause s).stra.node = s.stra.node.silent cause := by
  rw [silence_eq, repStr_stra]
  rfl

theorem silence_kept (cause : Nat) (s : State) : (silence cause s).tim = s.tim ∧ (silence cause s).cfg = s.cfg ∧
    (silence cause s).otp = s.otp ∧ (silence cause s).pending = s.pending ∧ (silence cause s).regs = s.regs ∧
    (silence cause s).pwr = s.pwr := by
  simp

/-- What Parked keeps of the state it is entered from, and what it clears (R529, R534). -/
theorem enterParked_spec (s : State) : let u := enterParked s
    (u.pwr.pstate = .parked ∧ u.pwr.held = false ∧ u.pwr.req = none) ∧ u.tim = s.tim ∧ u.cfg = s.cfg ∧ u.otp = s.otp ∧ u.pending = s.pending ∧
      u.regs = parkedRegs s ∧ u.stra.node = s.stra.node.silent 5 ∧ (u.mem = [] ∧ u.rng = State.reset.rng ∧ u.col = State.reset.col ∧
      u.rcd.staged = []) ∧ u.pwr.locketSec = s.pwr.locketSec := by
  obtain ⟨htim, hcfg, hotp, hpending, hregs, hpwr⟩ := silence_kept 5 s
  refine ⟨⟨rfl, rfl, rfl⟩, htim, hcfg, hotp, hpending, ?_, silence_node 5 s, ⟨rfl, rfl, rfl, rfl⟩, ?_⟩
  · show parkedRegs (silence 5 s) = _
    unfold parkedRegs
    rw [hregs]
  · show (silence 5 s).pwr.locketSec = _
    rw [hpwr]

/-- What keep-alive keeps of the state it is entered from (R529, R533). -/
theorem enterKeepAlive_spec (s : State) : let u := enterKeepAlive s
    u.pwr.pstate = .keepAlive ∧ u.pwr.held = true ∧ u.pwr.req = none ∧ u.pwr.locketWake = BitVec.ofNat 5 (wakeCfg s 0 5) ∧
      u.pwr.locketSec = s.pwr.locketSec ∧ u.pwr.locketAlarm = s.pwr.locketAlarm ∧ u.otp = s.otp ∧ u.pending = s.pending :=
  ⟨rfl, rfl, rfl, rfl, rfl, rfl, rfl, rfl⟩

theorem wakeCfg_congr {s u : State} (h : u.regs = s.regs) (lo w : Nat) : wakeCfg u lo w = wakeCfg s lo w := regField_congr h

/-- Keep-alive leaves the reset state but for what every reset keeps (R529). -/
theorem enterKeepAlive_cleared (s : State) :
    SameBut [.otp, .rcd, .lanes, .vot, .mot, .cls, .pwr, .trust, .draws, .pending] State.reset (enterKeepAlive s) := by
  intro p hp
  cases p with
  | irq =>
    intro l
    show ((s.lanes.map (fun L => ({ ({} : Lane) with mram := L.mram } : Lane))).get l).irqPend = _
    simp [Vector.get, State.reset, State.lane, vget]
  | otp | rcd | lanes | vot | mot | cls | pwr | trust | draws | pending => exact absurd (by simp) hp
  | _ => rfl

/-! ## The wake (R526, R535) -/

theorem wake_awake {s : State} (h : s.pwr.pstate = .operational ∨ s.pwr.pstate = .entering) (w : WakeSrc) (n : Nat) : wake w n s = s := by
  unfold wake
  rcases h with h | h <;> rw [h]

theorem wake_parked {s : State} (h : s.pwr.pstate = .parked) (w : WakeSrc) (n : Nat) :
    wake w n s = if wakesParked s w then wakeParked w s else s := by
  unfold wake
  rw [h]

theorem wake_keepAlive {s : State} (h : s.pwr.pstate = .keepAlive) (w : WakeSrc) (n : Nat) :
    wake w n s = if wakesKeepAlive (locketElapse n s.pwr) w then wakeKeepAlive w { s with pwr := locketElapse n s.pwr }
      else { s with pwr := locketElapse n s.pwr } := by
  unfold wake
  rw [h]

/-- The supply after a wake (R526, R535). -/
def Power.woken (code : Nat) (w : WakeSrc) (p : Power) : Power :=
  { p with pstate := .operational, wakeSrc := BitVec.ofNat 3 w.code, wakeCnt := p.wakeCnt + 1, cause := BitVec.ofNat 16 (code + 256 * w.code) }

theorem wakeKeepAlive_pwr (w : WakeSrc) (s : State) : (wakeKeepAlive w s).pwr = s.pwr.woken 8 w := rep_pwr 0x4C10 _

theorem noteWake_pwr (code : Nat) (w : WakeSrc) (s : State) : (noteWake code w s).pwr = { s.pwr with
    wakeSrc := BitVec.ofNat 3 w.code, wakeCnt := s.pwr.wakeCnt + 1, cause := BitVec.ofNat 16 (code + 256 * w.code) } := rep_pwr 0x4C10 _

/-- A wake from Parked changes of the supply what it notes, and the voltage loops that load their settings (R535, R541). -/
theorem wakeParked_pwr (w : WakeSrc) (s : State) : ∃ avs, (wakeParked w s).pwr = { s.pwr.woken 9 w with avs := avs } := by
  unfold wakeParked
  dsimp only
  obtain ⟨avs, hpwr, -⟩ := loadActive_loops (noteWake 9 w { s with
    stra := { s.stra with tx := [], binds := [] }, cfg := {},
    flt := { ({} : FaultRep) with held := s.flt.held, heldLost := s.flt.heldLost },
    cross := { ({} : Cross) with dom := Vector.replicate 16 { clkOk := true } }, pwr := { s.pwr with pstate := .operational } })
  rw [noteWake_pwr] at hpwr
  exact ⟨avs, hpwr⟩

theorem wakeParked_kept (w : WakeSrc) (s : State) : (wakeParked w s).otp = s.otp ∧ (wakeParked w s).tim = s.tim ∧
    (wakeParked w s).pending = s.pending ∧ (wakeParked w s).regs = s.regs := by
  simp

theorem wakeKeepAlive_kept (w : WakeSrc) (s : State) : (wakeKeepAlive w s).otp = s.otp ∧ (wakeKeepAlive w s).tim = s.tim ∧
    (wakeKeepAlive w s).pending = s.pending ∧ (wakeKeepAlive w s).regs = s.regs := by
  simp

theorem wakeKeepAlive_reported (w : WakeSrc) (s : State) : Reported 0x4C10 s (wakeKeepAlive w s) :=
  (rep_reported 0x4C10 _ (by decide)).of_cls rfl

theorem sameBut_wakeKeepAlive (w : WakeSrc) (s : State) : SameBut (.pwr :: reportParts) s (wakeKeepAlive w s) :=
  (((sameBut_pwr s _).trans (sameBut_pwr _ _)).mono (by simp)).then_rep (by simp [reportParts]) 0x4C10

/-- The source as SYS_RST_CAUSE and PWR_WAKE show it (R535, R545). -/
theorem wakeCode_cause (w : WakeSrc) (c : Nat) : BitVec.ofNat 16 (c + 256 * w.code) = BitVec.ofNat 16 c + 256 * BitVec.ofNat 16 w.code := by
  rw [BitVec.ofNat_add, BitVec.ofNat_mul]
  rfl

theorem wakeCode_src (w : WakeSrc) : BitVec.ofNat 3 w.code = (BitVec.ofNat 16 w.code).setWidth 3 := by
  cases w <;> rfl

end Sys2Proof.Machine

end

section

open Sys2Proof Sys2Proof.Machine

/-- Settles O47: requests by the four outcomes of `stateReqOp`, entries by `lowPowerEntry_due`, wakes by `wakeParked_pwr` and
`wakeKeepAlive_pwr`. -/
theorem lowPowerStates : Obligations.LowPowerStates := by
  unfold Obligations.LowPowerStates
  intro s
  refine ⟨fun r tag d ho hd => ?request, fun ho hwait => ?waits, fun q ho hq ht hk => ?parked, fun q ho hq ht hk => ?keepAlive, fun w n => ?wake⟩
  case request =>
    obtain ⟨hrun, -, -⟩ := startedOp_mem hd
    have hstep := fun {P} => ho.completes_runOp (f := stateReqOp r) (i := .supStateReq r tag) (P := P) rfl hd
    refine ⟨fun h => hstep (stateReqOp_enabled h r d ▸ opDone_alone hrun 0x80 0 0),
      fun h hw => hstep (stateReqOp_sourceless h hw r ▸ opDone_alone hrun 0x81 0 0),
      fun h hw hreq => hstep (stateReqOp_waiting h hw hreq r ▸ opDone_alone hrun 0x82 0 0), fun h hw hreq => hstep ?_⟩
    rw [stateReqOp_accepts h hw hreq]
    exact ⟨opDone_after hrun rfl 0 _ _, rfl, ((sameBut_pwr s _).mono (by simp)).then_opDone (by simp) _ _ _ _ _⟩
  case waits => exact ho.completes_unchanged (f := lowPowerEntry) rfl (lowPowerEntry_waits hwait)
  case parked =>
    refine ho.completes (f := lowPowerEntry) rfl ?_
    rw [lowPowerEntry_due hq ht, if_neg (ne_true_of_eq_false hk)]
    obtain ⟨htim, hcfg, hotp, hpending, hregs, hpwr⟩ := quiesce_kept s
    obtain ⟨⟨hstate, hheld, hreq⟩, htim', hcfg', hotp', hpending', hregs', hnode, ⟨hmem, hrng, hcol, hstaged⟩, hsec⟩ := enterParked_spec (quiesce s)
    refine ⟨hstate, hheld, hreq, htim'.trans htim, hcfg'.trans hcfg, hotp'.trans hotp, hpending'.trans hpending, hregs'.trans ?_,
      congrArg Node.nstate hnode, congrArg Node.silCause hnode, hmem, hrng, hcol, hstaged, hsec.trans (congrArg Power.locketSec hpwr)⟩
    unfold parkedRegs
    rw [hregs]
  case keepAlive =>
    refine ho.completes (f := lowPowerEntry) rfl ?_
    rw [lowPowerEntry_due hq ht, if_pos hk]
    obtain ⟨-, -, hotp, hpending, hregs, hpwr⟩ := quiesce_kept s
    obtain ⟨hstate, hheld, hreq, hwake, hsec, halarm, hotp', hpending'⟩ := enterKeepAlive_spec (quiesce s)
    exact ⟨hstate, hheld, hreq, hwake.trans (congrArg (BitVec.ofNat 5) (wakeCfg_congr hregs 0 5)), hsec.trans (congrArg Power.locketSec hpwr),
      halarm.trans (congrArg Power.locketAlarm hpwr), hotp'.trans hotp, hpending'.trans hpending, enterKeepAlive_cleared (quiesce s)⟩
  case wake =>
    have hstep := fun {P} => completes_any (f := wake w n) (i := .wake w n) (s := s) (P := P) rfl
    refine ⟨fun h => hstep (wake_awake h w n), fun h hw => hstep ?asleep, fun h hw => hstep ?fromParked, fun h hw => hstep ?counted,
      fun h hw => hstep ?fromKeepAlive⟩
    case asleep => rw [wake_parked h, if_neg (ne_true_of_eq_false hw)]
    case fromParked =>
      rw [wake_parked h, if_pos hw]
      obtain ⟨avs, hpwr⟩ := wakeParked_pwr w s
      obtain ⟨hotp, htim, hpending, hregs⟩ := wakeParked_kept w s
      exact ⟨⟨congrArg Power.pstate hpwr, congrArg Power.wakeCnt hpwr, (congrArg Power.wakeSrc hpwr).trans (wakeCode_src w),
        (congrArg Power.cause hpwr).trans (wakeCode_cause w 9), hotp, htim, hpending, hregs⟩, (congrArg Power.held hpwr).trans rfl,
        (congrArg Power.locketSec hpwr).trans rfl⟩
    case counted =>
      rw [wake_keepAlive h, if_neg]
      · rfl
      · exact ne_true_of_eq_false hw
    case fromKeepAlive =>
      rw [wake_keepAlive h, if_pos]
      · have hpwr := wakeKeepAlive_pwr w { s with pwr := locketElapse n s.pwr }
        obtain ⟨hotp, htim, hpending, hregs⟩ := wakeKeepAlive_kept w { s with pwr := locketElapse n s.pwr }
        exact ⟨⟨congrArg Power.pstate hpwr, congrArg Power.wakeCnt hpwr, (congrArg Power.wakeSrc hpwr).trans (wakeCode_src w),
          (congrArg Power.cause hpwr).trans (wakeCode_cause w 8), hotp, htim, hpending, hregs⟩, (congrArg Power.held hpwr).trans rfl,
          (congrArg Power.locketSec hpwr).trans rfl, wakeKeepAlive_reported w _, ((sameBut_pwr s _).mono (by simp)).trans (sameBut_wakeKeepAlive w _)⟩
      · exact hw

end

/-! # Clasp: the frame, the pair link and roles (R436 to R455) -/

section

namespace Sys2Proof.Machine

/-! ## Changes of role (R443, R444) -/

/-- A module has entered a role: the change is counted and reported once. -/
def Becomes (s : State) (r : ClsRole) (u : State) : Prop := u.cls.role = r ∧ u.cls.roleCnt = s.cls.roleCnt + 1 ∧ Reported 0x3C01 s u

/-- What a change of role does not write of Clasp it leaves. -/
theorem setRole_keeps {β : Type} (p : Clasp → β) (hp : ∀ C r x d, p ((Clasp.enterRole C r).withScore x d) = p C) (r : ClsRole) (s : State) :
    p (setRole r s).cls = p s.cls := by
  by_cases h : s.cls.role = r
  · rw [show setRole r s = s from if_pos h]
  · obtain ⟨x, d, hcls⟩ := setRole_clasp h
    rw [hcls, hp]

/-- A role entered from another, from a state that counts and reports as `s` does. -/
theorem setRole_becomes {s v : State} {r : ClsRole} (h : v.cls.role ≠ r) (hcnt : v.cls.roleCnt = s.cls.roleCnt)
    (hcls : tgetD v.flt.cls 0x3C01 0 = tgetD s.flt.cls 0x3C01 0) : Becomes s r (setRole r v) := by
  obtain ⟨x, d, hrole⟩ := setRole_clasp h
  have hset : setRole r v = computeHealth (rep 0x3C01 (raiseAll 3 { v with cls := v.cls.enterRole r })) := if_neg h
  have hrep : Reported 0x3C01 v (setRole r v) := by
    rw [hset]
    exact (rep_reported 0x3C01 _ (by decide)).of_cls rfl
  refine ⟨?_, ?_, hrep.of_cls hcls⟩ <;> rw [hrole]
  · rfl
  · exact congrArg (· + 1) hcnt

theorem Becomes.then_rep {s u : State} {r : ClsRole} (h : Becomes s r u) {code : Nat} (hc : code ≠ 0x3C01) : Becomes s r (rep code u) := by
  obtain ⟨hrole, hcnt, hrep⟩ := h
  refine ⟨?_, ?_, hrep.then_cls (rep_cls_other code 0x3C01 u hc.symm (by decide))⟩ <;> rw [rep_clasp]
  · exact hrole
  · exact hcnt

/-- Clasp as a checkpoint attempt begins, its running lanes noted (R443, R453). -/
def Clasp.beginJoin (C : Clasp) (live : BitVec 3) : Clasp :=
  { C with outEn := false, yielding := false, phase := 1, round := 1, joined := 0, final := [], started := [], joinLive := live }

/-- The state in which a module takes the role JOIN. -/
def joinBegun (s : State) : State := { stopProgram s with cls := s.cls.beginJoin (runningMask (stopProgram s)) }

theorem enterJoin_eq (s : State) : enterJoin s = setRole .join (joinBegun s) := by
  have hcls : (stopProgram s).cls = s.cls := by simp
  unfold enterJoin joinBegun Clasp.beginJoin
  dsimp only
  rw [hcls]

/-- What beginning a checkpoint attempt does not write of Clasp it leaves. -/
theorem enterJoin_keeps {β : Type} (p : Clasp → β) (hp : ∀ C r x d, p ((Clasp.enterRole C r).withScore x d) = p C) (s : State) :
    p (enterJoin s).cls = p (s.cls.beginJoin (runningMask (stopProgram s))) := by
  rw [enterJoin_eq, setRole_keeps p hp]
  rfl

theorem enterJoin_becomes {s v : State} (h : v.cls.role ≠ .join) (hcnt : v.cls.roleCnt = s.cls.roleCnt)
    (hcls : tgetD v.flt.cls 0x3C01 0 = tgetD s.flt.cls 0x3C01 0) : Becomes s .join (enterJoin v) := by
  have hflt : (stopProgram v).flt = v.flt := by simp
  rw [enterJoin_eq]
  refine setRole_becomes h hcnt ?_
  show tgetD (stopProgram v).flt.cls 0x3C01 0 = _
  rw [hflt, hcls]

theorem enterJoin_program (s : State) : (enterJoin s).cyc.prog = .stopped := by
  have hcyc : (enterJoin s).cyc = (stopProgram s).cyc := by simp [enterJoin]
  rw [hcyc, stopProgram_prog]

/-! ## The frame (R438 to R443) -/

/-- What the decision of a frame leaves: the claim word, the decision, the enable, its tick and the yield. -/
def Clasp.decision (C : Clasp) : BitVec 16 × Bool × Bool × BitVec 32 × Bool := (C.own, C.won, C.outEn, C.frameTick, C.yielding)

theorem setRole_decision (r : ClsRole) (s : State) : (setRole r s).cls.decision = s.cls.decision := setRole_keeps _ (fun _ _ _ _ => rfl) r s

theorem enterJoin_decision (s : State) : (enterJoin s).cls.decision = (s.cls.own, s.cls.won, false, s.cls.frameTick, false) :=
  enterJoin_keeps Clasp.decision (fun _ _ _ _ => rfl) s

theorem winFrame_decision (s : State) : (winFrame s).cls.decision = (s.cls.own, s.cls.won, true, s.cls.frameTick, s.cls.yielding) := by
  unfold winFrame
  dsimp only
  split
  · exact setRole_decision _ _
  · exact setRole_decision _ _
  all_goals rfl

theorem loseFrame_decision {s : State} (h : s.cls.yielding = false) :
    (loseFrame s).cls.decision = (s.cls.own, false, false, s.cls.frameTick, false) := by
  unfold loseFrame
  dsimp only
  split
  · exact enterJoin_decision _
  · refine (setRole_decision _ _).trans ?_
    exact congrArg (fun y => (s.cls.own, false, false, s.cls.frameTick, y)) h
  all_goals exact congrArg (fun y => (s.cls.own, false, false, s.cls.frameTick, y)) h

/-- The state of a module that does not claim after a frame: its enable is off. -/
def enableOff (s : State) : State := { s with cls := { s.cls with outEn := false } }

theorem joinClaimer_decision {s : State} (h : s.cls.yielding = false) (n : Nat) :
    (joinClaimer n (enableOff s)).cls.decision = (s.cls.own, s.cls.won, false, s.cls.frameTick, false) := by
  unfold joinClaimer
  split
  · exact enterJoin_decision _
  · exact congrArg (fun y => (s.cls.own, s.cls.won, false, s.cls.frameTick, y)) h

section

variable {s v : State} (hcnt : v.cls.roleCnt = s.cls.roleCnt) (hcls : tgetD v.flt.cls 0x3C01 0 = tgetD s.flt.cls 0x3C01 0)

include hcnt hcls

/-- A won frame makes a contender, and a module in STANDBY, the active one (R443). -/
theorem winFrame_becomes (h : v.cls.role = .contend ∨ v.cls.role = .standby) : Becomes s .active (winFrame v) := by
  unfold winFrame
  dsimp only
  rcases h with h | h <;> rw [h] <;> exact setRole_becomes (by simp) hcnt hcls

theorem loseFrame_standby (h : v.cls.role = .active) : Becomes s .standby (loseFrame v) := by
  unfold loseFrame
  dsimp only
  rw [h]
  exact setRole_becomes (by simp) hcnt hcls

theorem loseFrame_join (h : v.cls.role = .contend) : Becomes s .join (loseFrame v) ∧ (loseFrame v).cyc.prog = .stopped := by
  unfold loseFrame
  dsimp only
  rw [h]
  exact ⟨enterJoin_becomes (by simp) hcnt hcls, enterJoin_program _⟩

end

theorem winFrame_stays {s : State} (h : s.cls.role = .active) : (winFrame s).cls.role = .active ∧ (winFrame s).cls.roleCnt = s.cls.roleCnt := by
  unfold winFrame
  dsimp only
  rw [h]
  exact ⟨rfl, rfl⟩

theorem loseFrame_stays {s : State} (h : s.cls.role = .standby) :
    (loseFrame s).cls.role = .standby ∧ (loseFrame s).cls.roleCnt = s.cls.roleCnt := by
  unfold loseFrame
  dsimp only
  rw [h]
  exact ⟨rfl, rfl⟩

/-- The claim word a frame carries to a module (R438). -/
def frameWinner (a b : LineRead) (s : State) : BitVec 16 :=
  match [a, b].find? (fun r => !r.failed (claiming s)) with
  | some r => if r.start then r.claim else 0
  | none => s.cls.winner

/-- Does the module win the frame (R439)? -/
def winsFrame (a b : LineRead) (s : State) : Bool := frameWon (claiming s) (claimWord s) [a, b]

/-- The state with a frame read and decided. -/
def frameRead (a b : LineRead) (s : State) : State :=
  let claims := claiming s
  let split := linesDisagree claims (claimWord s) [a, b]
  { s with cls := { s.cls with
    own := claimWord s, winner := frameWinner a b s, won := winsFrame a b s, frameTick := BitVec.ofNat 32 (compactTick s.tick),
    lineOk := BitVec.ofNat 2 (bit (!a.failed claims) + 2 * bit (!b.failed claims)),
    lineErr := if [a, b].any (fun r => r.failed claims) || split then s.cls.lineErr + 1 else s.cls.lineErr, yielding := false,
    partnerWon := if !winsFrame a b s && frameWinner a b s != 0 then some s.tim.now else s.cls.partnerWon } }

/-- The state with a frame read, decided and its lines reported. -/
def frameNoted (a b : LineRead) (s : State) : State :=
  let claims := claiming s
  let s2 := reportLine claims 1 b (reportLine claims 0 a (frameRead a b s))
  if linesDisagree claims (claimWord s) [a, b] then rep 0x3C03 s2 else s2

theorem claspFrame_eq (a b : LineRead) (s : State) : claspFrame a b s =
    if winsFrame a b s then winFrame (frameNoted a b s)
    else if claiming s then loseFrame (frameNoted a b s)
    else joinClaimer (frameWinner a b s).toNat (enableOff (frameNoted a b s)) := rfl

/-- What the reports of a frame's lines leave: Clasp's decision and role, and the count of role changes reported. -/
def State.frameView (s : State) : (BitVec 16 × Bool × Bool × BitVec 32 × Bool) × ClsRole × BitVec 16 × BitVec 16 :=
  (s.cls.decision, s.cls.role, s.cls.roleCnt, tgetD s.flt.cls 0x3C01 0)

theorem rep_frameView {code : Nat} (h : code ≠ 0x3C01) (s : State) : (rep code s).frameView = s.frameView := by
  unfold State.frameView
  rw [rep_clasp, rep_cls_other code 0x3C01 s h.symm (by decide)]

/-- The state with a failed line reported at this tick. -/
def lineNoted (i : Fin 2) (s : State) : State := { s with cls := { s.cls with lineTick := vset s.cls.lineTick i (some s.tick) } }

theorem reportLine_frameView (claims : Bool) (i : Fin 2) (r : LineRead) (s : State) : (reportLine claims i r s).frameView = s.frameView := by
  have hrep : (rep 0x3C02 (lineNoted i s)).frameView = s.frameView := rep_frameView (by decide) _
  unfold reportLine
  dsimp only
  split <;> split
  · exact hrep
  · rfl
  · exact hrep
  · rfl

theorem frameNoted_frameView (a b : LineRead) (s : State) : (frameNoted a b s).frameView = (frameRead a b s).frameView := by
  unfold frameNoted
  dsimp only
  split
  · rw [rep_frameView (by decide), reportLine_frameView, reportLine_frameView]
  · rw [reportLine_frameView, reportLine_frameView]

/-- The frame read, decided and reported leaves the module's role and its counts, and shows the decision (R438, R439). -/
theorem frameNoted_spec (a b : LineRead) (s : State) : let v := frameNoted a b s
    v.cls.own = claimWord s ∧ v.cls.won = winsFrame a b s ∧ v.cls.frameTick = BitVec.ofNat 32 (compactTick s.tick) ∧ v.cls.yielding = false ∧
      v.cls.role = s.cls.role ∧ v.cls.roleCnt = s.cls.roleCnt ∧ tgetD v.flt.cls 0x3C01 0 = tgetD s.flt.cls 0x3C01 0 := by
  have hview := frameNoted_frameView a b s
  simp only [State.frameView, Clasp.decision, Prod.mk.injEq] at hview
  obtain ⟨⟨hown, hwon, -, htick, hyield⟩, hrole, hcnt, hcls⟩ := hview
  exact ⟨hown, hwon, htick, hyield, hrole, hcnt, hcls⟩

/-- At the decision instant the claim is sent, the frame decided, and the enable becomes the decision (R438 to R441). -/
theorem claspFrame_decision (a b : LineRead) (s : State) : (claspFrame a b s).cls.decision =
    (claimWord s, winsFrame a b s, winsFrame a b s, BitVec.ofNat 32 (compactTick s.tick), false) := by
  obtain ⟨hown, hwon, htick, hyield, -, -, -⟩ := frameNoted_spec a b s
  rw [claspFrame_eq]
  split
  next h => rw [winFrame_decision, hown, hwon, htick, hyield, h]
  next h =>
    have hlost : winsFrame a b s = false := by simpa using h
    split
    · rw [loseFrame_decision hyield, hown, htick, hlost]
    · rw [joinClaimer_decision hyield, hown, hwon, htick, hlost]

/-! ## LISTEN (R443) -/

/-- May the module enter LISTEN (R443)? -/
def mayListen (s : State) : Prop := s.cls.role = .none ∧ cfgActive s = true ∧ (s.vot.mode = .triple ∨ s.vot.mode = .dual) ∧
  (s.tim.state = .locked ∨ s.tim.state = .master) ∧ s.cyc.stopByMaint = false

/-- The model's test of it. -/
def listenTest (s : State) : Bool := s.cls.role == .none && cfgActive s && (s.vot.mode == .triple || s.vot.mode == .dual) &&
  (s.tim.state == .locked || s.tim.state == .master) && !s.cyc.stopByMaint

theorem listenTest_iff (s : State) : listenTest s = true ↔ mayListen s := by
  simp only [listenTest, mayListen, Bool.and_eq_true, Bool.or_eq_true, beq_iff_eq, Bool.not_eq_true', and_assoc]

theorem enterListenRole_listens {s : State} (h : s.cls.role ≠ .listen) :
    Becomes s .listen (enterListenRole s) ∧ (enterListenRole s).cls.outEn = false ∧ (enterListenRole s).cls.waitCnt = 0 := by
  rw [enterListenRole_eq]
  exact ⟨setRole_becomes (v := { s with cls := s.cls.listen }) h rfl rfl, setRole_keeps Clasp.outEn (fun _ _ _ _ => rfl) _ _,
    setRole_keeps Clasp.waitCnt (fun _ _ _ _ => rfl) _ _⟩

/-! ## Messages of the pair link (R442, R448, R455) -/

/-- The pair link's state and the message kept. -/
def Clasp.link (C : Clasp) : Bool × PairMsg := (C.plUp, C.partner)

/-- A class reported once leaves of Clasp all but the mark of it. -/
theorem repOnce_keeps {β : Type} (p : Clasp → β) (hp : ∀ C x, p { C with once := x } = p C) (i code : Nat) (s : State) :
    p (repOnce i code s).cls = p s.cls := by
  unfold repOnce
  split
  · rfl
  · rw [rep_clasp, hp]

theorem repOnce_cls_other {c code : Nat} (h : c ≠ code) (h2 : c ≠ 0x402) (i : Nat) (s : State) :
    tgetD (repOnce i code s).flt.cls c 0 = tgetD s.flt.cls c 0 := by
  unfold repOnce
  split
  · rfl
  · rw [rep_cls_other code c _ h h2]

theorem repOnce_reported {s : State} {i code : Nat} (hc : code ≠ 0x402) (h : testBit s.cls.once.toNat i = false) :
    Reported code s (repOnce i code s) := by
  unfold repOnce
  rw [if_neg (ne_true_of_eq_false h)]
  exact (rep_reported code _ hc).of_cls rfl

theorem repOnce_link (i code : Nat) (s : State) : (repOnce i code s).cls.link = s.cls.link := repOnce_keeps Clasp.link (fun _ _ => rfl) i code s

/-- The state with a message of another digest reported once (R443). -/
def noteMismatch (m : PairMsg) (s : State) : State := if m.digest = cfgDigest s then s else repOnce 0 0x3C05 s

/-- The state with a message's digest and position checked (R443). -/
def listenChecked (m : PairMsg) (s : State) : State :=
  if m.posId.toNat = s.cfg.cls.posId % 16 then repOnce 1 0x3C06 (noteMismatch m s) else noteMismatch m s

/-- What a listening module decides on a message checked (R443). -/
def listenDecide (m : PairMsg) (s : State) : State :=
  if ¬ partnerFits s ∨ partnerClaims m then s else if m.epoch ≤ s.cls.epoch then enterContend s else repOnce 2 0x3C07 s

theorem listenTo_eq (m : PairMsg) (s : State) :
    listenTo m s = if s.cls.role ≠ .listen ∨ partnerPresent s = false then s else listenDecide m (listenChecked m s) := rfl

/-- The checks of a message leave of Clasp all but the marks of the classes reported once. -/
theorem listenChecked_keeps {β : Type} (p : Clasp → β) (hp : ∀ C x, p { C with once := x } = p C) (m : PairMsg) (s : State) :
    p (listenChecked m s).cls = p s.cls := by
  have hmismatch : p (noteMismatch m s).cls = p s.cls := by
    unfold noteMismatch
    split
    · rfl
    · exact repOnce_keeps p hp _ _ s
  unfold listenChecked
  split
  · exact (repOnce_keeps p hp _ _ _).trans hmismatch
  · exact hmismatch

theorem listenChecked_trust (m : PairMsg) (s : State) : (listenChecked m s).trust = s.trust := by
  unfold listenChecked noteMismatch
  (repeat' split) <;> simp

theorem cfgDigest_congr {s u : State} (h : u.trust = s.trust) : cfgDigest u = cfgDigest s := by
  unfold cfgDigest activeCont slotIn cfgSlot
  rw [h]

theorem enterContend_link (s : State) : (enterContend s).cls.link = s.cls.link := setRole_keeps Clasp.link (fun _ _ _ _ => rfl) _ s

theorem loseFrame_link (s : State) : (loseFrame s).cls.link = s.cls.link := by
  unfold loseFrame
  dsimp only
  split
  · exact enterJoin_keeps Clasp.link (fun _ _ _ _ => rfl) _
  · exact setRole_keeps Clasp.link (fun _ _ _ _ => rfl) _ _
  all_goals rfl

theorem listenTo_link (m : PairMsg) (s : State) : (listenTo m s).cls.link = s.cls.link := by
  have hchecked : (listenChecked m s).cls.link = s.cls.link := listenChecked_keeps Clasp.link (fun _ _ => rfl) m s
  rw [listenTo_eq]
  split
  · rfl
  · unfold listenDecide
    split
    · exact hchecked
    · split
      · exact (enterContend_link _).trans hchecked
      · exact (repOnce_link _ _ _).trans hchecked

theorem dualWin_link (m : PairMsg) (s : State) : (dualWin m s).cls.link = s.cls.link := by
  unfold dualWin
  split
  · rw [rep_clasp, loseFrame_link]
  · rfl

theorem partnerLeaves_link (was : Bool) (m : PairMsg) (s : State) : (partnerLeaves was m s).cls.link = s.cls.link := by
  unfold partnerLeaves
  split <;> rfl

theorem crossCheck_link (t : Nat) (s : State) : (crossCheck t s).cls.link = s.cls.link := by
  unfold crossCheck
  dsimp only
  split
  · split
    · split
      · rfl
      · rw [rep_clasp]
        rfl
    · rfl
  · rfl

theorem noteXchk_link (m : PairMsg) (s : State) : (noteXchk m s).cls.link = s.cls.link := by
  unfold noteXchk
  split
  · rw [crossCheck_link]
    rfl
  · rfl

/-- The state with a message taken over the link. -/
def messageTaken (m : PairMsg) (s : State) : State := { s with cls := { s.cls with plUp := true, partner := m } }

theorem pairMessage_eq (m : PairMsg) (s : State) : pairMessage m s =
    noteXchk m (partnerLeaves (s.cls.plUp && s.cls.partner.role == .standby) m (dualWin m (listenTo m (messageTaken m s)))) := rfl

theorem pairMessage_link (m : PairMsg) (s : State) : (pairMessage m s).cls.link = (true, m) := by
  rw [pairMessage_eq, noteXchk_link, partnerLeaves_link, dualWin_link, listenTo_link]
  rfl

theorem noteXchk_none {m : PairMsg} (h : m.xchk = none) (s : State) : noteXchk m s = s := by
  unfold noteXchk
  rw [h]

theorem partnerLeaves_inactive {s : State} (h : s.cls.role ≠ .active) (was : Bool) (m : PairMsg) : partnerLeaves was m s = s :=
  if_neg (fun hall => h hall.1)

theorem dualWin_lost {s : State} (h : s.cls.won = false) (m : PairMsg) : dualWin m s = s := if_neg (fun hall => by simp [h] at hall)

theorem messageTaken_present {m : PairMsg} (h1 : m.role ≠ .none) (h2 : m.role ≠ .withdrawn) (s : State) :
    partnerPresent (messageTaken m s) = true := by
  unfold partnerPresent messageTaken
  simp [h1, h2]

theorem cfgDigest_messageTaken (m : PairMsg) (s : State) : cfgDigest (messageTaken m s) = cfgDigest s := rfl

theorem listenTo_listens {m : PairMsg} {s : State} (hr : s.cls.role = .listen) (h1 : m.role ≠ .none) (h2 : m.role ≠ .withdrawn) :
    listenTo m (messageTaken m s) = listenDecide m (listenChecked m (messageTaken m s)) := by
  have hrole : (messageTaken m s).cls.role = .listen := hr
  rw [listenTo_eq, if_neg]
  rw [hrole, messageTaken_present h1 h2]
  decide

/-- A present partner that fits, does not claim and has no later epoch lets a listening module contend (R443). -/
theorem listenTo_contends {m : PairMsg} {s : State} (hr : s.cls.role = .listen) (h1 : m.role ≠ .none) (h2 : m.role ≠ .withdrawn)
    (hd : m.digest = cfgDigest s) (hp : m.posId.toNat ≠ s.cfg.cls.posId % 16) (hc : partnerClaims m = false) (he : m.epoch ≤ s.cls.epoch) :
    listenTo m (messageTaken m s) = enterContend (messageTaken m s) := by
  have hfits : partnerFits (messageTaken m s) = true := by
    unfold partnerFits
    simp only [Bool.and_eq_true, beq_iff_eq, bne_iff_ne]
    exact ⟨hd, hp⟩
  have hchecked : listenChecked m (messageTaken m s) = messageTaken m s := by
    unfold listenChecked noteMismatch
    rw [if_neg (show ¬ m.posId.toNat = (messageTaken m s).cfg.cls.posId % 16 from hp), if_pos (hd.trans (cfgDigest_messageTaken m s).symm)]
  rw [listenTo_listens hr h1 h2, hchecked, listenDecide, if_neg (by simp [hfits, hc])]
  exact if_pos he

/-- A message of another digest keeps a listening module there, and is reported once (R443). -/
theorem listenTo_mismatch {m : PairMsg} {s : State} (hr : s.cls.role = .listen) (h1 : m.role ≠ .none) (h2 : m.role ≠ .withdrawn)
    (hd : m.digest ≠ cfgDigest s) : let u := listenTo m (messageTaken m s)
    u.cls.role = .listen ∧ u.cls.won = s.cls.won ∧ (testBit s.cls.once.toNat 0 = false → Reported 0x3C05 s u) := by
  have hpartner : (listenChecked m (messageTaken m s)).cls.partner = m := listenChecked_keeps Clasp.partner (fun _ _ => rfl) m _
  have hfits : partnerFits (listenChecked m (messageTaken m s)) = false := by
    unfold partnerFits
    rw [hpartner, cfgDigest_congr (listenChecked_trust m _), cfgDigest_messageTaken]
    simp [hd]
  have hstays : listenDecide m (listenChecked m (messageTaken m s)) = listenChecked m (messageTaken m s) := if_pos (by simp [hfits])
  have hnoted : noteMismatch m (messageTaken m s) = repOnce 0 0x3C05 (messageTaken m s) :=
    if_neg (fun e => hd (e.trans (cfgDigest_messageTaken m s)))
  dsimp only
  rw [listenTo_listens hr h1 h2, hstays]
  refine ⟨(listenChecked_keeps Clasp.role (fun _ _ => rfl) m _).trans hr, listenChecked_keeps Clasp.won (fun _ _ => rfl) m _, fun honce => ?_⟩
  have hrep : Reported 0x3C05 s (repOnce 0 0x3C05 (messageTaken m s)) :=
    (repOnce_reported (s := messageTaken m s) (by decide) honce).of_cls rfl
  unfold listenChecked
  rw [hnoted]
  split
  · exact hrep.then_cls (repOnce_cls_other (by decide) (by decide) 1 _)
  · exact hrep

/-- Both modules won one frame and the own claim is the lower (R442). -/
theorem dualWin_loses {m : PairMsg} {s : State} (hw : s.cls.won = true) (hm : m.won = true) (ht : m.tick = s.cls.frameTick)
    (hc : s.cls.own < m.claim) : dualWin m s = rep 0x3C04 (loseFrame s) := if_pos ⟨hw, hm, ht, hc⟩

theorem loseFrame_active {s : State} (h : s.cls.role = .active) :
    loseFrame s = setRole .standby { s with cls := { s.cls with outEn := false, won := false } } := by
  unfold loseFrame
  rw [h]

theorem loseFrame_active_cls {s : State} (h : s.cls.role = .active) : (loseFrame s).cls.outEn = false ∧ (loseFrame s).cls.won = false := by
  rw [loseFrame_active h]
  exact ⟨setRole_keeps Clasp.outEn (fun _ _ _ _ => rfl) _ _, setRole_keeps Clasp.won (fun _ _ _ _ => rfl) _ _⟩

theorem loseFrame_reports {code : Nat} (h : otherClass code = true) {s : State} (hr : s.cls.role = .active) :
    Reported code s (rep code (loseFrame s)) := by
  rw [loseFrame_active hr]
  exact (rep_setRole_reported h .standby _).of_cls rfl

/-! ## The end of the link, an absent partner, YIELD and RESYNC (R443, R445, R448, R455) -/

/-- Clasp with the link down. -/
def Clasp.linkLost (C : Clasp) : Clasp :=
  { C with plUp := false, partner := { C.partner with role := .none }, advance := C.advance || C.role == .active }

theorem pairDown_up {s : State} (h : s.cls.plUp = true) : pairDown s = { s with cls := s.cls.linkLost } := if_pos h

theorem pairDown_down {s : State} (h : s.cls.plUp = false) : pairDown s = s := if_neg (ne_true_of_eq_false h)

/-- The state with an epoch advance asked for unless the last role was ACTIVE (R448). -/
def advanceUnlessActive (s : State) : State := { s with cls := { s.cls with advance := s.cls.advance || s.cls.lastRole != some true } }

theorem partnerAbsent_waited {s : State} (h : s.cls.role = .listen ∧ waitTicks s ≤ s.cls.waitCnt) :
    partnerAbsent s = setRole .contend (advanceUnlessActive s) := if_pos h

theorem partnerAbsent_waits {s : State} (h : ¬ (s.cls.role = .listen ∧ waitTicks s ≤ s.cls.waitCnt)) : partnerAbsent s = s := if_neg h

/-- The state with a committed YIELD. -/
def yieldCommitted (s : State) : State := { s with cls := { s.cls with yielding := true } }

theorem yieldNow_yields {s : State} (h : s.cls.role = .active ∧ s.cls.plUp = true ∧ s.cls.partner.role = .standby) :
    yieldNow s = setRole .standby (yieldCommitted s) := if_pos h

theorem yieldNow_ignored {s : State} (h : ¬ (s.cls.role = .active ∧ s.cls.plUp = true ∧ s.cls.partner.role = .standby)) : yieldNow s = s :=
  if_neg h

theorem resyncNow_standby {s : State} (h : s.cls.role = .standby) : resyncNow s = enterJoin s := if_pos h

theorem resyncNow_ignored {s : State} (h : s.cls.role ≠ .standby) : resyncNow s = s := if_neg h

end Sys2Proof.Machine

end

section

open Sys2Proof Sys2Proof.Machine

/-- Settles O42: the frame by `claspFrame_decision` and the outcomes of `claspFrame_eq`, messages by `pairMessage_link` and what
`listenTo` and `dualWin` decide, changes of role by `setRole_becomes`. -/
theorem claspFrameAndLink : Obligations.ClaspFrameAndLink := by
  unfold Obligations.ClaspFrameAndLink
  intro s ho C becomes
  refine ⟨fun a b => ?frame, ⟨fun h => ?listens, fun h => ?ignoresListen⟩,
    fun m => ⟨?message, fun hr h1 h2 hx hw => ⟨fun hd hp hc he => ?contends, fun hd => ?mismatch⟩, fun hr hw hm ht hc hx => ?dual⟩,
    fun h => ?linkLost, fun h => ?linkDown, ⟨fun h => ?absent, fun h => ?waits⟩, ⟨fun h => ?yields, fun h => ?ignoresYield⟩,
    fun h => ?resync, fun h => ?ignoresResync⟩
  case frame =>
    refine ho.completes (f := claspFrame a b) rfl ?_
    obtain ⟨-, -, -, -, hrole, hcnt, hcls⟩ := frameNoted_spec a b s
    have hframe := claspFrame_decision a b s
    simp only [Clasp.decision, Prod.mk.injEq] at hframe
    obtain ⟨hown, hwon, hen, htick, hyield⟩ := hframe
    have hwins : ∀ {P : State → Prop}, P (winFrame (frameNoted a b s)) → winsFrame a b s = true → P (claspFrame a b s) := by
      intro P hP hw
      rwa [claspFrame_eq, if_pos hw]
    have hloses : ∀ {P : State → Prop}, P (loseFrame (frameNoted a b s)) → winsFrame a b s = false → claiming s = true →
        P (claspFrame a b s) := by
      intro P hP hw hcl
      rwa [claspFrame_eq, if_neg (ne_true_of_eq_false hw), if_pos hcl]
    refine ⟨hown, hwon, hen, htick, hyield, fun hw hr => ?_, fun hw hr => ?_, fun hw hcl hr => ?_, fun hw hcl hr => ?_, fun hw hcl hr => ?_⟩
    · exact hwins (P := Becomes s .active) (winFrame_becomes hcnt hcls (by rwa [hrole])) hw
    · obtain ⟨hactive, hkept⟩ := winFrame_stays (hrole.trans hr)
      exact hwins (P := fun u => u.cls.role = .active ∧ u.cls.roleCnt = s.cls.roleCnt) ⟨hactive, hkept.trans hcnt⟩ hw
    · exact hloses (P := Becomes s .standby) (loseFrame_standby hcnt hcls (hrole.trans hr)) hw hcl
    · obtain ⟨hstandby, hkept⟩ := loseFrame_stays (hrole.trans hr)
      exact hloses (P := fun u => u.cls.role = .standby ∧ u.cls.roleCnt = s.cls.roleCnt) ⟨hstandby, hkept.trans hcnt⟩ hw hcl
    · exact hloses (P := fun u => Becomes s .join u ∧ u.cyc.prog = .stopped) (loseFrame_join hcnt hcls (hrole.trans hr)) hw hcl
  case listens =>
    refine ho.completes (f := fun s => onlyIf (listenTest s) enterListenRole s) rfl ?_
    rw [onlyIf_true ((listenTest_iff s).mpr h)]
    exact enterListenRole_listens (fun e => ClsRole.noConfusion (h.1.symm.trans e))
  case ignoresListen =>
    refine ho.completes_unchanged (f := fun s => onlyIf (listenTest s) enterListenRole s) rfl (onlyIf_false ?_)
    rw [← Bool.not_eq_true, listenTest_iff]
    exact h
  case message =>
    have hlink := pairMessage_link m s
    simp only [Clasp.link, Prod.mk.injEq] at hlink
    exact ho.completes (f := pairMessage m) rfl hlink
  case contends =>
    refine ho.completes (f := pairMessage m) rfl ?_
    have hb : Becomes s .contend (enterContend (messageTaken m s)) :=
      setRole_becomes (v := messageTaken m s) (fun e => ClsRole.noConfusion (hr.symm.trans e)) rfl rfl
    have hwon : (enterContend (messageTaken m s)).cls.won = false := (setRole_keeps Clasp.won (fun _ _ _ _ => rfl) _ _).trans hw
    rw [pairMessage_eq, noteXchk_none hx, listenTo_contends hr h1 h2 hd hp hc he, dualWin_lost hwon,
      partnerLeaves_inactive (fun e => ClsRole.noConfusion (hb.1.symm.trans e))]
    exact hb
  case mismatch =>
    refine ho.completes (f := pairMessage m) rfl ?_
    obtain ⟨hrole, hwon, hrep⟩ := listenTo_mismatch hr h1 h2 hd
    rw [pairMessage_eq, noteXchk_none hx, dualWin_lost (hwon.trans hw), partnerLeaves_inactive (fun e => ClsRole.noConfusion (hrole.symm.trans e))]
    exact ⟨hrole, hrep⟩
  case dual =>
    refine ho.completes (f := pairMessage m) rfl ?_
    have hkept : listenTo m (messageTaken m s) = messageTaken m s :=
      if_pos (Or.inl (fun e => ClsRole.noConfusion (hr.symm.trans e)))
    have hactive : (messageTaken m s).cls.role = .active := hr
    have hb : Becomes s .standby (rep 0x3C04 (loseFrame (messageTaken m s))) :=
      (loseFrame_standby (v := messageTaken m s) rfl rfl hactive).then_rep (by decide)
    obtain ⟨hen, hwon⟩ := loseFrame_active_cls hactive
    rw [pairMessage_eq, noteXchk_none hx, hkept, dualWin_loses (s := messageTaken m s) hw hm ht hc,
      partnerLeaves_inactive (fun e => ClsRole.noConfusion (hb.1.symm.trans e)), rep_clasp]
    exact ⟨hb, hen, hwon, (loseFrame_reports (by decide) hactive).of_cls rfl⟩
  case linkLost =>
    refine ho.completes (f := pairDown) rfl ?_
    rw [pairDown_up h]
    exact ⟨rfl, rfl, rfl, rfl, rfl, sameBut_cls s _⟩
  case linkDown => exact ho.completes_unchanged (f := pairDown) rfl (pairDown_down h)
  case absent =>
    refine ho.completes (f := partnerAbsent) rfl ?_
    rw [partnerAbsent_waited h]
    exact ⟨setRole_becomes (v := advanceUnlessActive s) (fun e => ClsRole.noConfusion (h.1.symm.trans e)) rfl rfl,
      setRole_keeps Clasp.advance (fun _ _ _ _ => rfl) _ _, ((sameBut_cls s _).mono (by simp)).trans (setRole_sameBut _ _)⟩
  case waits => exact ho.completes_unchanged (f := partnerAbsent) rfl (partnerAbsent_waits h)
  case yields =>
    refine ho.completes (f := yieldNow) rfl ?_
    rw [yieldNow_yields h]
    exact ⟨setRole_becomes (v := yieldCommitted s) (fun e => ClsRole.noConfusion (h.1.symm.trans e)) rfl rfl,
      setRole_keeps Clasp.yielding (fun _ _ _ _ => rfl) _ _, setRole_keeps Clasp.outEn (fun _ _ _ _ => rfl) _ _,
      ((sameBut_cls s _).mono (by simp)).trans (setRole_sameBut _ _)⟩
  case ignoresYield => exact ho.completes_unchanged (f := yieldNow) rfl (yieldNow_ignored h)
  case resync =>
    refine ho.completes (f := resyncNow) rfl ?_
    rw [resyncNow_standby h]
    exact ⟨enterJoin_becomes (fun e => ClsRole.noConfusion (h.symm.trans e)) rfl rfl, enterJoin_keeps Clasp.outEn (fun _ _ _ _ => rfl) s,
      enterJoin_keeps Clasp.phase (fun _ _ _ _ => rfl) s, enterJoin_program s⟩
  case ignoresResync => exact ho.completes_unchanged (f := resyncNow) rfl (resyncNow_ignored h)

end

/-! # Motion inputs (R344 to R373) -/

section

namespace Sys2Proof.Machine

theorem rep_mot (code : Nat) (s : State) : (rep code s).mot = s.mot := by simp

theorem SameBut.lane_mot {ps : List Part} {s u : State} (h : SameBut ps s u) (hp : .lanes ∉ ps) (l : LaneId) :
    (u.lane l).mot = (s.lane l).mot :=
  show (u.lane l).body.mot = (s.lane l).body.mot from congrArg Lane.mot (h.lane_body hp l)

/-! ## Monitor commands (R366) -/

/-- Does a lane ignore a monitor command, or is it none (R366, R369)? -/
def ignoresCmd (s : State) (l : LaneId) (op : Nat) : Prop := (s.lane l).mot.waitCopy = true ∨ (op ≠ 1 ∧ op ≠ 2)

/-- Is a monitor command late, or one too many (R366)? -/
def lateCmd (s : State) (l : LaneId) : Prop :=
  sdiff 32 ((s.lane l).reg (MOT + 4)).toNat (compactTick s.tick) ≤ 0 ∨ 16 ≤ (s.lane l).mot.pend.length

theorem motCmd_ignored {s : State} {l : LaneId} {op : Nat} (h : ignoresCmd s l op) (m : Fin 16) (set : BitVec 2) : motCmd l m op set s = s :=
  if_pos h

theorem motCmd_late {s : State} {l : LaneId} {op : Nat} (h : ¬ ignoresCmd s l op) (hl : lateCmd s l) (m : Fin 16) (set : BitVec 2) :
    motCmd l m op set s = lateCommand l s := (if_neg h).trans (if_pos hl)

/-- The state with a monitor command pending behind the earlier ones. -/
def cmdPending (l : LaneId) (m : Fin 16) (op : Nat) (set : BitVec 2) (s : State) : State :=
  let apply := (s.lane l).reg (MOT + 4)
  s.modLane l (fun L => { L with mot := { L.mot with pend := L.mot.pend ++ [⟨apply, m, op == 1, set⟩] } })

theorem motCmd_pends {s : State} {l : LaneId} {op : Nat} (h : ¬ ignoresCmd s l op) (hl : ¬ lateCmd s l) (m : Fin 16) (set : BitVec 2) :
    motCmd l m op set s = cmdPending l m op set s := (if_neg h).trans (if_neg hl)

theorem not_ignoresCmd {s : State} {l : LaneId} {op : Nat} (hw : (s.lane l).mot.waitCopy = false) (ho : op = 1 ∨ op = 2) :
    ¬ ignoresCmd s l op := by
  rintro (h | ⟨h1, h2⟩)
  · exact absurd h (ne_true_of_eq_false hw)
  · exact ho.elim h1 h2

/-- The state with a late command counted in its lane. -/
def lateCounted (l : LaneId) (s : State) : State := s.modLane l (fun L => { L with mot := { L.mot with lateCnt := L.mot.lateCnt + 1 } })

/-- A late command is counted in its lane and reported, and no other lane's monitors change (R366). -/
theorem lateCommand_spec (l : LaneId) (s : State) : let u := lateCommand l s
    (u.lane l).mot = { (s.lane l).mot with lateCnt := (s.lane l).mot.lateCnt + 1 } ∧ Reported 0x3002 s u ∧
      (∀ k, k ≠ l → (u.lane k).mot = (s.lane k).mot) ∧ SameBut (.lanes :: reportParts) s u := by
  have hcounted : SameBut [.lanes] s (lateCounted l s) := sameBut_modLane (fun _ => rfl)
  have hrep : SameBut reportParts (lateCounted l s) (lateCommand l s) := sameBut_report _ _ _ _
  refine ⟨(hrep.lane_mot (by simp [reportParts]) l).trans (congrArg Lane.mot (State.lane_modLane s l _)),
    repLane_after (v := lateCounted l s) (by decide) rfl l, fun k hk => ?_,
    (hcounted.mono (by simp)).trans (hrep.mono (by simp [reportParts]))⟩
  exact (hrep.lane_mot (by simp [reportParts]) k).trans (congrArg Lane.mot (State.lane_modLane_other s l k _ hk))

/-! ## Standstill and calibration (R349, R372) -/

/-- The state with a lane's source at standstill. -/
def standing (l : LaneId) (j : PulseId) (s : State) : State :=
  s.modLane l (fun L => { L with mot := { L.mot with src := vmod L.mot.src j (fun S => { S with standstill := true }) } })

theorem motCalRun_starts {s : State} (h : s.mot.cal = none) (r : Fin 64) (d : Desc) : motCalRun r d s =
    setCal { ring := r, tag := d.tag, src := field d.paramA 0 3, in1 := field d.paramA 3 3, in2 := field d.paramA 6 3, dist := d.paramB,
             until_ := s.tick + d.paramC } s := by
  unfold motCalRun
  rw [h]

theorem motCalRun_busy {s : State} (h : s.mot.cal.isSome = true) (r : Fin 64) (d : Desc) :
    motCalRun r d s = rep 0x3008 (opDone r d.tag 0x84 0 0 s) := by
  obtain ⟨c, hc⟩ := Option.isSome_iff_exists.mp h
  unfold motCalRun
  rw [hc]

/-! ## The edge merger (R350 to R352) -/

theorem sameBut_modWins (j : Nat) (f : MotWin → MotWin) (s : State) : SameBut [.mot] s (modWins j f s) := sameBut_setMot s _

theorem modAgree_self {j : Nat} (hj : j < 8) (f : SrcAgree → SrcAgree) (s : State) : (modAgree j f s).mot.agree j = f (s.mot.agree j) := by
  have hget : ∀ v : Vector SrcAgree 8, v.toList.getD j {} = vget v (Fin.ofNat 8 j) := by
    intro v
    simp [vget, Vector.get, hj, Nat.mod_eq_of_lt hj]
  unfold MotUnit.agree
  rw [hget, hget]
  exact vget_vmod_self _ _ _

/-- An edge that counts for its source: the merger's view takes it, and the windows of the source count it (R352). -/
def edgeCounted (j : Nat) (e : AgEdge) (s : State) : State :=
  modWins j (fun w => { w with
    nEdges := satInc 16 w.nEdges, tFirst := match w.tFirst with
      | some t => some t
      | none => some e.ts }) (modAgree j (fun S => S.add e s.tim.now) s)

theorem deriveCount_counts {s : State} {j : Nat} {e : AgEdge} (hr : (s.mot.agree j).recent.find? (fun x => x.cyc == e.cyc && x.input != e.input) = none)
    (hc : s.mot.cal = none) (d : Int) : deriveCount j e (some d) s = edgeCounted j { e with delta := d } s := by
  unfold deriveCount
  dsimp only
  rw [hr]
  dsimp only
  refine (if_neg ?_).trans rfl
  show ¬ (s.mot.cal.map CalRun.src) = some j
  rw [hc]
  simp

/-- What the merger's other fields keep when a counted edge enters: the gathering, the input counts and the calibration. -/
theorem edgeCounted_spec {j : Nat} (hj : j < 8) (e : AgEdge) (s : State) : let u := edgeCounted j e s
    u.mot.agree j = (s.mot.agree j).add e s.tim.now ∧ u.mot.gather = s.mot.gather ∧ u.mot.edges = s.mot.edges ∧ u.lanes = s.lanes ∧
      SameBut [.mot] s u :=
  ⟨modAgree_self hj _ s, rfl, rfl, rfl, (sameBut_setMot s _).trans (sameBut_modWins _ _ _)⟩

/-- What the merger keeps while a record is delivered: its gatherings, input counts, views of the sources and the calibration. -/
def MotUnit.mergeView (m : MotUnit) : List Gathering × Vector (BitVec 16) 8 × Vector SrcAgree 8 × Option CalRun :=
  (m.gather, m.edges, m.src, m.cal)

/-- The agreed record enters the queue of every lane whose timestamp unit runs (R350). -/
theorem deliverRecord_spec (i : PulseId) (r : AgRec) (s : State) : let u := deliverRecord i r s
    (∀ k, unitRuns (s.lane k) = true → vget (u.lane k).tsu i = (vget (s.lane k).tsu i).store r) ∧ u.mot.mergeView = s.mot.mergeView ∧
      SameBut [.lanes, .mot] s u := by
  have hlanes : ∀ k, unitRuns (s.lane k) = true →
      vget ((s.modLanes (fun L => if unitRuns L then { L with tsu := vmod L.tsu i (fun q => q.store r) } else L)).lane k).tsu i =
        (vget (s.lane k).tsu i).store r := by
    intro k hk
    rw [State.lane_modLanes, if_pos hk]
    exact vget_vmod_self _ _ _
  have hbut : SameBut [.lanes, .mot] s (s.modLanes (fun L => if unitRuns L then { L with tsu := vmod L.tsu i (fun q => q.store r) } else L)) :=
    (sameBut_modLanes (fun L => by split <;> rfl) s).mono (by simp)
  have hmot : ∀ (v : State) (m : MotUnit), SameBut [.lanes, .mot] v { v with mot := m } := fun v m => (sameBut_setMot v m).mono (by simp)
  unfold deliverRecord
  dsimp only
  split
  · split
    · exact ⟨hlanes, rfl, (hbut.trans (hmot _ _)).trans ((sameBut_modWins _ _ _).mono (by simp))⟩
    · exact ⟨hlanes, rfl, (hbut.trans (hmot _ _)).trans ((sameBut_modWins _ _ _).mono (by simp))⟩
  · exact ⟨hlanes, rfl, hbut.trans (hmot _ _)⟩

theorem edgeDisagree_none (i : Nat) (s : State) : edgeDisagree i [] s = s := rfl

/-- The state with a disagreement counted in its lanes. -/
def disagreeCounted (ls : List LaneId) (s : State) : State :=
  ls.foldl (fun s l => s.modLane l (fun L => { L with mot := { L.mot with edgeDis := L.mot.edgeDis + 1 } })) s

theorem sameBut_disagreeCounted (ls : List LaneId) (s : State) : SameBut [.lanes] s (disagreeCounted ls s) :=
  SameBut.foldl (g := fun s l => s.modLane l (fun L => { L with mot := { L.mot with edgeDis := L.mot.edgeDis + 1 } }))
    (fun _ _ => sameBut_modLane (fun _ => rfl)) ls s

/-- A disagreement counts in its lanes, flags the windows and is reported once (R351). -/
theorem edgeDisagree_spec {ls : List LaneId} (h : ls ≠ []) (i : Nat) (s : State) : let u := edgeDisagree i ls s
    Reported 0x3003 s u ∧ u.mot.mergeView = s.mot.mergeView ∧ SameBut (.lanes :: .mot :: reportParts) s u := by
  have hcounted := sameBut_disagreeCounted ls s
  have hmot : (disagreeCounted ls s).mot = s.mot := hcounted .mot (by simp)
  have heq : edgeDisagree i ls s = rep 0x3003
      (modWins ((srcOf s i).getD (pinCfg s i).markSrc) (fun w => { w with disagree := true }) (disagreeCounted ls s)) := by
    unfold edgeDisagree
    dsimp only
    rw [if_neg (by simpa using h)]
    cases srcOf s i <;> rfl
  dsimp only
  rw [heq]
  refine ⟨(rep_reported 0x3003 _ (by decide)).of_flt (hcounted .flt (by simp)), ?_,
    ((hcounted.mono (by simp)).trans ((sameBut_modWins _ _ _).mono (by simp))).then_rep (by simp [reportParts]) _⟩
  rw [rep_mot]
  have hview : (disagreeCounted ls s).mot.mergeView = s.mot.mergeView := congrArg MotUnit.mergeView hmot
  exact hview

/-- The state with a gathering taken and its edge counted for the input. -/
def edgeNoted (g : Gathering) (s : State) : State :=
  { s with mot := { s.mot with gather := s.mot.gather.erase g, edges := vset s.mot.edges g.input (vget s.mot.edges g.input + 1),
                               agLevel := setLevel s.mot.agLevel g.input.val g.rise } }

/-- The agreed record of a gathering. -/
def agreedRecord (g : Gathering) (a : MergeCap) (s : State) : AgRec := ⟨a.ts, g.input.val, g.rise, vget s.mot.edges g.input + 1, false⟩

/-- The state with a gathering's record delivered and its disagreement noted. -/
def edgeMerged (g : Gathering) (a : MergeCap) (s : State) : State :=
  edgeDisagree g.input.val (disagreeing s g a) (deliverRecord g.input (agreedRecord g a s) (edgeNoted g s))

theorem mergeInput_none {i : PulseId} {s : State} (h : s.mot.gather.find? (fun g => g.input == i) = none) : mergeInput i s = s := by
  unfold mergeInput
  rw [h]

section

variable {i : PulseId} {s : State} {g : Gathering} {a : MergeCap} {j : Nat} {d : Int}
  (hg : s.mot.gather.find? (fun g => g.input == i) = some g) (ha : agreedCap g.caps = some a) (hc : s.mot.cal = none)
  (hm : (pinCfg s i.val).mode ≠ 2) (hj : srcOf s i.val = some j)
  (hd : edgeDelta s j i.val g.rise (setLevel s.mot.agLevel i.val g.rise) = some d)
  (hr : (s.mot.agree j).recent.find? (fun x => x.cyc == a.cyc && x.input != i.val) = none)

include hg ha hm hj hd

theorem mergeInput_derives : mergeInput i s = deriveCount j ⟨i.val, a.ts, a.cyc, 0⟩ (some d) (edgeMerged g a s) := by
  have hi : g.input = i := by simpa using List.find?_some hg
  subst hi
  unfold mergeInput
  rw [hg]
  dsimp only
  unfold closeGathering
  rw [ha]
  dsimp only
  have hmode : (pinCfg s g.input.val).mode ≠ 2 := hm
  refine (if_neg hmode).trans ?_
  have hsrc : srcOf { s with mot := { s.mot with gather := s.mot.gather.erase g } } g.input.val = some j := hj
  rw [hsrc]
  dsimp only
  have hdelta : edgeDelta { s with mot := { s.mot with gather := s.mot.gather.erase g } } j g.input.val g.rise
      (setLevel s.mot.agLevel g.input.val g.rise) = some d := hd
  rw [hdelta]
  rfl

include hc hr

/-- Where delivering and comparing keep the merger's view, the edge counts for its source (R352). -/
theorem mergeInput_counts (hview : (edgeMerged g a s).mot.mergeView = (edgeNoted g s).mot.mergeView) :
    mergeInput i s = edgeCounted j ⟨i.val, a.ts, a.cyc, d⟩ (edgeMerged g a s) := by
  simp only [MotUnit.mergeView, Prod.mk.injEq] at hview
  obtain ⟨-, -, hsrc, hcal⟩ := hview
  rw [mergeInput_derives hg ha hm hj hd]
  refine deriveCount_counts ?_ (hcal.trans hc) d
  unfold MotUnit.agree
  rw [hsrc]
  exact hr

/-- A gathered edge of a source counts, its record is delivered, and a lane that differs is noted and reported (R350 to R352). -/
theorem mergeInput_spec (hlt : j < 8) : let u := mergeInput i s
    (disagreeing s g a = [] → u.mot.gather = s.mot.gather.erase g ∧ vget u.mot.edges i = vget s.mot.edges i + 1 ∧
      (u.mot.agree j).count = (s.mot.agree j).count + BitVec.ofInt 32 d ∧ (u.mot.agree j).tLast = some a.ts ∧ SameBut [.lanes, .mot] s u ∧
      ∀ k, unitRuns (s.lane k) = true → vget (u.lane k).tsu i =
        (vget (s.lane k).tsu i).store ⟨a.ts, i.val, g.rise, vget s.mot.edges i + 1, false⟩) ∧
    (disagreeing s g a ≠ [] → Reported 0x3003 s u ∧ (u.mot.agree j).count = (s.mot.agree j).count + BitVec.ofInt 32 d ∧
      SameBut (.lanes :: .mot :: reportParts) s u) := by
  have hi : g.input = i := by simpa using List.find?_some hg
  obtain ⟨hstore, hview, hbut⟩ := deliverRecord_spec g.input (agreedRecord g a s) (edgeNoted g s)
  have hnoted : SameBut [.mot] s (edgeNoted g s) := sameBut_setMot s _
  have hdelivered := (hnoted.mono (by simp)).trans hbut
  have hagree : ∀ {v : State}, v.mot.mergeView = (edgeNoted g s).mot.mergeView → v.mot.agree j = s.mot.agree j := by
    intro v hv
    simp only [MotUnit.mergeView, Prod.mk.injEq] at hv
    obtain ⟨-, -, hsrc, -⟩ := hv
    unfold MotUnit.agree
    rw [hsrc]
    rfl
  refine ⟨fun hnone => ?agree, fun hsome => ?disagree⟩
  case agree =>
    have hmerged : edgeMerged g a s = deliverRecord g.input (agreedRecord g a s) (edgeNoted g s) := by
      unfold edgeMerged
      rw [hnone, edgeDisagree_none]
    rw [← hmerged] at hstore hview hdelivered
    obtain ⟨hsource, hgather, hedges, hlanes, hcounted⟩ := edgeCounted_spec hlt ⟨i.val, a.ts, a.cyc, d⟩ (edgeMerged g a s)
    rw [mergeInput_counts hg ha hc hm hj hd hr hview, hgather, hedges, hsource, hagree hview]
    simp only [MotUnit.mergeView, Prod.mk.injEq] at hview
    obtain ⟨hgath, hedge, -, -⟩ := hview
    refine ⟨hgath, ?_, rfl, rfl, hdelivered.trans (hcounted.mono (by simp)), fun k hk => ?_⟩
    · rw [hedge, ← hi]
      exact vget_vset_self _ _ _
    · rw [State.lane, hlanes, ← hi]
      exact hstore k hk
  case disagree =>
    obtain ⟨hrep, hview', hbut'⟩ := edgeDisagree_spec hsome g.input.val (deliverRecord g.input (agreedRecord g a s) (edgeNoted g s))
    have hkept : (edgeMerged g a s).mot.mergeView = (edgeNoted g s).mot.mergeView := hview'.trans hview
    obtain ⟨hsource, -, -, -, hcounted⟩ := edgeCounted_spec hlt ⟨i.val, a.ts, a.cyc, d⟩ (edgeMerged g a s)
    rw [mergeInput_counts hg ha hc hm hj hd hr hkept, hsource, hagree hkept]
    refine ⟨(hrep.of_flt (hdelivered .flt (by simp))).then_cls (congrArg (fun F : FaultRep => tgetD F.cls 0x3003 0) (hcounted .flt (by simp))), rfl, ?_⟩
    exact ((hdelivered.mono (by simp)).trans hbut').trans (hcounted.mono (by simp))

end

/-! ## Input faults (R344) -/

/-- What the edges of a fabric cycle leave of the input faults: which inputs are faulted, each lane's counts of them, and how often their
class has been reported. -/
def State.faultView (s : State) : BitVec 8 × (LaneId → Vector (BitVec 16) 8) × BitVec 16 :=
  (s.mot.fault, fun k => (s.lane k).mot.faultCnt, tgetD s.flt.cls 0x3007 0)

theorem faultView_report {code : Nat} (h : 0x3007 ≠ code) (origin : Nat) (s : State) : (report code origin [] s).faultView = s.faultView := by
  have hmot : (report code origin [] s).mot = s.mot := by simp
  have hlane : ∀ k, ((report code origin [] s).lane k).mot = (s.lane k).mot :=
    fun k => (sameBut_report code origin [] s).lane_mot (by simp [reportParts]) k
  simp only [State.faultView, hmot, hlane, report_cls_other code origin [] s 0x3007 h (by decide)]

theorem faultView_modLane {f : Lane → Lane} (h : ∀ L, (f L).mot.faultCnt = L.mot.faultCnt) (l : LaneId) (s : State) :
    (s.modLane l f).faultView = s.faultView := by
  have hlane : ∀ k, ((s.modLane l f).lane k).mot.faultCnt = (s.lane k).mot.faultCnt := by
    intro k
    by_cases hk : k = l
    · rw [hk, State.lane_modLane, h]
    · rw [State.lane_modLane_other s l k f hk]
  simp only [State.faultView, hlane]
  rfl

theorem faultView_latchMark (l : LaneId) (s : State) (e : EdgeIn) : (latchMark l s e).faultView = s.faultView := by
  unfold latchMark
  dsimp only
  split
  · exact faultView_modLane (by intro; rfl) l s
  · rfl

theorem faultView_countSource (l : LaneId) (es : List EdgeIn) (level : BitVec 8) (s : State) (j : PulseId) :
    (countSource l es level s j).1.faultView = s.faultView := by
  unfold countSource
  dsimp only
  split
  · rfl
  · split
    · exact faultView_modLane (by intro; rfl) l s
    · rfl
  · exact (faultView_report (by decide) _ _).trans (faultView_modLane (by intro; rfl) l s)

theorem faultView_countSources (l : LaneId) (es : List EdgeIn) (level : BitVec 8) (s : State) :
    (countSources l es level s).1.faultView = s.faultView := by
  unfold countSources
  generalize allPulse = js
  generalize ([] : List (PulseId × DWord)) = cs
  induction js generalizing s cs with
  | nil => rfl
  | cons j js ih => exact (ih _ _).trans (faultView_countSource l es level s j)

theorem faultView_testMon (l : LaneId) (ts : DWord) (m : Fin 16) (s : State) : (testMon l ts m s).faultView = s.faultView := by
  unfold testMon
  dsimp only
  split
  · exact (faultView_report (by decide) _ _).trans (faultView_modLane (by intro; rfl) l s)
  · rfl

theorem faultView_testMons (l : LaneId) (s : State) (c : PulseId × DWord) : (testMons l s c).faultView = s.faultView := by
  refine foldl_keeps State.faultView _ (fun t m => ?_) _ _
  split
  · exact faultView_testMon l c.2 m t
  · rfl

/-- The edges of a fabric cycle fault no input (R344). -/
theorem faultView_laneEdges (l : LaneId) (es : List EdgeIn) (s : State) : (laneEdges l es s).faultView = s.faultView := by
  unfold laneEdges
  dsimp only
  split
  · rfl
  · refine ((foldl_keeps State.faultView _ (faultView_testMons l) _ _).trans
      ((faultView_countSources l _ _ _).trans (foldl_keeps State.faultView _ (faultView_latchMark l) _ _))).trans ?_
    rfl

theorem faultView_opDone (r : Fin 64) (tag st ra rb : Nat) (s : State) : (opDone r tag st ra rb s).faultView = s.faultView := by
  have h := sameBut_opDone r tag st ra rb s
  have hmot : (opDone r tag st ra rb s).mot = s.mot := h .mot (by simp)
  have hflt : (opDone r tag st ra rb s).flt = s.flt := h .flt (by simp)
  have hlane : ∀ k, ((opDone r tag st ra rb s).lane k).mot = (s.lane k).mot := h.lane_mot (by simp)
  simp only [State.faultView, hmot, hflt, hlane]

/-- A disturbed calibration ends without faulting an input (R373). -/
theorem faultView_calDisturbed (status : Nat) (hit : CalRun → Bool) (s : State) : (calDisturbed status hit s).faultView = s.faultView := by
  unfold calDisturbed
  split
  · split
    · unfold failCal
      split
      · rfl
      · exact (faultView_report (by decide) _ _).trans (faultView_opDone _ _ _ _ _ _)
    · rfl
  · rfl

/-- The state with a faulted input read as low in every lane. -/
def fallEverywhere (i : PulseId) (s : State) : State := allLanes.foldl (fun s l => laneEdges l [⟨i, false, 0⟩] s) s

theorem faultView_fallEverywhere (i : PulseId) (s : State) : (fallEverywhere i s).faultView = s.faultView :=
  foldl_keeps State.faultView _ (fun t l => faultView_laneEdges l [⟨i, false, 0⟩] t) _ _

/-- The state with an input marked as faulted, and that counted in every lane. -/
def faultNoted (i : PulseId) (s : State) : State :=
  ({ s with mot := { s.mot with fault := setLevel s.mot.fault i.val true } }).modLanes
    (fun L => { L with mot := { L.mot with faultCnt := vmod L.mot.faultCnt i (fun n => n + 1) } })

theorem faultNoted_lane (i : PulseId) (s : State) (k : LaneId) :
    vget ((faultNoted i s).lane k).mot.faultCnt i = vget (s.lane k).mot.faultCnt i + 1 := by
  unfold faultNoted
  rw [State.lane_modLanes]
  exact vget_vmod_self _ _ _

theorem inputFault_voltage {i : PulseId} {s : State} (h : (pinCfg s i.val).current = false) (b : Bool) : inputFault i b s = s := by
  unfold inputFault
  rw [h]
  rfl

/-- Does a fault of an input disturb a calibration (R373)? -/
def disturbs (i : PulseId) (s : State) (c : CalRun) : Bool := c.in1 == i.val || c.in2 == i.val || (srcInputs s c.src).contains i.val

theorem inputFault_begins {i : PulseId} {s : State} (h : (pinCfg s i.val).current = true) (hf : s.mot.fault.getLsbD i.val = false) :
    inputFault i true s = rep 0x3007 (calDisturbed 0x82 (disturbs i s) (faultNoted i (fallEverywhere i s))) := by
  have hc : ¬ (!(pinCfg s i.val).current || s.mot.fault.getLsbD i.val == true) = true := by rw [h, hf]; decide
  unfold inputFault disturbs faultNoted fallEverywhere
  dsimp only
  rw [if_neg hc, if_pos rfl]

theorem inputFault_ends {i : PulseId} {s : State} (h : (pinCfg s i.val).current = true) (hf : s.mot.fault.getLsbD i.val = true) :
    inputFault i false s = { s with mot := { s.mot with fault := setLevel s.mot.fault i.val false } } := by
  unfold inputFault
  rw [h, hf]
  rfl

/-- A fault that begins is marked, counted in every lane and reported, whatever the falling edges of the input do (R344). -/
theorem inputFault_spec {i : PulseId} {s : State} (h : (pinCfg s i.val).current = true) (hf : s.mot.fault.getLsbD i.val = false) :
    let u := inputFault i true s
    u.mot.fault = setLevel s.mot.fault i.val true ∧ Reported 0x3007 s u ∧
      ∀ k, vget (u.lane k).mot.faultCnt i = vget (s.lane k).mot.faultCnt i + 1 := by
  have hfall := faultView_fallEverywhere i s
  have hcal := faultView_calDisturbed 0x82 (disturbs i s) (faultNoted i (fallEverywhere i s))
  simp only [State.faultView, Prod.mk.injEq] at hfall hcal
  obtain ⟨hfault, hcnt, hcls⟩ := hfall
  obtain ⟨hfault', hcnt', hcls'⟩ := hcal
  dsimp only
  rw [inputFault_begins h hf]
  refine ⟨?_, (rep_reported 0x3007 _ (by decide)).of_cls (hcls'.trans hcls), fun k => ?_⟩
  · rw [rep_mot, hfault', ← hfault]
    rfl
  · rw [(sameBut_rep 0x3007 _).lane_mot (by simp [reportParts]) k, congrFun hcnt' k, faultNoted_lane, congrFun hcnt k]

end Sys2Proof.Machine

end

section

open Sys2Proof Sys2Proof.Machine

/-- Settles O38: a monitor command is ignored, counted late or pending; the edges of a fabric cycle count, latch or close a gathering by the
laws of one edge; an input that falls by its fault faults no other. -/
theorem motionInputs : Obligations.MotionInputs := by
  unfold Obligations.MotionInputs
  intro s l ho
  dsimp only
  refine ⟨fun m op set => ⟨fun h => ?ignored, fun hw hop => ⟨fun hlate => ?late, fun hlate => ?pends⟩⟩,
    fun i j rise phase d hq ⟨hlevel, hfault, hrun, hcap⟩ hm hj hd => ?counts,
    fun i phase => ⟨fun hm others => ?noMark, fun hm ⟨hlevel, hfault, hrun, hcap⟩ hj => ?marks⟩,
    fun j hrun hmode => ?stands, fun r tag d hd => ⟨fun hc => ?starts, fun hc => ?busy⟩,
    fun i => ⟨fun hg => ?noEdge, fun g a j d hg ha hc hm hj hd hlt hr => ?edge⟩,
    fun i => ⟨fun hc b => ?voltage, fun hc hf => ?faulty, fun hc hf => ?repaired⟩⟩
  case ignored => exact ho.completes_unchanged (f := motCmd l m op.val set) rfl (motCmd_ignored (h.imp_right (fun ⟨h1, h2⟩ => by omega)) m set)
  case late =>
    refine ho.completes (f := motCmd l m op.val set) rfl ?_
    rw [motCmd_late (not_ignoresCmd hw (by omega)) hlate]
    exact lateCommand_spec l s
  case pends =>
    refine ho.completes (f := motCmd l m op.val set) rfl ?_
    rw [motCmd_pends (not_ignoresCmd hw (by omega)) hlate]
    refine ⟨congrArg Lane.mot (State.lane_modLane s l _), fun k hk => State.lane_modLane_other s l k _ hk, sameBut_modLane (fun _ => rfl)⟩
  case counts =>
    obtain ⟨v, hv, hspec⟩ := laneEdges_counts l ⟨i, rise, phase⟩ s j d (seenEdges_one l _ s hlevel hfault) hrun hcap hq hm hj hd
    exact ho.completes (f := laneEdges l [⟨i, rise, phase⟩]) rfl (hv.symm ▸ hspec)
  case noMark => exact ho.completes_unchanged rfl (onlyIf_false (by simpa using hm))
  case marks =>
    obtain ⟨v, hv, hspec⟩ := laneEdges_marks l ⟨i, !(pinCfg s i.val).markFall, phase⟩ s (seenEdges_one l _ s hlevel hfault) hrun hcap hm
      (by simp) hj
    have hmode : ((pinCfg s i.val).mode == 2) = true := by simpa using hm
    exact ho.completes rfl ((onlyIf_true hmode).trans hv ▸ hspec)
  case stands =>
    refine ho.completes (f := fun s => onlyIf (unitRuns (s.lane l) && srcMode s j.val != 0) (standing l j) s) rfl ?_
    rw [onlyIf_true (by simpa using ⟨hrun, hmode⟩)]
    exact ⟨State.lane_modLane s l _, fun k hk => State.lane_modLane_other s l k _ hk, sameBut_modLane (fun _ => rfl)⟩
  case starts =>
    refine ho.completes_runOp (f := motCalRun r) rfl hd ?_
    rw [motCalRun_starts hc]
    exact ⟨rfl, sameBut_setMot s _⟩
  case busy =>
    obtain ⟨hrun, -, -⟩ := startedOp_mem hd
    obtain ⟨hdone, hbut⟩ := opDone_alone hrun 0x84 0 0
    refine ho.completes_runOp (f := motCalRun r) rfl hd ?_
    rw [motCalRun_busy hc]
    exact ⟨hdone.congr (by simp), rep_after (v := opDone r d.tag 0x84 0 0 s) (by decide) (by simp),
      (hbut.mono (by simp)).then_rep (by simp [reportParts]) _⟩
  case noEdge => exact ho.completes_unchanged (f := mergeInput i) rfl (mergeInput_none hg)
  case edge =>
    have hstep := mergeInput_spec hg ha hc hm hj hd hr hlt
    exact ⟨fun h => ho.completes (f := mergeInput i) rfl (hstep.1 h), fun h => ho.completes (f := mergeInput i) rfl (hstep.2 h)⟩
  case voltage => exact ho.completes_unchanged (f := inputFault i b) rfl (inputFault_voltage hc b)
  case faulty => exact ho.completes (f := inputFault i true) rfl (inputFault_spec hc hf)
  case repaired =>
    refine ho.completes (f := inputFault i false) rfl ?_
    rw [inputFault_ends hc hf]
    exact ⟨rfl, sameBut_setMot s _⟩

end

/-! # Requests of Utmus that a check refuses (R509 to R512) -/

section

namespace Sys2Proof.Machine

/-! ## The checks in their order (R509 to R511) -/

section

variable {cmd perm type : Nat} {q : UtmusReq} {f : State → Reply} {s : State} {S : UtmusSession}

theorem checked_unformatted {p : Option Nat} (h : q.formatOk = false) : checked cmd p type q f s = refuse 1 s := by
  unfold checked
  rw [if_pos (by rw [h]; rfl)]

theorem checked_sessionless {p : Option Nat} (hf : q.formatOk = true) (h : s.trust.session = none) : checked cmd p type q f s = refuse 4 s := by
  unfold checked
  rw [if_neg (by rw [hf]; decide), h]

variable (hf : q.formatOk = true) (hs : s.trust.session = some S)

include hf hs

theorem checked_otherSession {p : Option Nat} (h : q.session ≠ S.number) : checked cmd p type q f s = refuse 4 s := by
  unfold checked
  rw [if_neg (by rw [hf]; decide), hs]
  exact if_pos h

variable (hn : q.session = S.number)

include hn

theorem checked_outOfSequence {p : Option Nat} (h : q.seq ≠ S.seq + 1) : checked cmd p type q f s = refuse 7 s := by
  unfold checked
  rw [if_neg (by rw [hf]; decide), hs]
  exact (if_neg (not_not_intro hn)).trans (if_pos h)

variable (hq : q.seq = S.seq + 1)

include hq

/-- A request of the open session with the next REQ_SEQ is judged by its signature, and a signed one by its key's permission. -/
theorem checked_inSequence (hsigned : q.signed cmd S.nonce (seqTaken q s) = false ∨ q.allowed cmd perm (seqTaken q s) = false) :
    checked cmd (some perm) type q f s =
      refuse (if q.signed cmd S.nonce (seqTaken q s) then 3 else 2) (seqTaken q s) := by
  unfold checked
  rw [if_neg (by rw [hf]; decide), hs]
  dsimp only
  rw [if_neg (not_not_intro hn), if_neg (not_not_intro hq), noteSeq_seqTaken q S s hs]
  rcases hc : q.signed cmd S.nonce (seqTaken q s)
  · rfl
  · rw [hc] at hsigned
    have hperm : q.allowed cmd perm (seqTaken q s) = false := hsigned.resolve_left (by decide)
    simp [hperm]

end

/-! ## What a refusal leaves (R509) -/

/-- A refusal is answered with its status, counted and reported, and of the trust part it leaves all but the response and the session. -/
theorem respond_refuse_spec {s v : State} (hbut : SameBut [.trust] s v) (htrust : { v.trust with session := s.trust.session } = s.trust)
    (cmd : Nat) (q : UtmusReq) {n : Nat} (hn : n ≠ 0) : let u := respond cmd q q.session (refuse n v)
    Answered u cmd q n [] ∧ Reported 0x4808 s u ∧ u.trust.utmusRej = s.trust.utmusRej + 1 ∧ SameBut (.trust :: reportParts) s u ∧
      { u.trust with response := s.trust.response, utmusRej := s.trust.utmusRej, session := s.trust.session } = s.trust := by
  have hrej := congrArg Trust.utmusRej htrust
  have hsent : SameBut [.trust] s (responded cmd q q.session (refuse n v)) := hbut.trans (sameBut_responded cmd q q.session (refuse n v))
  refine ⟨respond_refuse_answered cmd q hn v, ?_⟩
  dsimp only
  rw [respond_refused cmd q q.session (refuse n v) hn, rep_trust]
  refine ⟨(rep_reported 0x4808 _ (by decide)).of_flt (hbut .flt (by simp)), congrArg (· + 1) hrej,
    ((hsent.trans (sameBut_trust _ _)).mono (by simp)).then_rep (by simp [reportParts]) _, ?_⟩
  exact congrArg (fun T : Trust => { T with response := s.trust.response, utmusRej := s.trust.utmusRej }) htrust

theorem seqTaken_trust (q : UtmusReq) (s : State) : { (seqTaken q s).trust with session := s.trust.session } = s.trust := rfl

/-! ## The signed commands (R512) -/

/-- The signed commands with their codes and permissions. -/
def signedCommands : List ((UtmusReq → Instr) × Nat × Nat) :=
  [(Instr.status, 0x03, 0), (.attest, 0x05, 0), (.activate, 0x20, 2), (.revert, 0x21, 2), (.slotErase, 0x22, 2),
    (.swapLoad, 0x28, 2), (.swap, 0x29, 2), (.swapCommit, 0x2A, 2), (.swapRevert, 0x2B, 2), (.fwInstall, 0x30, 3), (.fwTrial, 0x31, 3),
    (.fwCommit, 0x32, 3), (.fwRollback, 0x33, 3), (.programStop, 0x40, 1), (.programStart, 0x41, 1), (.laneRelease, 0x42, 1),
    (.onlineChange, 0x43, 1), (.ucalWrite, 0x44, 1), (.restoreFactory, 0x45, 1), (.recFormat, 0x50, 4), (.relinquish, 0x51, 4),
    (.retire, 0x52, 4), (.provision, 0x60, 5), (.enrol, 0x61, 5), (.vendorRevoke, 0x62, 5)]

/-- Every signed command is a request with its code and permission. -/
theorem signedCommands_utmus (q : UtmusReq) (s : State) :
    ∀ e ∈ signedCommands, ∃ f, exec (e.1 q) s = act (utmus e.2.1 (some e.2.2) q f) s := by
  unfold signedCommands
  simp only [List.forall_mem_cons]
  refine ⟨⟨_, rfl⟩, ⟨_, rfl⟩, ⟨_, rfl⟩, ⟨_, rfl⟩, ⟨_, rfl⟩, ⟨_, rfl⟩, ⟨_, rfl⟩, ⟨_, rfl⟩, ⟨_, rfl⟩, ⟨_, rfl⟩, ⟨_, rfl⟩, ⟨_, rfl⟩, ⟨_, rfl⟩,
    ⟨_, rfl⟩, ⟨_, rfl⟩, ⟨_, rfl⟩, ⟨_, rfl⟩, ⟨_, rfl⟩, ⟨_, rfl⟩, ⟨_, rfl⟩, ⟨_, rfl⟩, ⟨_, rfl⟩, ⟨_, rfl⟩, ⟨_, rfl⟩, ⟨_, rfl⟩, by simp⟩

end Sys2Proof.Machine

end

section

open Sys2Proof Sys2Proof.Machine

/-- Settles O24: the check that fails decides the status, and a refusal leaves all but its response, its count and the session's REQ_SEQ. -/
theorem requestChecks : Obligations.RequestChecks := by
  unfold Obligations.RequestChecks
  intro mk cmd perm s q ho hmem
  dsimp only
  obtain ⟨f, he⟩ := signedCommands_utmus q s _ hmem
  have hrefused : ∀ {n : Nat} {v : State}, checked cmd (some perm) 0 q f s = refuse n v → n ≠ 0 → SameBut [.trust] s v →
      { v.trust with session := s.trust.session } = s.trust →
      Completes (mk q) s (fun u => Answered u cmd q n [] ∧ Reported 0x4808 s u ∧ u.trust.utmusRej = s.trust.utmusRej + 1 ∧
        SameBut (.trust :: reportParts) s u ∧
        { u.trust with response := s.trust.response, utmusRej := s.trust.utmusRej, session := s.trust.session } = s.trust) := by
    intro n v hc hn hbut htrust
    refine ho.completes he ?_
    unfold utmus
    rw [hc]
    exact respond_refuse_spec hbut htrust cmd q hn
  have hkept : SameBut [.trust] s s := SameBut.refl _ s
  have htaken := seqTaken_sameBut q s
  refine ⟨fun h => hrefused (checked_unformatted h) (by decide) hkept rfl,
    fun hf h => hrefused (checked_sessionless hf h) (by decide) hkept rfl, fun S hf hs => ⟨fun h => ?otherSession, fun hn h => ?outOfSequence,
    fun hn hq h => ?unsigned, fun hn hq hsig h => ?forbidden⟩⟩
  case otherSession => exact hrefused (checked_otherSession hf hs h) (by decide) hkept rfl
  case outOfSequence => exact hrefused (checked_outOfSequence hf hs hn h) (by decide) hkept rfl
  case unsigned =>
    have hc := checked_inSequence (type := 0) (f := f) (perm := perm) hf hs hn hq (.inl h)
    rw [h] at hc
    exact hrefused hc (by decide) htaken (seqTaken_trust q s)
  case forbidden =>
    have hc := checked_inSequence (type := 0) (f := f) hf hs hn hq (.inr h)
    rw [hsig] at hc
    exact hrefused hc (by decide) htaken (seqTaken_trust q s)

end

/-! # Sessions, reading and transfers of Utmus (R510, R512) -/

section

namespace Sys2Proof.Machine

/-! ## Commands carried out with a body (R509) -/

/-- A request whose checks concern a container type and whose command is carried out is answered with its body. -/
theorem Accepted.answers {i : Instr} {f : State → Reply} {g : State → State} {cmd : Nat} {perm : Option Nat} {type : Nat} {q : UtmusReq}
    {s v : State} {body : List Byte} {P : State → Prop} (ha : Accepted cmd perm type q s) (he : exec i s = act g s)
    (hg : g s = respond cmd q q.session (checked cmd perm type q f s)) (hf : f (seqTaken q s) = ⟨0, body, v⟩)
    (hp : P (responded cmd q q.session ⟨0, body, v⟩)) : Completes i s (fun u => Answered u cmd q 0 body ∧ P u) := by
  refine ha.1.completes he ?_
  rw [hg, checked_accepted f ha, hf, respond_done _ _ _ _ rfl]
  exact ⟨responded_answered cmd q ⟨0, body, v⟩, hp⟩

/-! ## Sessions (R510) -/

/-- The state with a new session in the place of one that is open. -/
def sessionOpened (s : State) : State :=
  let v := (drawRandom 32 s).2
  { v with trust := { v.trust with sessions := v.trust.sessions + 1,
                                   session := some { number := Config.utmusSession v.trust.sessions, nonce := (drawRandom 32 s).1 } } }

theorem hello_opens {q : UtmusReq} {s : State} (hf : q.formatOk = true) (hr : s.trust.rngOk = true) : hello q s =
    responded 1 q (Config.utmusSession s.trust.sessions)
      ⟨0, leBytes 4 (Config.utmusSession s.trust.sessions).toNat ++ (drawRandom 32 s).1 ++ leBytes 5 s.otp.serial.toNat ++
        leBytes 1 s.otp.lifeN.toNat, sessionOpened s⟩ := by
  unfold hello
  rw [if_neg (by rw [hf]; decide), if_neg (by rw [hr]; decide)]
  exact respond_done _ _ _ _ rfl

theorem drawRandom_length (n : Nat) (s : State) : (drawRandom n s).1.length = n := padTo_length n _

/-- The 20 bytes before a response's body, and its status (R509). -/
theorem responseBytes_body (cmd : Nat) (q : UtmusReq) (session : BitVec 32) (r : Reply) : (responseBytes cmd q session r).drop 21 = r.body := by
  have hhead : (leBytes 2 0x5455 ++ leBytes 1 1 ++ leBytes 1 (cmd + 0x80) ++ leBytes 4 session.toNat ++ leBytes 4 q.seq.toNat
      ++ leBytes 4 (leBytes 1 r.status ++ r.body).length ++ zeros 4 ++ leBytes 1 r.status).length = 21 := by
    simp [leBytes_length, zeros]
  unfold responseBytes
  rw [← List.append_assoc, ← hhead]
  exact List.drop_left

theorem identify_sessionless {q : UtmusReq} {s : State} (h : s.trust.session = none) (hf : q.formatOk = true) :
    identify q s = responded 2 q q.session ⟨0, identityBytes s, s⟩ := by
  unfold identify
  rw [h]
  dsimp only
  rw [if_pos hf]
  exact respond_done _ _ _ _ rfl

/-! ## Reading (R474, R515) -/

/-- The answer of STATUS: the status words of CFG, SIG, VOT, CLS and PWR (R512). -/
def statusReply (s : State) : Reply :=
  ⟨0, [cfgRead s 0, sigRead s 0, votRead s 0, clsRead s 0, pwrRead s 0].flatMap (fun w => leBytes 4 w.toNat), s⟩

theorem utmusRecords_reads {q : UtmusReq} {want count : Nat} (hq : q.params 4 = [want, count]) (hc : count ≠ 0) (bad : List Nat) (s : State) :
    utmusRecords q bad s =
      ⟨0, (recordsFrom s want count bad).flatMap Record.bytes, reportUnreadable (recordsFrom s want count bad) s⟩ := by
  unfold utmusRecords
  rw [hq]
  exact if_neg hc

theorem utmusAttest_signs {q : UtmusReq} {s : State} {seed : List Byte} (hi : identitySeed s = some seed) (hr : s.trust.rngOk = true)
    (hl : (Config.utmusData 5 q.body).length = 32) : utmusAttest q s =
      ⟨0, (attestation seed (Config.utmusData 5 q.body) s).1, (attestation seed (Config.utmusData 5 q.body) s).2⟩ := by
  unfold utmusAttest
  rw [hi]
  dsimp only
  rw [if_neg (by rw [hr]; decide), if_neg (not_not_intro hl)]

/-! ## Transfers (R510, R512) -/

theorem openTransfer_seqTaken (q : UtmusReq) (s : State) : openTransfer (seqTaken q s) = openTransfer s := by
  unfold openTransfer seqTaken
  cases s.trust.session <;> rfl

theorem sameBut_setTransfer (t : Option Transfer) (s : State) : SameBut [.trust] s (setTransfer t s) := sameBut_trust s _

theorem openTransfer_setTransfer {t : Transfer} {s : State} (h : s.trust.session.isSome = true) : openTransfer (setTransfer (some t) s) = some t := by
  obtain ⟨S, hS⟩ := Option.isSome_iff_exists.mp h
  unfold openTransfer setTransfer
  rw [hS]
  rfl

theorem openTransfer_closed (s : State) : openTransfer (setTransfer none s) = none := by
  unfold openTransfer setTransfer
  cases s.trust.session <;> rfl

theorem openTransfer_congr {s v : State} (h : v.trust.session = s.trust.session) : openTransfer v = openTransfer s := by
  unfold openTransfer
  rw [h]

theorem loadBegin_opens {q : UtmusReq} {type slot length : Nat} (hq : q.params 0x10 = [type, slot, length]) (h1 : 1 ≤ type) (h4 : type ≤ 4)
    (hs : slot < 8) {s : State} (hn : openTransfer s = none) :
    loadBegin q s = ⟨0, [], setTransfer (some ⟨type, slot, length, []⟩) s⟩ := by
  unfold loadBegin
  rw [hq]
  dsimp only
  rw [if_neg (by omega), hn]
  rfl

theorem chunk_appends {q : UtmusReq} {s : State} {t : Transfer} (ht : openTransfer s = some t) (hq : q.params 0x11 = [t.data.length])
    (hl : t.data.length + (Config.utmusData 0x11 q.body).length ≤ t.length) :
    chunk q s = ⟨0, [], setTransfer (some { t with data := t.data ++ Config.utmusData 0x11 q.body }) s⟩ := by
  unfold chunk
  rw [ht]
  exact if_neg (not_or.mpr ⟨not_not_intro hq, Nat.not_lt.mpr hl⟩)

/-- What LOAD_END_COMMAND does with a request: its checks concern the type of the open transfer (R512). -/
def loadEndRequest (q : UtmusReq) (s : State) : State :=
  let type := ((openTransfer s).map Transfer.type).getD 0
  respond 0x12 q q.session (checked 0x12 (some (loadPerm type)) type q loadEndCommand s)

/-- The state with a transfer closed and its container staged. -/
def transferStaged (c : List Byte) (s : State) : State :=
  { setTransfer none s with trust := { (setTransfer none s).trust with staged := some c } }

theorem loadEndCommand_stages {s : State} {t : Transfer} (ht : openTransfer s = some t) (hl : t.data.length = t.length) (h1 : t.type = 1)
    (hr : containerReason (setTransfer none s) t.data = 0) (hc : contType t.data = 1) :
    loadEndCommand s = ⟨0, [], transferStaged t.data s⟩ := by
  unfold loadEndCommand
  rw [ht]
  dsimp only
  rw [if_neg (not_not_intro hl), hr, if_neg (not_not_intro rfl), if_neg (not_not_intro (hc.trans h1.symm))]
  unfold storeContainer
  rw [hc]
  rfl

theorem Accepted.inSession {cmd : Nat} {perm : Option Nat} {type : Nat} {q : UtmusReq} {s : State} (ha : Accepted cmd perm type q s) :
    (seqTaken q s).trust.session.isSome = true := by
  obtain ⟨-, -, S, hs, -⟩ := ha
  unfold seqTaken
  rw [hs]
  rfl

end Sys2Proof.Machine

end

section

open Sys2Proof Sys2Proof.Machine

/-- Settles O25: HELLO opens a session in any state of the old one, and each accepted command is carried out after its REQ_SEQ is taken. -/
theorem sessionsAndTransfers : Obligations.SessionsAndTransfers := by
  unfold Obligations.SessionsAndTransfers
  refine ⟨fun s q ho => ⟨fun hf hr => ?hello, fun hf hn => ?identify, ho.completes (f := endSession) rfl ⟨rfl, sameBut_trust s _⟩,
    ho.completes (f := endSession) rfl ⟨rfl, sameBut_trust s _⟩⟩, fun s q => ⟨fun ha => ?status, fun want count bad ha hq hc => ?reads,
    fun seed ha hi hr hl => ?attests, fun type slot length ha hq h1 h4 hs hn => ?begins, fun t ha ht hq hl => ?appends,
    fun t ha ht hl h1 hr hc => ?ends⟩⟩
  case hello =>
    refine ho.completes (f := hello q) rfl ?_
    rw [hello_opens hf hr]
    exact ⟨_, rfl, rfl, rfl, drawRandom_length 32 s, responseBytes_body 1 q _ _⟩
  case identify =>
    refine ho.completes (f := identify q) rfl ?_
    rw [identify_sessionless hn hf]
    exact ⟨responded_answered 2 q _, sameBut_responded 2 q _ _⟩
  case status =>
    refine ha.1.completes (f := utmus 3 (some 0) q statusReply) rfl ?_
    rw [utmus_done statusReply ha rfl]
    exact ⟨⟨_, responded_answered 3 q _⟩, (SameBut.refl [.trust] (seqTaken q s)).then_responded (by simp) _ _⟩
  case reads =>
    refine ha.1.completes (f := utmus 4 (some 0) q (utmusRecords q bad)) rfl ?_
    rw [utmus_done _ ha (utmusRecords_reads hq hc bad _)]
    exact responded_answered 4 q _
  case attests =>
    refine ha.1.completes (f := utmus 5 (some 0) q (utmusAttest q)) rfl ?_
    rw [utmus_done _ ha (utmusAttest_signs (s := seqTaken q s) hi hr hl)]
    exact ⟨_, responded_answered 5 q _, rfl⟩
  case begins =>
    have hopen := loadBegin_opens hq h1 h4 hs ((openTransfer_seqTaken q s).trans hn)
    exact ha.answers (g := fun s => respond 0x10 q q.session (checked 0x10 (some (loadPerm (q.param 0x10))) (q.param 0x10) q (loadBegin q) s))
      rfl rfl hopen ⟨(openTransfer_congr rfl).trans (openTransfer_setTransfer ha.inSession),
      (sameBut_setTransfer _ _).then_responded (by simp) _ _⟩
  case appends =>
    have hchunk := chunk_appends ((openTransfer_seqTaken q s).trans ht) hq hl
    exact ha.answers (g := utmus 0x11 none q (chunk q)) rfl rfl hchunk ⟨(openTransfer_congr rfl).trans (openTransfer_setTransfer ha.inSession),
      (sameBut_setTransfer _ _).then_responded (by simp) _ _⟩
  case ends =>
    have hend := loadEndCommand_stages ((openTransfer_seqTaken q s).trans ht) hl h1 hr hc
    have hrun : loadEndRequest q s = respond 0x12 q q.session (checked 0x12 (some (loadPerm t.type)) t.type q loadEndCommand s) := by
      unfold loadEndRequest
      rw [ht]
      rfl
    refine ha.answers (g := loadEndRequest q) rfl hrun hend ⟨(openTransfer_congr rfl).trans (openTransfer_closed (seqTaken q s)), rfl, ?_⟩
    exact ((sameBut_setTransfer none _).trans (sameBut_trust _ _)).then_responded (by simp) _ _

end

/-! # Signet's operations, the random source and the writes of user calibration (R481, R504, R505, R514 to R516) -/

section

namespace Sys2Proof.Machine

/-! ## SIG_HASH (R514) -/

/-- The digest SIG_HASH gives for a descriptor's buffer. -/
def hashDigest (d : Desc) (s : State) : List Byte :=
  padTo (field d.paramA 0 7) (Config.shake256 (field d.paramA 0 7) (readBuffer s d.addr d.length))

/-- The state with a digest at its destination, where one is asked for. -/
def hashWritten (d : Desc) (s : State) : State :=
  if testBit d.paramA 7 then { s with mem := memWrite s.mem (field d.paramA 8 24) (hashDigest d s) } else s

theorem sigHashOp_hashes (r : Fin 64) (d : Desc) (s : State) :
    sigHashOp r d s = opDone r d.tag 0 (leAt (hashDigest d s) 0 4) (leAt (hashDigest d s) 4 8) (hashWritten d s) := rfl

theorem sameBut_hashWritten (d : Desc) (s : State) : SameBut [.mem] s (hashWritten d s) := by
  unfold hashWritten
  split
  · exact sameBut_mem s _
  · exact SameBut.refl _ s

/-! ## Operations that use the random source (R481, R514) -/

theorem signetItem_iff {s : State} {item len : Nat} :
    signetItem s item len = true ↔ ∃ c, inItem? s item = some c ∧ c.src = .attest ∧ c.length = len := by
  unfold signetItem
  cases inItem? s item <;> simp

theorem sameBut_drawRandom (n : Nat) (s : State) : SameBut [.trust, .draws] s (drawRandom n s).2 := by
  intro p hp
  cases p <;> simp_all [Part.same, drawRandom, State.lane]

/-- One draw and one arrival of an item leave the rings, and with the end of the operation nothing but the item, the pool and the draws. -/
theorem sameBut_drawn_arrive (n item : Nat) (a : Arrival) (s : State) :
    SameBut [.rng, .cyc, .trust, .draws] s (arrive item a (drawRandom n s).2) :=
  ((sameBut_drawRandom n s).mono (by simp)).trans ((sameBut_arrive item a _).mono (by simp))

theorem drawn_arrive_rng (n item : Nat) (a : Arrival) (s : State) : (arrive item a (drawRandom n s).2).rng = s.rng :=
  (sameBut_arrive item a _ .rng (by simp)).trans (sameBut_drawRandom n s .rng (by simp))

theorem drawn_arrive_draws (n item : Nat) (a : Arrival) (s : State) : (arrive item a (drawRandom n s).2).draws = s.draws + 1 :=
  sameBut_arrive item a _ .draws (by simp)

/-- The arrival of an item stands in its back buffer when the operation that drew it ends. -/
theorem opDone_arrive_item {item : Nat} {s : State} {c : InItemCfg} (h : inItem? s item = some c) (r : Fin 64) (tag st ra rb n : Nat) (a : Arrival) :
    (tgetD (opDone r tag st ra rb (arrive item a (drawRandom n s).2)).cyc.items item {}).back =
      some { a with payload := padTo c.length a.payload } :=
  (congrArg (fun x : Cyc => (tgetD x.items item {}).back) (sameBut_opDone r tag st ra rb _ .cyc (by simp))).trans
    (arrive_item (s := (drawRandom n s).2) h a)

theorem sigRandomOp_closed {s : State} (h : s.trust.rngOk = false) (r : Fin 64) (d : Desc) :
    sigRandomOp r d s = opDone r d.tag 0x80 0 0 s := by
  unfold sigRandomOp
  rw [h]
  rfl

theorem sigAttestOp_closed {s : State} (h : s.trust.rngOk = false) (r : Fin 64) (d : Desc) :
    sigAttestOp r d s = opDone r d.tag 0x80 0 0 s := by
  unfold sigAttestOp
  rw [h]
  rfl

section

variable {s : State} (hr : s.trust.rngOk = true)

include hr

theorem sigRandomOp_unbound {d : Desc} (h : signetItem s (field d.paramA 16 13) d.length = false) (r : Fin 64) :
    sigRandomOp r d s = opDone r d.tag 0x81 0 0 s := by
  unfold sigRandomOp
  dsimp only
  rw [hr, h]
  rfl

theorem sigRandomOp_draws {d : Desc} (h : signetItem s (field d.paramA 16 13) d.length = true) (r : Fin 64) : sigRandomOp r d s =
    opDone r d.tag 0 d.length 0 (arrive (field d.paramA 16 13) ⟨true, 0, s.ts, (drawRandom d.length s).1⟩ (drawRandom d.length s).2) := by
  unfold sigRandomOp
  dsimp only
  rw [hr, h]
  rfl

theorem sigAttestOp_unbound {d : Desc} (h : signetItem s (field d.paramA 16 13) 3504 = false) (r : Fin 64) :
    sigAttestOp r d s = opDone r d.tag 0x81 0 0 s := by
  unfold sigAttestOp
  dsimp only
  rw [hr, h]
  rfl

theorem sigAttestOp_unidentified {d : Desc} (h : signetItem s (field d.paramA 16 13) 3504 = true) (hi : identitySeed s = none) (r : Fin 64) :
    sigAttestOp r d s = opDone r d.tag 0x83 0 0 s := by
  unfold sigAttestOp
  dsimp only
  rw [hr, h, hi]
  rfl

theorem sigAttestOp_signs {d : Desc} (h : signetItem s (field d.paramA 16 13) 3504 = true) {seed : List Byte} (hi : identitySeed s = some seed)
    (r : Fin 64) : sigAttestOp r d s = opDone r d.tag 0 3501 s.trust.actCnt.toNat (arrive (field d.paramA 16 13)
      ⟨true, 0, s.ts, (attestation seed (readBuffer s d.addr 32) s).1⟩ (drawRandom 32 s).2) := by
  unfold sigAttestOp
  dsimp only
  rw [hr, h, hi]
  rfl

end

/-! ## Attestation (R515) -/

theorem identitySeed_none_iff {s : State} :
    identitySeed s = none ↔ lifecycle s = .blank ∨ lifecycle s = .retired ∨ s.trust.seed = none := by
  unfold identitySeed
  cases lifecycle s <;> simp

theorem take_padTo {k n : Nat} (hk : k ≤ n) {bs : List Byte} (hb : k ≤ bs.length) : (padTo n bs).take k = bs.take k := by
  unfold padTo
  rw [List.take_append_of_le_length (by simp; omega), List.take_take, Nat.min_eq_left hk]

/-- The payload of the attestation begins with the nonce. -/
theorem attestPayload_nonce (nonce : List Byte) (s : State) : ∃ rest, attestPayload nonce s = padTo 32 nonce ++ rest := by
  unfold attestPayload
  simp only [List.append_assoc]
  exact ⟨_, rfl⟩

theorem attestation_nonce (seed nonce : List Byte) (s : State) : (padTo 3504 (attestation seed nonce s).1).take 32 = padTo 32 nonce := by
  obtain ⟨rest, hrest⟩ := attestPayload_nonce nonce s
  obtain ⟨sig, hsig⟩ : ∃ sig, (attestation seed nonce s).1 = padTo 3504 (padTo 32 nonce ++ (rest ++ sig)) := by
    refine ⟨padTo 3309 (Config.mldsaSign seed (drawRandom 32 s).1 (withContext "ZWD3100-ATT" (attestPayload nonce s))), ?_⟩
    rw [← List.append_assoc, ← hrest]
    rfl
  have hlen : (padTo 32 nonce).length = 32 := padTo_length 32 nonce
  rw [hsig, take_padTo (by decide) (by rw [padTo_length]; decide), take_padTo (by decide) (by rw [List.length_append, hlen]; omega)]
  exact List.take_left' hlen

/-! ## SIG_VERIFY (R483, R516) -/

/-- The reason for which SIG_VERIFY rejects a descriptor's container, 0 for none. -/
def verifyReason (d : Desc) (s : State) : Nat :=
  if contType (readBuffer s d.addr d.length) = field d.paramA 0 3 then containerReason s (readBuffer s d.addr d.length) else 1

theorem sigVerifyOp_accepts {d : Desc} {s : State} (h : verifyReason d s = 0) (r : Fin 64) : sigVerifyOp r d s =
    opDone r d.tag 0 (contVersion (readBuffer s d.addr d.length))
      (contSvn (readBuffer s d.addr d.length) + 256 * contFmt (readBuffer s d.addr d.length)) s := if_pos h

theorem sigVerifyOp_rejects {d : Desc} {s : State} (h : verifyReason d s ≠ 0) (r : Fin 64) : sigVerifyOp r d s =
    opDone r d.tag 0x82 (verifyReason d s) 0 (rejectContainer (verifyReason d s) s) := if_neg h

/-- A rejected container is counted and reported (R483). -/
theorem rejectContainer_spec (reason : Nat) (s : State) : let u := rejectContainer reason s
    u.trust = { s.trust with verifyFail := s.trust.verifyFail + 1 } ∧ Reported 0x4801 s u ∧ u.rng = s.rng ∧
      SameBut (.trust :: reportParts) s u := by
  have hcounted := sameBut_trust s { s.trust with verifyFail := s.trust.verifyFail + 1 }
  refine ⟨?_, (report_reported 0x4801 7 (leBytes 1 reason) _ (by decide)).of_flt rfl, ?_,
    (hcounted.mono (by simp)).trans ((sameBut_report _ _ _ _).mono (by simp [reportParts]))⟩ <;> simp [rejectContainer]

/-! ## User calibration (R504, R505) -/

theorem ucalKeyOk_iff {kind index : Nat} :
    ucalKeyOk kind index = true ↔ (kind = 1 ∧ index < 16) ∨ (kind = 2 ∧ index < 48) ∨ (kind = 3 ∧ index < 1024) := by
  simp [ucalKeyOk, or_assoc]

theorem ucalFits_iff {s : State} {kind index : Nat} {v : Option Nat} : ucalFits s kind index v = true ↔
    v = none ∨ (tget? s.trust.ucal (ucalKey kind index)).isSome = true ∨ s.trust.ucal.length < ucalCap := by
  simp [ucalFits, or_assoc]

/-- The KIND the key register names. -/
def ucalKind (s : State) : Nat := field (regGet s (CFG + 0x40)).toNat 0 8

/-- The INDEX the key register names. -/
def ucalIndex (s : State) : Nat := field (regGet s (CFG + 0x40)).toNat 8 12

/-- The value a command of the lanes stores, or none to erase. -/
def ucalValue (store : Bool) (s : State) : Option Nat :=
  if store then some ((regGet s (CFG + 0x44)).toNat + 2 ^ 32 * (regGet s (CFG + 0x48)).toNat) else none

theorem ucalCommand_refuses {store : Bool} {s : State} (h : s.trust.ucalQueue ≠ [] ∨ ucalKeyOk (ucalKind s) (ucalIndex s) ≠ true ∨
    ucalFits s (ucalKind s) (ucalIndex s) (ucalValue store s) ≠ true) : ucalCommand store s = ucalRefused s := by
  have hstop : (!s.trust.ucalQueue.isEmpty || !ucalKeyOk (ucalKind s) (ucalIndex s) ||
      !ucalFits s (ucalKind s) (ucalIndex s) (ucalValue store s)) = true := by
    simpa [or_assoc] using h
  exact if_pos hstop

theorem ucalCommand_waits {store : Bool} {s : State} (hq : s.trust.ucalQueue = []) (hk : ucalKeyOk (ucalKind s) (ucalIndex s) = true)
    (hf : ucalFits s (ucalKind s) (ucalIndex s) (ucalValue store s) = true) : ucalCommand store s =
      { s with trust := { s.trust with ucalQueue := [⟨ucalKind s, ucalIndex s, ucalValue store s, true⟩] } } := by
  have hgo : ¬ (!s.trust.ucalQueue.isEmpty || !ucalKeyOk (ucalKind s) (ucalIndex s) ||
      !ucalFits s (ucalKind s) (ucalIndex s) (ucalValue store s)) = true := by
    rw [hq, hk, hf]
    decide
  refine (if_neg hgo).trans ?_
  rw [hq]
  rfl

theorem ucalRefused_spec (s : State) : let u := ucalRefused s
    u.trust = { s.trust with ucalLast := 2 } ∧ Reported 0x4409 s u ∧ SameBut (.trust :: reportParts) s u :=
  ⟨rep_trust 0x4409 _, rep_after (v := { s with trust := { s.trust with ucalLast := 2 } }) (by decide) rfl,
    ((sameBut_trust s _).mono (by simp)).then_rep (by simp [reportParts]) _⟩

/-- The state without the oldest waiting write. -/
def ucalTaken (rest : List UcalWrite) (s : State) : State := { s with trust := { s.trust with ucalQueue := rest } }

/-- The state with a write stored or erased. -/
def ucalWritten (w : UcalWrite) (rest : List UcalWrite) (s : State) : State :=
  { s with trust := { s.trust with ucalQueue := rest, ucal := ucalStore s.trust.ucal w, ucalLast := 1 } }

theorem ucalDone_idle {s : State} (h : s.trust.ucalQueue = []) : ucalDone s = s := by
  unfold ucalDone
  rw [h]

theorem ucalDone_refuses {s : State} {w : UcalWrite} {rest : List UcalWrite} (h : s.trust.ucalQueue = w :: rest)
    (hw : ¬ (ucalKeyOk w.kind w.index = true ∧ ucalFits s w.kind w.index w.value = true)) : ucalDone s = ucalRefused (ucalTaken rest s) := by
  unfold ucalDone
  rw [h]
  exact if_neg (by simpa using hw)

theorem ucalDone_writes {s : State} {w : UcalWrite} {rest : List UcalWrite} (h : s.trust.ucalQueue = w :: rest)
    (hw : ucalKeyOk w.kind w.index = true ∧ ucalFits s w.kind w.index w.value = true) : ucalDone s = rep 0x4408 (ucalWritten w rest s) := by
  unfold ucalDone
  rw [h]
  exact if_pos (by simpa using hw)

theorem ucalStore_self (u : Table Nat) (w : UcalWrite) : tget? (ucalStore u w) (ucalKey w.kind w.index) = w.value := by
  unfold ucalStore
  split
  next v hv => exact (tget?_tset_self _ _ _).trans hv.symm
  next hv => exact (tget?_terase_self _ _).trans hv.symm

theorem ucalStore_other (u : Table Nat) (w : UcalWrite) {k : Nat} (h : k ≠ ucalKey w.kind w.index) : tget? (ucalStore u w) k = tget? u k := by
  unfold ucalStore
  split
  · exact tget?_tset_other _ _ _ _ h
  · exact tget?_terase_other _ _ _ h

/-- The state with the random source closed. -/
def randomClosed (s : State) : State := { s with trust := { s.trust with rngOk := false } }

end Sys2Proof.Machine

end

section

open Sys2Proof Sys2Proof.Machine

/-- Settles O50: each operation ends by its first failed check or with one draw and one arrival; a write of user calibration waits, is refused,
or is stored by the laws of the table. -/
theorem signetOperations : Obligations.SignetOperations := by
  unfold Obligations.SignetOperations
  intro s ho
  dsimp only
  refine ⟨fun r tag d hd => ?hash, fun r tag d hd => ⟨fun h => ?randomClosed, fun hr h => ?randomUnbound, fun c hr hc hsrc hlen => ?random⟩,
    fun r tag d hd => ⟨fun h => ?attestClosed, fun hr h => ?attestUnbound, fun hr hb h => ?unidentified, fun hr hb h1 h2 h3 => ?attest⟩,
    fun r tag d hd => ⟨fun h => ?verified, fun h => ?rejected⟩, fun h => ?alreadyClosed, fun h => ?closes,
    ⟨fun h => ?taken, fun hq hk hs hl => ?full, fun hq hk h => ?stores, fun hq hk => ?erases⟩, fun h => ?nothingWaits,
    fun w rest hq => ⟨fun h => ?refused, fun h => ?written⟩⟩
  case hash =>
    obtain ⟨hrun, -, -⟩ := startedOp_mem hd
    refine ho.completes_runOp (f := sigHashOp r) rfl hd ?_
    rw [sigHashOp_hashes]
    have hbut := sameBut_hashWritten d s
    have hmem : (opDone r d.tag 0 (leAt (hashDigest d s) 0 4) (leAt (hashDigest d s) 4 8) (hashWritten d s)).mem = (hashWritten d s).mem :=
      sameBut_opDone r d.tag 0 _ _ _ .mem (by simp)
    refine ⟨opDone_after hrun (hbut .rng (by simp)) 0 _ _, (hbut.mono (by simp)).then_opDone (by simp) _ _ _ _ _, fun h => ?_, fun h => ?_⟩
    · rw [hmem, hashWritten, h]
      rfl
    · have hwritten : (hashWritten d s).mem = memWrite s.mem (field d.paramA 8 24) (hashDigest d s) := by
        rw [hashWritten, if_pos h]
      rw [hmem, hwritten]
      refine ⟨rfl, fun a ha => memGet_memWrite_outside _ _ _ _ ?_⟩
      rwa [hashDigest, padTo_length]
  case randomClosed =>
    obtain ⟨hrun, -, -⟩ := startedOp_mem hd
    exact ho.completes_runOp (f := sigRandomOp r) rfl hd (sigRandomOp_closed h r d ▸ opDone_alone hrun 0x80 0 0)
  case randomUnbound =>
    obtain ⟨hrun, -, -⟩ := startedOp_mem hd
    have hitem : signetItem s (field d.paramA 16 13) d.length = false := by
      rw [← Bool.not_eq_true, signetItem_iff]
      rintro ⟨c, hc, hsrc, hlen⟩
      exact (h c hc).elim (fun hne => hne hsrc) (fun hne => hne hlen)
    exact ho.completes_runOp (f := sigRandomOp r) rfl hd (sigRandomOp_unbound hr hitem r ▸ opDone_alone hrun 0x81 0 0)
  case random =>
    obtain ⟨hrun, -, -⟩ := startedOp_mem hd
    refine ho.completes_runOp (f := sigRandomOp r) rfl hd ?_
    rw [sigRandomOp_draws hr (signetItem_iff.mpr ⟨c, hc, hsrc, hlen⟩) r]
    refine ⟨opDone_after hrun (drawn_arrive_rng _ _ _ s) 0 _ _, ?_, (sameBut_drawn_arrive _ _ _ s).then_opDone (by simp) _ _ _ _ _, ?_⟩
    · exact (sameBut_opDone r d.tag 0 _ _ _ .draws (by simp)).trans (drawn_arrive_draws _ _ _ s)
    · refine ⟨_, opDone_arrive_item hc r d.tag 0 _ _ _ _, rfl, rfl, ?_⟩
      rw [hlen]
      rfl
  case attestClosed =>
    obtain ⟨hrun, -, -⟩ := startedOp_mem hd
    exact ho.completes_runOp (f := sigAttestOp r) rfl hd (sigAttestOp_closed h r d ▸ opDone_alone hrun 0x80 0 0)
  case attestUnbound =>
    obtain ⟨hrun, -, -⟩ := startedOp_mem hd
    have hitem : signetItem s (field d.paramA 16 13) 3504 = false := by rwa [← Bool.not_eq_true, signetItem_iff]
    exact ho.completes_runOp (f := sigAttestOp r) rfl hd (sigAttestOp_unbound hr hitem r ▸ opDone_alone hrun 0x81 0 0)
  case unidentified =>
    obtain ⟨hrun, -, -⟩ := startedOp_mem hd
    exact ho.completes_runOp (f := sigAttestOp r) rfl hd
      (sigAttestOp_unidentified hr (signetItem_iff.mpr hb) (identitySeed_none_iff.mpr h) r ▸ opDone_alone hrun 0x83 0 0)
  case attest =>
    obtain ⟨hrun, -, -⟩ := startedOp_mem hd
    obtain ⟨c, hc, -, hlen⟩ := id hb
    obtain ⟨seed, hseed⟩ : ∃ seed, identitySeed s = some seed := by
      refine Option.ne_none_iff_exists'.mp fun hnone => ?_
      exact (identitySeed_none_iff.mp hnone).elim h1 (fun h => h.elim h2 h3)
    refine ho.completes_runOp (f := sigAttestOp r) rfl hd ?_
    rw [sigAttestOp_signs hr (signetItem_iff.mpr hb) hseed r]
    refine ⟨opDone_after hrun (drawn_arrive_rng _ _ _ s) 0 _ _, ?_, (sameBut_drawn_arrive _ _ _ s).then_opDone (by simp) _ _ _ _ _, ?_⟩
    · exact (sameBut_opDone r d.tag 0 _ _ _ .draws (by simp)).trans (drawn_arrive_draws _ _ _ s)
    · refine ⟨_, opDone_arrive_item hc r d.tag 0 _ _ _ _, rfl, ?_, ?_⟩
      · rw [hlen, padTo_length]
      · rw [hlen]
        exact attestation_nonce seed _ s
  case verified =>
    obtain ⟨hrun, -, -⟩ := startedOp_mem hd
    exact ho.completes_runOp (f := sigVerifyOp r) rfl hd (sigVerifyOp_accepts h r ▸ opDone_alone hrun 0 _ _)
  case rejected =>
    obtain ⟨hrun, -, -⟩ := startedOp_mem hd
    obtain ⟨htrust, hrep, hrng, hbut⟩ := rejectContainer_spec (verifyReason d s) s
    have hend := sameBut_opDone r d.tag 0x82 (verifyReason d s) 0 (rejectContainer (verifyReason d s) s)
    refine ho.completes_runOp (f := sigVerifyOp r) rfl hd ?_
    rw [sigVerifyOp_rejects h]
    exact ⟨opDone_after hrun hrng 0x82 _ 0, (hend .trust (by simp)).trans htrust,
      hrep.then_cls (congrArg (fun F : FaultRep => tgetD F.cls 0x4801 0) (hend .flt (by simp))),
      (hbut.mono fun _ => List.mem_cons_of_mem _).then_opDone (by simp) _ _ _ _ _⟩
  case alreadyClosed => exact ho.completes_unchanged rfl (onlyIf_false h)
  case closes =>
    refine ho.completes (f := fun s => onlyIf s.trust.rngOk (fun s => rep 0x4809 (randomClosed s)) s) rfl ?_
    rw [onlyIf_true h, rep_trust]
    exact ⟨rfl, rep_after (v := randomClosed s) (by decide) rfl, ((sameBut_trust s _).mono (by simp)).then_rep (by simp [reportParts]) _⟩
  case taken =>
    have hno : ∀ store, ucalCommand store s = ucalRefused s := fun store =>
      ucalCommand_refuses (h.imp_right (fun hk => .inl (fun hok => hk (ucalKeyOk_iff.mp hok))))
    exact ⟨ho.completes (f := ucalCommand true) rfl (hno true ▸ ucalRefused_spec s),
      ho.completes (f := ucalCommand false) rfl (hno false ▸ ucalRefused_spec s)⟩
  case full =>
    have hfits : ¬ ucalFits s (ucalKind s) (ucalIndex s) (ucalValue true s) = true := by
      rw [ucalFits_iff]
      rintro (hnone | hstored | hroom)
      · exact Option.some_ne_none _ hnone
      · exact hs hstored
      · exact Nat.not_lt.mpr hl hroom
    exact ho.completes (f := ucalCommand true) rfl (ucalCommand_refuses (.inr (.inr hfits)) ▸ ucalRefused_spec s)
  case stores =>
    refine ho.completes (f := ucalCommand true) rfl ?_
    rw [ucalCommand_waits hq (ucalKeyOk_iff.mpr hk) (ucalFits_iff.mpr (.inr h))]
    exact ⟨rfl, sameBut_trust s _⟩
  case erases =>
    refine ho.completes (f := ucalCommand false) rfl ?_
    rw [ucalCommand_waits hq (ucalKeyOk_iff.mpr hk) (ucalFits_iff.mpr (.inl rfl))]
    exact ⟨rfl, sameBut_trust s _⟩
  case nothingWaits => exact ho.completes_unchanged (f := ucalDone) rfl (ucalDone_idle h)
  case refused =>
    refine ho.completes (f := ucalDone) rfl ?_
    rw [ucalDone_refuses hq h]
    obtain ⟨htrust, hrep, hbut⟩ := ucalRefused_spec (ucalTaken rest s)
    exact ⟨htrust, hrep.of_flt rfl, ((sameBut_trust s _).mono (by simp)).trans hbut⟩
  case written =>
    refine ho.completes (f := ucalDone) rfl ?_
    rw [ucalDone_writes hq h, rep_trust]
    exact ⟨rfl, ucalStore_self _ w, fun k hk => ucalStore_other _ w hk, rep_after (v := ucalWritten w rest s) (by decide) rfl,
      ((sameBut_trust s _).mono (by simp)).then_rep (by simp [reportParts]) _⟩

end
